-- ==== Sys2Proof/Word.lean ====
section
/-! DEFINITION. The word types of the NV8128 and their plainest bit-field arithmetic (spec 00 R7, 15 R431). -/

namespace Sys2Proof

/-- A 32-bit register, context or packet word. -/
abbrev Word := BitVec 32
abbrev Byte := BitVec 8
/-- A channel number, CH0–CH7. -/
abbrev Chan := Fin 8
/-- A half-bridge number of a channel, HB0–HB9. -/
abbrev HbIx := Fin 10
/-- A modulator input of a channel, MD0–MD11. -/
abbrev MdIx := Fin 12
/-- A context, session, mailbox or lock number. -/
abbrev Ix16 := Fin 16
/-- A metering point: 0–7 the channels, 8 the PCC. -/
abbrev Point := Fin 9

/-- Bits `[hi:lo]` of a word, as a number. -/
def bits (w : Word) (hi lo : Nat) : Nat := (w.toNat >>> lo) % 2 ^ (hi + 1 - lo)

/-- The mask with ones in `[hi:lo]`. -/
def bitMask (hi lo : Nat) : Word := BitVec.ofNat 32 ((2 ^ (hi + 1 - lo) - 1) <<< lo)

/-- `w` with bits `[hi:lo]` replaced by the low bits of `v`. -/
def setBits (w : Word) (hi lo v : Nat) : Word :=
  (w &&& ~~~ (bitMask hi lo)) ||| (BitVec.ofNat 32 ((v % 2 ^ (hi + 1 - lo)) <<< lo))

/-- One bit of a word. -/
def bit (w : Word) (i : Nat) : Bool := w.toNat.testBit i

/-- A 32-bit word from a number. -/
def wd (n : Nat) : Word := BitVec.ofNat 32 n

/-- 0 or 1. -/
def b2n (b : Bool) : Nat := if b then 1 else 0

/-- A two's-complement reading of the low `k` bits of `n`. -/
def sext (k n : Nat) : Int :=
  let m := n % 2 ^ k
  if m < 2 ^ (k - 1) then (m : Int) else (m : Int) - 2 ^ k

/-- The low `k` bits of an integer in two's complement. -/
def twos (k : Nat) (i : Int) : Nat := (i % (2 ^ k : Int)).toNat

/-- Integer division rounded to nearest, a tie to the even neighbour (spec 00 R518). -/
def divRne (n d : Nat) : Nat :=
  let q := n / d
  let r := n % d
  if 2 * r < d then q else if 2 * r > d then q + 1 else q + q % 2

end Sys2Proof
end

