-- ==== Sys2Proof/Syntax.lean ====
section
/-! DEFINITION. The commands of the block: one constructor of `Instr` per row of spec/opcode_table.json, in the table's
order, with the operands that spec/ gives the row. Event rows carry what the world outside the digital state brings to
the instant (measured values, offsets within the tick); register-write rows carry the session and the value; opcode rows
carry the request packet (13 R375). -/

namespace Sys2Proof

/-- A host port: H0 SPI, H1 Ethernet, H2 Tugarlink ring. -/
inductive Port | h0 | h1 | h2
  deriving DecidableEq, Repr

/-- A request packet as a port delivers it (13 R373–R375): the peer identity of 14 R403, and the header's fields. The
opcode is the row's. LEN is the number of payload words. -/
structure Pkt where
  port : Port
  peer : Nat
  ses : Ix16
  tag : Fin 128
  flg : Fin 8
  seq : Word
  pay : List Word
  deriving DecidableEq, Repr

/-- A register write of a session (15 R516). -/
structure RegWr where
  ses : Ix16
  val : Word
  deriving DecidableEq, Repr

/-- A fast filter output that is new at a sample latch: channel, input and the normalised output as binary32 (02 R59). -/
structure FastOut where
  c : Chan
  m : MdIx
  x : Word
  deriving DecidableEq, Repr

/-- A context-store error met in the tick (03 R22). -/
structure EccErr where
  c : Chan
  k : Ix16
  w : BitVec 6
  uncorr : Bool
  deriving DecidableEq, Repr

/-- The metrology partial sums of a point for one tick (09 R274, stages 1 to 7), as the fine samples give them. -/
structure Partial where
  p : Point
  /-- Substituted samples took part (09 R275). -/
  marked : Bool
  /-- The positive-sequence voltage is below the tracking level (09 R276). -/
  lowV : Bool
  /-- Phases gated by the no-load test (09 R279). -/
  noload : BitVec 3
  /-- Total active, fundamental active and fundamental reactive energy with DIR at 0, and apparent energy, in 2 ^ -32 of an
  accumulator unit. -/
  e : Int
  e1 : Int
  q1 : Int
  s : Nat
  /-- Part of the total active energy that substituted samples contributed. -/
  mke : Int
  deriving DecidableEq, Repr

/-- Samples of the two windows of a single-shunt channel (06 R206, R207); none where the window was too narrow. -/
structure ShuntIn where
  c : Chan
  w1 : Option Word
  w2 : Option Word
  deriving DecidableEq, Repr

/-- How the hand-over of phase 5 reached the island (11 R325): its check word and its tick count. -/
inductive Handover | good | badCheck | badCount
  deriving DecidableEq, Repr

/-- What the safety island sees (11 R330–R337): pin levels, the conditions of the limited functions by slice, faulty inputs by
slice, and the value words by slice. -/
structure IslandIn where
  inA : Bool := true
  inB : Bool := true
  fbA : Bool := false
  fbB : Bool := false
  rst : Bool := false
  slc : BitVec 8 := 0
  sld : BitVec 8 := 0
  sls : BitVec 8 := 0
  sig : BitVec 8 := 0
  inFault : BitVec 8 := 0
  ipk : List Word := []
  p : List Word := []
  f : List Word := []
  deriving DecidableEq, Repr

/-- What the world brings to one tick: new filter outputs, context-store errors, self-test and cross-check results. -/
structure TickIn where
  fast : List FastOut
  pcc : List (Fin 8 × Word)
  /-- Window samples of single-shunt channels over the last complete carrier period (06 R207), as fast outputs of MD0. -/
  shunt : List ShuntIn
  ecc : List EccErr
  /-- The spare's self-test of this tick passed (01 R24). -/
  spareOk : Bool
  /-- Out-of-service engines that passed their test (12 R351), bit n for ENGn. -/
  outPass : BitVec 9
  parts : List Partial
  /-- Metrology accumulation did not finish (01 R32). -/
  metLate : Bool
  /-- Channels whose cross-check differs in this tick (11 R325), bit n for CHn. -/
  xchk : BitVec 8
  /-- PCC converters whose self-check fails, where one runs (02 R65). -/
  pccFail : BitVec 8
  hand : Handover
  isl : IslandIn
  deriving DecidableEq, Repr

/-- Where the group's shadow write stands against this reload (07 R229, R230): completed before it, inside the reload
clock, or still to come. -/
inductive ReloadWhen | after | inCycle | before
  deriving DecidableEq, Repr
/-- The rows of 08 R248. -/
inductive PgViol | t1 | t4 | t2Off | t3Off | t1t4 (later4 : Bool) | both
  deriving DecidableEq, Repr
/-- A completed analysis window (09 R281–R289): the conditions found in it and the values of the interval, as the fine
samples give them: the readout words of 0xA100 to 0xA17C, the harmonic words by signal, kind and word of HARM_DATA, and
the band words by signal and band. -/
structure WindowIn where
  /-- |V−| > |V+| with |V+| at least 0.10 × METER_VN, and the missing-neutral condition. -/
  seqErr : Bool
  neuMiss : Bool
  /-- A condition of 09 R287 occurred. -/
  flagged : Bool
  ro : List Word
  harm : List Word
  supra : List Word
  deriving DecidableEq, Repr
/-- A link whose loss of 1 s loses its sessions' port (14 R403). -/
inductive LostLink | h1 | tl2 | tl3
  deriving DecidableEq, Repr
/-- A link of the ring (14 R418). -/
inductive RingLink | tl2 | tl3e | tl3w
  deriving DecidableEq, Repr
/-- One PKT_WR transaction (14 R406). -/
structure SpiPkt where
  words : Nat
  frameOk : Bool
  opc : Byte
  p : Pkt
  deriving DecidableEq, Repr
/-- A PTP event message as the servo sees it (14 R412): offset in ns and whether the Sync was two-step, and the time it gives. -/
structure PtpMsg where
  sync : Bool
  ofs : Int
  twoStep : Bool
  timeNs : Nat
  deriving DecidableEq, Repr
/-- A frame on a ring input (14 R414). -/
structure RingFrame where
  link : Option RingLink
  dst : BitVec 6
  src : BitVec 6
  ttl : BitVec 6
  wrapped : Bool
  crcOk : Bool
  opc : Byte
  p : Pkt
  deriving DecidableEq, Repr
/-- What a keep-alive tick measures (16 R467). -/
structure KaIn where
  storeMv : Nat
  vkaMv : Nat
  tampHigh : Bool
  /-- Rectified peak on EH_PZ since the last tick in mV. -/
  peakMv : Nat
  deriving DecidableEq, Repr
/-- What WAKE finds (17 R484–R486): PLLs, straps, the signature checks of the image slots, self-test results and blocks
that do not read back. -/
structure WakeIn where
  lockA : Bool := true
  lockB : Bool := true
  refA : Bool := true
  refB : Bool := true
  lvdsA : Bool := false
  lvdsB : Bool := false
  /-- CFG_PROF[1:0] and ADDR[5:0] as latched (12 R371, 14 R419). -/
  prof : Fin 4 := 0
  addr : BitVec 6 := 0
  /-- The signatures of slot A and slot B verify (R489). -/
  sigA : Bool := true
  sigB : Bool := true
  /-- Engines that pass the test vectors, bit e for ENGe; channels whose context store is beyond repair. -/
  engines : BitVec 9 := 0x1FF
  ctxBad : BitVec 8 := 0
  sramBad : Bool := false
  /-- Comparator checks that fail, PCC loop-backs that fail, the survey reference or ground. -/
  comp : List (Chan × HbIx) := []
  pccBad : BitVec 8 := 0
  survBad : Bool := false
  islandOk : Bool := true
  /-- Energy-record slots and pointer blocks, and stores of the M-die, that fail their check. -/
  badSlots : List Nat := []
  badPtrA : Bool := false
  badPtrB : Bool := false
  cfgBad : Bool := false
  safeBad : Bool := false
  calBad : Bool := false
  /-- Duration of WAKE in µs. -/
  us : BitVec 24 := 0
  deriving DecidableEq, Repr



/-- The commands of the NV8128: the rows of spec/opcode_table.json. -/
inductive Instr
  -- rows with operands, in the table's order
  | tickBoundary (x : TickIn)  -- TICK_BOUNDARY
  | guardPoint (late : List (Chan × Ix16))  -- GUARD_POINT
  | frameBoundary (err : Option Int)  -- FRAME_BOUNDARY
  | syncInEdge (err : Int)  -- SYNC_IN_EDGE
  | sysTickWrite (w : RegWr)  -- SYS_TICK_WRITE
  | sysBurstWrite (w : RegWr)  -- SYS_BURST_WRITE
  | sysSyncWrite (w : RegWr)  -- SYS_SYNC_WRITE
  | lockstepMismatch (e : Fin 9) (k : Ix16)  -- LOCKSTEP_MISMATCH
  | ctxCfgWrite (c : Chan) (k : Ix16) (w : RegWr)  -- CTX_CFG_WRITE
  | engFreezeWrite (c : Chan) (w : RegWr)  -- ENG_FREEZE_WRITE
  | fltMclkWrite (c : Chan) (w : RegWr)  -- FLT_MCLK_WRITE
  | fltCfgWrite (c : Chan) (w : RegWr)  -- FLT_CFG_WRITE
  | inputStuck (c : Chan) (m : MdIx)  -- INPUT_STUCK
  | mclkLoss (c : Chan)  -- MCLK_LOSS
  | inputValidAgain (c : Chan) (m : MdIx)  -- INPUT_VALID_AGAIN
  | filterSettled (c : Chan) (m : MdIx)  -- FILTER_SETTLED
  | digitalLimitExcursion (c : Chan) (m : MdIx) (x : Word)  -- DIGITAL_LIMIT_EXCURSION
  | pccOverrange (k : Fin 8)  -- PCC_OVERRANGE
  | surveySourceEvent (inj : Bool)  -- SURVEY_SOURCE_EVENT
  | surveyTriggerInstant (inj : Bool)  -- SURVEY_TRIGGER_INSTANT
  | surveyConversionEnd (code : BitVec 20)  -- SURVEY_CONVERSION_END
  | swReg (ses : Ix16)  -- SW_REG
  | swInj (ses : Ix16)  -- SW_INJ
  | survCtrlEnWrite (w : RegWr)  -- SURV_CTRL_EN_WRITE
  | survBufRdWrite (w : RegWr)  -- SURV_BUF_RD_WRITE
  | roleSelWrite (c : Chan) (w : RegWr)  -- ROLE_SEL_WRITE
  | gridStart (c : Chan) (ses : Ix16)  -- GRID_START
  | gridStop (c : Chan) (ses : Ix16)  -- GRID_STOP
  | gridReconn (c : Chan) (ses : Ix16)  -- GRID_RECONN
  | gridSubWrite (c : Chan) (w : RegWr)  -- GRID_SUB_WRITE
  | gridFnomWrite (c : Chan) (w : RegWr)  -- GRID_FNOM_WRITE
  | prechargeComplete (c : Chan)  -- PRECHARGE_COMPLETE
  | pcTimeout (c : Chan)  -- PC_TIMEOUT
  | syncQualified (c : Chan)  -- SYNC_QUALIFIED
  | syncTimeout (c : Chan)  -- SYNC_TIMEOUT
  | syncImmediateRefusal (c : Chan)  -- SYNC_IMMEDIATE_REFUSAL
  | closureConfirmed (c : Chan)  -- CLOSURE_CONFIRMED
  | kmFail (c : Chan)  -- KM_FAIL
  | stopRampEnd (c : Chan)  -- STOP_RAMP_END
  | blackStart (c : Chan)  -- BLACK_START
  | blackStartActive (c : Chan)  -- BLACK_START_ACTIVE
  | pllOkChange (c : Chan) (ok : Bool)  -- PLL_OK_CHANGE
  | formClExit (c : Chan)  -- FORM_CL_EXIT
  | sysRideBankWrite (w : RegWr)  -- SYS_RIDE_BANK_WRITE
  | chopperOn (c : Chan) (off : Nat)  -- CHOPPER_ON
  | chopperOff (c : Chan) (off : Nat)  -- CHOPPER_OFF
  | recCfgRelease (ses : Ix16)  -- REC_CFG_RELEASE
  | recCfgEnWrite (w : RegWr)  -- REC_CFG_EN_WRITE
  | probeWindowEnd (vp : Word) (ip : Word)  -- PROBE_WINDOW_END
  | passiveDetectorFire (d : Fin 4)  -- PASSIVE_DETECTOR_FIRE
  | dcStart (c : Chan) (ses : Ix16)  -- DC_START
  | dcStop (c : Chan) (ses : Ix16)  -- DC_STOP
  | dcScan (c : Chan) (ses : Ix16)  -- DC_SCAN
  | dcCfgLegsWrite (c : Chan) (w : RegWr)  -- DC_CFG_LEGS_WRITE
  | dcPrechargeComplete (c : Chan)  -- DC_PRECHARGE_COMPLETE
  | dcPcTimeout (c : Chan)  -- DC_PC_TIMEOUT
  | dcQualified (c : Chan)  -- DC_QUALIFIED
  | dcSyncTimeout (c : Chan)  -- DC_SYNC_TIMEOUT
  | dcRatioRefusal (c : Chan)  -- DC_RATIO_REFUSAL
  | dcClosureConfirmed (c : Chan)  -- DC_CLOSURE_CONFIRMED
  | dcKmFail (c : Chan)  -- DC_KM_FAIL
  | dcStopRampEnd (c : Chan)  -- DC_STOP_RAMP_END
  | dcFull (c : Chan)  -- DC_FULL
  | dcEmpty (c : Chan)  -- DC_EMPTY
  | mpptPeriodEnd (c : Chan)  -- MPPT_PERIOD_END
  | scanDue (c : Chan)  -- SCAN_DUE
  | scanPointEnd (c : Chan)  -- SCAN_POINT_END
  | cotCrossing (c : Chan) (h : HbIx) (off : Nat) (mean : Word)  -- COT_CROSSING
  | vpTmaxClamp (c : Chan) (h : HbIx) (off : Nat) (mean : Word)  -- VP_TMAX_CLAMP
  | vpTminEnd (c : Chan) (h : HbIx) (off : Nat) (mean : Word)  -- VP_TMIN_END
  | machStart (c : Chan) (ses : Ix16)  -- MACH_START
  | machStop (c : Chan) (ses : Ix16)  -- MACH_STOP
  | machPrechargeComplete (c : Chan)  -- MACH_PRECHARGE_COMPLETE
  | machPositionSync (c : Chan)  -- MACH_POSITION_SYNC
  | machPositionTimeout (c : Chan)  -- MACH_POSITION_TIMEOUT
  | machAlignEnd (c : Chan)  -- MACH_ALIGN_END
  | machHandover (c : Chan)  -- MACH_HANDOVER
  | machHandoverTimeout (c : Chan)  -- MACH_HANDOVER_TIMEOUT
  | carrierPeriodStart (c : Chan) (h : HbIx) (off : Nat)  -- CARRIER_PERIOD_START
  | reload (c : Chan) (h : HbIx) (peak : Bool) (w : ReloadWhen)  -- RELOAD
  | pulseEdge (c : Chan) (h : HbIx) (rise : Bool) (off : Nat)  -- PULSE_EDGE
  | deadTimeEnd (c : Chan) (h : HbIx) (off : Nat)  -- DEAD_TIME_END
  | delayLineCalibration (c : Chan) (taps : Option (Fin 128))  -- DELAY_LINE_CALIBRATION
  | pwmShhiWrite (c : Chan) (h : HbIx) (w : RegWr)  -- PWM_SHHI_WRITE
  | pwmCarWrite (c : Chan) (w : RegWr)  -- PWM_CAR_WRITE
  | pwmForceWrite (c : Chan) (w : RegWr)  -- PWM_FORCE_WRITE
  | linkCheckFault (c : Chan) (h : HbIx)  -- LINK_CHECK_FAULT
  | linkFaultEnd (c : Chan) (h : HbIx)  -- LINK_FAULT_END
  | linkTrip (c : Chan) (h : HbIx) (off : Nat)  -- LINK_TRIP
  | shootThroughBlock (c : Chan) (h : HbIx)  -- SHOOT_THROUGH_BLOCK
  | phaseGroupInterlock (c : Chan) (g : Fin 3) (v : PgViol)  -- PHASE_GROUP_INTERLOCK
  | l2Crossing (c : Chan) (h : HbIx) (off : Nat)  -- L2_CROSSING
  | l1Crossing (c : Chan) (h : HbIx) (off : Nat)  -- L1_CROSSING
  | l1BlankingEnd (c : Chan) (h : HbIx) (off : Nat)  -- L1_BLANKING_END
  | offDriveEnd (c : Chan)  -- OFF_DRIVE_END
  | swTrip (c : Chan) (ses : Ix16)  -- SW_TRIP
  | chnEnaFall (c : Chan) (off : Nat)  -- CHN_ENA_FALL
  | enableRisingEdge (c : Chan) (off : Nat)  -- ENABLE_RISING_EDGE
  | gdiSwEnWrite (c : Chan) (w : RegWr)  -- GDI_SW_EN_WRITE
  | comparatorSelfCheck (c : Chan) (h : HbIx)  -- COMPARATOR_SELF_CHECK
  | selfCheckEnd (c : Chan) (h : HbIx) (pass : Bool)  -- SELF_CHECK_END
  | meterCfgWrite (p : Point) (w : RegWr)  -- METER_CFG_WRITE
  | calWrite (p : Point) (off : Fin 128) (w : RegWr)  -- CAL_WRITE
  | calSave (p : Point) (ses : Ix16)  -- CAL_SAVE
  | calSaveDone (ok : Bool)  -- CAL_SAVE_DONE
  | harmonicWindowEnd (p : Point) (x : WindowIn)  -- HARMONIC_WINDOW_END
  | tenMinBoundary (xs : List (Point × WindowIn))  -- TEN_MIN_BOUNDARY
  | freq10sEnd (p : Point) (f : Word)  -- FREQ10S_END
  | epulCfgWrite (j : Fin 4) (k : Bool) (w : RegWr)  -- EPUL_CFG_WRITE
  | pulseEmission (j : Fin 4)  -- PULSE_EMISSION
  | pulseEnd (j : Fin 4)  -- PULSE_END
  | recordWriteComplete (ok : Bool)  -- RECORD_WRITE_COMPLETE
  | safeInDemand (b : Bool)  -- SAFE_IN_DEMAND
  | slcViolation (c : Chan)  -- SLC_VIOLATION
  | sldViolation (c : Chan)  -- SLD_VIOLATION
  | slsViolation (c : Chan)  -- SLS_VIOLATION
  | slsSigFault (c : Chan)  -- SLS_SIG_FAULT
  | islandInputStuck (c : Chan) (m : MdIx)  -- ISLAND_INPUT_STUCK
  | islandMclkFault (c : Chan)  -- ISLAND_MCLK_FAULT
  | fbFault (b : Bool)  -- FB_FAULT
  | offPulseTest (b : Bool)  -- OFF_PULSE_TEST
  | offPulseRestore (b : Bool) (ok : Bool)  -- OFF_PULSE_RESTORE
  | safeRstFallingEdge (us : Nat) (x : IslandIn)  -- SAFE_RST_FALLING_EDGE
  | resetFeedbackCheck (fbA : Bool) (fbB : Bool)  -- RESET_FEEDBACK_CHECK
  | safeCtrlSgiReq (w : RegWr)  -- SAFE_CTRL_SGI_REQ
  | safeCommitDone (ok : Bool)  -- SAFE_COMMIT_DONE
  | temperatureRead (t : List Int) (v : List Word)  -- TEMPERATURE_READ
  | sensorExclusion (i : Ix16)  -- SENSOR_EXCLUSION
  | sensorReadmission (i : Ix16)  -- SENSOR_READMISSION
  | ageingMeasurement (ro : List Int) (days : BitVec 16)  -- AGEING_MEASUREMENT
  | sessionTimeout (i : Ix16)  -- SESSION_TIMEOUT
  | portLost (l : LostLink)  -- PORT_LOST
  | nop (p : Pkt)  -- NOP
  | openSes (p : Pkt)  -- OPEN
  | close (p : Pkt)  -- CLOSE
  | audit (p : Pkt)  -- AUDIT
  | abortTag (p : Pkt)  -- ABORT
  | sessions (p : Pkt)  -- SESSIONS
  | status (p : Pkt)  -- STATUS
  | modeSet (p : Pkt)  -- MODE_SET
  | claim (p : Pkt)  -- CLAIM
  | release (p : Pkt)  -- RELEASE
  | roleSet (p : Pkt)  -- ROLE_SET
  | startCh (p : Pkt)  -- START
  | stopCh (p : Pkt)  -- STOP
  | submode (p : Pkt)  -- SUBMODE
  | setpoint (p : Pkt)  -- SETPOINT
  | setpointSet (p : Pkt)  -- SETPOINT_SET
  | ctxRead (p : Pkt)  -- CTX_READ
  | ctxWrite (p : Pkt)  -- CTX_WRITE
  | ctxWriteList (p : Pkt)  -- CTX_WRITE_LIST
  | freeze (p : Pkt)  -- FREEZE
  | shadowSet (p : Pkt)  -- SHADOW_SET
  | forceOff (p : Pkt)  -- FORCE_OFF
  | tripRead (p : Pkt)  -- TRIP_READ
  | tripClear (p : Pkt)  -- TRIP_CLEAR
  | accRead (p : Pkt)  -- ACC_READ
  | windowRead (p : Pkt)  -- WINDOW_READ
  | recordRead (p : Pkt)  -- RECORD_READ
  | snapList (p : Pkt)  -- SNAP_LIST
  | attestRead (p : Pkt)  -- ATTEST_READ
  | regRead (p : Pkt)  -- REG_READ
  | regWrite (p : Pkt)  -- REG_WRITE
  | regWriteList (p : Pkt)  -- REG_WRITE_LIST
  | regRmw (p : Pkt)  -- REG_RMW
  | safeUnlock (p : Pkt)  -- SAFE_UNLOCK
  | safeLock (p : Pkt)  -- SAFE_LOCK
  | safeStage (p : Pkt)  -- SAFE_STAGE
  | safeCommit (p : Pkt)  -- SAFE_COMMIT
  | safeSetPw (p : Pkt)  -- SAFE_SET_PW
  | safeLogRead (p : Pkt)  -- SAFE_LOG_READ
  | sgiReq (p : Pkt)  -- SGI_REQ
  | logRead (p : Pkt)  -- LOG_READ
  | counters (p : Pkt)  -- COUNTERS
  | healthGet (p : Pkt)  -- HEALTH_GET
  | imgBegin (p : Pkt)  -- IMG_BEGIN
  | imgData (p : Pkt)  -- IMG_DATA
  | imgVerify (p : Pkt)  -- IMG_VERIFY
  | imgVerifyDone (ok : Bool)  -- IMG_VERIFY_DONE
  | imgActivate (p : Pkt)  -- IMG_ACTIVATE
  | attest (p : Pkt)  -- ATTEST
  | ringStatus (p : Pkt)  -- RING_STATUS
  | enumerate (p : Pkt)  -- ENUMERATE
  | addrSet (p : Pkt)  -- ADDR_SET
  | streamOpen (p : Pkt)  -- STREAM_OPEN
  | streamClose (p : Pkt)  -- STREAM_CLOSE
  | streamAck (p : Pkt)  -- STREAM_ACK
  | streamData (i : Fin 32)  -- STREAM_DATA
  | announceReceived (addr : BitVec 6)  -- ANNOUNCE_RECEIVED
  | pktWr (x : SpiPkt)  -- PKT_WR
  | pktRd (whole : Bool)  -- PKT_RD
  | regRd (addr : Word) (n : BitVec 8)  -- REG_RD
  | regWr (addr : Word) (ws : List Word)  -- REG_WR
  | autoNegotiationComplete (fullDuplex : Bool)  -- AUTO_NEGOTIATION_COMPLETE
  | arpNeighbourRequest (v6 : Bool) (ours : Bool)  -- ARP_NEIGHBOUR_REQUEST
  | icmpEchoRequest (v6 : Bool) (ours : Bool)  -- ICMP_ECHO_REQUEST
  | ptpEventMessage (x : PtpMsg)  -- PTP_EVENT_MESSAGE
  | ringFrameArrival (x : RingFrame)  -- RING_FRAME_ARRIVAL
  | ringLinkUp (l : RingLink)  -- RING_LINK_UP
  | ringLinkDown (l : RingLink)  -- RING_LINK_DOWN
  | ringUnwrap (l : RingLink)  -- RING_UNWRAP
  | hostMbdWrite (m : Ix16) (w : RegWr)  -- HOST_MBD_WRITE
  | hostMbsRead (m : Ix16) (ses : Ix16)  -- HOST_MBS_READ
  | mailboxTimeout (m : Ix16)  -- MAILBOX_TIMEOUT
  | hostMblockRead (k : Ix16) (ses : Ix16)  -- HOST_MBLOCK_READ
  | hostMblockWrite (k : Ix16) (w : RegWr)  -- HOST_MBLOCK_WRITE
  | sequenceClearWrite (addr : Word) (w : RegWr)  -- SEQUENCE_CLEAR_WRITE
  | registerWrite (addr : Word) (w : RegWr)  -- REGISTER_WRITE
  | referenceLoss (b : Bool)  -- REFERENCE_LOSS
  | lossOfLock (b : Bool)  -- LOSS_OF_LOCK
  | pllRelock (b : Bool)  -- PLL_RELOCK
  | clkCfgSwitch (ses : Ix16)  -- CLK_CFG_SWITCH
  | divCommit (ses : Ix16)  -- DIV_COMMIT
  | commitRelockTimeout (b : Bool)  -- COMMIT_RELOCK_TIMEOUT
  | doubleFaultRecovery (b : Bool)  -- DOUBLE_FAULT_RECOVERY
  | pllLockTimeout (b : Bool)  -- PLL_LOCK_TIMEOUT
  | pllRetry (x : WakeIn)  -- PLL_RETRY
  | resetRelease (x : WakeIn)  -- RESET_RELEASE
  | railWarning (r : Fin 6)  -- RAIL_WARNING
  | railOverVoltage (r : Fin 6)  -- RAIL_OVER_VOLTAGE
  | keepAliveTick (x : KaIn)  -- KEEP_ALIVE_TICK
  | shockTrip (mv : Nat)  -- SHOCK_TRIP
  | kaRtcHiWrite (w : RegWr)  -- KA_RTC_HI_WRITE
  | kaCfgWrite (w : RegWr)  -- KA_CFG_WRITE
  | sysCfgSave (ses : Ix16)  -- SYS_CFG_SAVE
  | cfgSaveDone (ok : Bool)  -- CFG_SAVE_DONE
  | badOpcodePacket (p : Pkt) (opc : Byte) (frameOk : Bool)  -- BAD_OPCODE_PACKET
  | comparatorOutputFall (c : Chan) (h : HbIx) (l2 : Bool) (off : Nat)  -- COMPARATOR_OUTPUT_FALL
  | limitExcursionEnd (c : Chan) (m : MdIx)  -- LIMIT_EXCURSION_END
  | pccOverrangeEnd (k : Fin 8)  -- PCC_OVERRANGE_END
  | pllCommitRelock (b : Bool)  -- PLL_COMMIT_RELOCK
  -- rows without operands, in the table's order
  | metrologyEngineFault  -- METROLOGY_ENGINE_FAULT
  | tickTableRebuild  -- TICK_TABLE_REBUILD
  | burstBudgetBinRoll  -- BURST_BUDGET_BIN_ROLL
  | syncHoldover  -- SYNC_HOLDOVER
  | survDataRead  -- SURV_DATA_READ
  | rideDetectorArm  -- RIDE_DETECTOR_ARM
  | rideEntry  -- RIDE_ENTRY
  | rideExit  -- RIDE_EXIT
  | protectiveTrip  -- PROTECTIVE_TRIP
  | gridprotRelease  -- GRIDPROT_RELEASE
  | candidateExpiry  -- CANDIDATE_EXPIRY
  | islandedClear  -- ISLANDED_CLEAR
  | periodicCommit  -- PERIODIC_COMMIT
  | writeThroughCommit  -- WRITE_THROUGH_COMMIT
  | pointerFlipComplete  -- POINTER_FLIP_COMPLETE
  | tailCommit  -- TAIL_COMMIT
  | powerFailResume  -- POWER_FAIL_RESUME
  | attestedReadoutSigned  -- ATTESTED_READOUT_SIGNED
  | safeInDiscrepancy  -- SAFE_IN_DISCREPANCY
  | discRelease  -- DISC_RELEASE
  | crossCheckMissed  -- CROSS_CHECK_MISSED
  | oscFault  -- OSC_FAULT
  | safeRstStuck  -- SAFE_RST_STUCK
  | safeUnlockExpiry  -- SAFE_UNLOCK_EXPIRY
  | unlockBlockEnd  -- UNLOCK_BLOCK_END
  | logRecordWrite  -- LOG_RECORD_WRITE
  | mgsWatchdogRestart  -- MGS_WATCHDOG_RESTART
  | poolAuditCheck  -- POOL_AUDIT_CHECK
  | attestSigned  -- ATTEST_SIGNED
  | announce  -- ANNOUNCE
  | stat  -- STAT
  | regFetch  -- REG_FETCH
  | spiInvalidCommand  -- SPI_INVALID_COMMAND
  | fragmentReassemblyTimeout  -- FRAGMENT_REASSEMBLY_TIMEOUT
  | ptpLockLoss  -- PTP_LOCK_LOSS
  | ptpLockRegain  -- PTP_LOCK_REGAIN
  | tl1BurstTransmit  -- TL1_BURST_TRANSMIT
  | engineClockAbsent  -- ENGINE_CLOCK_ABSENT
  | railBelowReset  -- RAIL_BELOW_RESET
  | pwrfailAssert  -- PWRFAIL_ASSERT
  | domainStart  -- DOMAIN_START
  | domainReset  -- DOMAIN_RESET
  | rtcPtpSet  -- RTC_PTP_SET
  | trialWatchdog  -- TRIAL_WATCHDOG
  | h1LinkLoss  -- H1_LINK_LOSS
  | mgsRestartComplete  -- MGS_RESTART_COMPLETE
  | syncOutPulseEnd  -- SYNC_OUT_PULSE_END
  deriving DecidableEq, Repr

end Sys2Proof
end

