-- ==== Sys2Proof/WellFormed.lean ====
section
/-! DEFINITION. Well-formed commands: operands that the world outside can bring. A meaning does not ask for it; the step
acts on ill-formed terms too. -/

namespace Sys2Proof

/-- LEN has ten bits (13 R374). -/
def Pkt.wf (p : Pkt) : Bool := decide (p.pay.length ≤ 1023)

/-- A PKT_WR transaction carries the two header words, the payload and the trailer (14 R406). -/
def SpiPkt.wf (x : SpiPkt) : Bool := x.p.wf && x.words == x.p.pay.length + 3

def RingFrame.wf (x : RingFrame) : Bool := x.p.wf

/-- 32 readout words, the harmonic words and the band words (09 R296). -/
def WindowIn.wf (x : WindowIn) : Bool := decide (x.ro.length ≤ 32) && decide (x.harm.length ≤ 6 * 3 * 229) && decide (x.supra.length ≤ 6 * 74)

/-- Every half-bridge, input or point at most once. -/
def TickIn.wf (x : TickIn) : Bool :=
  decide ((x.fast.map fun f => (f.c, f.m)).Nodup) && decide ((x.pcc.map Prod.fst).Nodup) &&
    decide ((x.shunt.map ShuntIn.c).Nodup) && decide ((x.parts.map Partial.p).Nodup)

/-- The operands of a command are ones that can occur. -/
def Instr.wf : Instr → Bool
  | .tickBoundary x => x.wf
  | .guardPoint late => decide ((late.map Prod.fst).Nodup)
  | .harmonicWindowEnd _ x => x.wf
  | .tenMinBoundary xs => (xs.all fun x => x.2.wf) && decide ((xs.map Prod.fst).Nodup)
  | .temperatureRead t v => t.length == 16 && v.length == 7
  | .ageingMeasurement ro _ => ro.length == 24
  | .pktWr x => x.wf
  | .regWr _ ws => decide (1 ≤ ws.length) && decide (ws.length ≤ 255)
  | .ringFrameArrival x => x.wf
  | .badOpcodePacket p _ _ => p.wf
  | .nop p | .openSes p | .close p | .audit p | .abortTag p | .sessions p | .status p | .modeSet p | .claim p | .release p
  | .roleSet p | .startCh p | .stopCh p | .submode p | .setpoint p | .setpointSet p | .ctxRead p | .ctxWrite p
  | .ctxWriteList p | .freeze p | .shadowSet p | .forceOff p | .tripRead p | .tripClear p | .accRead p | .windowRead p
  | .recordRead p | .snapList p | .attestRead p | .regRead p | .regWrite p | .regWriteList p | .regRmw p | .safeUnlock p
  | .safeLock p | .safeStage p | .safeCommit p | .safeSetPw p | .safeLogRead p | .sgiReq p | .logRead p | .counters p
  | .healthGet p | .imgBegin p | .imgData p | .imgVerify p | .imgActivate p | .attest p | .ringStatus p | .enumerate p
  | .addrSet p | .streamOpen p | .streamClose p | .streamAck p => p.wf
  | _ => true

end Sys2Proof
end

