-- ==== Sys2Proof/Decode.lean ====
section
/-! DEFINITION. The table's words. spec/opcode_table.json gives no row any bits (log entry 2): no word spells a command. -/

namespace Sys2Proof

/-- The command that a word of the table's bits spells: none, for every row is without bits. -/
def decodeTableWord (_nbits _w : Nat) : Option Instr := none

end Sys2Proof
end

