-- ==== Sys2Proof/Crypto.lean ====
section
/-! DEFINITION. The two check functions the manual names by standard: CRC-32C (00 R11, 13 R373) and SHA3-512 (10 R308), over
lists of bytes. PRESUMED: their definitions are those of the standards, which the manual does not repeat (log entry 12). -/

namespace Sys2Proof.Crypto

/-! ### CRC-32C: reflected polynomial 0x1EDC6F41, initial value and final inversion all ones -/

def crcBit (c : Word) : Word := if c.getLsbD 0 then (c >>> 1) ^^^ 0x82F63B78#32 else c >>> 1
def crcByte (c : Word) (b : Byte) : Word :=
  (List.range 8).foldl (fun c _ => crcBit c) (c ^^^ b.zeroExtend 32)
def crc32c (l : List Byte) : Word := ~~~ (l.foldl crcByte 0xFFFFFFFF#32)

/-! ### Keccak-f[1600] and SHA3-512 -/

abbrev Lane := BitVec 64

def roundConsts : List Lane :=
  [0x1, 0x8082, 0x800000000000808A, 0x8000000080008000, 0x808B, 0x80000001, 0x8000000080008081, 0x8000000000008009,
   0x8A, 0x88, 0x80008009, 0x8000000A, 0x8000808B, 0x800000000000008B, 0x8000000000008089, 0x8000000000008003,
   0x8000000000008002, 0x8000000000000080, 0x800A, 0x800000008000000A, 0x8000000080008081, 0x8000000000008080, 0x80000001,
   0x8000000080008008]

/-- Rotation of lane x + 5y. -/
def rotations : List Nat :=
  [0, 1, 62, 28, 27, 36, 44, 6, 55, 20, 3, 10, 43, 25, 39, 41, 45, 15, 21, 8, 18, 2, 61, 56, 14]

def lane (a : List Lane) (i : Nat) : Lane := a[i]?.getD 0

def keccakRound (a : List Lane) (rc : Lane) : List Lane :=
  let c := (List.range 5).map fun x => lane a x ^^^ lane a (x + 5) ^^^ lane a (x + 10) ^^^ lane a (x + 15) ^^^ lane a (x + 20)
  let d := (List.range 5).map fun x => lane c ((x + 4) % 5) ^^^ (lane c ((x + 1) % 5)).rotateLeft 1
  let t := (List.range 25).map fun i => lane a i ^^^ lane d (i % 5)
  -- ρ and π: lane (x, y) of the result comes from lane (x + 3y, x)
  let b := (List.range 25).map fun i =>
    let x := i % 5
    let y := i / 5
    let j := (x + 3 * y) % 5 + 5 * x
    (lane t j).rotateLeft ((rotations[j]?).getD 0)
  (List.range 25).map fun i =>
    let y := 5 * (i / 5)
    let v := lane b i ^^^ (~~~ lane b (y + (i + 1) % 5) &&& lane b (y + (i + 2) % 5))
    if i = 0 then v ^^^ rc else v

def keccakF (a : List Lane) : List Lane := roundConsts.foldl keccakRound a

def laneOf (l : List Byte) : Lane :=
  BitVec.ofNat 64 (l.foldr (fun b n => b.toNat + 256 * n) 0)
def laneBytes (v : Lane) : List Byte := (List.range 8).map fun i => (v >>> (8 * i)).truncate 8

/-- The rate of SHA3-512 is 72 bytes: nine lanes. -/
def absorb (a : List Lane) (blk : List Byte) : List Lane :=
  keccakF (a.mapIdx fun i v => if i < 9 then v ^^^ laneOf ((blk.drop (8 * i)).take 8) else v)

/-- Padding 01 | 1 0* 1 to whole blocks. -/
def pad (l : List Byte) : List Byte :=
  let n := 72 - l.length % 72
  if n = 1 then l ++ [0x86#8] else l ++ [0x06#8] ++ List.replicate (n - 2) 0#8 ++ [0x80#8]

def blocks : Nat → List Byte → List (List Byte)
  | 0, _ => []
  | n + 1, l => l.take 72 :: blocks n (l.drop 72)

/-- SHA3-512: 64 bytes. -/
def sha3_512 (l : List Byte) : List Byte :=
  let p := pad l
  let a := (blocks (p.length / 72) p).foldl absorb (List.replicate 25 0)
  (a.take 8).flatMap laneBytes

end Sys2Proof.Crypto
end

