-- ==== Sys2Proof/Config.lean ====
section
/-! DEFINITION. What the manual leaves to the part: free values and functions of the implementation, all without a body,
so that no proof can rest on a value of one. -/

namespace Sys2Proof.Config

/-- A free value for each number of values taken before. -/
opaque freeValue : Nat → Nat
/-- Quotient of two finite non-zero binary32 numbers as the device forms reciprocals (03 R83, 04 R116). -/
opaque div32 : Word → Word → Word
/-- Square root by iterative refinement (06 R200). -/
opaque sqrt32 : Word → Word
/-- Sine and cosine from the table, within 2 ^ -22 (03 R83). -/
opaque sin32 : Word → Word
opaque cos32 : Word → Word
opaque atan2_32 : Word → Word → Word
/-- Severity of an event source (12 R366): no table is given. -/
opaque severity : Nat → BitVec 2
/-- The fixed device reserve has room for a NOTIFY, by packets queued (13 R399). -/
opaque notifyRoom : Nat → Bool
/-- A first-order filter of time constant `tf`, one step of `ts`: old state, input (03 R90 DROOP). -/
opaque lag : (tf ts st x : Word) → Word
/-- LEADLAG by the trapezoidal rule (03 R90): K, T1, T2, Ts, state, input give output and state. -/
opaque leadLag : (k t1 t2 ts st x : Word) → Word × Word
/-- One resonator of PR, trapezoidal with pre-warping (03 R90): KR, PHI, hω, Ts, e and two states give output and states. -/
opaque resonator : (kr phi w ts e s1 s2 : Word) → Word × Word × Word
/-- Generalised integrators and sequence separation of SOGI_PLL (03 R90): gain, ω, Ts, the inputs and the filter states
give the phase error v_q, the outputs Y2–Y4 and the new filter states. -/
opaque sogi : (tri : Bool) → (k w ts : Word) → (ins st : List Word) → Word × List Word × List Word
/-- Frame separation of SRF_PLL (03 R90): TDEC, Ts, θ, the abc inputs and the filter states give Vd+, Vq+, Vd−, Vq− and the
new filter states. -/
opaque srf : (tdec ts th : Word) → (ins st : List Word) → List Word × List Word
/-- The PCC monitor (05 R142, R143): its state and inputs give Va, Vb, Vc, |V+|, |V−|, f, ROCOF, arg V−, then its new state. `win`: the ROCOF window in periods. -/
opaque pccMonitor : (fnom60 : Bool) → (win : Nat) → (ts : Word) → (ins st : List Word) → List Word
/-- The orientation of the neutral-point offset by the phase currents (04 R128): true adds, false subtracts. -/
opaque npSign : (v i : List Word) → Bool
/-- The tracking loop of the sine–cosine sensor (06 R203): sine, cosine, θ, ω, Ts give θ and ω. -/
opaque posTrack : (s c th w ts : Word) → Word × Word
/-- The sensorless observer MOBS (06 R199): inputs and states give θ̂, ω̂, innovation and states. -/
opaque mobs : (ins st : List Word) → Word × Word × Word × List Word

/-- The servo of the probe amplitude, time constant 0.2 s (05 R166): amplitude, measured probe current, target. -/
opaque probeServo : Word → Word → Word → Word

/-- Shortest execution of a context slot in 10 ns (01 R28): part of the firmware image. Law, and role with context for a role block. -/
opaque bestSlot : (law block : Nat) → Nat

/-- Aggregation of harmonic phase angles (09 R285): intervals so far, running value, new value. -/
opaque angleAgg : Nat → Word → Word → Word

/-- Byte `i` of an ML-DSA-87 signature of a message under the identity key (10 R319, 17 R497): hedged signing gives another
one each time, so a count of free values is its first argument. -/
opaque sign : Nat → List Byte → Nat → Byte
/-- Byte `i` of the identity public key (17 R496). -/
opaque idPub : Nat → Byte
/-- Digests of the stored calibration data and of the configuration store (17 R497): the layout of the two stores is not given. -/
opaque calDigest : List (Nat × Word) → Nat → Byte
opaque cfgDigest : List (Nat × Word) → Nat → Byte

end Sys2Proof.Config
end

