-- ==== Sys2Proof/Machine/Float.lean ====
section
/-! DEFINITION. IEEE 754 binary32 on bit patterns as the control engines compute it (spec 03 R83): round to nearest
even, subnormal operands and results taken as zero of their sign. NaN is the quiet pattern 0x7FC00000. -/

namespace Sys2Proof.Machine

/-- binary32 bit pattern. -/
abbrev F32 := Word

def fNaN : F32 := 0x7FC00000#32
def fZero : F32 := 0#32
def fOne : F32 := 0x3F800000#32
def fHalf : F32 := 0x3F000000#32
def fTwo : F32 := 0x40000000#32
def fPi : F32 := 0x40490FDB#32

def fExp (x : F32) : Nat := bits x 30 23
def fMan (x : F32) : Nat := bits x 22 0
def fNeg? (x : F32) : Bool := bit x 31
/-- An infinity or a NaN (R84, R515). -/
def fBad (x : F32) : Bool := fExp x == 255
def fIsNaN (x : F32) : Bool := fExp x == 255 && fMan x != 0
/-- The magnitude of a finite value is `fSig x * 2 ^ (fExp x - 150)`; a subnormal counts as 0 (R83). -/
def fSig (x : F32) : Nat := if fExp x == 0 then 0 else 2 ^ 23 + fMan x

def fSigned (neg : Bool) (n : Nat) : F32 := wd ((if neg then 2 ^ 31 else 0) + n)

/-- The binary32 nearest to `±n · 2 ^ e`, ties to even, flushed to zero below the normal range (R83). -/
def fRound (neg : Bool) (n : Nat) (e : Int) : F32 :=
  if n = 0 then fSigned neg 0 else
  let len := Nat.log2 n
  let m := if len ≤ 23 then n <<< (23 - len) else divRne n (2 ^ (len - 23))
  let (m, ex) := if m = 2 ^ 24 then (2 ^ 23, (len : Int) + e + 1) else (m, (len : Int) + e)
  if ex < -126 then fSigned neg 0
  else if ex > 127 then fSigned neg (255 <<< 23)
  else fSigned neg (((ex + 127).toNat <<< 23) + (m - 2 ^ 23))

/-- The signed integer whose product with `2 ^ (-149)`… scale `e` is the value: `(s, e)` with value `s · 2 ^ e`. -/
def fParts (x : F32) : Int × Int :=
  ((if fNeg? x then -(fSig x : Int) else (fSig x : Int)), (fExp x : Int) - 150)

def fOfScaled (i : Int) (e : Int) : F32 := fRound (i < 0) i.natAbs e

/-- The binary32 nearest to an integer. -/
def fOfInt (i : Int) : F32 := fOfScaled i 0
def fOfNat (n : Nat) : F32 := fOfInt n

def fNegate (x : F32) : F32 := x ^^^ 0x80000000#32
def fAbs (x : F32) : F32 := x &&& 0x7FFFFFFF#32

def fAdd (x y : F32) : F32 :=
  if fIsNaN x || fIsNaN y then fNaN
  else if fBad x then (if fBad y && fNeg? x != fNeg? y then fNaN else x)
  else if fBad y then y
  else
    let (a, ea) := fParts x
    let (b, eb) := fParts y
    if a = 0 ∧ b = 0 then fSigned (fNeg? x && fNeg? y) 0 else
    let e := min ea eb
    fOfScaled (a * 2 ^ (ea - e).toNat + b * 2 ^ (eb - e).toNat) e

def fSub (x y : F32) : F32 := fAdd x (fNegate y)

def fMul (x y : F32) : F32 :=
  let neg := fNeg? x != fNeg? y
  if fIsNaN x || fIsNaN y then fNaN
  else if fBad x || fBad y then
    (if (fBad x && fSig y = 0 && !fBad y) || (fBad y && fSig x = 0 && !fBad x) then fNaN else fSigned neg (255 <<< 23))
  else fRound neg (fSig x * fSig y) ((fExp x : Int) + (fExp y : Int) - 300)

/-- Division: the correctly rounded quotient of spec 03 R83 is not stated to the bit, so a finite non-zero divisor
gives Config's quotient (free within R83); a zero divisor gives infinity, or NaN for 0 / 0 (IEEE 754). -/
def fDiv (x y : F32) : F32 :=
  let neg := fNeg? x != fNeg? y
  if fIsNaN x || fIsNaN y then fNaN
  else if fBad x then (if fBad y then fNaN else fSigned neg (255 <<< 23))
  else if fBad y then fSigned neg 0
  else if fSig y = 0 then (if fSig x = 0 then fNaN else fSigned neg (255 <<< 23))
  else if fSig x = 0 then fSigned neg 0
  else Config.div32 x y

/-- Square root; of a negative number NaN. -/
def fSqrt (x : F32) : F32 :=
  if fIsNaN x then fNaN
  else if fSig x = 0 && !fBad x then fSigned (fNeg? x) 0
  else if fNeg? x then fNaN
  else if fBad x then x
  else Config.sqrt32 x

/-- Order of two values; false when either is a NaN. -/
def fLt (x y : F32) : Bool :=
  if fIsNaN x || fIsNaN y then false
  else
    let v (z : F32) : Int := if fExp z == 0 then 0 else if fNeg? z then -((z.toNat % 2 ^ 31 : Nat) : Int) else (z.toNat : Int)
    v x < v y
def fLe (x y : F32) : Bool :=
  if fIsNaN x || fIsNaN y then false else !fLt y x
def fEq (x y : F32) : Bool := fLe x y && fLe y x
def fMin (x y : F32) : F32 := if fLt y x then y else x
def fMax (x y : F32) : F32 := if fLt x y then y else x
/-- `x` limited to `[lo, hi]`. -/
def fClamp (lo hi x : F32) : F32 := fMin hi (fMax lo x)

/-- The integer nearest to `x · 2 ^ k`, ties to even (R518); 0 for a NaN or an infinity. -/
def fToIntScaled (x : F32) (k : Nat) : Int :=
  if fBad x then 0 else
  let e := (fExp x : Int) - 150 + k
  let n : Nat := if 0 ≤ e then fSig x * 2 ^ e.toNat else divRne (fSig x) (2 ^ (-e).toNat)
  if fNeg? x then -(n : Int) else n

/-- The binary32 nearest to `n / d` (`d > 0`), ties to even. -/
def fOfRat (n : Int) (d : Nat) : F32 :=
  if n = 0 ∨ d = 0 then fZero else
  let a := n.natAbs
  let k := 40 + Nat.log2 d
  let q := (a <<< k) / d
  let sticky := if (a <<< k) % d = 0 then 0 else 1
  fRound (n < 0) (2 * q + sticky) (-(k : Int) - 1)

/-- The value of a finite `x` in units of `1 / d`, rounded to nearest, ties to even. -/
def fToUnits (x : F32) (d : Nat) : Int :=
  if fBad x then 0 else
  let e := (fExp x : Int) - 150
  let n : Nat := if 0 ≤ e then fSig x * d * 2 ^ e.toNat else divRne (fSig x * d) (2 ^ (-e).toNat)
  if fNeg? x then -(n : Int) else n

def fSin (x : F32) : F32 := if fBad x then fNaN else Config.sin32 x
def fCos (x : F32) : F32 := if fBad x then fNaN else Config.cos32 x
def fAtan2 (y x : F32) : F32 := if fBad y || fBad x then fNaN else Config.atan2_32 y x

/-- `sqrt (a² + b²)`. -/
def fHypot (a b : F32) : F32 := fSqrt (fAdd (fMul a a) (fMul b b))

end Sys2Proof.Machine
end

