-- ==== Sys2Proof/Machine/RegTable.lean ====
section
/-! DEFINITION. The register map of the NV8128 as one table: every register row of the field tables of spec/ with its
address, fields, access codes, reset values, write conditions and value ranges (spec 15 R431, R446, and the field tables
of chapters 01, 02 and 04 to 17). Contexts (03 R85) stand beside the table. -/

namespace Sys2Proof.Machine

/-- Access codes (00 R9). No register of the part has the code W1. -/
inductive Acc | ro | rw | wo | sc
  deriving DecidableEq, Repr

/-- When a write may change a field (15 R516 check 4). -/
inductive WrCond
  | always    -- in every mode and state
  | stdbySvc  -- STANDBY or SERVICE
  | svc       -- SERVICE
  | chOff     -- the channel's CH_STATE is OFF
  | roleOk    -- a role write (R107)
  | recOff    -- the recorder is disabled (R162)
  | snsOff    -- the half-bridge is forced off or the trip latch is set (R254)
  deriving DecidableEq, Repr

/-- What values a write may give a field (15 R516 check 5). -/
inductive ValChk
  | any
  | range (lo hi : Nat)
  | f32 (lo hi : Nat)      -- a finite binary32 from lo to hi, given as bit patterns
  | f32any                 -- any finite binary32 (R515)
  | f32zor (lo hi : Nat)   -- 0.0, or within lo to hi
  | srange16 (n : Nat)     -- two's complement 16 bit, within ±n
  | burstEn
  | carRatio
  | carRld
  | carShape
  | chopGain
  | chopMax
  | chopMode
  | chopRel
  | clkSwitch
  | divCommit
  | fnom
  | l1Mode
  | mclkDiv
  | meterMap
  | never
  | pg
  | phaseOfs
  | probeEn
  | probeOrd
  | pwmOfs
  | recSel
  | rideBank
  | rtc
  | shadow
  | shadowHi
  | survRd
  | survSrcInj
  | survSrcReg
  | syncSrc
  | tickDiv
  deriving DecidableEq, Repr

/-- What a register does after a write was applied, beside holding the value. -/
inductive RegAct
  | ageCfg
  | bootCfg
  | burst
  | cal
  | calSave
  | capCfg
  | cfgSave
  | chanCfg
  | chopV
  | clkCfg
  | dcCfg
  | dcCtrl
  | divCommit
  | epul
  | flt
  | gdiCtrl
  | gridCtrl
  | gridFnom
  | harmSel
  | inCfg
  | islCfg
  | kaCfg
  | lock
  | machCfg
  | machCtrl
  | mailbox
  | meterCfg
  | meterTariff
  | none
  | portCfg
  | pwmCar
  | pwmForce
  | recCfg
  | rideBankWord
  | rideCfg
  | role
  | rtcHi
  | rtcLo
  | safeCtrl
  | shHi
  | shLo
  | sns
  | survCtrl
  | survTrg
  | sync
  | tick
  deriving DecidableEq, Repr

structure RegField where
  hi : Nat
  lo : Nat
  acc : Acc
  rst : Nat
  cond : WrCond
  chk : ValChk
  deriving DecidableEq, Repr

structure Row where
  base : Nat
  stride : Nat
  count : Nat
  fields : List RegField
  act : RegAct
  deriving DecidableEq, Repr

def ro (hi lo rst : Nat) : RegField := ⟨hi, lo, .ro, rst, .always, .any⟩
def sc (hi lo : Nat) : RegField := ⟨hi, lo, .sc, 0, .always, .any⟩
def wo (hi lo : Nat) (c : WrCond) (k : ValChk) : RegField := ⟨hi, lo, .wo, 0, c, k⟩
def rw (hi lo rst : Nat) (c : WrCond) (k : ValChk) : RegField := ⟨hi, lo, .rw, rst, c, k⟩

/-- SYS block, identity to recorder (offsets 0x000–0x6FC). -/
def rowsSysA : List Row := [
  -- SYS_ID (17 R498)
  ⟨0, 4, 1, [ro 15 0 0x8128], .none⟩,
  -- SYS_REV (17 R498)
  ⟨4, 4, 1, [ro 3 0 1, ro 7 4 1, ro 11 8 1], .none⟩,
  -- SYS_SERIAL_LO (17 R498)
  ⟨8, 4, 1, [ro 31 0 0], .none⟩,
  -- SYS_SERIAL_HI (17 R498)
  ⟨0xC, 4, 1, [ro 31 0 0], .none⟩,
  -- SYS_IMG_VER (17 R498)
  ⟨0x10, 4, 1, [ro 31 0 0], .none⟩,
  -- SYS_MODE (17 R477 R498)
  ⟨0x14, 4, 1, [ro 2 0 1, ro 6 4 0, ro 11 8 1, ro 12 12 0], .none⟩,
  -- SYS_BOOT (17 R498)
  ⟨0x18, 4, 1, [ro 0 0 0, ro 2 1 0, ro 3 3 0, ro 4 4 0, ro 5 5 0, ro 6 6 0, ro 7 7 0, ro 14 8 0, ro 19 16 0], .none⟩,
  -- SYS_BOOT_EVT (17 R498)
  ⟨0x1C, 4, 1, [sc 0 0, sc 1 1, sc 2 2, sc 3 3, sc 4 4, sc 5 5, ro 31 24 0], .none⟩,
  -- SYS_WAKES (17 R498)
  ⟨0x20, 4, 1, [ro 31 0 0], .none⟩,
  -- SYS_WAKE_T (17 R498)
  ⟨0x24, 4, 1, [ro 23 0 0], .none⟩,
  -- SYS_CFG_CTRL (17 R486 R498)
  ⟨0x28, 4, 1, [wo 0 0 .stdbySvc .any], .cfgSave⟩,
  -- SYS_SLOT (17 R498)
  ⟨0x2C, 4, 1, [ro 2 0 0, ro 6 4 0, ro 7 7 0], .none⟩,
  -- SYS_OTHER_VER (17 R498)
  ⟨0x30, 4, 1, [ro 31 0 0], .none⟩,
  -- SYS_TICK (01 R26 R47)
  ⟨0x100, 4, 1, [rw 16 0 0x4E20 .stdbySvc .tickDiv], .tick⟩,
  -- SYS_TT_STAT (01 R47)
  ⟨0x104, 4, 1, [ro 15 0 0, ro 22 16 0, ro 23 23 0, ro 24 24 0], .none⟩,
  -- SYS_TT_GEN (01 R47)
  ⟨0x108, 4, 1, [ro 31 0 0], .none⟩,
  -- SYS_BURST (01 R36 R47)
  ⟨0x110, 4, 1, [rw 0 0 0 .always .burstEn, rw 1 1 1 .always .any, rw 2 2 0 .always .any, ro 8 8 0, ro 9 9 0], .burst⟩,
  -- SYS_BURST_BUD (01 R37 R47)
  ⟨0x114, 4, 1, [ro 20 0 0x1E8480], .none⟩,
  -- SYS_BURST_STAT (01 R47)
  ⟨0x118, 4, 1, [sc 0 0, sc 1 1, sc 2 2, sc 3 3, sc 4 4, sc 5 5, ro 31 24 0], .none⟩,
  -- SYS_SYNC (01 R43 R47)
  ⟨0x120, 4, 1, [rw 1 0 0 .always .syncSrc, rw 2 2 0 .always .any, rw 3 3 1 .always .any, rw 31 8 0 .always .phaseOfs], .sync⟩,
  -- SYS_SYNC_STAT (01 R45 R47)
  ⟨0x124, 4, 1, [ro 1 0 0, ro 23 8 0, ro 31 24 0], .none⟩,
  -- SYS_TICK_CNT_LO (01 R47)
  ⟨0x128, 4, 1, [ro 31 0 0], .none⟩,
  -- SYS_TICK_CNT_HI (01 R47)
  ⟨0x12C, 4, 1, [ro 31 0 0], .none⟩,
  -- SYS_RIDE_CFG (05 R175)
  ⟨0x200, 4, 1, [rw 0 0 0 .always .any, rw 1 1 0 .always .any, rw 2 2 0 .always .rideBank], .rideCfg⟩,
  -- SYS_RIDE_STAT (05 R175)
  ⟨0x204, 4, 1, [ro 0 0 0, ro 1 1 0, ro 2 2 0, ro 3 3 0, ro 4 4 0, ro 5 5 0, sc 8 8, sc 9 9, sc 10 10, sc 11 11, sc 12 12, sc 13 13, sc 14 14, sc 15 15, ro 18 16 0, ro 31 24 0], .none⟩,
  -- SYS_RIDE_CNT (05 R176)
  ⟨0x208, 4, 1, [ro 15 0 0, ro 31 16 0], .none⟩,
  -- PCCM_VA (05 R143 R175)
  ⟨0x210, 4, 1, [ro 31 0 0], .none⟩,
  -- PCCM_VB (05 R143 R175)
  ⟨0x214, 4, 1, [ro 31 0 0], .none⟩,
  -- PCCM_VC (05 R143 R175)
  ⟨0x218, 4, 1, [ro 31 0 0], .none⟩,
  -- PCCM_VPOS (05 R143 R175)
  ⟨0x21C, 4, 1, [ro 31 0 0], .none⟩,
  -- PCCM_VNEG (05 R143 R175)
  ⟨0x220, 4, 1, [ro 31 0 0], .none⟩,
  -- PCCM_FREQ (05 R143 R175)
  ⟨0x224, 4, 1, [ro 31 0 0], .none⟩,
  -- PCCM_ROCOF (05 R143 R175)
  ⟨0x228, 4, 1, [ro 31 0 0], .none⟩,
  -- PCCM_ZP (05 R143 R175)
  ⟨0x22C, 4, 1, [ro 31 0 0], .none⟩,
  -- ISL_CFG (05 R177)
  ⟨0x300, 4, 1, [rw 0 0 0 .always .probeEn, rw 6 1 0 .always .probeOrd, rw 9 7 0 .always .any, rw 12 10 3 .always (.range 2 5), rw 16 13 0 .always .any, rw 20 17 0 .always .any, rw 21 21 0 .always .any, rw 22 22 0 .always .any, rw 27 23 5 .always (.range 2 31)], .islCfg⟩,
  -- ISL_STAT (05 R177)
  ⟨0x304, 4, 1, [ro 0 0 0, ro 3 1 0, ro 4 4 0, ro 5 5 0, ro 6 6 0, sc 16 16, sc 17 17, sc 18 18, sc 19 19, ro 31 24 0], .none⟩,
  -- ISL_DET_LO (05 R176)
  ⟨0x308, 4, 1, [ro 31 0 0], .none⟩,
  -- ISL_DET_HI (05 R176)
  ⟨0x30C, 4, 1, [ro 31 0 0], .none⟩,
  -- ISL_ROCOF (05 R180)
  ⟨0x310, 4, 1, [rw 31 0 0x3F800000 .always (.f32 0x3DCCCCCD 0x41200000)], .none⟩,
  -- ISL_VS (05 R180)
  ⟨0x314, 4, 1, [rw 31 0 0x41200000 .always (.f32 0x40000000 0x41F00000)], .none⟩,
  -- ISL_V_LO (05 R180)
  ⟨0x318, 4, 1, [rw 31 0 0x3F4CCCCD .always (.f32 0x3F000000 0x3F800000)], .none⟩,
  -- ISL_V_HI (05 R180)
  ⟨0x31C, 4, 1, [rw 31 0 0x3F99999A .always (.f32 0x3F800000 0x3FC00000)], .none⟩,
  -- ISL_F_LO (05 R180)
  ⟨0x320, 4, 1, [rw 31 0 0x3F7851EC .always (.f32 0x3F666666 0x3F800000)], .none⟩,
  -- ISL_F_HI (05 R180)
  ⟨0x324, 4, 1, [rw 31 0 0x3F83D70A .always (.f32 0x3F800000 0x3F8CCCCD)], .none⟩,
  -- ISL_T_WIN (05 R180)
  ⟨0x328, 4, 1, [rw 31 0 0x3E23D70A .always (.f32 0x3C23D70A 0x41200000)], .none⟩,
  -- ISL_DTHD (05 R180)
  ⟨0x32C, 4, 1, [rw 31 0 0x40400000 .always (.f32 0x3F000000 0x41A00000)], .none⟩,
  -- ISL_PROBE_A (05 R180)
  ⟨0x330, 4, 1, [rw 31 0 0x3BA3D70A .always (.f32 0x3B03126F 0x3C23D70A)], .none⟩,
  -- ISL_Z_TH (05 R180)
  ⟨0x334, 4, 1, [rw 31 0 0x3F000000 .always (.f32 0x3D4CCCCD 0x40A00000)], .none⟩,
  -- SYS_TT_ENT (01 R47)
  ⟨0x400, 4, 128, [ro 15 0 0xFFFF, ro 31 16 0xFFFF], .none⟩,
  -- REC_CFG (05 R177)
  ⟨0x600, 4, 1, [rw 0 0 0 .always .any, rw 1 1 0 .recOff .any, wo 2 2 .always .any, rw 7 3 0xF .recOff .any, rw 15 8 1 .recOff .any, rw 27 16 0x3E8 .recOff (.range 0 2000)], .recCfg⟩,
  -- REC_STAT (05 R177)
  ⟨0x604, 4, 1, [ro 2 0 0, sc 16 16, sc 17 17, sc 18 18, sc 19 19, ro 31 24 0], .none⟩,
  -- REC_TRG_LO (05 R176)
  ⟨0x608, 4, 1, [ro 31 0 0], .none⟩,
  -- REC_TRG_HI (05 R176)
  ⟨0x60C, 4, 1, [ro 31 0 0], .none⟩,
  -- REC_CNT (05 R176)
  ⟨0x610, 4, 1, [ro 15 0 0, ro 31 16 0], .none⟩,
  -- REC_LEN (05 R176)
  ⟨0x614, 4, 1, [ro 19 0 0], .none⟩,
  -- REC_TRG_IDX (05 R176)
  ⟨0x618, 4, 1, [ro 19 0 0], .none⟩,
  -- REC_SEL (05 R177)
  ⟨0x680, 4, 32, [rw 7 0 0xFF .always .recSel, rw 10 8 0 .always .any], .none⟩]

/-- SYS block, ride banks (0x800–0x9FC). -/
def rowsRide : List Row := [
  -- RB0_UV_ENT (05 R178)
  ⟨0x800, 4, 1, [rw 31 0 0x3F59999A .always (.f32 0x3F000000 0x3F733333)], .rideBankWord⟩,
  -- RB0_UV_EXIT (05 R178)
  ⟨0x804, 4, 1, [rw 31 0 0x3F666666 .always (.f32 0x3F000000 0x3F7AE148)], .rideBankWord⟩,
  -- RB0_OV_ENT (05 R178)
  ⟨0x808, 4, 1, [rw 31 0 0x3F933333 .always (.f32 0x3F866666 0x3FC00000)], .rideBankWord⟩,
  -- RB0_OV_EXIT (05 R178)
  ⟨0x80C, 4, 1, [rw 31 0 0x3F8CCCCD .always (.f32 0x3F828F5C 0x3FB9999A)], .rideBankWord⟩,
  -- RB0_F_LO_ENT (05 R178)
  ⟨0x810, 4, 1, [rw 31 0 0x3F7AE148 .always (.f32 0x3F666666 0x3F7FBE77)], .rideBankWord⟩,
  -- RB0_F_LO_EXIT (05 R178)
  ⟨0x814, 4, 1, [rw 31 0 0x3F7C28F6 .always (.f32 0x3F666666 0x3F800000)], .rideBankWord⟩,
  -- RB0_F_HI_ENT (05 R178)
  ⟨0x818, 4, 1, [rw 31 0 0x3F828F5C .always (.f32 0x3F8020C5 0x3F8CCCCD)], .rideBankWord⟩,
  -- RB0_F_HI_EXIT (05 R178)
  ⟨0x81C, 4, 1, [rw 31 0 0x3F81EB85 .always (.f32 0x3F800000 0x3F8CCCCD)], .rideBankWord⟩,
  -- RB0_T_DET (05 R178)
  ⟨0x820, 4, 1, [rw 31 0 0x3A83126F .always (.f32 0x3A03126F 0x3DCCCCCD)], .rideBankWord⟩,
  -- RB0_T_FDET (05 R178)
  ⟨0x824, 4, 1, [rw 31 0 0x3DCCCCCD .always (.f32 0x3CA3D70A 0x3F800000)], .rideBankWord⟩,
  -- RB0_T_EXIT (05 R178)
  ⟨0x828, 4, 1, [rw 31 0 0x3D4CCCCD .always (.f32 0x3BA3D70A 0x40A00000)], .rideBankWord⟩,
  -- RB0_T_MAX (05 R178)
  ⟨0x82C, 4, 1, [rw 31 0 0x42700000 .always (.f32 0x3F800000 0x45610000)], .rideBankWord⟩,
  -- RB0_T_RECON (05 R178)
  ⟨0x830, 4, 1, [rw 31 0 0x43960000 .always (.f32 0x00000000 0x44610000)], .rideBankWord⟩,
  -- RB0_F_TRIP_LO (05 R178)
  ⟨0x834, 4, 1, [rw 31 0 0x3F4CCCCD .always (.f32 0x3F4CCCCD 0x3F800000)], .rideBankWord⟩,
  -- RB0_T_F_TRIP_LO (05 R178)
  ⟨0x838, 4, 1, [rw 31 0 0 .always (.f32zor 0x3C23D70A 0x44160000)], .rideBankWord⟩,
  -- RB0_F_TRIP_HI (05 R178)
  ⟨0x83C, 4, 1, [rw 31 0 0x3F99999A .always (.f32 0x3F800000 0x3F99999A)], .rideBankWord⟩,
  -- RB0_T_F_TRIP_HI (05 R178)
  ⟨0x840, 4, 1, [rw 31 0 0 .always (.f32zor 0x3C23D70A 0x44160000)], .rideBankWord⟩,
  -- RB0_LV_T (05 R178)
  ⟨0x880, 8, 8, [rw 31 0 0 .always (.f32 0x00000000 0x45610000)], .rideBankWord⟩,
  -- RB0_LV_V (05 R178)
  ⟨0x884, 8, 8, [rw 31 0 0 .always (.f32 0x00000000 0x3F800000)], .rideBankWord⟩,
  -- RB0_HV_T (05 R178)
  ⟨0x8C0, 8, 8, [rw 31 0 0 .always (.f32 0x00000000 0x45610000)], .rideBankWord⟩,
  -- RB0_HV_V (05 R178)
  ⟨0x8C4, 8, 8, [rw 31 0 0x41200000 .always (.f32 0x3F800000 0x41200000)], .rideBankWord⟩,
  -- RB1_UV_ENT (05 R178)
  ⟨0x900, 4, 1, [rw 31 0 0x3F59999A .always (.f32 0x3F000000 0x3F733333)], .rideBankWord⟩,
  -- RB1_UV_EXIT (05 R178)
  ⟨0x904, 4, 1, [rw 31 0 0x3F666666 .always (.f32 0x3F000000 0x3F7AE148)], .rideBankWord⟩,
  -- RB1_OV_ENT (05 R178)
  ⟨0x908, 4, 1, [rw 31 0 0x3F933333 .always (.f32 0x3F866666 0x3FC00000)], .rideBankWord⟩,
  -- RB1_OV_EXIT (05 R178)
  ⟨0x90C, 4, 1, [rw 31 0 0x3F8CCCCD .always (.f32 0x3F828F5C 0x3FB9999A)], .rideBankWord⟩,
  -- RB1_F_LO_ENT (05 R178)
  ⟨0x910, 4, 1, [rw 31 0 0x3F7AE148 .always (.f32 0x3F666666 0x3F7FBE77)], .rideBankWord⟩,
  -- RB1_F_LO_EXIT (05 R178)
  ⟨0x914, 4, 1, [rw 31 0 0x3F7C28F6 .always (.f32 0x3F666666 0x3F800000)], .rideBankWord⟩,
  -- RB1_F_HI_ENT (05 R178)
  ⟨0x918, 4, 1, [rw 31 0 0x3F828F5C .always (.f32 0x3F8020C5 0x3F8CCCCD)], .rideBankWord⟩,
  -- RB1_F_HI_EXIT (05 R178)
  ⟨0x91C, 4, 1, [rw 31 0 0x3F81EB85 .always (.f32 0x3F800000 0x3F8CCCCD)], .rideBankWord⟩,
  -- RB1_T_DET (05 R178)
  ⟨0x920, 4, 1, [rw 31 0 0x3A83126F .always (.f32 0x3A03126F 0x3DCCCCCD)], .rideBankWord⟩,
  -- RB1_T_FDET (05 R178)
  ⟨0x924, 4, 1, [rw 31 0 0x3DCCCCCD .always (.f32 0x3CA3D70A 0x3F800000)], .rideBankWord⟩,
  -- RB1_T_EXIT (05 R178)
  ⟨0x928, 4, 1, [rw 31 0 0x3D4CCCCD .always (.f32 0x3BA3D70A 0x40A00000)], .rideBankWord⟩,
  -- RB1_T_MAX (05 R178)
  ⟨0x92C, 4, 1, [rw 31 0 0x42700000 .always (.f32 0x3F800000 0x45610000)], .rideBankWord⟩,
  -- RB1_T_RECON (05 R178)
  ⟨0x930, 4, 1, [rw 31 0 0x43960000 .always (.f32 0x00000000 0x44610000)], .rideBankWord⟩,
  -- RB1_F_TRIP_LO (05 R178)
  ⟨0x934, 4, 1, [rw 31 0 0x3F4CCCCD .always (.f32 0x3F4CCCCD 0x3F800000)], .rideBankWord⟩,
  -- RB1_T_F_TRIP_LO (05 R178)
  ⟨0x938, 4, 1, [rw 31 0 0 .always (.f32zor 0x3C23D70A 0x44160000)], .rideBankWord⟩,
  -- RB1_F_TRIP_HI (05 R178)
  ⟨0x93C, 4, 1, [rw 31 0 0x3F99999A .always (.f32 0x3F800000 0x3F99999A)], .rideBankWord⟩,
  -- RB1_T_F_TRIP_HI (05 R178)
  ⟨0x940, 4, 1, [rw 31 0 0 .always (.f32zor 0x3C23D70A 0x44160000)], .rideBankWord⟩,
  -- RB1_LV_T (05 R178)
  ⟨0x980, 8, 8, [rw 31 0 0 .always (.f32 0x00000000 0x45610000)], .rideBankWord⟩,
  -- RB1_LV_V (05 R178)
  ⟨0x984, 8, 8, [rw 31 0 0 .always (.f32 0x00000000 0x3F800000)], .rideBankWord⟩,
  -- RB1_HV_T (05 R178)
  ⟨0x9C0, 8, 8, [rw 31 0 0 .always (.f32 0x00000000 0x45610000)], .rideBankWord⟩,
  -- RB1_HV_V (05 R178)
  ⟨0x9C4, 8, 8, [rw 31 0 0x41200000 .always (.f32 0x3F800000 0x41200000)], .rideBankWord⟩]

/-- SYS block, clocks and supplies (0xC00–0xFFC). -/
def rowsClk : List Row := [
  -- CLK_CFG (16 R475)
  ⟨0xC00, 4, 1, [rw 0 0 0 .svc .any, wo 1 1 .stdbySvc .clkSwitch], .clkCfg⟩,
  -- CLK_STAT (16 R475)
  ⟨0xC04, 4, 1, [ro 0 0 0, ro 1 1 0, ro 2 2 0, ro 3 3 0, ro 4 4 0, ro 5 5 0, ro 6 6 0, ro 7 7 0, ro 8 8 0], .none⟩,
  -- CLK_EVT (16 R475)
  ⟨0xC08, 4, 1, [sc 0 0, sc 1 1, sc 2 2, sc 3 3, sc 4 4, sc 5 5, sc 6 6, ro 31 24 0], .none⟩,
  -- CLK_CNT (16 R475)
  ⟨0xC0C, 4, 1, [ro 15 0 0, ro 31 16 0], .none⟩,
  -- DIV_SHADOWA (16 R475)
  ⟨0xC10, 4, 1, [rw 7 0 0x60 .always (.range 64 128), rw 9 8 1 .always (.range 0 2), rw 13 10 0 .always .any], .none⟩,
  -- DIV_SHADOWB (16 R475)
  ⟨0xC14, 4, 1, [rw 7 0 0x60 .always (.range 64 128), rw 9 8 1 .always (.range 0 2), rw 13 10 0 .always .any], .none⟩,
  -- DIV_ACTIVEA (16 R475)
  ⟨0xC18, 4, 1, [ro 7 0 0x60, ro 9 8 1, ro 13 10 0], .none⟩,
  -- DIV_ACTIVEB (16 R475)
  ⟨0xC1C, 4, 1, [ro 7 0 0x60, ro 9 8 1, ro 13 10 0], .none⟩,
  -- DIV_COMMIT (16 R452 R475)
  ⟨0xC20, 4, 1, [wo 0 0 .svc .divCommit], .divCommit⟩,
  -- CLK_BAND_TBLA (16 R451 R475)
  ⟨0xC40, 4, 16, [rw 11 0 0 .svc .any, rw 23 12 0 .svc .any, rw 29 24 0 .svc .any], .none⟩,
  -- CLK_BAND_TBLB (16 R451 R475)
  ⟨0xC80, 4, 16, [rw 11 0 0 .svc .any, rw 23 12 0 .svc .any, rw 29 24 0 .svc .any], .none⟩,
  -- PWR_STAT (16 R475)
  ⟨0xE00, 4, 1, [ro 5 0 0, ro 13 8 0, ro 16 16 0, ro 17 17 0, ro 18 18 0], .none⟩,
  -- PWR_EVT (16 R475)
  ⟨0xE04, 4, 1, [sc 0 0, sc 1 1, sc 2 2, sc 3 3, ro 31 24 0], .none⟩,
  -- PWR_CNT (16 R475)
  ⟨0xE08, 4, 1, [ro 15 0 0, ro 31 16 0], .none⟩]

/-- HOST block. -/
def rowsHost : List Row := [
  -- HOST_SPI_CFG (14 R430)
  ⟨0x10000, 4, 1, [rw 3 0 0 .always .any], .none⟩,
  -- HOST_SPI_STAT (14 R430)
  ⟨0x10004, 4, 1, [ro 10 0 0x402, ro 11 11 0, ro 12 12 0, ro 13 13 0, ro 14 14 0, ro 23 16 0, ro 31 24 0], .none⟩,
  -- HOST_SPI_CNT (14 R430)
  ⟨0x10008, 4, 1, [ro 15 0 0, ro 31 16 0], .none⟩,
  -- HOST_ETH_CFG (14 R430)
  ⟨0x10010, 4, 1, [rw 15 0 0xBAF5 .svc (.range 1 65534), rw 16 16 0 .svc .any, rw 17 17 0 .svc .any, rw 23 18 0x18 .svc (.range 1 32), rw 31 24 0x40 .svc (.range 1 128)], .portCfg⟩,
  -- HOST_ETH_STAT (14 R430)
  ⟨0x10014, 4, 1, [ro 0 0 0, ro 1 1 0, ro 2 2 0, ro 3 3 0, ro 4 4 0], .none⟩,
  -- HOST_ETH_DROP (14 R430)
  ⟨0x10018, 4, 1, [ro 31 0 0], .none⟩,
  -- HOST_MAC_LO (14 R430)
  ⟨0x10020, 4, 1, [ro 31 0 0], .none⟩,
  -- HOST_MAC_HI (14 R430)
  ⟨0x10024, 4, 1, [ro 31 0 0], .none⟩,
  -- HOST_IP4 (14 R430)
  ⟨0x10028, 4, 1, [rw 31 0 0 .svc .any], .portCfg⟩,
  -- HOST_IP4_GW (14 R430)
  ⟨0x1002C, 4, 1, [rw 31 0 0 .svc .any], .portCfg⟩,
  -- HOST_IP6 (14 R430)
  ⟨0x10030, 4, 4, [rw 31 0 0 .svc .any], .portCfg⟩,
  -- HOST_IP6GW (14 R430)
  ⟨0x10040, 4, 4, [rw 31 0 0 .svc .any], .portCfg⟩,
  -- HOST_PTP_CFG (14 R430)
  ⟨0x10050, 4, 1, [rw 0 0 0 .svc .any, rw 8 1 0 .svc .any, rw 10 9 0 .svc (.range 0 2)], .portCfg⟩,
  -- HOST_PTP_STAT (14 R430)
  ⟨0x10054, 4, 1, [ro 2 0 0, ro 3 3 0], .none⟩,
  -- HOST_PTP_OFS (14 R430)
  ⟨0x10058, 4, 1, [ro 31 0 0], .none⟩,
  -- HOST_RING_CFG (14 R430)
  ⟨0x10080, 4, 1, [rw 0 0 1 .svc .any, rw 1 1 1 .svc .any, rw 2 2 1 .svc .any], .portCfg⟩,
  -- HOST_RING_STAT (14 R430)
  ⟨0x10084, 4, 1, [ro 5 0 0, ro 6 6 0, ro 7 7 0, ro 8 8 0, ro 9 9 0, ro 10 10 0, ro 11 11 0, ro 12 12 0, ro 13 13 0, sc 16 16, sc 17 17, ro 31 24 0], .none⟩,
  -- HOST_RING_ERR (14 R430)
  ⟨0x10088, 4, 4, [ro 31 0 0], .none⟩,
  -- HOST_MBS (14 R427 R430)
  ⟨0x10100, 8, 16, [ro 0 0 0, ro 4 1 0], .none⟩,
  -- HOST_MBD (14 R426 R430)
  ⟨0x10104, 8, 16, [rw 31 0 0 .always .any], .mailbox⟩,
  -- HOST_MBT (14 R430)
  ⟨0x10180, 4, 16, [sc 15 0, ro 31 24 0], .none⟩,
  -- HOST_MB_TO (14 R430)
  ⟨0x101C0, 4, 1, [rw 19 0 0x2710 .always (.range 10 1000000)], .none⟩,
  -- HOST_MBLOCK (14 R429 R430)
  ⟨0x10200, 4, 16, [rw 4 0 0 .always .any], .lock⟩,
  -- HOST_LOCKOWN (14 R430)
  ⟨0x10240, 4, 4, [ro 31 0 0], .none⟩,
  -- HOST_CROAK (14 R425 R430)
  ⟨0x10280, 4, 4, [rw 15 0 0 .always .any, rw 16 16 0 .always .any], .none⟩,
  -- HOST_NSUB (14 R430)
  ⟨0x102C0, 4, 16, [rw 7 0 0 .always .any, rw 8 8 0 .always .any], .none⟩,
  -- HOST_DB (14 R430)
  ⟨0x10300, 4, 16, [sc 0 0, ro 31 24 0], .none⟩,
  -- HOST_SES_STAT (13 R401)
  ⟨0x10400, 16, 16, [ro 0 0 0, ro 2 1 0, ro 9 3 0, ro 17 10 0], .none⟩,
  -- HOST_SES_CR (13 R401)
  ⟨0x10404, 16, 16, [ro 10 0 0, ro 26 16 0], .none⟩,
  -- HOST_SES_SEQ (13 R401)
  ⟨0x10408, 16, 16, [ro 31 0 0], .none⟩,
  -- HOST_SES_CNT (13 R401)
  ⟨0x1040C, 16, 16, [ro 15 0 0, ro 31 16 0], .none⟩,
  -- HOST_POOL (13 R401)
  ⟨0x10500, 4, 1, [ro 12 0 0x1000, ro 28 16 0], .none⟩,
  -- HOST_TAGS (13 R401)
  ⟨0x10504, 4, 1, [ro 7 0 0, ro 15 8 0], .none⟩,
  -- HOST_CLAIM0 (13 R401)
  ⟨0x10508, 4, 1, [ro 31 0 0], .none⟩,
  -- HOST_CLAIM1 (13 R401)
  ⟨0x1050C, 4, 1, [ro 31 0 0], .none⟩,
  -- HOST_CLAIM2 (13 R401)
  ⟨0x10510, 4, 1, [ro 7 0 0], .none⟩]

/-- SAFE block. -/
def rowsSafe : List Row := [
  -- SAFE_STAT (11 R348)
  ⟨0x20000, 4, 1, [ro 0 0 1, ro 1 1 0, ro 2 2 0, ro 3 3 0, ro 4 4 0, ro 5 5 0, ro 15 8 0], .none⟩,
  -- SAFE_EVT (11 R348)
  ⟨0x20004, 4, 1, [sc 0 0, sc 1 1, sc 2 2, sc 3 3, sc 4 4, sc 5 5, sc 6 6, sc 7 7, ro 31 24 0], .none⟩,
  -- SAFE_CTRL (11 R348)
  ⟨0x20008, 4, 1, [wo 0 0 .always .any], .safeCtrl⟩,
  -- SAFE_CAUSE (11 R348)
  ⟨0x2000C, 4, 1, [ro 7 0 0, ro 10 8 0, ro 11 11 0], .none⟩,
  -- SAFE_IO (11 R348)
  ⟨0x20010, 4, 1, [ro 0 0 0, ro 1 1 0, ro 2 2 0, ro 3 3 0, ro 4 4 0, ro 5 5 0, ro 6 6 0, ro 11 8 0], .none⟩,
  -- SAFE_CNT (11 R348)
  ⟨0x20014, 4, 1, [ro 15 0 0, ro 31 16 0], .none⟩,
  -- SAFE_CNT2 (11 R348)
  ⟨0x20018, 4, 1, [ro 15 0 0, ro 31 16 0], .none⟩,
  -- SAFE_LOGSEQ (11 R348)
  ⟨0x2001C, 4, 1, [ro 31 0 0], .none⟩,
  -- SAFE_DIG (11 R341 R348)
  ⟨0x20040, 4, 16, [ro 31 0 0], .none⟩,
  -- SAFE_CFG (11 R341 R348)
  ⟨0x20100, 4, 64, [ro 31 0 0], .none⟩,
  -- SAFE_SL_STAT (11 R348)
  ⟨0x20200, 16, 8, [ro 0 0 0, ro 1 1 0, ro 2 2 0, ro 3 3 0, ro 15 4 0, ro 16 16 0], .none⟩,
  -- SAFE_SL_IPK (11 R348)
  ⟨0x20204, 16, 8, [ro 31 0 0], .none⟩,
  -- SAFE_SL_P (11 R348)
  ⟨0x20208, 16, 8, [ro 31 0 0], .none⟩,
  -- SAFE_SL_F (11 R348)
  ⟨0x2020C, 16, 8, [ro 31 0 0], .none⟩]

/-- HEALTH block. -/
def rowsHealth : List Row := [
  -- HEALTH_SRQ (12 R372)
  ⟨0x30000, 4, 1, [ro 1 0 0, ro 2 2 0, ro 15 8 0], .none⟩,
  -- HEALTH_EVT (12 R372)
  ⟨0x30004, 4, 1, [sc 0 0, sc 1 1, sc 2 2, sc 3 3, sc 4 4, sc 5 5, sc 6 6, sc 7 7, ro 31 24 0], .none⟩,
  -- HEALTH_FO (12 R372)
  ⟨0x30008, 4, 1, [ro 3 0 0xF, ro 4 4 1, ro 16 8 0, ro 31 24 0], .none⟩,
  -- HEALTH_FO_ERR (12 R372)
  ⟨0x3000C, 4, 1, [ro 31 0 0], .none⟩,
  -- HEALTH_THERM (12 R372)
  ⟨0x30010, 4, 1, [ro 1 0 0, ro 2 2 0, ro 3 3 0, ro 4 4 0, ro 11 8 0, ro 31 16 0], .none⟩,
  -- HEALTH_AGE (12 R372)
  ⟨0x30014, 4, 1, [ro 15 0 0, ro 31 16 0xFFFF], .none⟩,
  -- HEALTH_AGE_CFG (12 R372)
  ⟨0x30018, 4, 1, [rw 9 0 0xB4 .always (.range 30 730)], .ageCfg⟩,
  -- HEALTH_MGS (12 R372)
  ⟨0x3001C, 4, 1, [ro 1 0 0, ro 2 2 0, ro 15 8 0], .none⟩,
  -- HEALTH_LOG_WR (12 R372)
  ⟨0x30020, 4, 1, [ro 15 0 0, ro 24 16 0], .none⟩,
  -- HEALTH_LOG_SEQ_LO (12 R372)
  ⟨0x30024, 4, 1, [ro 31 0 0], .none⟩,
  -- HEALTH_LOG_SEQ_HI (12 R372)
  ⟨0x30028, 4, 1, [ro 31 0 0], .none⟩,
  -- HEALTH_LOG_COAL (12 R372)
  ⟨0x3002C, 4, 1, [ro 31 0 0], .none⟩,
  -- HEALTH_TEMP (12 R372)
  ⟨0x30100, 4, 16, [ro 31 0 0], .none⟩,
  -- HEALTH_VMON (12 R372)
  ⟨0x30200, 4, 7, [ro 31 0 0], .none⟩,
  -- HEALTH_RO (12 R372)
  ⟨0x30300, 4, 24, [ro 31 0 0], .none⟩,
  -- HEALTH_EVCNT (12 R365 R372)
  ⟨0x30800, 4, 1536, [ro 31 0 0], .none⟩,
  -- HEALTH_SRCDESC (12 R365 R372)
  ⟨0x32000, 4, 1536, [ro 31 0 0], .none⟩]

/-- PCC block, metering point. -/
def rowsPccMeter : List Row := [
  -- PCC_METER_CFG (09 R296)
  ⟨0x40000, 4, 1, [rw 1 0 1 .stdbySvc (.range 1 2), rw 2 2 0 .stdbySvc .any, rw 4 4 0 .always .any, rw 6 5 0 .always .any], .meterCfg⟩,
  -- PCC_METER_MAP (09 R271 R296)
  ⟨0x40004, 4, 1, [rw 3 0 0 .always .never, rw 7 4 0 .always .never, rw 11 8 0 .always .never, rw 15 12 0 .always .never, rw 19 16 0 .always .never, rw 23 20 0 .always .never, rw 27 24 0 .always .never], .meterCfg⟩,
  -- PCC_METER_STAT (09 R296)
  ⟨0x40008, 4, 1, [ro 0 0 0, ro 1 1 0, ro 2 2 0, ro 5 3 7, ro 6 6 0, ro 7 7 0, ro 8 8 0, ro 9 9 1], .none⟩,
  -- PCC_METER_EVT (09 R296)
  ⟨0x4000C, 4, 1, [sc 0 0, sc 1 1, sc 2 2, sc 3 3, ro 31 24 0], .none⟩,
  -- PCC_METER_TARIFF (09 R278 R296)
  ⟨0x40010, 4, 1, [rw 3 0 0 .stdbySvc (.range 0 11), rw 7 4 1 .stdbySvc (.range 0 11), rw 11 8 0 .stdbySvc (.range 0 11), rw 15 12 1 .stdbySvc (.range 0 11), rw 19 16 0 .always .any], .meterTariff⟩,
  -- PCC_METER_INTV (09 R296)
  ⟨0x40014, 4, 1, [ro 15 0 0, ro 31 16 0], .none⟩,
  -- PCC_METER_MARK_T (09 R296)
  ⟨0x40018, 4, 1, [ro 31 0 0], .none⟩,
  -- PCC_METER_CTRL (09 R280 R296)
  ⟨0x4001C, 4, 1, [wo 0 0 .always .any], .calSave⟩,
  -- PCC_METER_IN (09 R298)
  ⟨0x40020, 4, 1, [rw 31 0 0x3F800000 .stdbySvc (.f32 0x3A83126F 0x49742400)], .none⟩,
  -- PCC_METER_VN (09 R298)
  ⟨0x40024, 4, 1, [rw 31 0 0x3F800000 .stdbySvc (.f32 0x3F800000 0x49742400)], .none⟩,
  -- PCC_METER_NL (09 R298)
  ⟨0x40028, 4, 1, [rw 31 0 0x39D1B717 .stdbySvc (.f32 0x38D1B717 0x3A03126F)], .none⟩,
  -- PCC_METER_NEU_TH (09 R298)
  ⟨0x4002C, 4, 1, [rw 31 0 0x3DCCCCCD .stdbySvc (.f32 0x3C23D70A 0x3F000000)], .none⟩,
  -- PCC_CAL_VGAIN (09 R298)
  ⟨0x40040, 32, 4, [rw 31 0 0x3F800000 .svc (.f32 0x3A83126F 0x4B189680)], .cal⟩,
  -- PCC_CAL_VOFS (09 R298)
  ⟨0x40044, 32, 4, [rw 31 0 0 .svc (.f32 0xBDCCCCCD 0x3DCCCCCD)], .cal⟩,
  -- PCC_CAL_IGAIN (09 R298)
  ⟨0x40048, 32, 4, [rw 31 0 0x3F800000 .svc (.f32 0x3A83126F 0x4B189680)], .cal⟩,
  -- PCC_CAL_IOFS (09 R298)
  ⟨0x4004C, 32, 4, [rw 31 0 0 .svc (.f32 0xBDCCCCCD 0x3DCCCCCD)], .cal⟩,
  -- PCC_CAL_PHDLY (09 R298)
  ⟨0x40050, 32, 4, [rw 15 0 0 .svc (.srange16 500)], .cal⟩,
  -- PCC_CAL_POFS (09 R298)
  ⟨0x40054, 32, 4, [rw 31 0 0 .svc (.f32 0xC61C4000 0x461C4000)], .cal⟩,
  -- PCC_METER_WIN (09 R297)
  ⟨0x40100, 4, 32, [ro 31 0 0], .none⟩,
  -- PCC_METER_ACC_LO (09 R277 R302)
  ⟨0x40200, 8, 16, [ro 31 0 0], .none⟩,
  -- PCC_METER_ACC_HI (09 R277 R302)
  ⟨0x40204, 8, 16, [ro 31 0 0], .none⟩,
  -- PCC_METER_MKE_LO (09 R275 R296)
  ⟨0x40280, 4, 1, [ro 31 0 0], .none⟩,
  -- PCC_METER_MKE_HI (09 R275 R296)
  ⟨0x40284, 4, 1, [ro 31 0 0], .none⟩,
  -- PCC_METER_WRAP (10 R320)
  ⟨0x402C0, 4, 8, [ro 15 0 0, ro 31 16 0], .none⟩,
  -- PCC_HARM_SEL (09 R296)
  ⟨0x40300, 4, 1, [rw 2 0 0 .always .any, rw 4 3 0 .always (.range 0 2)], .harmSel⟩,
  -- PCC_HARM_DATA (09 R296)
  ⟨0x40400, 4, 101, [ro 31 0 0], .none⟩,
  -- PCC_HARM_DATA_I (09 R296)
  ⟨0x40600, 4, 101, [ro 31 0 0], .none⟩,
  -- PCC_SUPRA (09 R296)
  ⟨0x40800, 4, 74, [ro 31 0 0], .none⟩]

/-- PCC block, pulses, records, converters. -/
def rowsPcc : List Row := [
  -- EPUL_CFG (09 R299)
  ⟨0x42000, 32, 4, [rw 0 0 0 .stdbySvc .any, rw 4 1 8 .stdbySvc (.range 0 8), rw 8 5 0 .stdbySvc .any, rw 9 9 0 .stdbySvc .any, rw 15 10 0x1F .stdbySvc (.range 1 62)], .epul⟩,
  -- EPUL_K (09 R299)
  ⟨0x42004, 32, 4, [rw 31 0 0xF4240 .stdbySvc (.range 1 4294967295)], .epul⟩,
  -- EPUL_CNT (09 R299)
  ⟨0x42008, 32, 4, [ro 31 0 0], .none⟩,
  -- EPUL_STAT (09 R299)
  ⟨0x4200C, 32, 4, [ro 0 0 0, sc 16 16, ro 31 24 0], .none⟩,
  -- EPUL_RES_LO (09 R299)
  ⟨0x42010, 32, 4, [ro 31 0 0], .none⟩,
  -- EPUL_RES_HI (09 R299)
  ⟨0x42014, 32, 4, [ro 31 0 0], .none⟩,
  -- EPUL_PEND (09 R299)
  ⟨0x42018, 32, 4, [ro 31 0 0], .none⟩,
  -- ER_CFG (10 R321)
  ⟨0x42800, 4, 1, [rw 15 0 0x3E8 .stdbySvc (.range 200 60000)], .none⟩,
  -- ER_STAT (10 R321)
  ⟨0x42804, 4, 1, [ro 0 0 1, ro 1 1 0, ro 2 2 0, ro 3 3 0], .none⟩,
  -- ER_EVT (10 R321)
  ⟨0x42808, 4, 1, [sc 0 0, sc 1 1, sc 2 2, sc 3 3, sc 4 4, sc 5 5, ro 31 24 0], .none⟩,
  -- ER_HSEQ_LO (10 R321)
  ⟨0x42810, 4, 1, [ro 31 0 0], .none⟩,
  -- ER_HSEQ_HI (10 R321)
  ⟨0x42814, 4, 1, [ro 31 0 0], .none⟩,
  -- ER_HTIME_LO (10 R321)
  ⟨0x42818, 4, 1, [ro 31 0 0], .none⟩,
  -- ER_HTIME_HI (10 R321)
  ⟨0x4281C, 4, 1, [ro 31 0 0], .none⟩,
  -- ER_CNT (10 R321)
  ⟨0x42820, 4, 1, [ro 15 0 0, ro 31 16 0], .none⟩,
  -- ER_SRATED (10 R321)
  ⟨0x42840, 4, 9, [rw 31 0 0x4E6E6B28 .stdbySvc (.f32 0x3F800000 0x4E6E6B28)], .none⟩,
  -- ER_HEAD (10 R321)
  ⟨0x42880, 4, 16, [ro 31 0 0], .none⟩,
  -- PCC_ADC_CFG (02 R79)
  ⟨0x43000, 4, 1, [rw 7 0 0 .stdbySvc .any, rw 9 8 2 .stdbySvc .any], .none⟩,
  -- PCC_ADC_STAT (02 R79)
  ⟨0x43004, 4, 1, [sc 7 0, sc 15 8, ro 31 24 0], .none⟩,
  -- PCC_SCALE (02 R79)
  ⟨0x43100, 16, 8, [rw 31 0 0x3F800000 .always .f32any], .none⟩,
  -- PCC_OFS (02 R79)
  ⟨0x43104, 16, 8, [rw 31 0 0 .always .f32any], .none⟩,
  -- PCC_LAT (02 R79)
  ⟨0x43108, 16, 8, [ro 31 0 0], .none⟩]

/-- SURV block. -/
def rowsSurv : List Row := [
  -- SURV_CTRL (02 R80)
  ⟨0x50000, 4, 1, [rw 5 0 0 .always (.range 0 32), rw 9 6 0 .always (.range 0 8), rw 10 10 0 .always .any, wo 11 11 .always .any, wo 12 12 .always .any, rw 13 13 0 .always .any], .survCtrl⟩,
  -- SURV_STAT (02 R80)
  ⟨0x50004, 4, 1, [sc 0 0, sc 1 1, sc 2 2, sc 3 3, sc 4 4, sc 5 5, ro 31 24 0], .none⟩,
  -- SURV_DATA (02 R80)
  ⟨0x50008, 4, 1, [ro 19 0 0, ro 24 20 0, ro 25 25 0, ro 26 26 0, ro 27 27 0, ro 28 28 0], .none⟩,
  -- SURV_LOST (02 R80)
  ⟨0x5000C, 4, 1, [ro 15 0 0, ro 31 16 0], .none⟩,
  -- SURV_TRG_REG (02 R80)
  ⟨0x50010, 4, 1, [rw 2 0 0 .always .survSrcReg, rw 6 3 0 .always (.range 0 6), rw 9 7 0 .always .any, rw 13 10 0 .always (.range 0 9)], .survTrg⟩,
  -- SURV_DLY_REG (02 R80)
  ⟨0x50014, 4, 1, [rw 15 0 0 .always .any, rw 31 16 0 .always .any], .none⟩,
  -- SURV_TRG_INJ (02 R80)
  ⟨0x50018, 4, 1, [rw 2 0 0 .always .survSrcInj, rw 6 3 0 .always (.range 0 6), rw 9 7 0 .always .any, rw 13 10 0 .always (.range 0 9)], .survTrg⟩,
  -- SURV_DLY_INJ (02 R80)
  ⟨0x5001C, 4, 1, [rw 15 0 0 .always .any, rw 31 16 0 .always .any], .none⟩,
  -- SURV_BUF_WR (02 R80)
  ⟨0x50020, 4, 1, [ro 12 0 0], .none⟩,
  -- SURV_BUF_RD (02 R77 R80)
  ⟨0x50024, 4, 1, [rw 12 0 0 .always .survRd], .none⟩,
  -- SURV_BUF_DROP (02 R80)
  ⟨0x50028, 4, 1, [ro 31 0 0], .none⟩,
  -- SURV_REG (02 R80)
  ⟨0x50100, 4, 32, [rw 5 0 0 .always (.range 0 49), rw 9 6 0 .always .any, rw 11 10 0 .always (.range 0 2), rw 14 12 0 .always .any, rw 18 15 0 .always .any], .none⟩,
  -- SURV_INJ (02 R80)
  ⟨0x50180, 4, 8, [rw 5 0 0 .always (.range 0 49), rw 9 6 0 .always .any, rw 11 10 0 .always (.range 0 2), rw 14 12 0 .always .any, rw 18 15 0 .always .any], .none⟩,
  -- SURV_WIN_REG (02 R80)
  ⟨0x50200, 4, 32, [rw 15 0 0 .always .any, rw 31 16 0xFFFF .always .any], .none⟩,
  -- SURV_WIN_INJ (02 R80)
  ⟨0x50280, 4, 8, [rw 15 0 0 .always .any, rw 31 16 0xFFFF .always .any], .none⟩]

/-- KA block. -/
def rowsKa : List Row := [
  -- KA_STAT (16 R476)
  ⟨0x60000, 4, 1, [ro 0 0 1, ro 1 1 0, ro 2 2 0, ro 3 3 0, ro 4 4 0], .none⟩,
  -- KA_EVT (16 R476)
  ⟨0x60004, 4, 1, [sc 0 0, sc 1 1, sc 2 2, sc 3 3, ro 31 24 0], .none⟩,
  -- KA_CFG (16 R472 R476)
  ⟨0x60008, 4, 1, [rw 20 0 0x64 .stdbySvc (.range 100 2000000), rw 24 21 3 .stdbySvc .any, rw 25 25 0 .stdbySvc .any, rw 26 26 0 .stdbySvc .any], .kaCfg⟩,
  -- KA_ADMIT (16 R476)
  ⟨0x6000C, 4, 1, [ro 12 0 0xB68], .none⟩,
  -- KA_STORE (16 R476)
  ⟨0x60010, 4, 1, [ro 12 0 0, ro 28 16 0], .none⟩,
  -- KA_DEFER (16 R476)
  ⟨0x60014, 4, 1, [ro 15 0 0, ro 31 16 0], .none⟩,
  -- KA_RTC_LO (16 R468 R476)
  ⟨0x60020, 4, 1, [rw 31 0 0 .always .rtc], .rtcLo⟩,
  -- KA_RTC_HI (16 R468 R476)
  ⟨0x60024, 4, 1, [rw 31 0 0 .always .rtc], .rtcHi⟩,
  -- KA_LREC_LO (16 R476)
  ⟨0x60028, 4, 1, [ro 31 0 0], .none⟩,
  -- KA_LREC_HI (16 R476)
  ⟨0x6002C, 4, 1, [ro 31 0 0], .none⟩,
  -- KA_RING (16 R476)
  ⟨0x60030, 4, 1, [ro 7 0 0, ro 31 8 0], .none⟩]

/-- Channel block, engine registers (offsets in the channel). -/
def rowsEng : List Row := [
  -- ENG_STAT (03 R105)
  ⟨0x2000, 4, 1, [ro 0 0 0, ro 1 1 1, ro 2 2 0, sc 16 16, sc 17 17, sc 18 18, ro 31 24 0], .none⟩,
  -- ENG_FREEZE (03 R102 R105)
  ⟨0x2004, 4, 1, [rw 15 0 0 .always .any], .none⟩,
  -- ENG_ECC (03 R105)
  ⟨0x2008, 4, 1, [ro 15 0 0, ro 21 16 0, ro 25 22 0], .none⟩,
  -- ENG_NUMERR (03 R105)
  ⟨0x200C, 4, 1, [ro 15 0 0], .none⟩]

/-- Channel block, PWM. -/
def rowsPwm : List Row := [
  -- PWM_CAR (07 R239)
  ⟨0x4000, 4, 1, [rw 1 0 1 .chOff .carShape, rw 3 2 1 .chOff .carRatio, rw 5 4 2 .chOff .carRld, ro 7 6 0], .pwmCar⟩,
  -- PWM_FORCE (07 R233 R239)
  ⟨0x4004, 4, 1, [rw 9 0 0 .always .any, rw 25 16 0 .always .any], .pwmForce⟩,
  -- PWM_FSTAT (07 R239)
  ⟨0x4008, 4, 1, [ro 9 0 0x3FF, ro 19 10 0x3FF, ro 20 20 1], .none⟩,
  -- PWM_OVR (07 R232 R239)
  ⟨0x400C, 4, 1, [rw 4 0 0 .always .any, rw 12 8 0 .always .any], .none⟩,
  -- PWM_STAT (07 R239)
  ⟨0x4010, 4, 1, [sc 9 0, sc 10 10, sc 11 11, sc 12 12, sc 13 13, ro 31 24 0], .none⟩,
  -- PWM_LATE_CNT (07 R239)
  ⟨0x4014, 4, 1, [ro 31 0 0], .none⟩,
  -- PWM_DROP_CNT (07 R239)
  ⟨0x4018, 4, 1, [ro 15 0 0, ro 31 16 0], .none⟩,
  -- PWM_MINPW (07 R239)
  ⟨0x401C, 4, 1, [rw 19 0 0x1900 .always (.range 0 64000)], .none⟩,
  -- PWM_CNT (07 R239)
  ⟨0x4020, 4, 1, [ro 31 0 0], .none⟩,
  -- PWM_CAL (07 R239)
  ⟨0x4024, 4, 1, [ro 6 0 0, ro 7 7 0, ro 31 16 0], .none⟩,
  -- PWM_SHLO (07 R222 R239)
  ⟨0x4100, 32, 10, [wo 31 0 .always .shadow], .shLo⟩,
  -- PWM_SHHI (07 R222 R239)
  ⟨0x4104, 32, 10, [wo 31 0 .always .shadowHi], .shHi⟩,
  -- PWM_ACTLO (07 R239)
  ⟨0x4108, 32, 10, [ro 31 0 0], .none⟩,
  -- PWM_ACTHI (07 R239)
  ⟨0x410C, 32, 10, [ro 31 0 0], .none⟩,
  -- PWM_DTLH (07 R227 R239)
  ⟨0x4110, 32, 10, [rw 19 0 0x6400 .always (.range 0 640000)], .none⟩,
  -- PWM_DTHL (07 R227 R239)
  ⟨0x4114, 32, 10, [rw 19 0 0x6400 .always (.range 0 640000)], .none⟩,
  -- PWM_OFS (07 R219 R239)
  ⟨0x4118, 32, 10, [rw 31 0 0 .chOff .pwmOfs], .none⟩]

/-- Channel block, gate interface. -/
def rowsGdi : List Row := [
  -- GDI_CFG (08 R269)
  ⟨0x6000, 4, 1, [rw 1 0 0 .always .pg, rw 3 2 0 .always .pg, rw 5 4 0 .always .pg], .chanCfg⟩,
  -- GDI_CTRL (08 R269)
  ⟨0x6004, 4, 1, [rw 0 0 0 .always .any, wo 8 8 .always .any], .gdiCtrl⟩,
  -- GDI_STAT (08 R269)
  ⟨0x6008, 4, 1, [ro 0 0 0, ro 1 1 0, ro 2 2 0, ro 3 3 0, ro 13 4 0, ro 23 14 0], .none⟩,
  -- GDI_EVT (08 R269)
  ⟨0x600C, 4, 1, [sc 0 0, sc 1 1, sc 2 2, sc 3 3, sc 4 4, sc 5 5, sc 6 6, sc 7 7, sc 8 8, sc 9 9, ro 31 24 0], .none⟩,
  -- GDI_SRC (08 R269)
  ⟨0x6010, 4, 1, [ro 9 0 0, ro 19 10 0, ro 20 20 0, ro 21 21 0, ro 22 22 0, ro 23 23 0, ro 24 24 0], .none⟩,
  -- GDI_IN (08 R269)
  ⟨0x6014, 4, 1, [ro 9 0 0, ro 19 10 0, ro 20 20 0, ro 21 21 0, ro 22 22 0, ro 23 23 0, ro 24 24 0], .none⟩,
  -- GDI_CLRQ (08 R269)
  ⟨0x6018, 4, 1, [rw 16 0 0x64 .always (.range 1 100000)], .none⟩,
  -- GDI_CNT (08 R269)
  ⟨0x601C, 4, 1, [ro 15 0 0, ro 31 16 0], .none⟩,
  -- GDI_ICNT (08 R269)
  ⟨0x6020, 4, 1, [ro 15 0 0, ro 31 16 0], .none⟩,
  -- GDI_CNT2 (08 R269)
  ⟨0x6024, 4, 1, [ro 15 0 0, ro 31 16 0], .none⟩,
  -- GDI_IRQ_EN (08 R268 R269)
  ⟨0x6028, 4, 1, [rw 9 0 1 .always .any], .none⟩,
  -- GDI_TRQ_N (08 R269)
  ⟨0x602C, 4, 1, [ro 3 0 0, ro 31 16 0], .none⟩,
  -- GDI_TRQ_A (08 R269)
  ⟨0x6040, 8, 8, [ro 7 0 0, ro 11 8 0, ro 28 12 0], .none⟩,
  -- GDI_TRQ_B (08 R269)
  ⟨0x6044, 8, 8, [ro 31 0 0], .none⟩,
  -- GDI_SNS (08 R254 R269)
  ⟨0x6100, 16, 10, [rw 9 0 0x3FF .always .any, rw 19 10 0x3FF .always .any, rw 21 20 2 .snsOff .l1Mode, rw 22 22 1 .snsOff .any, rw 31 24 0 .snsOff .any], .sns⟩,
  -- GDI_BLANK (08 R269)
  ⟨0x6104, 16, 10, [rw 12 0 0x320 .always (.range 0 4000)], .none⟩,
  -- GDI_CAPCFG (08 R269)
  ⟨0x6200, 16, 2, [rw 3 0 0 .always (.range 0 9), rw 4 4 0 .always .any, rw 5 5 0 .always .any, rw 9 6 0 .always (.range 0 6), rw 13 10 0 .always .any, rw 14 14 0 .always .any], .capCfg⟩,
  -- GDI_CAP (08 R269)
  ⟨0x6204, 16, 2, [ro 19 0 0xFFFFF, ro 31 20 0], .none⟩]

/-- Channel block, filters. -/
def rowsFlt : List Row := [
  -- FLT_MCLK (02 R78)
  ⟨0x8000, 4, 1, [rw 7 0 0x28 .stdbySvc .mclkDiv, rw 15 8 0 .stdbySvc .any, rw 16 16 0 .stdbySvc .any], .flt⟩,
  -- FLT_CFG (02 R78)
  ⟨0x8004, 4, 1, [rw 6 0 0x20 .stdbySvc (.range 8 64), rw 8 7 2 .stdbySvc .any, rw 19 10 0x80 .stdbySvc (.range 16 1023)], .flt⟩,
  -- FLT_STAT (02 R78)
  ⟨0x8008, 4, 1, [sc 11 0, sc 12 12, ro 31 24 0], .none⟩,
  -- FLT_LIMSTAT (02 R78)
  ⟨0x800C, 4, 1, [sc 11 0, sc 23 12, ro 31 24 0], .none⟩,
  -- FLT_VALID (02 R78)
  ⟨0x8010, 4, 1, [ro 11 0 0, ro 12 12 0], .none⟩,
  -- FLT_IN_CFG (02 R78)
  ⟨0x8100, 32, 12, [rw 0 0 0 .always .any, rw 2 1 0 .always (.range 0 2), rw 3 3 0 .always .any, rw 4 4 0 .always .any, rw 5 5 0 .always .any], .inCfg⟩,
  -- FLT_SCALE (02 R78)
  ⟨0x8104, 32, 12, [rw 31 0 0x3F800000 .always .f32any], .none⟩,
  -- FLT_OFS (02 R78)
  ⟨0x8108, 32, 12, [rw 31 0 0 .always .f32any], .none⟩,
  -- FLT_LIM (02 R78)
  ⟨0x810C, 32, 12, [rw 15 0 0x8000 .always .any, rw 31 16 0x7FFF .always .any], .none⟩,
  -- FLT_LAT (02 R78)
  ⟨0x8110, 32, 12, [ro 31 0 0], .none⟩]

/-- Channel block, metering. -/
def rowsMeter : List Row := [
  -- METER_CFG (09 R296)
  ⟨0xA000, 4, 1, [rw 1 0 0 .stdbySvc .any, rw 2 2 0 .stdbySvc .any, rw 4 4 0 .always .any, rw 6 5 0 .always .any], .meterCfg⟩,
  -- METER_MAP (09 R271 R296)
  ⟨0xA004, 4, 1, [rw 3 0 3 .stdbySvc .meterMap, rw 7 4 4 .stdbySvc .meterMap, rw 11 8 5 .stdbySvc .meterMap, rw 15 12 0 .stdbySvc .meterMap, rw 19 16 1 .stdbySvc .meterMap, rw 23 20 2 .stdbySvc .meterMap, rw 27 24 0xF .stdbySvc .meterMap], .meterCfg⟩,
  -- METER_STAT (09 R296)
  ⟨0xA008, 4, 1, [ro 0 0 0, ro 1 1 0, ro 2 2 0, ro 5 3 7, ro 6 6 0, ro 7 7 0, ro 8 8 0, ro 9 9 1], .none⟩,
  -- METER_EVT (09 R296)
  ⟨0xA00C, 4, 1, [sc 0 0, sc 1 1, sc 2 2, sc 3 3, ro 31 24 0], .none⟩,
  -- METER_TARIFF (09 R278 R296)
  ⟨0xA010, 4, 1, [rw 3 0 0 .stdbySvc (.range 0 11), rw 7 4 1 .stdbySvc (.range 0 11), rw 11 8 0 .stdbySvc (.range 0 11), rw 15 12 1 .stdbySvc (.range 0 11), rw 19 16 0 .always .any], .meterTariff⟩,
  -- METER_INTV (09 R296)
  ⟨0xA014, 4, 1, [ro 15 0 0, ro 31 16 0], .none⟩,
  -- METER_MARK_T (09 R296)
  ⟨0xA018, 4, 1, [ro 31 0 0], .none⟩,
  -- METER_CTRL (09 R280 R296)
  ⟨0xA01C, 4, 1, [wo 0 0 .always .any], .calSave⟩,
  -- METER_IN (09 R298)
  ⟨0xA020, 4, 1, [rw 31 0 0x3F800000 .stdbySvc (.f32 0x3A83126F 0x49742400)], .none⟩,
  -- METER_VN (09 R298)
  ⟨0xA024, 4, 1, [rw 31 0 0x3F800000 .stdbySvc (.f32 0x3F800000 0x49742400)], .none⟩,
  -- METER_NL (09 R298)
  ⟨0xA028, 4, 1, [rw 31 0 0x39D1B717 .stdbySvc (.f32 0x38D1B717 0x3A03126F)], .none⟩,
  -- METER_NEU_TH (09 R298)
  ⟨0xA02C, 4, 1, [rw 31 0 0x3DCCCCCD .stdbySvc (.f32 0x3C23D70A 0x3F000000)], .none⟩,
  -- CAL_VGAIN (09 R298)
  ⟨0xA040, 32, 4, [rw 31 0 0x3F800000 .svc (.f32 0x3A83126F 0x4B189680)], .cal⟩,
  -- CAL_VOFS (09 R298)
  ⟨0xA044, 32, 4, [rw 31 0 0 .svc (.f32 0xBDCCCCCD 0x3DCCCCCD)], .cal⟩,
  -- CAL_IGAIN (09 R298)
  ⟨0xA048, 32, 4, [rw 31 0 0x3F800000 .svc (.f32 0x3A83126F 0x4B189680)], .cal⟩,
  -- CAL_IOFS (09 R298)
  ⟨0xA04C, 32, 4, [rw 31 0 0 .svc (.f32 0xBDCCCCCD 0x3DCCCCCD)], .cal⟩,
  -- CAL_PHDLY (09 R298)
  ⟨0xA050, 32, 4, [rw 15 0 0 .svc (.srange16 500)], .cal⟩,
  -- CAL_POFS (09 R298)
  ⟨0xA054, 32, 4, [rw 31 0 0 .svc (.f32 0xC61C4000 0x461C4000)], .cal⟩,
  -- METER_WIN (09 R297)
  ⟨0xA100, 4, 32, [ro 31 0 0], .none⟩,
  -- METER_ACC_LO (09 R277 R302)
  ⟨0xA200, 8, 16, [ro 31 0 0], .none⟩,
  -- METER_ACC_HI (09 R277 R302)
  ⟨0xA204, 8, 16, [ro 31 0 0], .none⟩,
  -- METER_MKE_LO (09 R275 R296)
  ⟨0xA280, 4, 1, [ro 31 0 0], .none⟩,
  -- METER_MKE_HI (09 R275 R296)
  ⟨0xA284, 4, 1, [ro 31 0 0], .none⟩,
  -- METER_WRAP (10 R320)
  ⟨0xA2C0, 4, 8, [ro 15 0 0, ro 31 16 0], .none⟩,
  -- HARM_SEL (09 R296)
  ⟨0xA300, 4, 1, [rw 2 0 0 .always .any, rw 4 3 0 .always (.range 0 2)], .harmSel⟩,
  -- HARM_DATA (09 R296)
  ⟨0xA400, 4, 101, [ro 31 0 0], .none⟩,
  -- HARM_DATA_I (09 R296)
  ⟨0xA600, 4, 101, [ro 31 0 0], .none⟩,
  -- SUPRA (09 R296)
  ⟨0xA800, 4, 74, [ro 31 0 0], .none⟩]

/-- Channel block, role sub-unit to the chopper. -/
def rowsRoleA : List Row := [
  -- ROLE_SEL (04 R107 R139)
  ⟨0xC000, 4, 1, [rw 2 0 0 .roleOk (.range 0 4)], .role⟩,
  -- ROLE_STAT (04 R139)
  ⟨0xC004, 4, 1, [ro 2 0 0], .none⟩,
  -- GRID_CFG (04 R140)
  ⟨0xC100, 4, 1, [rw 0 0 0 .chOff .any, rw 1 1 0 .chOff .any, rw 2 2 0 .chOff .any, rw 4 4 0 .chOff .any, rw 5 5 0 .chOff .any, rw 6 6 0 .chOff .any], .chanCfg⟩,
  -- GRID_CTRL (04 R140)
  ⟨0xC104, 4, 1, [rw 0 0 0 .always .any, wo 8 8 .always .any, wo 9 9 .always .any, wo 10 10 .always .any], .gridCtrl⟩,
  -- GRID_STAT (04 R140)
  ⟨0xC108, 4, 1, [ro 1 0 0, ro 2 2 0, ro 3 3 0, ro 4 4 0, ro 5 5 0, ro 6 6 0, ro 7 7 0, ro 11 8 0, ro 23 16 0], .none⟩,
  -- GRID_EVT (04 R140)
  ⟨0xC10C, 4, 1, [sc 0 0, sc 1 1, sc 2 2, sc 3 3, sc 4 4, sc 5 5, ro 31 24 0], .none⟩,
  -- GRID_XCNT (04 R140)
  ⟨0xC110, 4, 1, [ro 15 0 0, ro 31 16 0], .none⟩,
  -- GRID_FNOM (04 R141)
  ⟨0xC200, 4, 1, [rw 31 0 0x42480000 .chOff .fnom], .gridFnom⟩,
  -- GRID_PCC_ANG (04 R141)
  ⟨0xC204, 4, 1, [rw 31 0 0 .always (.f32 0xC0490FF9 0x40490FF9)], .none⟩,
  -- GRID_VWIN_LO (04 R141)
  ⟨0xC208, 4, 1, [rw 31 0 0x3F666666 .always (.f32 0x3F000000 0x3F800000)], .none⟩,
  -- GRID_VWIN_HI (04 R141)
  ⟨0xC20C, 4, 1, [rw 31 0 0x3F8CCCCD .always (.f32 0x3F800000 0x3FA66666)], .none⟩,
  -- GRID_FWIN_LO (04 R141)
  ⟨0xC210, 4, 1, [rw 31 0 0x3F7D70A4 .always (.f32 0x3F666666 0x3F800000)], .none⟩,
  -- GRID_FWIN_HI (04 R141)
  ⟨0xC214, 4, 1, [rw 31 0 0x3F8147AE .always (.f32 0x3F800000 0x3F8CCCCD)], .none⟩,
  -- GRID_UNBAL_MAX (04 R141)
  ⟨0xC218, 4, 1, [rw 31 0 0x3D4CCCCD .always (.f32 0x3C23D70A 0x3E99999A)], .none⟩,
  -- GRID_NEU_MAX (04 R141)
  ⟨0xC21C, 4, 1, [rw 31 0 0x3DCCCCCD .always (.f32 0x3CA3D70A 0x3F000000)], .none⟩,
  -- GRID_DEAD_V (04 R141)
  ⟨0xC220, 4, 1, [rw 31 0 0x3E4CCCCD .always (.f32 0x3D4CCCCD 0x3F000000)], .none⟩,
  -- GRID_VDC_MIN (04 R141)
  ⟨0xC224, 4, 1, [rw 31 0 0x3FEE147B .always (.f32 0x3F800000 0x40800000)], .none⟩,
  -- GRID_T_QUAL (04 R141)
  ⟨0xC228, 4, 1, [rw 31 0 0x3DCCCCCD .always (.f32 0x3CA3D70A 0x41200000)], .none⟩,
  -- GRID_T_SYNC (04 R141)
  ⟨0xC22C, 4, 1, [rw 31 0 0x41200000 .always (.f32 0x3F800000 0x44160000)], .none⟩,
  -- GRID_T_PC (04 R141)
  ⟨0xC230, 4, 1, [rw 31 0 0x40A00000 .always (.f32 0x3DCCCCCD 0x44160000)], .none⟩,
  -- GRID_T_KM (04 R141)
  ⟨0xC234, 4, 1, [rw 31 0 0x3DCCCCCD .always (.f32 0x3BA3D70A 0x3F800000)], .none⟩,
  -- GRID_KM_VTOL (04 R141)
  ⟨0xC238, 4, 1, [rw 31 0 0x3D4CCCCD .always (.f32 0x3C23D70A 0x3E4CCCCD)], .none⟩,
  -- GRID_KM_ATOL (04 R141)
  ⟨0xC23C, 4, 1, [rw 31 0 0x3D0F5C29 .always (.f32 0x3BA3D70A 0x3E4CCCCD)], .none⟩,
  -- GRID_T_BLACK (04 R141)
  ⟨0xC240, 4, 1, [rw 31 0 0x3F800000 .always (.f32 0x3D4CCCCD 0x41200000)], .none⟩,
  -- GRID_T_STOP (04 R141)
  ⟨0xC244, 4, 1, [rw 31 0 0x3DCCCCCD .always (.f32 0x3C23D70A 0x41200000)], .none⟩,
  -- GRID_IMAX_F (04 R141)
  ⟨0xC248, 4, 1, [rw 31 0 0x3F8CCCCD .always (.f32 0x3DCCCCCD 0x40000000)], .none⟩,
  -- GRID_LF (04 R141)
  ⟨0xC24C, 4, 1, [rw 31 0 0x3DCCCCCD .always (.f32 0x00000000 0x3F000000)], .none⟩,
  -- GRID_NP_K (04 R141)
  ⟨0xC250, 4, 1, [rw 31 0 0x3F000000 .always (.f32 0x00000000 0x40A00000)], .none⟩,
  -- GRID_NP_MAX (04 R141)
  ⟨0xC254, 4, 1, [rw 31 0 0x3DCCCCCD .always (.f32 0x00000000 0x3E99999A)], .none⟩,
  -- GRID_RV (04 R141)
  ⟨0xC258, 4, 1, [rw 31 0 0x3CA3D70A .always (.f32 0x00000000 0x3F000000)], .none⟩,
  -- GRID_XV (04 R141)
  ⟨0xC25C, 4, 1, [rw 31 0 0x3E19999A .always (.f32 0x3C23D70A 0x3F800000)], .none⟩,
  -- GRID_IVI (04 R141)
  ⟨0xC260, 4, 1, [rw 31 0 0x3F800000 .always (.f32 0x3F000000 0x40000000)], .none⟩,
  -- GRID_KVI (04 R141)
  ⟨0xC264, 4, 1, [rw 31 0 0x3F800000 .always (.f32 0x00000000 0x41200000)], .none⟩,
  -- GRID_KMAX (04 R141)
  ⟨0xC268, 4, 1, [rw 31 0 0x40400000 .always (.f32 0x3F800000 0x41200000)], .none⟩,
  -- GRID_ILIM_CL (04 R141)
  ⟨0xC26C, 4, 1, [rw 31 0 0x3F99999A .always (.f32 0x3F000000 0x40000000)], .none⟩,
  -- GRID_VRET (04 R141)
  ⟨0xC270, 4, 1, [rw 31 0 0x3F666666 .always (.f32 0x3F000000 0x3F800000)], .none⟩,
  -- GRID_T_RET (04 R141)
  ⟨0xC274, 4, 1, [rw 31 0 0x3CA3D70A .always (.f32 0x3BA3D70A 0x3F800000)], .none⟩,
  -- RIDE_CH_CFG (05 R179)
  ⟨0xC300, 4, 1, [rw 1 0 0 .always (.range 0 2), rw 2 2 0 .always .any], .none⟩,
  -- RIDE_CH_STAT (05 R179)
  ⟨0xC304, 4, 1, [ro 0 0 0, ro 1 1 0, ro 2 2 0, ro 3 3 0, sc 16 16, sc 17 17, ro 31 24 0], .none⟩,
  -- RIDE_K1 (05 R179)
  ⟨0xC310, 4, 1, [rw 31 0 0x40000000 .always (.f32 0x00000000 0x41200000)], .none⟩,
  -- RIDE_K2 (05 R179)
  ⟨0xC314, 4, 1, [rw 31 0 0 .always (.f32 0x00000000 0x41200000)], .none⟩,
  -- RIDE_PHI2 (05 R179)
  ⟨0xC318, 4, 1, [rw 31 0 0x3FC90FF9 .always (.f32 0x00000000 0x40490FF9)], .none⟩,
  -- RIDE_DB (05 R179)
  ⟨0xC31C, 4, 1, [rw 31 0 0 .always (.f32 0x00000000 0x3E4CCCCD)], .none⟩,
  -- RIDE_IMAX (05 R179)
  ⟨0xC320, 4, 1, [rw 31 0 0x3F8CCCCD .always (.f32 0x3F000000 0x40000000)], .none⟩,
  -- RIDE_W (05 R179)
  ⟨0xC324, 4, 1, [rw 31 0 0x3F800000 .always (.f32 0x00000000 0x3F800000)], .none⟩,
  -- RIDE_P_REC (05 R179)
  ⟨0xC328, 4, 1, [rw 31 0 0x40000000 .always (.f32 0x3DCCCCCD 0x42C80000)], .none⟩,
  -- RIDE_Q_REC (05 R179)
  ⟨0xC32C, 4, 1, [rw 31 0 0x41200000 .always (.f32 0x3DCCCCCD 0x42C80000)], .none⟩,
  -- CHOP_CFG (05 R179)
  ⟨0xC400, 4, 1, [rw 1 0 0 .always .chopMode, rw 5 2 6 .always (.range 0 11)], .chopV⟩,
  -- CHOP_STAT (05 R179)
  ⟨0xC404, 4, 1, [ro 0 0 0, ro 1 1 0, ro 2 2 0, sc 16 16, sc 17 17, ro 31 24 0], .none⟩,
  -- CHOP_I2T (05 R179)
  ⟨0xC408, 4, 1, [ro 31 0 0], .none⟩,
  -- CHOP_VON (05 R179)
  ⟨0xC410, 4, 1, [rw 31 0 0x4019999A .always .f32any], .chopV⟩,
  -- CHOP_VOFF (05 R179)
  ⟨0xC414, 4, 1, [rw 31 0 0x40133333 .always .f32any], .chopV⟩,
  -- CHOP_TMIN (05 R179)
  ⟨0xC418, 4, 1, [rw 31 0 0x36A7C5AC .always (.f32 0x358637BD 0x3A83126F)], .none⟩,
  -- CHOP_GAIN (05 R179)
  ⟨0xC41C, 4, 1, [rw 31 0 0 .always .chopGain], .none⟩,
  -- CHOP_I2T_MAX (05 R179)
  ⟨0xC420, 4, 1, [rw 31 0 0 .always .chopMax], .none⟩,
  -- CHOP_I2T_REL (05 R179)
  ⟨0xC424, 4, 1, [rw 31 0 0 .always .chopRel], .none⟩,
  -- CHOP_TAU (05 R179)
  ⟨0xC428, 4, 1, [rw 31 0 0x41200000 .always (.f32 0x3DCCCCCD 0x45610000)], .none⟩]

/-- Channel block, DC, machine and bootstrap. -/
def rowsRoleB : List Row := [
  -- DC_CFG (06 R210)
  ⟨0xC500, 4, 1, [rw 2 0 1 .chOff (.range 1 4), rw 4 3 0 .chOff (.range 0 2), rw 6 5 1 .chOff .any, rw 7 7 0 .chOff .any, rw 14 8 0x20 .chOff (.range 8 64), rw 15 15 0 .chOff .any], .dcCfg⟩,
  -- DC_CTRL (06 R210)
  ⟨0xC504, 4, 1, [wo 8 8 .always .any, wo 9 9 .always .any, wo 10 10 .always .any], .dcCtrl⟩,
  -- DC_STAT (06 R210)
  ⟨0xC508, 4, 1, [ro 0 0 0, ro 1 1 0, ro 2 2 0, ro 3 3 0, ro 4 4 0, ro 5 5 0, ro 6 6 0, ro 11 8 0], .none⟩,
  -- DC_EVT (06 R210)
  ⟨0xC50C, 4, 1, [sc 0 0, sc 1 1, sc 2 2, sc 3 3, sc 4 4, sc 5 5, sc 6 6, ro 31 24 0], .none⟩,
  -- DC_MPPT_V (06 R210)
  ⟨0xC510, 4, 1, [ro 31 0 0], .none⟩,
  -- DC_SCAN_V (06 R210)
  ⟨0xC514, 4, 1, [ro 31 0 0], .none⟩,
  -- DC_CCM_CNT (06 R210)
  ⟨0xC518, 4, 1, [ro 31 0 0], .none⟩,
  -- DC_VLINK_MIN (06 R211)
  ⟨0xC600, 4, 1, [rw 31 0 0 .always (.f32 0x00000000 0x7F7FFFFF)], .none⟩,
  -- DC_VSRC_LO (06 R211)
  ⟨0xC604, 4, 1, [rw 31 0 0 .always (.f32 0x00000000 0x7F7FFFFF)], .none⟩,
  -- DC_VSRC_HI (06 R211)
  ⟨0xC608, 4, 1, [rw 31 0 0 .always (.f32 0x00000000 0x7F7FFFFF)], .none⟩,
  -- DC_RATIO_MAX (06 R211)
  ⟨0xC60C, 4, 1, [rw 31 0 0x3F733333 .always (.f32 0x3F000000 0x3F7AE148)], .none⟩,
  -- DC_KM_VTOL (06 R211)
  ⟨0xC610, 4, 1, [rw 31 0 0x3CA3D70A .always (.f32 0x3BA3D70A 0x3E4CCCCD)], .none⟩,
  -- DC_T_QUAL (06 R211)
  ⟨0xC614, 4, 1, [rw 31 0 0x3DCCCCCD .always (.f32 0x3CA3D70A 0x41200000)], .none⟩,
  -- DC_T_PC (06 R211)
  ⟨0xC618, 4, 1, [rw 31 0 0x40A00000 .always (.f32 0x3DCCCCCD 0x44160000)], .none⟩,
  -- DC_T_KM (06 R211)
  ⟨0xC61C, 4, 1, [rw 31 0 0x3DCCCCCD .always (.f32 0x3BA3D70A 0x3F800000)], .none⟩,
  -- DC_T_SYNC (06 R211)
  ⟨0xC620, 4, 1, [rw 31 0 0x41200000 .always (.f32 0x3F800000 0x44160000)], .none⟩,
  -- DC_T_STOP (06 R211)
  ⟨0xC624, 4, 1, [rw 31 0 0x3DCCCCCD .always (.f32 0x3C23D70A 0x41200000)], .none⟩,
  -- DC_I_END (06 R211)
  ⟨0xC628, 4, 1, [rw 31 0 0 .always (.f32 0x00000000 0x7F7FFFFF)], .none⟩,
  -- DC_T_END (06 R211)
  ⟨0xC62C, 4, 1, [rw 31 0 0x42700000 .always (.f32 0x3DCCCCCD 0x45610000)], .none⟩,
  -- DC_V_RECHG (06 R211)
  ⟨0xC630, 4, 1, [rw 31 0 0 .always (.f32 0x00000000 0x7F7FFFFF)], .none⟩,
  -- DC_V_REDIS (06 R211)
  ⟨0xC634, 4, 1, [rw 31 0 0 .always (.f32 0x00000000 0x7F7FFFFF)], .none⟩,
  -- DC_ZC_TH (06 R211)
  ⟨0xC638, 4, 1, [rw 31 0 0 .always (.f32 0x00000000 0x7F7FFFFF)], .none⟩,
  -- DC_VP_TMIN (06 R211)
  ⟨0xC63C, 4, 1, [rw 31 0 0x36A7C5AC .always (.f32 0x360637BD 0x3A83126F)], .none⟩,
  -- DC_VP_TMAX (06 R211)
  ⟨0xC640, 4, 1, [rw 31 0 0x38D1B717 .always (.f32 0x360637BD 0x3A83126F)], .none⟩,
  -- DC_MPPT_T (06 R211)
  ⟨0xC644, 4, 1, [rw 31 0 0x3D4CCCCD .always (.f32 0x3A83126F 0x3F800000)], .none⟩,
  -- DC_STEP_MIN (06 R211)
  ⟨0xC648, 4, 1, [rw 31 0 0 .always (.f32 0x00000000 0x7F7FFFFF)], .none⟩,
  -- DC_STEP_MAX (06 R211)
  ⟨0xC64C, 4, 1, [rw 31 0 0 .always (.f32 0x00000000 0x7F7FFFFF)], .none⟩,
  -- DC_KSTEP (06 R211)
  ⟨0xC650, 4, 1, [rw 31 0 0 .always (.f32 0x00000000 0x7F7FFFFF)], .none⟩,
  -- DC_V_MPP_LO (06 R211)
  ⟨0xC654, 4, 1, [rw 31 0 0 .always (.f32 0x00000000 0x7F7FFFFF)], .none⟩,
  -- DC_V_MPP_HI (06 R211)
  ⟨0xC658, 4, 1, [rw 31 0 0 .always (.f32 0x00000000 0x7F7FFFFF)], .none⟩,
  -- DC_P_MAX (06 R211)
  ⟨0xC65C, 4, 1, [rw 31 0 0 .always (.f32 0x00000000 0x7F7FFFFF)], .none⟩,
  -- DC_SCAN_T (06 R211)
  ⟨0xC660, 4, 1, [rw 31 0 0x41200000 .always (.f32zor 0x3F800000 0x42700000)], .none⟩,
  -- DC_SCAN_DWELL (06 R211)
  ⟨0xC664, 4, 1, [rw 31 0 0x3CA3D70A .always (.f32 0x3BA3D70A 0x3F000000)], .none⟩,
  -- MACH_CFG (06 R212)
  ⟨0xC700, 4, 1, [rw 0 0 0 .chOff .any, rw 1 1 0 .chOff .any, rw 3 2 1 .chOff .any], .machCfg⟩,
  -- MACH_CTRL (06 R212)
  ⟨0xC704, 4, 1, [wo 8 8 .always .any, wo 9 9 .always .any], .machCtrl⟩,
  -- MACH_STAT (06 R212)
  ⟨0xC708, 4, 1, [ro 0 0 0, ro 1 1 0, ro 2 2 0, ro 3 3 0, ro 11 8 0], .none⟩,
  -- MACH_EVT (06 R212)
  ⟨0xC70C, 4, 1, [sc 0 0, sc 1 1, sc 2 2, sc 3 3, ro 31 24 0], .none⟩,
  -- MACH_SHIFT_CNT (06 R212)
  ⟨0xC710, 4, 1, [ro 15 0 0, ro 31 16 0], .none⟩,
  -- MACH_W_NOM (06 R213)
  ⟨0xC740, 4, 1, [rw 31 0 0x439D147B .always (.f32 0x41200000 0x461C4000)], .none⟩,
  -- MACH_VLINK_MIN (06 R213)
  ⟨0xC744, 4, 1, [rw 31 0 0x3F800000 .always (.f32 0x00000000 0x40800000)], .none⟩,
  -- MACH_IMAX (06 R213)
  ⟨0xC748, 4, 1, [rw 31 0 0x3F800000 .always (.f32 0x3DCCCCCD 0x40000000)], .none⟩,
  -- MACH_ID_MIN (06 R213)
  ⟨0xC74C, 4, 1, [rw 31 0 0xBF000000 .always (.f32 0xC0000000 0x00000000)], .none⟩,
  -- MACH_M_FW (06 R213)
  ⟨0xC750, 4, 1, [rw 31 0 0x3F733333 .always (.f32 0x3F000000 0x3F800000)], .none⟩,
  -- MACH_LD (06 R213)
  ⟨0xC754, 4, 1, [rw 31 0 0x3E99999A .always (.f32 0x3C23D70A 0x40000000)], .none⟩,
  -- MACH_LQ (06 R213)
  ⟨0xC758, 4, 1, [rw 31 0 0x3E99999A .always (.f32 0x3C23D70A 0x40000000)], .none⟩,
  -- MACH_PSI (06 R213)
  ⟨0xC75C, 4, 1, [rw 31 0 0x3F800000 .always (.f32 0x3DCCCCCD 0x40000000)], .none⟩,
  -- MACH_REV_TH (06 R213)
  ⟨0xC760, 4, 1, [rw 31 0 0x3D4CCCCD .always (.f32 0x00000000 0x3F000000)], .none⟩,
  -- MACH_SAMPLE_MIN (06 R213)
  ⟨0xC764, 4, 1, [rw 31 0 0x360637BD .always (.f32 0x350637BD 0x3727C5AC)], .none⟩,
  -- MACH_SH_DLY (06 R213)
  ⟨0xC768, 4, 1, [rw 31 0 0 .always (.f32 0x00000000 0x36A7C5AC)], .none⟩,
  -- MACH_POS_OFS (06 R213)
  ⟨0xC76C, 4, 1, [rw 31 0 0 .always (.f32 0xC0490FF9 0x40490FF9)], .none⟩,
  -- MACH_I_START (06 R213)
  ⟨0xC770, 4, 1, [rw 31 0 0x3E99999A .always (.f32 0x3D4CCCCD 0x3F800000)], .none⟩,
  -- MACH_T_ALIGN (06 R213)
  ⟨0xC774, 4, 1, [rw 31 0 0x3F000000 .always (.f32 0x3C23D70A 0x41200000)], .none⟩,
  -- MACH_A_START (06 R213)
  ⟨0xC778, 4, 1, [rw 31 0 0x3F000000 .always (.f32 0x3C23D70A 0x41200000)], .none⟩,
  -- MACH_W_HO (06 R213)
  ⟨0xC77C, 4, 1, [rw 31 0 0x3DCCCCCD .always (.f32 0x3CA3D70A 0x3F000000)], .none⟩,
  -- MACH_T_HO (06 R213)
  ⟨0xC780, 4, 1, [rw 31 0 0x40000000 .always (.f32 0x3DCCCCCD 0x41200000)], .none⟩,
  -- BOOT_CFG (06 R214)
  ⟨0xC800, 4, 1, [rw 9 0 0 .chOff .any, rw 17 10 0x10 .chOff .any, rw 18 18 1 .chOff .any], .bootCfg⟩,
  -- BOOT_STAT (06 R214)
  ⟨0xC804, 4, 1, [ro 9 0 0, ro 19 10 0], .none⟩,
  -- BOOT_EVT (06 R214)
  ⟨0xC808, 4, 1, [sc 0 0, sc 1 1, ro 31 24 0], .none⟩,
  -- BOOT_TIM (06 R214)
  ⟨0xC80C, 4, 1, [rw 15 0 0x320 .always (.range 80 16000)], .none⟩,
  -- BOOT_CNT (06 R214)
  ⟨0xC810, 4, 1, [ro 15 0 0, ro 31 16 0], .none⟩]

/-- The rows a global block holds, by block number. -/
def globalRows (a : Nat) : List Row :=
  if a < 0x800 then rowsSysA else if a < 0xC00 then rowsRide else if a < 0x10000 then rowsClk
  else if a < 0x20000 then rowsHost else if a < 0x30000 then rowsSafe else if a < 0x40000 then rowsHealth
  else if a < 0x42000 then rowsPccMeter else if a < 0x50000 then rowsPcc else if a < 0x60000 then rowsSurv else rowsKa

/-- The rows of the sub-unit of a channel that holds offset `o`. -/
def channelRows (o : Nat) : List Row :=
  if o < 0x4000 then rowsEng else if o < 0x6000 then rowsPwm else if o < 0x8000 then rowsGdi
  else if o < 0xA000 then rowsFlt else if o < 0xC000 then rowsMeter else if o < 0xC500 then rowsRoleA else rowsRoleB

/-- Status registers of the device range: address, SC bits, number of the first source (R365). -/
def srcDev : List (Nat × Nat × Nat) := [
  (0x1C, 0x3F, 64), (0x118, 0x3F, 70), (0x204, 0xFF00, 76), (0x304, 0xF0000, 84), (0x604, 0xF0000, 88),
  (0xC08, 0x7F, 92), (0xE04, 0xF, 99), (0x10084, 0x30000, 103), (0x20004, 0xFF, 105), (0x30004, 0xFF, 113),
  (0x50004, 0x3F, 121), (0x60004, 0xF, 127)]

/-- Status registers of a channel block: offset, SC bits, first source beyond 256 + 128 n (R365). -/
def srcCh : List (Nat × Nat × Nat) := [
  (0xC, 0x30000, 0), (0x10C, 0x30000, 2), (0x20C, 0x30000, 4), (0x30C, 0x30000, 6), (0x40C, 0x30000, 8),
  (0x50C, 0x30000, 10), (0x60C, 0x30000, 12), (0x70C, 0x30000, 14), (0x80C, 0x30000, 16), (0x90C, 0x30000, 18),
  (0xA0C, 0x30000, 20), (0xB0C, 0x30000, 22), (0xC0C, 0x30000, 24), (0xD0C, 0x30000, 26), (0xE0C, 0x30000, 28),
  (0xF0C, 0x30000, 30), (0x2000, 0x70000, 32), (0x4010, 0x3FFF, 35), (0x600C, 0x3FF, 49), (0x8008, 0x1FFF, 59),
  (0x800C, 0xFFFFFF, 72), (0xA00C, 0xF, 96), (0xC10C, 0x3F, 100), (0xC304, 0x30000, 106), (0xC404, 0x30000, 108),
  (0xC50C, 0x7F, 110), (0xC70C, 0xF, 117), (0xC808, 3, 121)]

/-- Status registers of the PCC range (R365). -/
def srcPcc : List (Nat × Nat × Nat) := [
  (0x4000C, 0xF, 1280), (0x4200C, 0x10000, 1284), (0x4202C, 0x10000, 1285), (0x4204C, 0x10000, 1286), (0x4206C, 0x10000, 1287),
  (0x42808, 0x3F, 1288), (0x43004, 0xFFFF, 1294)]

end Sys2Proof.Machine
end

