-- ==== Sys2Proof/Machine/RegNames.lean ====
section
/-! DEFINITION. The addresses (`A.`) and fields (`F.`) of the registers that the meanings read and write, named as the
spec names them. `c` is a channel, `p` a metering point (8 is the PCC), `b` a ride bank, `i` an index. -/

namespace Sys2Proof.Machine

/-- A field of a register: canonical address and bits. -/
structure Fld where
  addr : Nat
  hi : Nat
  lo : Nat
  deriving DecidableEq, Repr

/-- Base address of a channel block (15 R431). -/
def chBase (c : Nat) : Nat := 0x100000 + 0x10000 * c
/-- Base address of a metering point (09 R296): a channel's metering sub-unit, or the PCC block. -/
def ptBase (p : Nat) : Nat := if p < 8 then 0x10A000 + 0x10000 * p else 0x40000
/-- Address of word `w` of context `k` of channel `c` (03 R85). -/
def ctxAddr (c k w : Nat) : Nat := chBase c + 0x100 * k + 4 * w

def A.BOOT_CFG (c : Nat) : Nat := chBase c + 0xC800
def A.BOOT_CNT (c : Nat) : Nat := chBase c + 0xC810
def A.BOOT_EVT (c : Nat) : Nat := chBase c + 0xC808
def A.BOOT_STAT (c : Nat) : Nat := chBase c + 0xC804
def A.BOOT_TIM (c : Nat) : Nat := chBase c + 0xC80C
def A.CAL_VGAIN (p : Nat) (i : Nat) : Nat := ptBase p + 0x40 + 0x20 * i
def A.CHOP_CFG (c : Nat) : Nat := chBase c + 0xC400
def A.CHOP_GAIN (c : Nat) : Nat := chBase c + 0xC41C
def A.CHOP_I2T (c : Nat) : Nat := chBase c + 0xC408
def A.CHOP_I2T_MAX (c : Nat) : Nat := chBase c + 0xC420
def A.CHOP_I2T_REL (c : Nat) : Nat := chBase c + 0xC424
def A.CHOP_STAT (c : Nat) : Nat := chBase c + 0xC404
def A.CHOP_TAU (c : Nat) : Nat := chBase c + 0xC428
def A.CHOP_TMIN (c : Nat) : Nat := chBase c + 0xC418
def A.CHOP_VOFF (c : Nat) : Nat := chBase c + 0xC414
def A.CHOP_VON (c : Nat) : Nat := chBase c + 0xC410
def A.CLK_BAND_TBLA (i : Nat) : Nat := 0xC40 + 4 * i
def A.CLK_BAND_TBLB (i : Nat) : Nat := 0xC80 + 4 * i
def A.CLK_CFG : Nat := 0xC00
def A.CLK_CNT : Nat := 0xC0C
def A.CLK_EVT : Nat := 0xC08
def A.CLK_STAT : Nat := 0xC04
def A.DC_CCM_CNT (c : Nat) : Nat := chBase c + 0xC518
def A.DC_CFG (c : Nat) : Nat := chBase c + 0xC500
def A.DC_EVT (c : Nat) : Nat := chBase c + 0xC50C
def A.DC_I_END (c : Nat) : Nat := chBase c + 0xC628
def A.DC_KM_VTOL (c : Nat) : Nat := chBase c + 0xC610
def A.DC_KSTEP (c : Nat) : Nat := chBase c + 0xC650
def A.DC_MPPT_T (c : Nat) : Nat := chBase c + 0xC644
def A.DC_MPPT_V (c : Nat) : Nat := chBase c + 0xC510
def A.DC_P_MAX (c : Nat) : Nat := chBase c + 0xC65C
def A.DC_RATIO_MAX (c : Nat) : Nat := chBase c + 0xC60C
def A.DC_SCAN_DWELL (c : Nat) : Nat := chBase c + 0xC664
def A.DC_SCAN_T (c : Nat) : Nat := chBase c + 0xC660
def A.DC_SCAN_V (c : Nat) : Nat := chBase c + 0xC514
def A.DC_STAT (c : Nat) : Nat := chBase c + 0xC508
def A.DC_STEP_MAX (c : Nat) : Nat := chBase c + 0xC64C
def A.DC_STEP_MIN (c : Nat) : Nat := chBase c + 0xC648
def A.DC_T_END (c : Nat) : Nat := chBase c + 0xC62C
def A.DC_T_KM (c : Nat) : Nat := chBase c + 0xC61C
def A.DC_T_PC (c : Nat) : Nat := chBase c + 0xC618
def A.DC_T_QUAL (c : Nat) : Nat := chBase c + 0xC614
def A.DC_T_STOP (c : Nat) : Nat := chBase c + 0xC624
def A.DC_T_SYNC (c : Nat) : Nat := chBase c + 0xC620
def A.DC_VLINK_MIN (c : Nat) : Nat := chBase c + 0xC600
def A.DC_VP_TMAX (c : Nat) : Nat := chBase c + 0xC640
def A.DC_VP_TMIN (c : Nat) : Nat := chBase c + 0xC63C
def A.DC_VSRC_HI (c : Nat) : Nat := chBase c + 0xC608
def A.DC_VSRC_LO (c : Nat) : Nat := chBase c + 0xC604
def A.DC_V_MPP_HI (c : Nat) : Nat := chBase c + 0xC658
def A.DC_V_MPP_LO (c : Nat) : Nat := chBase c + 0xC654
def A.DC_V_RECHG (c : Nat) : Nat := chBase c + 0xC630
def A.DC_V_REDIS (c : Nat) : Nat := chBase c + 0xC634
def A.DIV_ACTIVEA : Nat := 0xC18
def A.DIV_ACTIVEB : Nat := 0xC1C
def A.DIV_COMMIT : Nat := 0xC20
def A.DIV_SHADOWA : Nat := 0xC10
def A.DIV_SHADOWB : Nat := 0xC14
def A.ENG_ECC (c : Nat) : Nat := chBase c + 0x2008
def A.ENG_FREEZE (c : Nat) : Nat := chBase c + 0x2004
def A.ENG_NUMERR (c : Nat) : Nat := chBase c + 0x200C
def A.ENG_STAT (c : Nat) : Nat := chBase c + 0x2000
def A.EPUL_CFG (i : Nat) : Nat := 0x42000 + 0x20 * i
def A.EPUL_CNT (i : Nat) : Nat := 0x42008 + 0x20 * i
def A.EPUL_K (i : Nat) : Nat := 0x42004 + 0x20 * i
def A.EPUL_PEND (i : Nat) : Nat := 0x42018 + 0x20 * i
def A.EPUL_RES_LO (i : Nat) : Nat := 0x42010 + 0x20 * i
def A.EPUL_STAT (i : Nat) : Nat := 0x4200C + 0x20 * i
def A.ER_CFG : Nat := 0x42800
def A.ER_CNT : Nat := 0x42820
def A.ER_EVT : Nat := 0x42808
def A.ER_HEAD (i : Nat) : Nat := 0x42880 + 4 * i
def A.ER_HSEQ_LO : Nat := 0x42810
def A.ER_HTIME_LO : Nat := 0x42818
def A.ER_SRATED (i : Nat) : Nat := 0x42840 + 4 * i
def A.ER_STAT : Nat := 0x42804
def A.FLT_CFG (c : Nat) : Nat := chBase c + 0x8004
def A.FLT_IN_CFG (c : Nat) (i : Nat) : Nat := chBase c + 0x8100 + 0x20 * i
def A.FLT_LAT (c : Nat) (i : Nat) : Nat := chBase c + 0x8110 + 0x20 * i
def A.FLT_LIM (c : Nat) (i : Nat) : Nat := chBase c + 0x810C + 0x20 * i
def A.FLT_LIMSTAT (c : Nat) : Nat := chBase c + 0x800C
def A.FLT_MCLK (c : Nat) : Nat := chBase c + 0x8000
def A.FLT_OFS (c : Nat) (i : Nat) : Nat := chBase c + 0x8108 + 0x20 * i
def A.FLT_SCALE (c : Nat) (i : Nat) : Nat := chBase c + 0x8104 + 0x20 * i
def A.FLT_STAT (c : Nat) : Nat := chBase c + 0x8008
def A.FLT_VALID (c : Nat) : Nat := chBase c + 0x8010
def A.GDI_BLANK (c : Nat) (i : Nat) : Nat := chBase c + 0x6104 + 0x10 * i
def A.GDI_CAP (c : Nat) (i : Nat) : Nat := chBase c + 0x6204 + 0x10 * i
def A.GDI_CAPCFG (c : Nat) (i : Nat) : Nat := chBase c + 0x6200 + 0x10 * i
def A.GDI_CFG (c : Nat) : Nat := chBase c + 0x6000
def A.GDI_CLRQ (c : Nat) : Nat := chBase c + 0x6018
def A.GDI_CNT (c : Nat) : Nat := chBase c + 0x601C
def A.GDI_CNT2 (c : Nat) : Nat := chBase c + 0x6024
def A.GDI_CTRL (c : Nat) : Nat := chBase c + 0x6004
def A.GDI_EVT (c : Nat) : Nat := chBase c + 0x600C
def A.GDI_ICNT (c : Nat) : Nat := chBase c + 0x6020
def A.GDI_IN (c : Nat) : Nat := chBase c + 0x6014
def A.GDI_IRQ_EN (c : Nat) : Nat := chBase c + 0x6028
def A.GDI_SNS (c : Nat) (i : Nat) : Nat := chBase c + 0x6100 + 0x10 * i
def A.GDI_SRC (c : Nat) : Nat := chBase c + 0x6010
def A.GDI_STAT (c : Nat) : Nat := chBase c + 0x6008
def A.GDI_TRQ_A (c : Nat) (i : Nat) : Nat := chBase c + 0x6040 + 8 * i
def A.GDI_TRQ_B (c : Nat) (i : Nat) : Nat := chBase c + 0x6044 + 8 * i
def A.GDI_TRQ_N (c : Nat) : Nat := chBase c + 0x602C
def A.GRID_CFG (c : Nat) : Nat := chBase c + 0xC100
def A.GRID_CTRL (c : Nat) : Nat := chBase c + 0xC104
def A.GRID_DEAD_V (c : Nat) : Nat := chBase c + 0xC220
def A.GRID_EVT (c : Nat) : Nat := chBase c + 0xC10C
def A.GRID_FNOM (c : Nat) : Nat := chBase c + 0xC200
def A.GRID_FWIN_HI (c : Nat) : Nat := chBase c + 0xC214
def A.GRID_FWIN_LO (c : Nat) : Nat := chBase c + 0xC210
def A.GRID_ILIM_CL (c : Nat) : Nat := chBase c + 0xC26C
def A.GRID_IMAX_F (c : Nat) : Nat := chBase c + 0xC248
def A.GRID_IVI (c : Nat) : Nat := chBase c + 0xC260
def A.GRID_KMAX (c : Nat) : Nat := chBase c + 0xC268
def A.GRID_KM_ATOL (c : Nat) : Nat := chBase c + 0xC23C
def A.GRID_KM_VTOL (c : Nat) : Nat := chBase c + 0xC238
def A.GRID_KVI (c : Nat) : Nat := chBase c + 0xC264
def A.GRID_LF (c : Nat) : Nat := chBase c + 0xC24C
def A.GRID_NEU_MAX (c : Nat) : Nat := chBase c + 0xC21C
def A.GRID_NP_K (c : Nat) : Nat := chBase c + 0xC250
def A.GRID_NP_MAX (c : Nat) : Nat := chBase c + 0xC254
def A.GRID_PCC_ANG (c : Nat) : Nat := chBase c + 0xC204
def A.GRID_RV (c : Nat) : Nat := chBase c + 0xC258
def A.GRID_STAT (c : Nat) : Nat := chBase c + 0xC108
def A.GRID_T_BLACK (c : Nat) : Nat := chBase c + 0xC240
def A.GRID_T_KM (c : Nat) : Nat := chBase c + 0xC234
def A.GRID_T_PC (c : Nat) : Nat := chBase c + 0xC230
def A.GRID_T_QUAL (c : Nat) : Nat := chBase c + 0xC228
def A.GRID_T_RET (c : Nat) : Nat := chBase c + 0xC274
def A.GRID_T_STOP (c : Nat) : Nat := chBase c + 0xC244
def A.GRID_T_SYNC (c : Nat) : Nat := chBase c + 0xC22C
def A.GRID_UNBAL_MAX (c : Nat) : Nat := chBase c + 0xC218
def A.GRID_VDC_MIN (c : Nat) : Nat := chBase c + 0xC224
def A.GRID_VRET (c : Nat) : Nat := chBase c + 0xC270
def A.GRID_VWIN_HI (c : Nat) : Nat := chBase c + 0xC20C
def A.GRID_VWIN_LO (c : Nat) : Nat := chBase c + 0xC208
def A.GRID_XCNT (c : Nat) : Nat := chBase c + 0xC110
def A.GRID_XV (c : Nat) : Nat := chBase c + 0xC25C
def A.HARM_DATA (p : Nat) (i : Nat) : Nat := ptBase p + 0x400 + 4 * i
def A.HARM_DATA_I (p : Nat) (i : Nat) : Nat := ptBase p + 0x600 + 4 * i
def A.HARM_SEL (p : Nat) : Nat := ptBase p + 0x300
def A.HEALTH_AGE : Nat := 0x30014
def A.HEALTH_AGE_CFG : Nat := 0x30018
def A.HEALTH_EVCNT (i : Nat) : Nat := 0x30800 + 4 * i
def A.HEALTH_EVT : Nat := 0x30004
def A.HEALTH_FO : Nat := 0x30008
def A.HEALTH_FO_ERR : Nat := 0x3000C
def A.HEALTH_LOG_COAL : Nat := 0x3002C
def A.HEALTH_LOG_SEQ_LO : Nat := 0x30024
def A.HEALTH_LOG_WR : Nat := 0x30020
def A.HEALTH_MGS : Nat := 0x3001C
def A.HEALTH_RO (i : Nat) : Nat := 0x30300 + 4 * i
def A.HEALTH_SRQ : Nat := 0x30000
def A.HEALTH_TEMP (i : Nat) : Nat := 0x30100 + 4 * i
def A.HEALTH_THERM : Nat := 0x30010
def A.HEALTH_VMON (i : Nat) : Nat := 0x30200 + 4 * i
def A.HOST_CLAIM0 : Nat := 0x10508
def A.HOST_CLAIM1 : Nat := 0x1050C
def A.HOST_CLAIM2 : Nat := 0x10510
def A.HOST_CROAK (i : Nat) : Nat := 0x10280 + 4 * i
def A.HOST_DB (i : Nat) : Nat := 0x10300 + 4 * i
def A.HOST_ETH_CFG : Nat := 0x10010
def A.HOST_ETH_DROP : Nat := 0x10018
def A.HOST_ETH_STAT : Nat := 0x10014
def A.HOST_IP4 : Nat := 0x10028
def A.HOST_LOCKOWN (i : Nat) : Nat := 0x10240 + 4 * i
def A.HOST_MBD (i : Nat) : Nat := 0x10104 + 8 * i
def A.HOST_MBLOCK (i : Nat) : Nat := 0x10200 + 4 * i
def A.HOST_MBS (i : Nat) : Nat := 0x10100 + 8 * i
def A.HOST_MBT (i : Nat) : Nat := 0x10180 + 4 * i
def A.HOST_MB_TO : Nat := 0x101C0
def A.HOST_NSUB (i : Nat) : Nat := 0x102C0 + 4 * i
def A.HOST_POOL : Nat := 0x10500
def A.HOST_PTP_CFG : Nat := 0x10050
def A.HOST_PTP_OFS : Nat := 0x10058
def A.HOST_PTP_STAT : Nat := 0x10054
def A.HOST_RING_CFG : Nat := 0x10080
def A.HOST_RING_ERR (i : Nat) : Nat := 0x10088 + 4 * i
def A.HOST_RING_STAT : Nat := 0x10084
def A.HOST_SES_CNT (i : Nat) : Nat := 0x1040C + 0x10 * i
def A.HOST_SES_CR (i : Nat) : Nat := 0x10404 + 0x10 * i
def A.HOST_SES_SEQ (i : Nat) : Nat := 0x10408 + 0x10 * i
def A.HOST_SES_STAT (i : Nat) : Nat := 0x10400 + 0x10 * i
def A.HOST_SPI_CFG : Nat := 0x10000
def A.HOST_SPI_CNT : Nat := 0x10008
def A.HOST_SPI_STAT : Nat := 0x10004
def A.HOST_TAGS : Nat := 0x10504
def A.ISL_CFG : Nat := 0x300
def A.ISL_DET_LO : Nat := 0x308
def A.ISL_F_HI : Nat := 0x324
def A.ISL_F_LO : Nat := 0x320
def A.ISL_PROBE_A : Nat := 0x330
def A.ISL_ROCOF : Nat := 0x310
def A.ISL_STAT : Nat := 0x304
def A.ISL_T_WIN : Nat := 0x328
def A.ISL_V_HI : Nat := 0x31C
def A.ISL_V_LO : Nat := 0x318
def A.ISL_Z_TH : Nat := 0x334
def A.KA_ADMIT : Nat := 0x6000C
def A.KA_CFG : Nat := 0x60008
def A.KA_DEFER : Nat := 0x60014
def A.KA_EVT : Nat := 0x60004
def A.KA_LREC_LO : Nat := 0x60028
def A.KA_RING : Nat := 0x60030
def A.KA_RTC_HI : Nat := 0x60024
def A.KA_RTC_LO : Nat := 0x60020
def A.KA_STAT : Nat := 0x60000
def A.KA_STORE : Nat := 0x60010
def A.MACH_A_START (c : Nat) : Nat := chBase c + 0xC778
def A.MACH_CFG (c : Nat) : Nat := chBase c + 0xC700
def A.MACH_EVT (c : Nat) : Nat := chBase c + 0xC70C
def A.MACH_ID_MIN (c : Nat) : Nat := chBase c + 0xC74C
def A.MACH_IMAX (c : Nat) : Nat := chBase c + 0xC748
def A.MACH_I_START (c : Nat) : Nat := chBase c + 0xC770
def A.MACH_LD (c : Nat) : Nat := chBase c + 0xC754
def A.MACH_LQ (c : Nat) : Nat := chBase c + 0xC758
def A.MACH_M_FW (c : Nat) : Nat := chBase c + 0xC750
def A.MACH_POS_OFS (c : Nat) : Nat := chBase c + 0xC76C
def A.MACH_PSI (c : Nat) : Nat := chBase c + 0xC75C
def A.MACH_REV_TH (c : Nat) : Nat := chBase c + 0xC760
def A.MACH_SAMPLE_MIN (c : Nat) : Nat := chBase c + 0xC764
def A.MACH_SHIFT_CNT (c : Nat) : Nat := chBase c + 0xC710
def A.MACH_STAT (c : Nat) : Nat := chBase c + 0xC708
def A.MACH_T_ALIGN (c : Nat) : Nat := chBase c + 0xC774
def A.MACH_T_HO (c : Nat) : Nat := chBase c + 0xC780
def A.MACH_VLINK_MIN (c : Nat) : Nat := chBase c + 0xC744
def A.MACH_W_HO (c : Nat) : Nat := chBase c + 0xC77C
def A.MACH_W_NOM (c : Nat) : Nat := chBase c + 0xC740
def A.METER_ACC_HI (p : Nat) (i : Nat) : Nat := ptBase p + 0x204 + 8 * i
def A.METER_ACC_LO (p : Nat) (i : Nat) : Nat := ptBase p + 0x200 + 8 * i
def A.METER_CFG (p : Nat) : Nat := ptBase p + 0
def A.METER_CTRL (p : Nat) : Nat := ptBase p + 0x1C
def A.METER_EVT (p : Nat) : Nat := ptBase p + 0xC
def A.METER_INTV (p : Nat) : Nat := ptBase p + 0x14
def A.METER_MARK_T (p : Nat) : Nat := ptBase p + 0x18
def A.METER_MKE_LO (p : Nat) : Nat := ptBase p + 0x280
def A.METER_STAT (p : Nat) : Nat := ptBase p + 8
def A.METER_TARIFF (p : Nat) : Nat := ptBase p + 0x10
def A.METER_WIN (p : Nat) (i : Nat) : Nat := ptBase p + 0x100 + 4 * i
def A.METER_WRAP (p : Nat) (i : Nat) : Nat := ptBase p + 0x2C0 + 4 * i
def A.PCCM_FREQ : Nat := 0x224
def A.PCCM_ROCOF : Nat := 0x228
def A.PCCM_VA : Nat := 0x210
def A.PCCM_VB : Nat := 0x214
def A.PCCM_VC : Nat := 0x218
def A.PCCM_VNEG : Nat := 0x220
def A.PCCM_VPOS : Nat := 0x21C
def A.PCCM_ZP : Nat := 0x22C
def A.PCC_ADC_CFG : Nat := 0x43000
def A.PCC_ADC_STAT : Nat := 0x43004
def A.PCC_LAT (i : Nat) : Nat := 0x43108 + 0x10 * i
def A.PCC_OFS (i : Nat) : Nat := 0x43104 + 0x10 * i
def A.PCC_SCALE (i : Nat) : Nat := 0x43100 + 0x10 * i
def A.PWM_ACTHI (c : Nat) (i : Nat) : Nat := chBase c + 0x410C + 0x20 * i
def A.PWM_ACTLO (c : Nat) (i : Nat) : Nat := chBase c + 0x4108 + 0x20 * i
def A.PWM_CAL (c : Nat) : Nat := chBase c + 0x4024
def A.PWM_CAR (c : Nat) : Nat := chBase c + 0x4000
def A.PWM_CNT (c : Nat) : Nat := chBase c + 0x4020
def A.PWM_DROP_CNT (c : Nat) : Nat := chBase c + 0x4018
def A.PWM_DTHL (c : Nat) (i : Nat) : Nat := chBase c + 0x4114 + 0x20 * i
def A.PWM_DTLH (c : Nat) (i : Nat) : Nat := chBase c + 0x4110 + 0x20 * i
def A.PWM_FORCE (c : Nat) : Nat := chBase c + 0x4004
def A.PWM_FSTAT (c : Nat) : Nat := chBase c + 0x4008
def A.PWM_LATE_CNT (c : Nat) : Nat := chBase c + 0x4014
def A.PWM_MINPW (c : Nat) : Nat := chBase c + 0x401C
def A.PWM_OFS (c : Nat) (i : Nat) : Nat := chBase c + 0x4118 + 0x20 * i
def A.PWM_OVR (c : Nat) : Nat := chBase c + 0x400C
def A.PWM_SHHI (c : Nat) (i : Nat) : Nat := chBase c + 0x4104 + 0x20 * i
def A.PWM_SHLO (c : Nat) (i : Nat) : Nat := chBase c + 0x4100 + 0x20 * i
def A.PWM_STAT (c : Nat) : Nat := chBase c + 0x4010
def A.PWR_CNT : Nat := 0xE08
def A.PWR_EVT : Nat := 0xE04
def A.PWR_STAT : Nat := 0xE00
def A.RB_F_HI_ENT (b : Nat) : Nat := 0x818 + 0x100 * b
def A.RB_F_HI_EXIT (b : Nat) : Nat := 0x81C + 0x100 * b
def A.RB_F_LO_ENT (b : Nat) : Nat := 0x810 + 0x100 * b
def A.RB_F_LO_EXIT (b : Nat) : Nat := 0x814 + 0x100 * b
def A.RB_F_TRIP_HI (b : Nat) : Nat := 0x83C + 0x100 * b
def A.RB_F_TRIP_LO (b : Nat) : Nat := 0x834 + 0x100 * b
def A.RB_HV_T (b : Nat) (i : Nat) : Nat := 0x8C0 + 0x100 * b + 8 * i
def A.RB_HV_V (b : Nat) (i : Nat) : Nat := 0x8C4 + 0x100 * b + 8 * i
def A.RB_LV_T (b : Nat) (i : Nat) : Nat := 0x880 + 0x100 * b + 8 * i
def A.RB_LV_V (b : Nat) (i : Nat) : Nat := 0x884 + 0x100 * b + 8 * i
def A.RB_OV_ENT (b : Nat) : Nat := 0x808 + 0x100 * b
def A.RB_OV_EXIT (b : Nat) : Nat := 0x80C + 0x100 * b
def A.RB_T_DET (b : Nat) : Nat := 0x820 + 0x100 * b
def A.RB_T_EXIT (b : Nat) : Nat := 0x828 + 0x100 * b
def A.RB_T_FDET (b : Nat) : Nat := 0x824 + 0x100 * b
def A.RB_T_F_TRIP_HI (b : Nat) : Nat := 0x840 + 0x100 * b
def A.RB_T_F_TRIP_LO (b : Nat) : Nat := 0x838 + 0x100 * b
def A.RB_T_MAX (b : Nat) : Nat := 0x82C + 0x100 * b
def A.RB_T_RECON (b : Nat) : Nat := 0x830 + 0x100 * b
def A.RB_UV_ENT (b : Nat) : Nat := 0x800 + 0x100 * b
def A.RB_UV_EXIT (b : Nat) : Nat := 0x804 + 0x100 * b
def A.REC_CFG : Nat := 0x600
def A.REC_CNT : Nat := 0x610
def A.REC_LEN : Nat := 0x614
def A.REC_SEL (i : Nat) : Nat := 0x680 + 4 * i
def A.REC_STAT : Nat := 0x604
def A.REC_TRG_IDX : Nat := 0x618
def A.REC_TRG_LO : Nat := 0x608
def A.RIDE_CH_CFG (c : Nat) : Nat := chBase c + 0xC300
def A.RIDE_CH_STAT (c : Nat) : Nat := chBase c + 0xC304
def A.RIDE_DB (c : Nat) : Nat := chBase c + 0xC31C
def A.RIDE_IMAX (c : Nat) : Nat := chBase c + 0xC320
def A.RIDE_K1 (c : Nat) : Nat := chBase c + 0xC310
def A.RIDE_K2 (c : Nat) : Nat := chBase c + 0xC314
def A.RIDE_PHI2 (c : Nat) : Nat := chBase c + 0xC318
def A.RIDE_P_REC (c : Nat) : Nat := chBase c + 0xC328
def A.RIDE_Q_REC (c : Nat) : Nat := chBase c + 0xC32C
def A.RIDE_W (c : Nat) : Nat := chBase c + 0xC324
def A.ROLE_SEL (c : Nat) : Nat := chBase c + 0xC000
def A.ROLE_STAT (c : Nat) : Nat := chBase c + 0xC004
def A.SAFE_CAUSE : Nat := 0x2000C
def A.SAFE_CFG (i : Nat) : Nat := 0x20100 + 4 * i
def A.SAFE_CNT : Nat := 0x20014
def A.SAFE_CNT2 : Nat := 0x20018
def A.SAFE_CTRL : Nat := 0x20008
def A.SAFE_DIG (i : Nat) : Nat := 0x20040 + 4 * i
def A.SAFE_EVT : Nat := 0x20004
def A.SAFE_IO : Nat := 0x20010
def A.SAFE_LOGSEQ : Nat := 0x2001C
def A.SAFE_SL_F (i : Nat) : Nat := 0x2020C + 0x10 * i
def A.SAFE_SL_IPK (i : Nat) : Nat := 0x20204 + 0x10 * i
def A.SAFE_SL_P (i : Nat) : Nat := 0x20208 + 0x10 * i
def A.SAFE_SL_STAT (i : Nat) : Nat := 0x20200 + 0x10 * i
def A.SAFE_STAT : Nat := 0x20000
def A.SUPRA (p : Nat) (i : Nat) : Nat := ptBase p + 0x800 + 4 * i
def A.SURV_BUF_DROP : Nat := 0x50028
def A.SURV_BUF_RD : Nat := 0x50024
def A.SURV_BUF_WR : Nat := 0x50020
def A.SURV_CTRL : Nat := 0x50000
def A.SURV_DATA : Nat := 0x50008
def A.SURV_DLY_INJ : Nat := 0x5001C
def A.SURV_DLY_REG : Nat := 0x50014
def A.SURV_INJ (i : Nat) : Nat := 0x50180 + 4 * i
def A.SURV_LOST : Nat := 0x5000C
def A.SURV_REG (i : Nat) : Nat := 0x50100 + 4 * i
def A.SURV_STAT : Nat := 0x50004
def A.SURV_TRG_INJ : Nat := 0x50018
def A.SURV_TRG_REG : Nat := 0x50010
def A.SURV_WIN_INJ (i : Nat) : Nat := 0x50280 + 4 * i
def A.SURV_WIN_REG (i : Nat) : Nat := 0x50200 + 4 * i
def A.SYS_BOOT : Nat := 0x18
def A.SYS_BOOT_EVT : Nat := 0x1C
def A.SYS_BURST : Nat := 0x110
def A.SYS_BURST_BUD : Nat := 0x114
def A.SYS_BURST_STAT : Nat := 0x118
def A.SYS_CFG_CTRL : Nat := 0x28
def A.SYS_IMG_VER : Nat := 0x10
def A.SYS_MODE : Nat := 0x14
def A.SYS_OTHER_VER : Nat := 0x30
def A.SYS_RIDE_CFG : Nat := 0x200
def A.SYS_RIDE_CNT : Nat := 0x208
def A.SYS_RIDE_STAT : Nat := 0x204
def A.SYS_SERIAL_HI : Nat := 0xC
def A.SYS_SERIAL_LO : Nat := 8
def A.SYS_SLOT : Nat := 0x2C
def A.SYS_SYNC : Nat := 0x120
def A.SYS_SYNC_STAT : Nat := 0x124
def A.SYS_TICK : Nat := 0x100
def A.SYS_TICK_CNT_LO : Nat := 0x128
def A.SYS_TT_ENT (i : Nat) : Nat := 0x400 + 4 * i
def A.SYS_TT_GEN : Nat := 0x108
def A.SYS_TT_STAT : Nat := 0x104
def A.SYS_WAKES : Nat := 0x20
def A.SYS_WAKE_T : Nat := 0x24
def F.BOOT_CFG_BOOT (c : Nat) : Fld := ⟨A.BOOT_CFG c, 9, 0⟩
def F.BOOT_CFG_RECHG (c : Nat) : Fld := ⟨A.BOOT_CFG c, 18, 18⟩
def F.BOOT_CFG_REFRESH_N (c : Nat) : Fld := ⟨A.BOOT_CFG c, 17, 10⟩
def F.BOOT_CNT_BLOCKED_CNT (c : Nat) : Fld := ⟨A.BOOT_CNT c, 31, 16⟩
def F.BOOT_CNT_HOLD_CNT (c : Nat) : Fld := ⟨A.BOOT_CNT c, 15, 0⟩
def F.BOOT_EVT_BLOCKED (c : Nat) : Fld := ⟨A.BOOT_EVT c, 1, 1⟩
def F.BOOT_EVT_HOLD_EVT (c : Nat) : Fld := ⟨A.BOOT_EVT c, 0, 0⟩
def F.BOOT_STAT_DUTY_LIM (c : Nat) : Fld := ⟨A.BOOT_STAT c, 19, 10⟩
def F.BOOT_STAT_HOLD (c : Nat) : Fld := ⟨A.BOOT_STAT c, 9, 0⟩
def F.BOOT_TIM_REFRESH_W (c : Nat) : Fld := ⟨A.BOOT_TIM c, 15, 0⟩
def F.CHOP_CFG_IN (c : Nat) : Fld := ⟨A.CHOP_CFG c, 5, 2⟩
def F.CHOP_CFG_MODE (c : Nat) : Fld := ⟨A.CHOP_CFG c, 1, 0⟩
def F.CHOP_STAT_ENGAGED (c : Nat) : Fld := ⟨A.CHOP_STAT c, 16, 16⟩
def F.CHOP_STAT_INV_LIM (c : Nat) : Fld := ⟨A.CHOP_STAT c, 2, 2⟩
def F.CHOP_STAT_LOCKOUT (c : Nat) : Fld := ⟨A.CHOP_STAT c, 1, 1⟩
def F.CHOP_STAT_LOCK_EVT (c : Nat) : Fld := ⟨A.CHOP_STAT c, 17, 17⟩
def F.CHOP_STAT_ON (c : Nat) : Fld := ⟨A.CHOP_STAT c, 0, 0⟩
def F.CLK_CFG_PREF : Fld := ⟨A.CLK_CFG, 0, 0⟩
def F.CLK_CNT_LOL_CNT : Fld := ⟨A.CLK_CNT, 31, 16⟩
def F.CLK_CNT_SW_CNT : Fld := ⟨A.CLK_CNT, 15, 0⟩
def F.CLK_EVT_DOUBLE : Fld := ⟨A.CLK_EVT, 6, 6⟩
def F.CLK_EVT_LOL_A : Fld := ⟨A.CLK_EVT, 1, 1⟩
def F.CLK_EVT_LOL_B : Fld := ⟨A.CLK_EVT, 2, 2⟩
def F.CLK_EVT_REFLOSS_A : Fld := ⟨A.CLK_EVT, 3, 3⟩
def F.CLK_EVT_REFLOSS_B : Fld := ⟨A.CLK_EVT, 4, 4⟩
def F.CLK_EVT_RELOCK : Fld := ⟨A.CLK_EVT, 5, 5⟩
def F.CLK_EVT_SWITCHED : Fld := ⟨A.CLK_EVT, 0, 0⟩
def F.CLK_STAT_DRV : Fld := ⟨A.CLK_STAT, 0, 0⟩
def F.CLK_STAT_GATED_A : Fld := ⟨A.CLK_STAT, 7, 7⟩
def F.CLK_STAT_GATED_B : Fld := ⟨A.CLK_STAT, 8, 8⟩
def F.CLK_STAT_LOCK_A : Fld := ⟨A.CLK_STAT, 1, 1⟩
def F.CLK_STAT_LOCK_B : Fld := ⟨A.CLK_STAT, 2, 2⟩
def F.CLK_STAT_LVDS_A : Fld := ⟨A.CLK_STAT, 5, 5⟩
def F.CLK_STAT_LVDS_B : Fld := ⟨A.CLK_STAT, 6, 6⟩
def F.CLK_STAT_REF_A : Fld := ⟨A.CLK_STAT, 3, 3⟩
def F.CLK_STAT_REF_B : Fld := ⟨A.CLK_STAT, 4, 4⟩
def F.DC_CCM_CNT_CNT (c : Nat) : Fld := ⟨A.DC_CCM_CNT c, 31, 0⟩
def F.DC_CFG_CAR (c : Nat) : Fld := ⟨A.DC_CFG c, 4, 3⟩
def F.DC_CFG_KM_EN (c : Nat) : Fld := ⟨A.DC_CFG c, 7, 7⟩
def F.DC_CFG_LEGS (c : Nat) : Fld := ⟨A.DC_CFG c, 2, 0⟩
def F.DC_CFG_RATIO (c : Nat) : Fld := ⟨A.DC_CFG c, 6, 5⟩
def F.DC_CFG_SCAN_N (c : Nat) : Fld := ⟨A.DC_CFG c, 14, 8⟩
def F.DC_CFG_TAPER (c : Nat) : Fld := ⟨A.DC_CFG c, 15, 15⟩
def F.DC_EVT_CCM (c : Nat) : Fld := ⟨A.DC_EVT c, 5, 5⟩
def F.DC_EVT_EMPTY_EVT (c : Nat) : Fld := ⟨A.DC_EVT c, 2, 2⟩
def F.DC_EVT_FULL_EVT (c : Nat) : Fld := ⟨A.DC_EVT c, 1, 1⟩
def F.DC_EVT_KM_FAIL (c : Nat) : Fld := ⟨A.DC_EVT c, 6, 6⟩
def F.DC_EVT_REFUSED (c : Nat) : Fld := ⟨A.DC_EVT c, 0, 0⟩
def F.DC_EVT_SCAN_ABORT (c : Nat) : Fld := ⟨A.DC_EVT c, 4, 4⟩
def F.DC_EVT_SCAN_DONE (c : Nat) : Fld := ⟨A.DC_EVT c, 3, 3⟩
def F.DC_STAT_CURTAIL (c : Nat) : Fld := ⟨A.DC_STAT c, 2, 2⟩
def F.DC_STAT_EMPTY (c : Nat) : Fld := ⟨A.DC_STAT c, 1, 1⟩
def F.DC_STAT_FULL (c : Nat) : Fld := ⟨A.DC_STAT c, 0, 0⟩
def F.DC_STAT_KM_CMD (c : Nat) : Fld := ⟨A.DC_STAT c, 4, 4⟩
def F.DC_STAT_LIM_HI (c : Nat) : Fld := ⟨A.DC_STAT c, 5, 5⟩
def F.DC_STAT_LIM_LO (c : Nat) : Fld := ⟨A.DC_STAT c, 6, 6⟩
def F.DC_STAT_REFUSE (c : Nat) : Fld := ⟨A.DC_STAT c, 11, 8⟩
def F.DC_STAT_SCANNING (c : Nat) : Fld := ⟨A.DC_STAT c, 3, 3⟩
def F.DIV_ACTIVEA_BAND : Fld := ⟨A.DIV_ACTIVEA, 13, 10⟩
def F.DIV_ACTIVEB_BAND : Fld := ⟨A.DIV_ACTIVEB, 13, 10⟩
def F.DIV_SHADOWA_BAND : Fld := ⟨A.DIV_SHADOWA, 13, 10⟩
def F.DIV_SHADOWB_BAND : Fld := ⟨A.DIV_SHADOWB, 13, 10⟩
def F.ENG_ECC_CORR_CNT (c : Nat) : Fld := ⟨A.ENG_ECC c, 15, 0⟩
def F.ENG_ECC_LAST_CTX (c : Nat) : Fld := ⟨A.ENG_ECC c, 25, 22⟩
def F.ENG_ECC_LAST_WORD (c : Nat) : Fld := ⟨A.ENG_ECC c, 21, 16⟩
def F.ENG_FREEZE_FREEZE (c : Nat) : Fld := ⟨A.ENG_FREEZE c, 15, 0⟩
def F.ENG_NUMERR_CNT (c : Nat) : Fld := ⟨A.ENG_NUMERR c, 15, 0⟩
def F.ENG_STAT_ECC_UNCORR (c : Nat) : Fld := ⟨A.ENG_STAT c, 17, 17⟩
def F.ENG_STAT_MISMATCH (c : Nat) : Fld := ⟨A.ENG_STAT c, 16, 16⟩
def F.ENG_STAT_OVERRUN (c : Nat) : Fld := ⟨A.ENG_STAT c, 18, 18⟩
def F.ENG_STAT_SERVED (c : Nat) : Fld := ⟨A.ENG_STAT c, 0, 0⟩
def F.ENG_STAT_SPARE_AVAIL (c : Nat) : Fld := ⟨A.ENG_STAT c, 1, 1⟩
def F.ENG_STAT_TAIL (c : Nat) : Fld := ⟨A.ENG_STAT c, 2, 2⟩
def F.EPUL_CNT_CNT (i : Nat) : Fld := ⟨A.EPUL_CNT i, 31, 0⟩
def F.EPUL_PEND_PEND (i : Nat) : Fld := ⟨A.EPUL_PEND i, 31, 0⟩
def F.EPUL_STAT_OVR (i : Nat) : Fld := ⟨A.EPUL_STAT i, 0, 0⟩
def F.EPUL_STAT_OVR_EVT (i : Nat) : Fld := ⟨A.EPUL_STAT i, 16, 16⟩
def F.ER_CFG_SAVE_MS : Fld := ⟨A.ER_CFG, 15, 0⟩
def F.ER_CNT_FAIL_CNT : Fld := ⟨A.ER_CNT, 15, 0⟩
def F.ER_CNT_LOSS_CNT : Fld := ⟨A.ER_CNT, 31, 16⟩
def F.ER_EVT_COMMIT_FAIL : Fld := ⟨A.ER_EVT, 0, 0⟩
def F.ER_EVT_GENESIS : Fld := ⟨A.ER_EVT, 5, 5⟩
def F.ER_EVT_LATE : Fld := ⟨A.ER_EVT, 4, 4⟩
def F.ER_EVT_LOSS_REC : Fld := ⟨A.ER_EVT, 1, 1⟩
def F.ER_EVT_SNAP : Fld := ⟨A.ER_EVT, 3, 3⟩
def F.ER_EVT_TAIL_REC : Fld := ⟨A.ER_EVT, 2, 2⟩
def F.ER_STAT_BUSY : Fld := ⟨A.ER_STAT, 1, 1⟩
def F.ER_STAT_FROZEN : Fld := ⟨A.ER_STAT, 2, 2⟩
def F.ER_STAT_UNBOUNDED : Fld := ⟨A.ER_STAT, 3, 3⟩
def F.ER_STAT_WT : Fld := ⟨A.ER_STAT, 0, 0⟩
def F.FLT_CFG_FAST_OSR (c : Nat) : Fld := ⟨A.FLT_CFG c, 6, 0⟩
def F.FLT_CFG_FINE_OSR (c : Nat) : Fld := ⟨A.FLT_CFG c, 8, 7⟩
def F.FLT_IN_CFG_EN (c : Nat) (i : Nat) : Fld := ⟨A.FLT_IN_CFG c i, 0, 0⟩
def F.FLT_IN_CFG_FAULT_ACT (c : Nat) (i : Nat) : Fld := ⟨A.FLT_IN_CFG c i, 2, 1⟩
def F.FLT_IN_CFG_LIM_EN (c : Nat) (i : Nat) : Fld := ⟨A.FLT_IN_CFG c i, 3, 3⟩
def F.FLT_IN_CFG_LIM_TRIP (c : Nat) (i : Nat) : Fld := ⟨A.FLT_IN_CFG c i, 4, 4⟩
def F.FLT_LIM_HI (c : Nat) (i : Nat) : Fld := ⟨A.FLT_LIM c i, 31, 16⟩
def F.FLT_LIM_LO (c : Nat) (i : Nat) : Fld := ⟨A.FLT_LIM c i, 15, 0⟩
def F.FLT_MCLK_DIV (c : Nat) : Fld := ⟨A.FLT_MCLK c, 7, 0⟩
def F.FLT_MCLK_OUT_EN (c : Nat) : Fld := ⟨A.FLT_MCLK c, 16, 16⟩
def F.FLT_STAT_MCLK_LOSS (c : Nat) : Fld := ⟨A.FLT_STAT c, 12, 12⟩
def F.FLT_VALID_MCLK_OK (c : Nat) : Fld := ⟨A.FLT_VALID c, 12, 12⟩
def F.FLT_VALID_VALID (c : Nat) : Fld := ⟨A.FLT_VALID c, 11, 0⟩
def F.GDI_BLANK_BLANK (c : Nat) (i : Nat) : Fld := ⟨A.GDI_BLANK c i, 12, 0⟩
def F.GDI_CAPCFG_EDGE (c : Nat) (i : Nat) : Fld := ⟨A.GDI_CAPCFG c i, 5, 5⟩
def F.GDI_CAPCFG_EN (c : Nat) (i : Nat) : Fld := ⟨A.GDI_CAPCFG c i, 14, 14⟩
def F.GDI_CAPCFG_EVT (c : Nat) (i : Nat) : Fld := ⟨A.GDI_CAPCFG c i, 9, 6⟩
def F.GDI_CAPCFG_EVT_HB (c : Nat) (i : Nat) : Fld := ⟨A.GDI_CAPCFG c i, 13, 10⟩
def F.GDI_CAPCFG_HB (c : Nat) (i : Nat) : Fld := ⟨A.GDI_CAPCFG c i, 3, 0⟩
def F.GDI_CAPCFG_LVL (c : Nat) (i : Nat) : Fld := ⟨A.GDI_CAPCFG c i, 4, 4⟩
def F.GDI_CAP_COUNT (c : Nat) (i : Nat) : Fld := ⟨A.GDI_CAP c i, 31, 20⟩
def F.GDI_CAP_DELAY (c : Nat) (i : Nat) : Fld := ⟨A.GDI_CAP c i, 19, 0⟩
def F.GDI_CLRQ_CLRQ (c : Nat) : Fld := ⟨A.GDI_CLRQ c, 16, 0⟩
def F.GDI_CNT2_CBC_CNT (c : Nat) : Fld := ⟨A.GDI_CNT2 c, 15, 0⟩
def F.GDI_CNT2_LINK_CNT (c : Nat) : Fld := ⟨A.GDI_CNT2 c, 31, 16⟩
def F.GDI_CNT_CLR_REF_CNT (c : Nat) : Fld := ⟨A.GDI_CNT c, 31, 16⟩
def F.GDI_CNT_TRIP_CNT (c : Nat) : Fld := ⟨A.GDI_CNT c, 15, 0⟩
def F.GDI_CTRL_SW_EN (c : Nat) : Fld := ⟨A.GDI_CTRL c, 0, 0⟩
def F.GDI_EVT_CAP (c : Nat) : Fld := ⟨A.GDI_EVT c, 9, 9⟩
def F.GDI_EVT_CBC (c : Nat) : Fld := ⟨A.GDI_EVT c, 8, 8⟩
def F.GDI_EVT_CHK_FAIL (c : Nat) : Fld := ⟨A.GDI_EVT c, 7, 7⟩
def F.GDI_EVT_CLR_OK (c : Nat) : Fld := ⟨A.GDI_EVT c, 1, 1⟩
def F.GDI_EVT_CLR_REFUSED (c : Nat) : Fld := ⟨A.GDI_EVT c, 2, 2⟩
def F.GDI_EVT_CLR_SHORT (c : Nat) : Fld := ⟨A.GDI_EVT c, 3, 3⟩
def F.GDI_EVT_LINK_ERR (c : Nat) : Fld := ⟨A.GDI_EVT c, 4, 4⟩
def F.GDI_EVT_PG_VIOL (c : Nat) : Fld := ⟨A.GDI_EVT c, 6, 6⟩
def F.GDI_EVT_SHOOT (c : Nat) : Fld := ⟨A.GDI_EVT c, 5, 5⟩
def F.GDI_EVT_TRIP (c : Nat) : Fld := ⟨A.GDI_EVT c, 0, 0⟩
def F.GDI_ICNT_PG_CNT (c : Nat) : Fld := ⟨A.GDI_ICNT c, 31, 16⟩
def F.GDI_ICNT_SHOOT_CNT (c : Nat) : Fld := ⟨A.GDI_ICNT c, 15, 0⟩
def F.GDI_IRQ_EN_EN (c : Nat) : Fld := ⟨A.GDI_IRQ_EN c, 9, 0⟩
def F.GDI_SNS_CBC_N (c : Nat) (i : Nat) : Fld := ⟨A.GDI_SNS c i, 31, 24⟩
def F.GDI_SNS_L1_MODE (c : Nat) (i : Nat) : Fld := ⟨A.GDI_SNS c i, 21, 20⟩
def F.GDI_SNS_L2_EN (c : Nat) (i : Nat) : Fld := ⟨A.GDI_SNS c i, 22, 22⟩
def F.GDI_STAT_CBC_HOLD (c : Nat) : Fld := ⟨A.GDI_STAT c, 23, 14⟩
def F.GDI_STAT_CHK_HOLD (c : Nat) : Fld := ⟨A.GDI_STAT c, 13, 4⟩
def F.GDI_STAT_EFF_EN (c : Nat) : Fld := ⟨A.GDI_STAT c, 1, 1⟩
def F.GDI_STAT_ENA_PIN (c : Nat) : Fld := ⟨A.GDI_STAT c, 2, 2⟩
def F.GDI_STAT_IN_ACTIVE (c : Nat) : Fld := ⟨A.GDI_STAT c, 3, 3⟩
def F.GDI_STAT_TRIPPED (c : Nat) : Fld := ⟨A.GDI_STAT c, 0, 0⟩
def F.GDI_TRQ_N_N (c : Nat) : Fld := ⟨A.GDI_TRQ_N c, 3, 0⟩
def F.GDI_TRQ_N_OVF (c : Nat) : Fld := ⟨A.GDI_TRQ_N c, 31, 16⟩
def F.GRID_CFG_BLACK_OK (c : Nat) : Fld := ⟨A.GRID_CFG c, 2, 2⟩
def F.GRID_CFG_ISL_OK (c : Nat) : Fld := ⟨A.GRID_CFG c, 6, 6⟩
def F.GRID_CFG_KM_EN (c : Nat) : Fld := ⟨A.GRID_CFG c, 4, 4⟩
def F.GRID_CFG_NEUTRAL (c : Nat) : Fld := ⟨A.GRID_CFG c, 1, 1⟩
def F.GRID_CFG_PSRC (c : Nat) : Fld := ⟨A.GRID_CFG c, 5, 5⟩
def F.GRID_CFG_TOPO (c : Nat) : Fld := ⟨A.GRID_CFG c, 0, 0⟩
def F.GRID_CTRL_SUB (c : Nat) : Fld := ⟨A.GRID_CTRL c, 0, 0⟩
def F.GRID_EVT_CL_ENTER (c : Nat) : Fld := ⟨A.GRID_EVT c, 2, 2⟩
def F.GRID_EVT_CL_EXIT (c : Nat) : Fld := ⟨A.GRID_EVT c, 3, 3⟩
def F.GRID_EVT_GUARD (c : Nat) : Fld := ⟨A.GRID_EVT c, 5, 5⟩
def F.GRID_EVT_KM_FAIL (c : Nat) : Fld := ⟨A.GRID_EVT c, 4, 4⟩
def F.GRID_EVT_REFUSED (c : Nat) : Fld := ⟨A.GRID_EVT c, 0, 0⟩
def F.GRID_EVT_XFER (c : Nat) : Fld := ⟨A.GRID_EVT c, 1, 1⟩
def F.GRID_STAT_KM_CMD (c : Nat) : Fld := ⟨A.GRID_STAT c, 7, 7⟩
def F.GRID_STAT_PEND (c : Nat) : Fld := ⟨A.GRID_STAT c, 5, 5⟩
def F.GRID_STAT_PLL_OK (c : Nat) : Fld := ⟨A.GRID_STAT c, 3, 3⟩
def F.GRID_STAT_REFUSE (c : Nat) : Fld := ⟨A.GRID_STAT c, 11, 8⟩
def F.GRID_STAT_SUB_NOW (c : Nat) : Fld := ⟨A.GRID_STAT c, 1, 0⟩
def F.GRID_STAT_SYNC_OK (c : Nat) : Fld := ⟨A.GRID_STAT c, 4, 4⟩
def F.GRID_STAT_TRACK_OK (c : Nat) : Fld := ⟨A.GRID_STAT c, 2, 2⟩
def F.GRID_STAT_VI_ACTIVE (c : Nat) : Fld := ⟨A.GRID_STAT c, 6, 6⟩
def F.GRID_STAT_XFER_LIM (c : Nat) : Fld := ⟨A.GRID_STAT c, 23, 16⟩
def F.GRID_XCNT_CL_CNT (c : Nat) : Fld := ⟨A.GRID_XCNT c, 31, 16⟩
def F.GRID_XCNT_XFER_CNT (c : Nat) : Fld := ⟨A.GRID_XCNT c, 15, 0⟩
def F.HARM_SEL_KIND (p : Nat) : Fld := ⟨A.HARM_SEL p, 4, 3⟩
def F.HARM_SEL_SIG (p : Nat) : Fld := ⟨A.HARM_SEL p, 2, 0⟩
def F.HEALTH_AGE_CFG_ADV_DAYS : Fld := ⟨A.HEALTH_AGE_CFG, 9, 0⟩
def F.HEALTH_AGE_DAYS : Fld := ⟨A.HEALTH_AGE, 31, 16⟩
def F.HEALTH_AGE_WORST_PPM : Fld := ⟨A.HEALTH_AGE, 15, 0⟩
def F.HEALTH_EVCNT_V (i : Nat) : Fld := ⟨A.HEALTH_EVCNT i, 31, 0⟩
def F.HEALTH_EVT_AGE_ADV : Fld := ⟨A.HEALTH_EVT, 5, 5⟩
def F.HEALTH_EVT_FAILOVER : Fld := ⟨A.HEALTH_EVT, 1, 1⟩
def F.HEALTH_EVT_INHIBIT : Fld := ⟨A.HEALTH_EVT, 4, 4⟩
def F.HEALTH_EVT_MGS_RESTART : Fld := ⟨A.HEALTH_EVT, 6, 6⟩
def F.HEALTH_EVT_SENSOR_EXCL : Fld := ⟨A.HEALTH_EVT, 7, 7⟩
def F.HEALTH_EVT_SHED : Fld := ⟨A.HEALTH_EVT, 3, 3⟩
def F.HEALTH_EVT_SRQ_RAISE : Fld := ⟨A.HEALTH_EVT, 0, 0⟩
def F.HEALTH_EVT_TAIL_DROP : Fld := ⟨A.HEALTH_EVT, 2, 2⟩
def F.HEALTH_FO_CH : Fld := ⟨A.HEALTH_FO, 3, 0⟩
def F.HEALTH_FO_OUT : Fld := ⟨A.HEALTH_FO, 16, 8⟩
def F.HEALTH_FO_SPARE_OK : Fld := ⟨A.HEALTH_FO, 4, 4⟩
def F.HEALTH_FO_TEST_PASS : Fld := ⟨A.HEALTH_FO, 31, 24⟩
def F.HEALTH_LOG_COAL_V : Fld := ⟨A.HEALTH_LOG_COAL, 31, 0⟩
def F.HEALTH_LOG_WR_IDX : Fld := ⟨A.HEALTH_LOG_WR, 15, 0⟩
def F.HEALTH_LOG_WR_QDEPTH : Fld := ⟨A.HEALTH_LOG_WR, 24, 16⟩
def F.HEALTH_MGS_PROF : Fld := ⟨A.HEALTH_MGS, 1, 0⟩
def F.HEALTH_MGS_RESTART_CNT : Fld := ⟨A.HEALTH_MGS, 15, 8⟩
def F.HEALTH_MGS_RUNNING : Fld := ⟨A.HEALTH_MGS, 2, 2⟩
def F.HEALTH_SRQ_CAUSE : Fld := ⟨A.HEALTH_SRQ, 15, 8⟩
def F.HEALTH_SRQ_LEVEL : Fld := ⟨A.HEALTH_SRQ, 1, 0⟩
def F.HEALTH_SRQ_PIN : Fld := ⟨A.HEALTH_SRQ, 2, 2⟩
def F.HEALTH_THERM_BURST_BLOCK : Fld := ⟨A.HEALTH_THERM, 2, 2⟩
def F.HEALTH_THERM_HOT : Fld := ⟨A.HEALTH_THERM, 11, 8⟩
def F.HEALTH_THERM_INHIBIT : Fld := ⟨A.HEALTH_THERM, 3, 3⟩
def F.HEALTH_THERM_SENSOR_FAIL : Fld := ⟨A.HEALTH_THERM, 4, 4⟩
def F.HEALTH_THERM_STEP : Fld := ⟨A.HEALTH_THERM, 1, 0⟩
def F.HEALTH_THERM_TMAX : Fld := ⟨A.HEALTH_THERM, 31, 16⟩
def F.HOST_CLAIM2_DEVICE : Fld := ⟨A.HOST_CLAIM2, 7, 0⟩
def F.HOST_CROAK_SES (i : Nat) : Fld := ⟨A.HOST_CROAK i, 15, 0⟩
def F.HOST_CROAK_SPI (i : Nat) : Fld := ⟨A.HOST_CROAK i, 16, 16⟩
def F.HOST_DB_PEND (i : Nat) : Fld := ⟨A.HOST_DB i, 0, 0⟩
def F.HOST_DB_SEQ (i : Nat) : Fld := ⟨A.HOST_DB i, 31, 24⟩
def F.HOST_ETH_CFG_IP4_EN : Fld := ⟨A.HOST_ETH_CFG, 16, 16⟩
def F.HOST_ETH_CFG_IP6_EN : Fld := ⟨A.HOST_ETH_CFG, 17, 17⟩
def F.HOST_ETH_DROP_V : Fld := ⟨A.HOST_ETH_DROP, 31, 0⟩
def F.HOST_ETH_STAT_AN_DONE : Fld := ⟨A.HOST_ETH_STAT, 1, 1⟩
def F.HOST_ETH_STAT_DUPLEX_FAIL : Fld := ⟨A.HOST_ETH_STAT, 2, 2⟩
def F.HOST_ETH_STAT_IP4_UP : Fld := ⟨A.HOST_ETH_STAT, 3, 3⟩
def F.HOST_ETH_STAT_IP6_UP : Fld := ⟨A.HOST_ETH_STAT, 4, 4⟩
def F.HOST_ETH_STAT_LINK : Fld := ⟨A.HOST_ETH_STAT, 0, 0⟩
def F.HOST_MBS_FULL (i : Nat) : Fld := ⟨A.HOST_MBS i, 0, 0⟩
def F.HOST_MBS_SENDER (i : Nat) : Fld := ⟨A.HOST_MBS i, 4, 1⟩
def F.HOST_MBT_TMO (i : Nat) : Fld := ⟨A.HOST_MBT i, 15, 0⟩
def F.HOST_MB_TO_TO : Fld := ⟨A.HOST_MB_TO, 19, 0⟩
def F.HOST_NSUB_CH (i : Nat) : Fld := ⟨A.HOST_NSUB i, 7, 0⟩
def F.HOST_NSUB_DEV (i : Nat) : Fld := ⟨A.HOST_NSUB i, 8, 8⟩
def F.HOST_POOL_FREE : Fld := ⟨A.HOST_POOL, 12, 0⟩
def F.HOST_POOL_STREAM_RES : Fld := ⟨A.HOST_POOL, 28, 16⟩
def F.HOST_PTP_CFG_EN : Fld := ⟨A.HOST_PTP_CFG, 0, 0⟩
def F.HOST_PTP_OFS_V : Fld := ⟨A.HOST_PTP_OFS, 31, 0⟩
def F.HOST_PTP_STAT_STATE : Fld := ⟨A.HOST_PTP_STAT, 2, 0⟩
def F.HOST_PTP_STAT_TWO_STEP : Fld := ⟨A.HOST_PTP_STAT, 3, 3⟩
def F.HOST_RING_ERR_V (i : Nat) : Fld := ⟨A.HOST_RING_ERR i, 31, 0⟩
def F.HOST_RING_STAT_ADDR : Fld := ⟨A.HOST_RING_STAT, 5, 0⟩
def F.HOST_RING_STAT_DUP_ADDR : Fld := ⟨A.HOST_RING_STAT, 7, 7⟩
def F.HOST_RING_STAT_DUP_EVT : Fld := ⟨A.HOST_RING_STAT, 17, 17⟩
def F.HOST_RING_STAT_STRAPPED : Fld := ⟨A.HOST_RING_STAT, 6, 6⟩
def F.HOST_RING_STAT_TL2_BYP : Fld := ⟨A.HOST_RING_STAT, 13, 13⟩
def F.HOST_RING_STAT_TL2_UP : Fld := ⟨A.HOST_RING_STAT, 8, 8⟩
def F.HOST_RING_STAT_TL3E_UP : Fld := ⟨A.HOST_RING_STAT, 9, 9⟩
def F.HOST_RING_STAT_TL3W_UP : Fld := ⟨A.HOST_RING_STAT, 10, 10⟩
def F.HOST_RING_STAT_WRAP_E : Fld := ⟨A.HOST_RING_STAT, 11, 11⟩
def F.HOST_RING_STAT_WRAP_EVT : Fld := ⟨A.HOST_RING_STAT, 16, 16⟩
def F.HOST_RING_STAT_WRAP_W : Fld := ⟨A.HOST_RING_STAT, 12, 12⟩
def F.HOST_SES_CNT_DUP (i : Nat) : Fld := ⟨A.HOST_SES_CNT i, 15, 0⟩
def F.HOST_SES_CNT_REJ (i : Nat) : Fld := ⟨A.HOST_SES_CNT i, 31, 16⟩
def F.HOST_SES_CR_GRANT (i : Nat) : Fld := ⟨A.HOST_SES_CR i, 10, 0⟩
def F.HOST_SES_CR_HELD (i : Nat) : Fld := ⟨A.HOST_SES_CR i, 26, 16⟩
def F.HOST_SES_STAT_OPEN (i : Nat) : Fld := ⟨A.HOST_SES_STAT i, 0, 0⟩
def F.HOST_SES_STAT_PORT (i : Nat) : Fld := ⟨A.HOST_SES_STAT i, 2, 1⟩
def F.HOST_SES_STAT_TBASE (i : Nat) : Fld := ⟨A.HOST_SES_STAT i, 9, 3⟩
def F.HOST_SES_STAT_TCNT (i : Nat) : Fld := ⟨A.HOST_SES_STAT i, 17, 10⟩
def F.HOST_SPI_CFG_RSES : Fld := ⟨A.HOST_SPI_CFG, 3, 0⟩
def F.HOST_SPI_CNT_DISCARD : Fld := ⟨A.HOST_SPI_CNT, 15, 0⟩
def F.HOST_SPI_CNT_REG_REF : Fld := ⟨A.HOST_SPI_CNT, 31, 16⟩
def F.HOST_SPI_STAT_PKT_PEND : Fld := ⟨A.HOST_SPI_STAT, 11, 11⟩
def F.HOST_SPI_STAT_REG_BUSY : Fld := ⟨A.HOST_SPI_STAT, 12, 12⟩
def F.HOST_SPI_STAT_REG_DONE : Fld := ⟨A.HOST_SPI_STAT, 13, 13⟩
def F.HOST_SPI_STAT_REG_N : Fld := ⟨A.HOST_SPI_STAT, 31, 24⟩
def F.HOST_SPI_STAT_REG_REFUSED : Fld := ⟨A.HOST_SPI_STAT, 14, 14⟩
def F.HOST_SPI_STAT_REG_STATUS : Fld := ⟨A.HOST_SPI_STAT, 23, 16⟩
def F.HOST_SPI_STAT_RX_ROOM : Fld := ⟨A.HOST_SPI_STAT, 10, 0⟩
def F.HOST_TAGS_ALLOC : Fld := ⟨A.HOST_TAGS, 15, 8⟩
def F.HOST_TAGS_IN_FLIGHT : Fld := ⟨A.HOST_TAGS, 7, 0⟩
def F.ISL_CFG_DECISIVE : Fld := ⟨A.ISL_CFG, 20, 17⟩
def F.ISL_CFG_N : Fld := ⟨A.ISL_CFG, 12, 10⟩
def F.ISL_CFG_ORD : Fld := ⟨A.ISL_CFG, 6, 1⟩
def F.ISL_CFG_PASS_EN : Fld := ⟨A.ISL_CFG, 16, 13⟩
def F.ISL_CFG_PROBE_CH : Fld := ⟨A.ISL_CFG, 9, 7⟩
def F.ISL_CFG_PROBE_EN : Fld := ⟨A.ISL_CFG, 0, 0⟩
def F.ISL_CFG_RIDE_PASSIVE : Fld := ⟨A.ISL_CFG, 21, 21⟩
def F.ISL_CFG_ROCOF_WIN : Fld := ⟨A.ISL_CFG, 27, 23⟩
def F.ISL_CFG_TEST : Fld := ⟨A.ISL_CFG, 22, 22⟩
def F.ISL_STAT_CAND : Fld := ⟨A.ISL_STAT, 5, 5⟩
def F.ISL_STAT_DET : Fld := ⟨A.ISL_STAT, 16, 16⟩
def F.ISL_STAT_IP_SAT : Fld := ⟨A.ISL_STAT, 6, 6⟩
def F.ISL_STAT_ISLANDED : Fld := ⟨A.ISL_STAT, 4, 4⟩
def F.ISL_STAT_PASSIVE_DET : Fld := ⟨A.ISL_STAT, 18, 18⟩
def F.ISL_STAT_PROBE_CH_NOW : Fld := ⟨A.ISL_STAT, 3, 1⟩
def F.ISL_STAT_PROBE_DET : Fld := ⟨A.ISL_STAT, 17, 17⟩
def F.ISL_STAT_PROBE_LOST : Fld := ⟨A.ISL_STAT, 19, 19⟩
def F.ISL_STAT_PROBE_ON : Fld := ⟨A.ISL_STAT, 0, 0⟩
def F.KA_ADMIT_ADMIT_MV : Fld := ⟨A.KA_ADMIT, 12, 0⟩
def F.KA_CFG_SHK_EN : Fld := ⟨A.KA_CFG, 26, 26⟩
def F.KA_CFG_SHK_TH : Fld := ⟨A.KA_CFG, 24, 21⟩
def F.KA_CFG_STORE_UF : Fld := ⟨A.KA_CFG, 20, 0⟩
def F.KA_CFG_TAMP_EN : Fld := ⟨A.KA_CFG, 25, 25⟩
def F.KA_DEFER_BURSTS : Fld := ⟨A.KA_DEFER, 31, 16⟩
def F.KA_DEFER_DEFER : Fld := ⟨A.KA_DEFER, 15, 0⟩
def F.KA_EVT_DEFER_EVT : Fld := ⟨A.KA_EVT, 2, 2⟩
def F.KA_EVT_RTC_SET : Fld := ⟨A.KA_EVT, 3, 3⟩
def F.KA_EVT_SHK_EVT : Fld := ⟨A.KA_EVT, 1, 1⟩
def F.KA_EVT_TAMP_EVT : Fld := ⟨A.KA_EVT, 0, 0⟩
def F.KA_RING_HEAD : Fld := ⟨A.KA_RING, 7, 0⟩
def F.KA_RING_KSEQ : Fld := ⟨A.KA_RING, 31, 8⟩
def F.KA_STAT_ON_VKA : Fld := ⟨A.KA_STAT, 3, 3⟩
def F.KA_STAT_RET_VALID : Fld := ⟨A.KA_STAT, 4, 4⟩
def F.KA_STAT_RTC_LOST : Fld := ⟨A.KA_STAT, 0, 0⟩
def F.KA_STAT_SHOCK : Fld := ⟨A.KA_STAT, 2, 2⟩
def F.KA_STAT_TAMPER : Fld := ⟨A.KA_STAT, 1, 1⟩
def F.KA_STORE_STORE_MV : Fld := ⟨A.KA_STORE, 12, 0⟩
def F.KA_STORE_VKA_MV : Fld := ⟨A.KA_STORE, 28, 16⟩
def F.MACH_CFG_POS (c : Nat) : Fld := ⟨A.MACH_CFG c, 1, 1⟩
def F.MACH_CFG_RATIO (c : Nat) : Fld := ⟨A.MACH_CFG c, 3, 2⟩
def F.MACH_CFG_SHUNT (c : Nat) : Fld := ⟨A.MACH_CFG c, 0, 0⟩
def F.MACH_EVT_PLATEAU_EVT (c : Nat) : Fld := ⟨A.MACH_EVT c, 3, 3⟩
def F.MACH_EVT_REFUSED (c : Nat) : Fld := ⟨A.MACH_EVT c, 0, 0⟩
def F.MACH_EVT_REV_REFUSED (c : Nat) : Fld := ⟨A.MACH_EVT c, 1, 1⟩
def F.MACH_EVT_SHIFT_FAIL (c : Nat) : Fld := ⟨A.MACH_EVT c, 2, 2⟩
def F.MACH_SHIFT_CNT_FAIL (c : Nat) : Fld := ⟨A.MACH_SHIFT_CNT c, 31, 16⟩
def F.MACH_SHIFT_CNT_SHIFTED (c : Nat) : Fld := ⟨A.MACH_SHIFT_CNT c, 15, 0⟩
def F.MACH_STAT_FW (c : Nat) : Fld := ⟨A.MACH_STAT c, 1, 1⟩
def F.MACH_STAT_I_LIM (c : Nat) : Fld := ⟨A.MACH_STAT c, 2, 2⟩
def F.MACH_STAT_PLATEAU (c : Nat) : Fld := ⟨A.MACH_STAT c, 0, 0⟩
def F.MACH_STAT_REFUSE (c : Nat) : Fld := ⟨A.MACH_STAT c, 11, 8⟩
def F.MACH_STAT_START_PH (c : Nat) : Fld := ⟨A.MACH_STAT c, 3, 3⟩
def F.METER_CFG_AGG (p : Nat) : Fld := ⟨A.METER_CFG p, 6, 5⟩
def F.METER_CFG_DIR (p : Nat) : Fld := ⟨A.METER_CFG p, 2, 2⟩
def F.METER_CFG_TYPE (p : Nat) : Fld := ⟨A.METER_CFG p, 1, 0⟩
def F.METER_EVT_CAL_CHG (p : Nat) : Fld := ⟨A.METER_EVT p, 3, 3⟩
def F.METER_EVT_MARK_EVT (p : Nat) : Fld := ⟨A.METER_EVT p, 2, 2⟩
def F.METER_EVT_NEU_EVT (p : Nat) : Fld := ⟨A.METER_EVT p, 1, 1⟩
def F.METER_EVT_SEQ_EVT (p : Nat) : Fld := ⟨A.METER_EVT p, 0, 0⟩
def F.METER_INTV_N1012 (p : Nat) : Fld := ⟨A.METER_INTV p, 15, 0⟩
def F.METER_INTV_N10M (p : Nat) : Fld := ⟨A.METER_INTV p, 31, 16⟩
def F.METER_MARK_T_MS (p : Nat) : Fld := ⟨A.METER_MARK_T p, 31, 0⟩
def F.METER_STAT_FLAGGED (p : Nat) : Fld := ⟨A.METER_STAT p, 2, 2⟩
def F.METER_STAT_FREQ_HOLD (p : Nat) : Fld := ⟨A.METER_STAT p, 6, 6⟩
def F.METER_STAT_MARKED (p : Nat) : Fld := ⟨A.METER_STAT p, 8, 8⟩
def F.METER_STAT_NEU_MISS (p : Nat) : Fld := ⟨A.METER_STAT p, 1, 1⟩
def F.METER_STAT_NOLOAD (p : Nat) : Fld := ⟨A.METER_STAT p, 5, 3⟩
def F.METER_STAT_SEQ_ERR (p : Nat) : Fld := ⟨A.METER_STAT p, 0, 0⟩
def F.METER_STAT_SUPRA_SHED (p : Nat) : Fld := ⟨A.METER_STAT p, 7, 7⟩
def F.METER_STAT_TSRC (p : Nat) : Fld := ⟨A.METER_STAT p, 9, 9⟩
def F.METER_TARIFF_GATE (p : Nat) : Fld := ⟨A.METER_TARIFF p, 19, 16⟩
def F.METER_WRAP_WRAP_HI (p : Nat) (i : Nat) : Fld := ⟨A.METER_WRAP p i, 31, 16⟩
def F.METER_WRAP_WRAP_LO (p : Nat) (i : Nat) : Fld := ⟨A.METER_WRAP p i, 15, 0⟩
def F.PCC_ADC_CFG_EN : Fld := ⟨A.PCC_ADC_CFG, 7, 0⟩
def F.PCC_ADC_CFG_FINE_OSR : Fld := ⟨A.PCC_ADC_CFG, 9, 8⟩
def F.PWM_CAL_LOCK (c : Nat) : Fld := ⟨A.PWM_CAL c, 7, 7⟩
def F.PWM_CAL_TAPS (c : Nat) : Fld := ⟨A.PWM_CAL c, 6, 0⟩
def F.PWM_CAL_UPD (c : Nat) : Fld := ⟨A.PWM_CAL c, 31, 16⟩
def F.PWM_CAR_RATIO (c : Nat) : Fld := ⟨A.PWM_CAR c, 3, 2⟩
def F.PWM_CAR_SHAPE (c : Nat) : Fld := ⟨A.PWM_CAR c, 1, 0⟩
def F.PWM_CAR_VP (c : Nat) : Fld := ⟨A.PWM_CAR c, 7, 6⟩
def F.PWM_CNT_CNT (c : Nat) : Fld := ⟨A.PWM_CNT c, 31, 0⟩
def F.PWM_DROP_CNT_DROP (c : Nat) : Fld := ⟨A.PWM_DROP_CNT c, 15, 0⟩
def F.PWM_DROP_CNT_HOLD_CNT (c : Nat) : Fld := ⟨A.PWM_DROP_CNT c, 31, 16⟩
def F.PWM_DTHL_DT_HL (c : Nat) (i : Nat) : Fld := ⟨A.PWM_DTHL c i, 19, 0⟩
def F.PWM_DTLH_DT_LH (c : Nat) (i : Nat) : Fld := ⟨A.PWM_DTLH c i, 19, 0⟩
def F.PWM_FORCE_OFF (c : Nat) : Fld := ⟨A.PWM_FORCE c, 9, 0⟩
def F.PWM_FORCE_USE (c : Nat) : Fld := ⟨A.PWM_FORCE c, 25, 16⟩
def F.PWM_FSTAT_MODE (c : Nat) : Fld := ⟨A.PWM_FSTAT c, 20, 20⟩
def F.PWM_FSTAT_OFF_EFF (c : Nat) : Fld := ⟨A.PWM_FSTAT c, 9, 0⟩
def F.PWM_FSTAT_ROLE (c : Nat) : Fld := ⟨A.PWM_FSTAT c, 19, 10⟩
def F.PWM_LATE_CNT_CNT (c : Nat) : Fld := ⟨A.PWM_LATE_CNT c, 31, 0⟩
def F.PWM_MINPW_MINPW (c : Nat) : Fld := ⟨A.PWM_MINPW c, 19, 0⟩
def F.PWM_OFS_OFS (c : Nat) (i : Nat) : Fld := ⟨A.PWM_OFS c i, 31, 0⟩
def F.PWM_OVR_INV (c : Nat) : Fld := ⟨A.PWM_OVR c, 12, 8⟩
def F.PWM_OVR_SWAP (c : Nat) : Fld := ⟨A.PWM_OVR c, 4, 0⟩
def F.PWM_STAT_CAL_FAIL (c : Nat) : Fld := ⟨A.PWM_STAT c, 13, 13⟩
def F.PWM_STAT_DROP (c : Nat) : Fld := ⟨A.PWM_STAT c, 11, 11⟩
def F.PWM_STAT_HOLD_EXT (c : Nat) : Fld := ⟨A.PWM_STAT c, 10, 10⟩
def F.PWM_STAT_PH_CLIP (c : Nat) : Fld := ⟨A.PWM_STAT c, 12, 12⟩
def F.PWR_CNT_OV_CNT : Fld := ⟨A.PWR_CNT, 31, 16⟩
def F.PWR_CNT_PF_CNT : Fld := ⟨A.PWR_CNT, 15, 0⟩
def F.PWR_EVT_OV_EVT : Fld := ⟨A.PWR_EVT, 3, 3⟩
def F.PWR_EVT_PF_DET : Fld := ⟨A.PWR_EVT, 0, 0⟩
def F.PWR_EVT_PF_RESUME : Fld := ⟨A.PWR_EVT, 1, 1⟩
def F.PWR_EVT_UV_WARN : Fld := ⟨A.PWR_EVT, 2, 2⟩
def F.PWR_STAT_OV : Fld := ⟨A.PWR_STAT, 13, 8⟩
def F.PWR_STAT_PF : Fld := ⟨A.PWR_STAT, 17, 17⟩
def F.PWR_STAT_PF_PIN : Fld := ⟨A.PWR_STAT, 16, 16⟩
def F.PWR_STAT_VKA_OK : Fld := ⟨A.PWR_STAT, 18, 18⟩
def F.PWR_STAT_WARN : Fld := ⟨A.PWR_STAT, 5, 0⟩
def F.REC_CFG_DIV : Fld := ⟨A.REC_CFG, 15, 8⟩
def F.REC_CFG_EN : Fld := ⟨A.REC_CFG, 0, 0⟩
def F.REC_CFG_NSIG : Fld := ⟨A.REC_CFG, 7, 3⟩
def F.REC_CFG_POST_MS : Fld := ⟨A.REC_CFG, 27, 16⟩
def F.REC_CFG_TRG_ISL : Fld := ⟨A.REC_CFG, 1, 1⟩
def F.REC_CNT_CAPT_CNT : Fld := ⟨A.REC_CNT, 15, 0⟩
def F.REC_CNT_MISS_CNT : Fld := ⟨A.REC_CNT, 31, 16⟩
def F.REC_LEN_RECORDS : Fld := ⟨A.REC_LEN, 19, 0⟩
def F.REC_SEL_CH (i : Nat) : Fld := ⟨A.REC_SEL i, 10, 8⟩
def F.REC_SEL_CODE (i : Nat) : Fld := ⟨A.REC_SEL i, 7, 0⟩
def F.REC_STAT_CAPTURED : Fld := ⟨A.REC_STAT, 16, 16⟩
def F.REC_STAT_MARKER : Fld := ⟨A.REC_STAT, 18, 18⟩
def F.REC_STAT_MISSED : Fld := ⟨A.REC_STAT, 17, 17⟩
def F.REC_STAT_SHORT_PRE : Fld := ⟨A.REC_STAT, 19, 19⟩
def F.REC_STAT_STATE : Fld := ⟨A.REC_STAT, 2, 0⟩
def F.REC_TRG_IDX_IDX : Fld := ⟨A.REC_TRG_IDX, 19, 0⟩
def F.RIDE_CH_CFG_NEG_EN (c : Nat) : Fld := ⟨A.RIDE_CH_CFG c, 2, 2⟩
def F.RIDE_CH_STAT_ISL_TRIP (c : Nat) : Fld := ⟨A.RIDE_CH_STAT c, 17, 17⟩
def F.RIDE_CH_STAT_LIMITED (c : Nat) : Fld := ⟨A.RIDE_CH_STAT c, 2, 2⟩
def F.RIDE_CH_STAT_NEG_UNTRACKED (c : Nat) : Fld := ⟨A.RIDE_CH_STAT c, 3, 3⟩
def F.RIDE_CH_STAT_PROT_TRIP (c : Nat) : Fld := ⟨A.RIDE_CH_STAT c, 16, 16⟩
def F.RIDE_CH_STAT_RECOV (c : Nat) : Fld := ⟨A.RIDE_CH_STAT c, 1, 1⟩
def F.RIDE_CH_STAT_RIDE_REF (c : Nat) : Fld := ⟨A.RIDE_CH_STAT c, 0, 0⟩
def F.ROLE_SEL_ROLE (c : Nat) : Fld := ⟨A.ROLE_SEL c, 2, 0⟩
def F.ROLE_STAT_CH_STATE (c : Nat) : Fld := ⟨A.ROLE_STAT c, 2, 0⟩
def F.SAFE_CAUSE_CH : Fld := ⟨A.SAFE_CAUSE, 10, 8⟩
def F.SAFE_CAUSE_CODE : Fld := ⟨A.SAFE_CAUSE, 7, 0⟩
def F.SAFE_CAUSE_DCLASS : Fld := ⟨A.SAFE_CAUSE, 11, 11⟩
def F.SAFE_CNT2_PW_FAIL_CNT : Fld := ⟨A.SAFE_CNT2, 15, 0⟩
def F.SAFE_CNT2_XMISS_CNT : Fld := ⟨A.SAFE_CNT2, 31, 16⟩
def F.SAFE_CNT_RST_REJ_CNT : Fld := ⟨A.SAFE_CNT, 31, 16⟩
def F.SAFE_CNT_SGI_CNT : Fld := ⟨A.SAFE_CNT, 15, 0⟩
def F.SAFE_EVT_CFG_COMMIT : Fld := ⟨A.SAFE_EVT, 6, 6⟩
def F.SAFE_EVT_FB_FAIL : Fld := ⟨A.SAFE_EVT, 4, 4⟩
def F.SAFE_EVT_PW_FAIL : Fld := ⟨A.SAFE_EVT, 7, 7⟩
def F.SAFE_EVT_RST_OK : Fld := ⟨A.SAFE_EVT, 1, 1⟩
def F.SAFE_EVT_RST_REJ : Fld := ⟨A.SAFE_EVT, 2, 2⟩
def F.SAFE_EVT_RST_STUCK : Fld := ⟨A.SAFE_EVT, 3, 3⟩
def F.SAFE_EVT_SGI_ENTER : Fld := ⟨A.SAFE_EVT, 0, 0⟩
def F.SAFE_EVT_XCHK_FAIL : Fld := ⟨A.SAFE_EVT, 5, 5⟩
def F.SAFE_IO_FB_A : Fld := ⟨A.SAFE_IO, 2, 2⟩
def F.SAFE_IO_FB_B : Fld := ⟨A.SAFE_IO, 3, 3⟩
def F.SAFE_IO_IN_A : Fld := ⟨A.SAFE_IO, 0, 0⟩
def F.SAFE_IO_IN_B : Fld := ⟨A.SAFE_IO, 1, 1⟩
def F.SAFE_IO_OUT_A : Fld := ⟨A.SAFE_IO, 5, 5⟩
def F.SAFE_IO_OUT_B : Fld := ⟨A.SAFE_IO, 6, 6⟩
def F.SAFE_IO_RST : Fld := ⟨A.SAFE_IO, 4, 4⟩
def F.SAFE_IO_RST_WHY : Fld := ⟨A.SAFE_IO, 11, 8⟩
def F.SAFE_LOGSEQ_SEQ : Fld := ⟨A.SAFE_LOGSEQ, 31, 0⟩
def F.SAFE_SL_STAT_IN_FAULT (i : Nat) : Fld := ⟨A.SAFE_SL_STAT i, 16, 16⟩
def F.SAFE_SL_STAT_MON (i : Nat) : Fld := ⟨A.SAFE_SL_STAT i, 15, 4⟩
def F.SAFE_SL_STAT_SLC_VIOL (i : Nat) : Fld := ⟨A.SAFE_SL_STAT i, 0, 0⟩
def F.SAFE_SL_STAT_SLD_VIOL (i : Nat) : Fld := ⟨A.SAFE_SL_STAT i, 1, 1⟩
def F.SAFE_SL_STAT_SLS_SIG (i : Nat) : Fld := ⟨A.SAFE_SL_STAT i, 3, 3⟩
def F.SAFE_SL_STAT_SLS_VIOL (i : Nat) : Fld := ⟨A.SAFE_SL_STAT i, 2, 2⟩
def F.SAFE_STAT_CFG_VALID : Fld := ⟨A.SAFE_STAT, 4, 4⟩
def F.SAFE_STAT_DFAULT : Fld := ⟨A.SAFE_STAT, 1, 1⟩
def F.SAFE_STAT_PEND : Fld := ⟨A.SAFE_STAT, 5, 5⟩
def F.SAFE_STAT_PW_SET : Fld := ⟨A.SAFE_STAT, 3, 3⟩
def F.SAFE_STAT_SGI : Fld := ⟨A.SAFE_STAT, 0, 0⟩
def F.SAFE_STAT_UNLOCKED : Fld := ⟨A.SAFE_STAT, 2, 2⟩
def F.SAFE_STAT_VIOL : Fld := ⟨A.SAFE_STAT, 15, 8⟩
def F.SURV_BUF_DROP_DROP : Fld := ⟨A.SURV_BUF_DROP, 31, 0⟩
def F.SURV_BUF_RD_RD_IDX : Fld := ⟨A.SURV_BUF_RD, 12, 0⟩
def F.SURV_BUF_WR_WR_IDX : Fld := ⟨A.SURV_BUF_WR, 12, 0⟩
def F.SURV_CTRL_BUF_EN : Fld := ⟨A.SURV_CTRL, 10, 10⟩
def F.SURV_CTRL_EN : Fld := ⟨A.SURV_CTRL, 13, 13⟩
def F.SURV_CTRL_INJ_LEN : Fld := ⟨A.SURV_CTRL, 9, 6⟩
def F.SURV_CTRL_REG_LEN : Fld := ⟨A.SURV_CTRL, 5, 0⟩
def F.SURV_DATA_CODE : Fld := ⟨A.SURV_DATA, 19, 0⟩
def F.SURV_DATA_DATA_OVR : Fld := ⟨A.SURV_DATA, 28, 28⟩
def F.SURV_DATA_ENTRY : Fld := ⟨A.SURV_DATA, 24, 20⟩
def F.SURV_DATA_INJ : Fld := ⟨A.SURV_DATA, 25, 25⟩
def F.SURV_DATA_VALID : Fld := ⟨A.SURV_DATA, 26, 26⟩
def F.SURV_DATA_WIN : Fld := ⟨A.SURV_DATA, 27, 27⟩
def F.SURV_DLY_INJ_DIV : Fld := ⟨A.SURV_DLY_INJ, 31, 16⟩
def F.SURV_DLY_REG_DIV : Fld := ⟨A.SURV_DLY_REG, 31, 16⟩
def F.SURV_LOST_INJ_LOST_CNT : Fld := ⟨A.SURV_LOST, 31, 16⟩
def F.SURV_LOST_REG_LOST_CNT : Fld := ⟨A.SURV_LOST, 15, 0⟩
def F.SURV_STAT_BUF_DROP : Fld := ⟨A.SURV_STAT, 4, 4⟩
def F.SURV_STAT_DATA_OVR : Fld := ⟨A.SURV_STAT, 0, 0⟩
def F.SURV_STAT_INJ_LOST : Fld := ⟨A.SURV_STAT, 2, 2⟩
def F.SURV_STAT_REG_LOST : Fld := ⟨A.SURV_STAT, 1, 1⟩
def F.SURV_STAT_SELF_FAIL : Fld := ⟨A.SURV_STAT, 5, 5⟩
def F.SURV_STAT_WIN : Fld := ⟨A.SURV_STAT, 3, 3⟩
def F.SURV_TRG_INJ_SRC : Fld := ⟨A.SURV_TRG_INJ, 2, 0⟩
def F.SURV_TRG_REG_SRC : Fld := ⟨A.SURV_TRG_REG, 2, 0⟩
def F.SYS_BOOT_ARB_F : Fld := ⟨A.SYS_BOOT, 14, 8⟩
def F.SYS_BOOT_BIST_FAIL : Fld := ⟨A.SYS_BOOT, 6, 6⟩
def F.SYS_BOOT_CFG_DEFAULT : Fld := ⟨A.SYS_BOOT, 5, 5⟩
def F.SYS_BOOT_EVT_ARB_RAISED : Fld := ⟨A.SYS_BOOT_EVT, 3, 3⟩
def F.SYS_BOOT_EVT_CFG_SAVED : Fld := ⟨A.SYS_BOOT_EVT, 5, 5⟩
def F.SYS_BOOT_EVT_CONFIRMED : Fld := ⟨A.SYS_BOOT_EVT, 2, 2⟩
def F.SYS_BOOT_EVT_FALLBACK_EVT : Fld := ⟨A.SYS_BOOT_EVT, 0, 0⟩
def F.SYS_BOOT_EVT_TRIAL_FAIL : Fld := ⟨A.SYS_BOOT_EVT, 1, 1⟩
def F.SYS_BOOT_EVT_VERIFY_FAIL : Fld := ⟨A.SYS_BOOT_EVT, 4, 4⟩
def F.SYS_BOOT_FALLBACK : Fld := ⟨A.SYS_BOOT, 3, 3⟩
def F.SYS_BOOT_RECOVERY : Fld := ⟨A.SYS_BOOT, 4, 4⟩
def F.SYS_BOOT_SLOT : Fld := ⟨A.SYS_BOOT, 0, 0⟩
def F.SYS_BOOT_TRIAL : Fld := ⟨A.SYS_BOOT, 2, 1⟩
def F.SYS_BOOT_UPD : Fld := ⟨A.SYS_BOOT, 7, 7⟩
def F.SYS_BOOT_UPD_SES : Fld := ⟨A.SYS_BOOT, 19, 16⟩
def F.SYS_BURST_ACTIVE : Fld := ⟨A.SYS_BURST, 8, 8⟩
def F.SYS_BURST_BUD_REMAIN_US : Fld := ⟨A.SYS_BURST_BUD, 20, 0⟩
def F.SYS_BURST_EN : Fld := ⟨A.SYS_BURST, 0, 0⟩
def F.SYS_BURST_HOST_REQ : Fld := ⟨A.SYS_BURST, 2, 2⟩
def F.SYS_BURST_ON_RIDE : Fld := ⟨A.SYS_BURST, 1, 1⟩
def F.SYS_BURST_STAT_ENTERED : Fld := ⟨A.SYS_BURST_STAT, 0, 0⟩
def F.SYS_BURST_STAT_EXIT_BUDGET : Fld := ⟨A.SYS_BURST_STAT, 1, 1⟩
def F.SYS_BURST_STAT_EXIT_REQUEST : Fld := ⟨A.SYS_BURST_STAT, 3, 3⟩
def F.SYS_BURST_STAT_EXIT_THERMAL : Fld := ⟨A.SYS_BURST_STAT, 2, 2⟩
def F.SYS_BURST_STAT_REFUSED_BUDGET : Fld := ⟨A.SYS_BURST_STAT, 4, 4⟩
def F.SYS_BURST_STAT_REFUSED_THERMAL : Fld := ⟨A.SYS_BURST_STAT, 5, 5⟩
def F.SYS_BURST_THERM_BLOCK : Fld := ⟨A.SYS_BURST, 9, 9⟩
def F.SYS_IMG_VER_VERSION : Fld := ⟨A.SYS_IMG_VER, 31, 0⟩
def F.SYS_MODE_MODE : Fld := ⟨A.SYS_MODE, 2, 0⟩
def F.SYS_MODE_PREV : Fld := ⟨A.SYS_MODE, 6, 4⟩
def F.SYS_MODE_RUN_BLOCK : Fld := ⟨A.SYS_MODE, 12, 12⟩
def F.SYS_MODE_WHY : Fld := ⟨A.SYS_MODE, 11, 8⟩
def F.SYS_OTHER_VER_VERSION : Fld := ⟨A.SYS_OTHER_VER, 31, 0⟩
def F.SYS_RIDE_CFG_BANK : Fld := ⟨A.SYS_RIDE_CFG, 2, 2⟩
def F.SYS_RIDE_CFG_EN : Fld := ⟨A.SYS_RIDE_CFG, 0, 0⟩
def F.SYS_RIDE_CFG_FNOM : Fld := ⟨A.SYS_RIDE_CFG, 1, 1⟩
def F.SYS_RIDE_CNT_ENT_CNT : Fld := ⟨A.SYS_RIDE_CNT, 15, 0⟩
def F.SYS_RIDE_CNT_PROT_CNT : Fld := ⟨A.SYS_RIDE_CNT, 31, 16⟩
def F.SYS_RIDE_STAT_ARMED : Fld := ⟨A.SYS_RIDE_STAT, 1, 1⟩
def F.SYS_RIDE_STAT_BANK_ACT : Fld := ⟨A.SYS_RIDE_STAT, 2, 2⟩
def F.SYS_RIDE_STAT_BANK_PEND : Fld := ⟨A.SYS_RIDE_STAT, 3, 3⟩
def F.SYS_RIDE_STAT_CAUSE : Fld := ⟨A.SYS_RIDE_STAT, 18, 16⟩
def F.SYS_RIDE_STAT_ENTER : Fld := ⟨A.SYS_RIDE_STAT, 8, 8⟩
def F.SYS_RIDE_STAT_EXCURSION : Fld := ⟨A.SYS_RIDE_STAT, 15, 15⟩
def F.SYS_RIDE_STAT_EXIT_LAST : Fld := ⟨A.SYS_RIDE_STAT, 11, 11⟩
def F.SYS_RIDE_STAT_EXIT_NORMAL : Fld := ⟨A.SYS_RIDE_STAT, 9, 9⟩
def F.SYS_RIDE_STAT_EXIT_TIMEOUT : Fld := ⟨A.SYS_RIDE_STAT, 10, 10⟩
def F.SYS_RIDE_STAT_F_TRIP : Fld := ⟨A.SYS_RIDE_STAT, 14, 14⟩
def F.SYS_RIDE_STAT_HV_TRIP : Fld := ⟨A.SYS_RIDE_STAT, 13, 13⟩
def F.SYS_RIDE_STAT_LV_TRIP : Fld := ⟨A.SYS_RIDE_STAT, 12, 12⟩
def F.SYS_RIDE_STAT_NORMAL : Fld := ⟨A.SYS_RIDE_STAT, 4, 4⟩
def F.SYS_RIDE_STAT_PROT : Fld := ⟨A.SYS_RIDE_STAT, 5, 5⟩
def F.SYS_RIDE_STAT_RIDE : Fld := ⟨A.SYS_RIDE_STAT, 0, 0⟩
def F.SYS_SLOT_ACTIVE : Fld := ⟨A.SYS_SLOT, 7, 7⟩
def F.SYS_SLOT_STATE_A : Fld := ⟨A.SYS_SLOT, 2, 0⟩
def F.SYS_SLOT_STATE_B : Fld := ⟨A.SYS_SLOT, 6, 4⟩
def F.SYS_SYNC_OUT_EN : Fld := ⟨A.SYS_SYNC, 2, 2⟩
def F.SYS_SYNC_SRC : Fld := ⟨A.SYS_SYNC, 1, 0⟩
def F.SYS_SYNC_STAT_ERR : Fld := ⟨A.SYS_SYNC_STAT, 23, 8⟩
def F.SYS_SYNC_STAT_REJECT : Fld := ⟨A.SYS_SYNC_STAT, 31, 24⟩
def F.SYS_SYNC_STAT_STATE : Fld := ⟨A.SYS_SYNC_STAT, 1, 0⟩
def F.SYS_SYNC_STEP_OK : Fld := ⟨A.SYS_SYNC, 3, 3⟩
def F.SYS_TICK_TICK_DIV : Fld := ⟨A.SYS_TICK, 16, 0⟩
def F.SYS_TT_GEN_GEN : Fld := ⟨A.SYS_TT_GEN, 31, 0⟩
def F.SYS_TT_STAT_BUILDING : Fld := ⟨A.SYS_TT_STAT, 24, 24⟩
def F.SYS_TT_STAT_BURST_FIT : Fld := ⟨A.SYS_TT_STAT, 23, 23⟩
def F.SYS_TT_STAT_LMAX : Fld := ⟨A.SYS_TT_STAT, 15, 0⟩
def F.SYS_TT_STAT_MARGIN : Fld := ⟨A.SYS_TT_STAT, 22, 16⟩
def F.SYS_WAKES_WAKES : Fld := ⟨A.SYS_WAKES, 31, 0⟩
def F.SYS_WAKE_T_T_US : Fld := ⟨A.SYS_WAKE_T, 23, 0⟩

end Sys2Proof.Machine
end

