-- ==== Sys2Proof/Machine/State.lean ====
section
/-! DEFINITION. The state of the block as plain data. Every host-visible word (registers and context words) lives in one
register file `regs`, at its canonical address (15 R431–R436); state that no register shows stands in named fields. -/

namespace Sys2Proof.Machine

/-- What stops the block. No meaning of this model faults: the type is closed and kept for the interface; the one
reason is never raised (safe). -/
inductive Fault
  /-- Raised by nothing: no rule of the spec stops the block on a command. Safe. -/
  | never
  deriving DecidableEq, Repr

/-- Why a command has no meaning. -/
inductive Refusal
  /-- Raised by a command without a meaning in this model; safe, the block goes no further. -/
  | notModelled (mnemonic : String)
  deriving DecidableEq, Repr

/-- A change of the tick table waiting to be checked and to take effect (01 R28, R30). -/
inductive Change
  | ctxWord (c k w : Nat) (v : Word)
  | tickDiv (v : Nat)
  | role (c r : Nat)
  | legs (c : Nat) (v : Word)
  deriving DecidableEq, Repr

/-- A rebuild of the tick table: the change, the request that waits for it (0: none), and whether it was accepted. -/
structure Rebuild where
  chg : Change
  wid : Nat
  ok : Bool
  deriving DecidableEq, Repr

/-- The tick generator, alignment and burst state that no register shows (01). -/
structure TickSt where
  /-- Start of the current tick in engine clocks since WAKE. -/
  start : Nat := 0
  /-- Length of the current tick in engine clocks. -/
  len : Nat := 20000
  /-- Tick boundaries since the last frame boundary: the index of the coming tick in its frame (R35, R90). -/
  inFrame : Nat := 4
  /-- Phase 6 is open: from phase 5 to the guard point (R27). -/
  open6 : Bool := false
  /-- Contexts written in this tick, as 16 × channel + context (R27). -/
  written : List Nat := []
  /-- Rebuilds in order of acceptance (R30). -/
  rebuilds : List Rebuild := []
  /-- An exit from burst since the present trigger became new (R36). -/
  exited : Bool := false
  /-- Refusal reasons recorded since the present trigger became new (R36). -/
  refBud : Bool := false
  refTherm : Bool := false
  /-- Burst time per second in engine clocks, the partial bin first (R37): at most 61 bins. -/
  bins : List Nat := []
  /-- Clock from which the running burst is not yet in a bin. -/
  burstAt : Nat := 0
  /-- Consecutive frame boundaries with |error| within, and above, 20 ns (R45). -/
  good : Nat := 0
  bad : Nat := 0
  /-- The single step after acquisition was made (R44). -/
  stepped : Bool := false
  /-- Correction still to slew, the single step of the coming tick, and the correction made in the last tick (R44, R45). -/
  slew : Int := 0
  step : Int := 0
  lastCor : Int := 0
  /-- SYNC_OUT is high (R46). -/
  syncOut : Bool := false
  /-- Consecutive ticks with a metrology overrun (R32). -/
  metLate : Nat := 0
  /-- A metrology engine fault has been reported (R32). -/
  metFault : Bool := false
  /-- RUN is refused until the next WAKE: a double clock fault, recovery or an unrepairable SRAM fault (17 R478). -/
  noRun : Bool := false
  /-- PCC converters run their self-check (02 R65). -/
  pccChk : Bool := false
  /-- PCC converters whose input is beyond ±1.2 V, bit k (02 R65). -/
  pccOver : BitVec 8 := 0
  /-- Power failure, or another cause, asks for this mode at the next tick boundary: mode and reason (17 R478). -/
  toMode : Option (Nat × Nat) := none
  /-- The device is held in reset or unpowered; WAKE has run; a restart acts at the next tick boundary, or has acted (17 R483). -/
  held : Bool := false
  woke : Bool := false
  restart : Bool := false
  /-- The engine clock is stopped: device time at which it stopped (16 R458). -/
  clkStop : Option Nat := none
  /-- CLK_CFG.SWITCH, DIV_COMMIT act at the next tick boundary; a PLL relocks after a commit (16 R453, R455). -/
  clkSw : Bool := false
  divPend : Bool := false
  relockA : Bool := false
  relockB : Bool := false
  deriving DecidableEq, Repr

/-- One half-bridge: PWM unit and gate-drive state that no register shows (07, 08). -/
structure HbSt where
  stageLo : Word := 0
  shLo : Word := 0
  shHi : Word := 0
  /-- The shadow word before the writes of the present tick. -/
  oldLo : Word := 0
  oldHi : Word := 0
  /-- DUTY of the active word before the last reload (R236). -/
  prevLo : Word := 0
  /-- Reloads since the half-bridge began to switch, at most 2. -/
  nRel : Nat := 0
  /-- The mismatch of R236 waits for the next reload. -/
  extrap : Bool := false
  /-- The next duty is the first ENG8 releases: the extrapolated duty to compare (R353). -/
  dExt : Option Word := none
  /-- The shadow word, and the one before it, were released after the mismatch (R353). -/
  rel8 : Bool := false
  oldRel8 : Bool := false
  p : Bool := false
  e : Bool := false
  /-- Dead times and overrides in force (R227, R232). -/
  dtLH : Nat := 25600
  dtHL : Nat := 25600
  swap : Bool := false
  inv : Bool := false
  /-- Forcing ended; release waits for the next reload (R233). -/
  relWait : Bool := false
  /-- Variable-period carrier: clock of the period start, and waiting for DC_VP_TMIN with both sides off (06 R197). -/
  vpAt : Nat := 0
  vpWait : Bool := false
  /-- The crossing or clamp has come: the next period starts when E returns; the dead time after an early crossing is over;
  the mean of the period that ends (07 R231, 06 R198). -/
  vpNext : Bool := false
  vpOver : Bool := false
  vpMean : Option Word := none
  /-- A host shadow write or context release completed since the last reload. -/
  fresh : Bool := false
  deriving DecidableEq, Repr

/-- A GRID channel: state that no register shows (04). -/
structure GridSt where
  /-- A pending SUB request (R138). -/
  pend : Option Bool := none
  /-- Consecutive ticks with tracking applied, at most 8 (R134). -/
  track : Nat := 0
  /-- Ticks of the transfer guard left (R137). -/
  guard : Nat := 0
  vAl : Word := 0
  vBe : Word := 0
  /-- R131 fired in the last tick: FORM_CL from the next boundary. -/
  clFire : Bool := false
  /-- Reference held in FORM_CL, relative to the direction of vd (R131). -/
  clD : Word := 0
  clQ : Word := 0
  /-- Angle and magnitude of the tracked EMF (R134). -/
  delta : Word := 0
  emf : Word := 0
  /-- Referred PLL angle of the last run (R117). -/
  thPll : Word := 0
  refD : Word := 0
  refQ : Word := 0
  /-- Closure confirmed: ACTIVE begins at the next boundary (R123). -/
  actNext : Bool := false
  /-- Clock at which the STOP ramp began, and the reference then (R124). -/
  stopAt : Option Nat := none
  stopD : Word := 0
  stopQ : Word := 0
  /-- The STOP ramp has ended: OFF at the next boundary (R124). -/
  offNext : Bool := false
  /-- The snapshot is in force (R150): ACTIVE at RIDE entry. -/
  riding : Bool := false
  /-- RECONN applied: FORM from the next boundary (R133). -/
  reconn : Bool := false
  /-- CTX0 holds its integrator (R153). -/
  pllHold : Bool := false
  /-- Black start: contactor commanded without the checks; and clock at which the EMF ramp began (R125). -/
  black : Bool := false
  blackAt : Option Nat := none
  /-- Ride snapshot of R150: K1, K2, PHI2, DB, IMAX, W, CFG, Vpre, idpre. -/
  snap : List Word := []
  /-- Measured id of the last 20 ms, newest first, each with its clock (R150). -/
  idHist : List (Nat × Word) := []
  /-- Post-RIDE ramp of R154 in progress, with the present axes. -/
  recD : Word := 0
  recQ : Word := 0
  deriving DecidableEq, Repr

/-- A DCB or DCP channel (06). -/
structure DcSt where
  actNext : Bool := false
  stopAt : Option Nat := none
  /-- r_eff when STOP was applied (R192). -/
  stopR : Word := 0
  offNext : Bool := false
  rEff : Word := 0
  /-- MPPT: reference, direction up, previous means, first period not yet ended (R193). -/
  vref : Word := 0
  up : Bool := false
  pPrev : Word := 0
  vPrev : Word := 0
  first : Bool := true
  /-- Sums over the present period, or the second half of the present dwell: power, voltage, time in clocks. -/
  sumP : Word := 0
  sumV : Word := 0
  sumT : Nat := 0
  /-- Clocks in the present scan point. -/
  dwell : Nat := 0
  scanDue : Bool := false
  scanIx : Nat := 0
  bestP : Word := 0
  bestV : Word := 0
  vBefore : Word := 0
  /-- Mean leg currents of the last completed variable period (R198). -/
  legMean : List Word := [0, 0, 0, 0]
  deriving DecidableEq, Repr

/-- A MACH channel (06). -/
structure MachSt where
  actNext : Bool := false
  stopping : Bool := false
  /-- Open-loop start: 0 none, 1 aligning, 2 ramping (R204). -/
  start : Nat := 0
  /-- Open-loop angle and speed. -/
  th : Word := 0
  w : Word := 0
  /-- Currents of the last complete carrier period (R207). -/
  ia : Word := 0
  ib : Word := 0
  ic : Word := 0
  deriving DecidableEq, Repr

/-- Digital input path of one modulator input (02). -/
structure MdSt where
  /-- The most recent fast filter output, normalised; none before the first (R59, R517). -/
  x : Option Word := none
  /-- Declared stuck, or MCLK lost: invalid by a fault (R53, R54). -/
  stuck : Bool := false
  /-- Waiting for the fine filter to settle (R57). -/
  settling : Bool := false
  /-- A digital-limit excursion above HI, below LO, is in progress (R61). -/
  above : Bool := false
  below : Bool := false
  deriving DecidableEq, Repr

/-- Gate-drive state of one half-bridge that no register shows (08, 06 R208–R209). -/
structure GateSt where
  /-- Comparator outputs (R249). -/
  l1 : Bool := false
  l2 : Bool := false
  /-- L1 is blanked (R251). -/
  blanked : Bool := false
  linkErr : Bool := false
  shoot : Bool := false
  /-- A self-check runs; consecutive passes while held (R263, R266). -/
  checking : Bool := false
  passes : Nat := 0
  /-- After an abandoned check both outputs stay low until settled (R265). -/
  settle : Bool := false
  /-- Consecutive carrier periods with a cycle-by-cycle hold, and a hold in the present one (R253). -/
  cbcRun : Nat := 0
  cbcNow : Bool := false
  /-- Commands for HI and LO after stage 6 of R244. -/
  hi : Bool := false
  lo : Bool := false
  /-- Phase-group action holding HI or LO low (R248). -/
  pgHi : Bool := false
  pgLo : Bool := false
  /-- Bootstrap: short LO periods counted, refresh pulse at this start,
  refresh due at the first period after forcing, "above" seen during a hold (R208, R209). -/
  shortLo : Nat := 0
  refresh : Bool := false
  refreshDue : Bool := false
  above : Bool := false
  deriving DecidableEq, Repr

/-- A channel: state that no register shows. `cutAt`: contexts from here on did not complete in the tick. -/
structure Ch where
  hb : Vector HbSt 10 := Vector.replicate 10 {}
  gate : Vector GateSt 10 := Vector.replicate 10 {}
  md : Vector MdSt 12 := Vector.replicate 12 {}
  grid : GridSt := {}
  dc : DcSt := {}
  mach : MachSt := {}
  /-- START applied: PRECHARGE from the next boundary (04 R121, R139). -/
  startNext : Bool := false
  /-- Contexts frozen in the present tick (03 R102). -/
  frz : Word := 0
  /-- Enabled contexts that have not run since their enable (R93). -/
  firstRun : Word := 0
  /-- The tick is cut short: contexts from here on do not run (R82). -/
  cutAt : Nat := 16
  /-- Contexts below this one need a catch-up run: the failing context of the failed tick (12 R350). -/
  catchUp : Option Nat := none
  /-- ENG8 takes the channel over at the next tick boundary (R349). -/
  foNext : Bool := false
  /-- Off-drive in progress (R256). -/
  offDrive : Bool := false
  /-- Comparator self-checks of WAKE have ended (R240 row 1). -/
  chkDone : Bool := false
  /-- Clock of the last fall of the effective enable, and of the last instant a trip input was active (R260). -/
  enaLowAt : Nat := 0
  inClearAt : Nat := 0
  /-- Capture references seen since EN was set, as clocks (R267). -/
  capRef : List (Option Nat) := [none, none]
  /-- What the law execution of the present tick wrote: context, address, word before, word after (03 R82). -/
  undo : List (Nat × Nat × Word × Word) := []
  /-- What its releases wrote: context, half-bridge, shadow word before, low word after. -/
  undoSh : List (Nat × Nat × Word × Word × Word) := []
  /-- Carrier settings wait for the next frame boundary (07 R219). -/
  carWait : Bool := false
  /-- SHAPE, RATIO and RLD in force. -/
  car : Word := 0x25
  /-- Chopper: clocks on in the present tick before its last turn-off, and clock of its last switching (05 R156, R157). -/
  chopOn : Nat := 0
  chopAt : Nat := 0
  deriving DecidableEq, Repr


/-- A session: what HOST_SES_* does not show (13 R378–R380, R399). -/
structure Ses where
  peer : Nat := 0
  timeout : Nat := 0
  /-- Clock of the last request. -/
  lastReq : Nat := 0
  ncount : Nat := 0
  /-- Tags in flight: tag and credits. -/
  tags : List (Nat × Nat) := []
  /-- The session has ended; tag range and grant are freed once every final reply was sent. -/
  ending : Bool := false
  deriving DecidableEq, Repr

/-- How far an accepted request has come (13 R387). -/
inductive WPhase
  | ready                 -- to be served in the next command slot
  | rebuild               -- waits for the outcome of a tick-table rebuild
  | ran                   -- last context word applied; replies after the next law execution (R100)
  | waitState (c : Nat)   -- START or STOP with WAIT
  | waitMode (m : Nat)    -- MODE_SET
  | commit                -- an M-die commit runs
  | sign                  -- a signature is being formed
  | timed (t : Nat)       -- continues at the first slot at or after this clock
  | abortWait (t : Nat)   -- an ABORT waiting for its target tag
  | closing               -- a CLOSE waiting for the session's other replies
  deriving DecidableEq, Repr

/-- An accepted request waiting for or under service. `ses` 16 is a register operation of H0 (14 R407). -/
structure Work where
  wid : Nat
  port : Port
  peer : Nat
  ses : Nat
  tag : Nat
  opc : Nat
  cred : Nat
  pay : List Word
  /-- Words applied. -/
  ix : Nat := 0
  /-- ACCEPTED was sent. -/
  acc : Bool := false
  phase : WPhase := .ready
  /-- An ABORT waits for the pending rebuild of this request (R388). -/
  abort : Bool := false
  /-- SEQ of the request. -/
  seq : Word := 0
  deriving DecidableEq, Repr

/-- A packet from the device: header fields, word 1 and payload (13 R376). -/
structure OutPkt where
  port : Port
  peer : Nat
  opc : Nat
  flg : Nat
  tag : Nat
  ses : Nat
  w1 : Word
  pay : List Word
  deriving DecidableEq, Repr

/-- An open stream (13 R396–R398). -/
structure Stream where
  ses : Nat
  typ : Nat
  win : Nat
  par : List Word
  /-- Next PSEQ, and packets sent and not acknowledged: PSEQ, source position after the packet, packet. -/
  pseq : Nat := 0
  unacked : List (Nat × Nat × OutPkt) := []
  /-- Items lost since the last packet (GAP), next source position, alternate-item toggle of thermal step 3. -/
  lost : Nat := 0
  pos : Nat := 0
  skip : Bool := false
  /-- METER and SIGNAL: items waiting for the next packet, oldest first (log entry 131). -/
  q : List (List Word) := []
  deriving DecidableEq, Repr

/-- An answer that H1 gives by itself (14 R409). -/
inductive EthAns | arp | neighbour | echo4 | echo6
  deriving DecidableEq, Repr

/-- Sessions, requests, streams and ports: what no register shows (13, 14). -/
structure HostSt where
  ses : Vector Ses 16 := Vector.replicate 16 {}
  work : List Work := []
  /-- Number of the last accepted request. -/
  lastWid : Nat := 0
  /-- Packets from the device, oldest first: H0 until read by PKT_RD; H1 and H2 in order of sending. -/
  tx0 : List OutPkt := []
  tx1 : List OutPkt := []
  tx2 : List OutPkt := []
  /-- TL1 packets waiting for a burst (14 R417). -/
  tl1 : List OutPkt := []
  /-- A TL1 frame addressed to the device awaits its burst. -/
  tl1Due : Bool := false
  /-- Replies held while the MGS restarts (12 R370). -/
  held : List OutPkt := []
  streams : List (Nat × Stream) := []
  /-- Words waiting in the mailboxes, and the clock at which each was stored (14 R426, R428). -/
  mbWord : Vector Word 16 := Vector.replicate 16 0
  mbAt : Vector Nat 16 := Vector.replicate 16 0
  /-- Words of the last register-mode read (14 R407). -/
  spiData : List Word := []
  /-- Announcements since WAKE (14 R421). -/
  annCnt : Nat := 0
  /-- The port settings in force since WAKE (14 R430): those of the configuration store then. -/
  portCfg : List (Nat × Word) := []
  /-- PTP time in ns at the clock at which the servo last set it; Syncs within 100 ns, and above 1 µs, in a row (14 R412, R413). -/
  ptpNs : Nat := 0
  ptpAt : Nat := 0
  ptpGood : Nat := 0
  ptpBad : Nat := 0
  /-- Frames forwarded on the ring in order: output (1 TL2, 2 TL3 east, 3 TL3 west), header word as sent, trailer good (14 R415). -/
  fwd : List (Nat × Word × Bool) := []
  /-- Answers sent on H1 to ARP, Neighbour Discovery and echo requests, oldest first (14 R409). -/
  eth : List EthAns := []
  /-- Words that the last H0 transaction, or the last read of a register by its own row, returned (14 R405; 15 R437). -/
  out : List Word := []
  /-- Session whose request or write is being applied; 255 none (12 R366 SES). -/
  actor : Nat := 255
  /-- Status the last register write of a command was answered with (13 R377). -/
  ans : Nat := 0
  deriving DecidableEq, Repr

/-- A record of the event log (12 R366). -/
structure LogRec where
  src : Nat
  ses : Nat
  restored : Bool := false
  tsrc : Bool := false
  lseq : Nat := 0
  tick : Nat := 0
  time : Nat := 0
  count : Nat := 0
  more : Nat := 0
  data : List Word := []
  deriving DecidableEq, Repr

/-- The event log and the health monitor (12). -/
structure LogSt where
  /-- Records queued for the M-die, oldest first, at most 256. -/
  queue : List LogRec := []
  /-- Sources with occurrences in no record: source, number P, latest occurrence (R367). -/
  pend : List (Nat × Nat × LogRec) := []
  /-- The ring of the M-die, newest first. -/
  ring : List LogRec := []
  /-- Sensors excluded (R360), bit i. -/
  excl : BitVec 16 := 0
  /-- Commits in a row that succeeded in their first slot since RECORDS was raised (R359). -/
  okCommits : Nat := 0
  /-- Retention copies of the counters at power failure, sparse (R368). -/
  retained : List (Nat × Word) := []
  deriving DecidableEq, Repr


/-- What a running timer watches: how long a condition has held without a break (04 R118–R132, 05 R144–R149, 06 R190–R204). -/
inductive Tm
  | entered (c : Nat)      -- the present CH_STATE of the channel
  | vdc (c : Nat)          -- DC link at or above its minimum in PRECHARGE
  | qual (c : Nat)         -- every connection check passes in SYNC
  | seq (c : Nat)          -- |V−| ≥ |V+| in SYNC
  | ratio (c : Nat)        -- source voltage too high for the link in SYNC
  | pll (c : Nat)          -- PLL_OK condition
  | km (c : Nat)           -- contactor commanded, closure not confirmed
  | close (c : Nat)        -- closure condition
  | ret (c : Nat)          -- |V+| ≥ GRID_VRET outside RIDE in FORM_CL
  | scan (c : Nat)         -- since ACTIVE entry or the end of the last scan
  | full (c : Nat)
  | empty (c : Nat)
  | pos (c : Nat)          -- position signal valid
  | align (c : Nat)        -- open-loop start, present step
  | ho (c : Nat)           -- observer and open-loop angle agree
  | normal                 -- PCC normal
  | uv
  | ov
  | fLo
  | fHi
  | ride                   -- since RIDE entry
  | lv                     -- below, above the curves; frequency beyond the trip limits
  | hv
  | fTripLo
  | fTripHi
  | win                    -- passive window detector
  | cand                   -- since the last candidate
  deriving DecidableEq, Repr

/-- The PCC monitor, GRIDPROT, island detection and the disturbance recorder (05). -/
structure Ride where
  /-- State of the monitor's filters, and arg V− of the last tick (R143). -/
  mon : List Word := []
  argNeg : Word := 0
  /-- |V+| of the last 20 ms, and the square of the zero-sequence voltage over one nominal cycle: clock and value, newest first. -/
  vpos : List (Nat × Word) := []
  zSeq : List (Nat × Word) := []
  /-- Probe angle and amplitude (R166). -/
  prbTh : Word := 0
  prbA : Word := 0
  /-- Consecutive exceeding windows, consecutive windows at or below the threshold, and the tick of the first exceeding one. -/
  exceed : Nat := 0
  below : Nat := 0
  firstEx : Nat := 0
  /-- A qualifying condition has been recorded as EXCURSION (R145). -/
  excDone : Bool := false
  /-- A declaration acts at the next tick boundary (R171). -/
  act : Bool := false
  /-- Windows in a row since the last change of injecting channel or of the window (R168): a window spans two periods. -/
  fresh : Nat := 0
  /-- Recorder: records of the buffer, oldest first; base ticks to the next record; records still to write in a capture; the
  trigger record and a marker are due (R161–R164). -/
  recs : List (List Word) := []
  recDiv : Nat := 0
  recLeft : Nat := 0
  recTrig : Bool := false
  recMark : Bool := false
  deriving DecidableEq, Repr

/-- A survey sequence (02 R68–R72): its copy of entries and windows, where it stands, its trigger. -/
structure SeqSt where
  run : Bool := false
  ix : Nat := 0
  ents : List Word := []
  wins : List Word := []
  pend : Bool := false
  /-- Source events since the last trigger; a trigger delay runs. -/
  cnt : Nat := 0
  dly : Bool := false
  deriving DecidableEq, Repr

/-- The survey converter (02). -/
structure Surv where
  reg : SeqSt := {}
  inj : SeqSt := {}
  /-- Sequence of the conversion in progress: true the injected one; and SYS_TICK_CNT_LO at its start. -/
  conv : Option Bool := none
  convTick : Word := 0
  /-- The SRAM buffer: index and the two words of each record written, latest write of an index only (R76). -/
  buf : List (Nat × Word × Word) := []
  /-- Results dropped since the last record. -/
  gap : Nat := 0
  deriving DecidableEq, Repr

/-- Values of an aggregation interval, or running sums towards one: number of windows, flag, words (09 R285). -/
structure Ival where
  n : Nat := 0
  flagged : Bool := false
  ro : List Word := []
  harm : List Word := []
  supra : List Word := []
  deriving DecidableEq, Repr

/-- A metering point: what no register shows (09). -/
structure MeterSt where
  /-- Fractions of the accumulators in 2 ^ -32 of a unit (R274), and the pending set of 10 R304 in the same unit. -/
  frac : Vector Nat 16 := Vector.replicate 16 0
  pend : Vector Nat 16 := Vector.replicate 16 0
  mkeFrac : Nat := 0
  /-- Engine clocks of substitution below one ms. -/
  markClk : Nat := 0
  /-- The latest interval of each level: 10/12-cycle, 150/180-cycle, 10 min, 2 h; and the sums towards the last three. -/
  shown : Vector Ival 4 := Vector.replicate 4 {}
  sums : Vector Ival 3 := Vector.replicate 3 {}
  /-- Completed 150/180-cycle and 2 h intervals (13 R390 WINDOW_READ). -/
  n180 : Nat := 0
  n2h : Nat := 0
  /-- Conditions of R289 at the end of the previous interval. -/
  seqPrev : Bool := false
  neuPrev : Bool := false
  /-- TYPE, DIR or METER_MAP changed: tracking restarts at the next tick boundary (R273). -/
  restart : Bool := false
  deriving DecidableEq, Repr

/-- A pulse output (09 R292–R294). -/
structure Epul where
  /-- Scheduled pulses: clock of emission, and whether the rate limit delays it. -/
  sched : List (Nat × Bool) := []
  /-- Pulses restored at WAKE, emitted before the scheduled ones (10 R313). -/
  old : Nat := 0
  /-- Clock of the latest emission placed, and of the latest emission. -/
  last : Option Nat := none
  lastEm : Option Nat := none
  /-- A pulse is under way. -/
  on : Bool := false
  /-- Written: no placement until the zeroing (R292). -/
  zero : Bool := false
  /-- EPUL_CFG and EPUL_K in force. -/
  cfg : Word := 0x7C10
  k : Word := 1000000
  deriving DecidableEq, Repr

/-- An energy record (10 R308). -/
structure Rec where
  typ : Nat
  flags : Nat
  seq : Nat
  tick : Nat
  time : Nat
  wakes : Nat
  saveMs : Nat
  unmet : Nat
  acc : List Nat
  frac : List Nat
  wrap : List Nat
  mke : List Nat
  /-- CNT, PEND and RES of EPUL0 to EPUL3. -/
  epul : List Nat
  loss : List Nat
  snap : List Byte
  prev : List Byte
  hash : List Byte
  deriving DecidableEq, Repr

/-- A pointer block (10 R307). -/
structure Ptr where
  pseq : Nat
  /-- 0–19 in the periodic ring, 0x8000 + slot in the snapshot ring. -/
  slot : Nat
  seq : Nat
  hash : List Byte
  deriving DecidableEq, Repr

/-- A commit in progress (10 R305, R306): its record, slot, tries used, whether the pointer flip has begun, and the pending
increments it carries. -/
structure Commit where
  r : Rec
  slot : Nat
  tries : Nat
  flip : Bool
  incs : List Nat
  deriving DecidableEq, Repr

/-- The energy-record area of the M-die and the commit machinery (10). -/
structure ErSt where
  /-- Slots of the two rings that hold a readable record. -/
  ring : List (Nat × Rec) := []
  snaps : List (Nat × Rec) := []
  ptrA : Option Ptr := none
  ptrB : Option Ptr := none
  /-- The head record and the latest snapshot. -/
  head : Option Rec := none
  lastSnap : Option Rec := none
  /-- Next slot of the periodic ring. -/
  next : Nat := 0
  commit : Option Commit := none
  /-- A PERIODIC commit is due and waits for the running one. -/
  due : Bool := false
  /-- Clock at which the last commit began. -/
  lastAt : Nat := 0
  /-- Consecutive failed commits. -/
  fails : Nat := 0
  /-- Accumulation stops after the next phase 4; clock at which it stopped; µs stopped, for the next record. -/
  stopNext : Bool := false
  stopAt : Option Nat := none
  unmet : Nat := 0
  /-- The tail of this power failure is committed; a resume waits for the next tick boundary; the next record is RESUMED. -/
  tail : Bool := false
  resume : Bool := false
  resumed : Bool := false
  /-- Calibration sets stored on the M-die, and those of a commit in progress (09 R280). -/
  cal : List (Nat × Word) := []
  calBusy : Option (List (Nat × Word)) := none
  /-- Request waiting for the calibration commit; 0 none. -/
  calWid : Nat := 0
  deriving DecidableEq, Repr

/-- An entry of the safety change log (11 R344). -/
structure ChgEnt where
  seq : Nat
  time : Nat
  ses : Nat
  port : Nat
  /-- 0 SET_PASSWORD, 1 COMMIT, 2 UNLOCK_FAILED. -/
  op : Nat
  old : List Word
  new : List Word
  deriving DecidableEq, Repr

/-- The safety configuration area of the M-die (11 R342–R344): salt, hash (empty: no password), image, change log newest first. -/
structure SafeNv where
  salt : List Byte := []
  hash : List Byte := []
  img : Option (List Word) := none
  log : List ChgEnt := []
  deriving DecidableEq, Repr

/-- The factory image of the safety configuration (11 R341). -/
def factoryImage : List Word :=
  [1#32, 1000#32, 100#32, 0x3D4CCCCD#32, 8#32] ++ List.replicate 59 0#32

/-- The safety island: what no register shows (11). -/
structure SafeSt where
  nv : SafeNv := {}
  /-- The valid image in force; none: the device-wide values of the factory image, no slice monitored (R343). -/
  inForce : Option (List Word) := none
  staged : Option (List Word) := none
  /-- Session that holds the unlock, clock of its last safety operation, wrong passwords in a row, clock at which unlocks
  were blocked (R342). -/
  owner : Option Nat := none
  opAt : Nat := 0
  wrong : Nat := 0
  blockAt : Option Nat := none
  /-- Image of the commit in progress, session and port. -/
  commit : Option (List Word × Nat × Nat) := none
  /-- Consecutive discrepant ticks by channel, consecutive missed windows (R325). -/
  xchk : Vector Nat 8 := Vector.replicate 8 0
  xmiss : Nat := 0
  /-- A demand on SAFE_IN_A, on SAFE_IN_B; the DISC fault (R330). -/
  demA : Bool := false
  demB : Bool := false
  disc : Bool := false
  /-- The feedback check of an accepted reset runs (R339). -/
  rst : Bool := false
  /-- An off-pulse test runs on SAFE_OUT_A, on SAFE_OUT_B (R332). -/
  testA : Bool := false
  testB : Bool := false
  /-- SGI has become active: channels go to OFF in the next tick (R328). -/
  chOff : Bool := false
  deriving DecidableEq, Repr

/-- A record of the brumation ring (16 R471). -/
structure KaRec where
  src : Nat
  typ : Nat
  kseq : Nat
  time : Nat
  count : Nat
  peak : Nat
  dur : Nat
  deriving DecidableEq, Repr

/-- The brumation domain: what no register shows (16 R464–R472). -/
structure KaSt where
  /-- The domain runs. -/
  on : Bool := false
  /-- Sixteenths of a µs of the RTC; the staged low word. -/
  frac : Nat := 0
  stage : Word := 0
  /-- Consecutive high, and low, samples of KA_TAMP; the loop is open. -/
  hi : Nat := 0
  lo : Nat := 0
  isOpen : Bool := false
  /-- Shock event: peak in mV, ticks above the threshold, consecutive ticks below. -/
  peak : Nat := 0
  dur : Nat := 0
  below : Nat := 0
  /-- Ring records on the M-die, newest first, next slot, KSEQ of the newest, last one imported. -/
  ring : List KaRec := []
  head : Nat := 0
  kseq : Nat := 0
  imported : Nat := 0
  /-- A domain reset since the last WAKE. -/
  wasReset : Bool := false
  deriving DecidableEq, Repr

/-- An image slot of the M-die (17 R490, R493): state, size in bytes, words written by word index. -/
structure Slot where
  st : Nat := 0
  size : Nat := 0
  words : List (Nat × Word) := []
  deriving DecidableEq, Repr

/-- What the M-die and the fuse array keep besides energy records, safety configuration and the log (17). -/
structure NvSt where
  /-- The configuration store (R486); port settings and CLK_CFG.PREF (14 R430, 16 R475). -/
  cfg : Option (List (Nat × Word)) := none
  port : List (Nat × Word) := []
  slots : Vector Slot 2 := Vector.replicate 2 {}
  /-- Boot control block: sequence, active slot, trial count (R490). -/
  bseq : Nat := 0
  active : Nat := 0
  trial : Nat := 0
  /-- Anti-rollback fuses blown (R491); WAKE count; causes of the replacement request at the last reset. -/
  fuses : Nat := 0
  wakes : Nat := 0
  causes : Nat := 0
  deriving DecidableEq, Repr

/-- Boot, update, configuration save and signatures in progress (17). -/
structure BootSt where
  /-- Request that waits for the verification; slot being verified. -/
  verWid : Option Nat := none
  /-- Words of the configuration commit in progress and the request that waits; 0 none. -/
  save : Option (List (Nat × Word)) := none
  saveWid : Nat := 0
  /-- Energy readouts and attestations being signed, oldest first: request, message to sign, body. -/
  reads : List (Nat × List Byte × List Word) := []
  atts : List (Nat × List Byte × List Word) := []
  deriving DecidableEq, Repr

/-- The block. -/
structure State where
  /-- Commands waiting, first in, first out. -/
  pending : List Instr
  /-- The register file: words that differ from their reset value, addresses strictly rising. -/
  regs : List (Nat × Word)
  t : TickSt
  ch : Vector Ch 8
  host : HostSt
  log : LogSt
  ride : Ride
  surv : Surv
  meter : Vector MeterSt 9
  epul : Vector Epul 4
  er : ErSt
  safe : SafeSt
  ka : KaSt
  nv : NvSt
  boot : BootSt
  /-- Conditions that hold, each with the clock since which it has held. -/
  timers : List (Tm × Nat)
  /-- Number of free values taken so far: plain data, DESIGN CHOICE 0 at reset (log entry 3). -/
  freeCtr : Nat
  deriving DecidableEq, Repr

/-- The block right after reset: every register at its reset value, nothing commanded. -/
def State.reset : State where
  pending := []
  regs := []
  t := {}
  ch := Vector.replicate 8 {}
  host := {}
  log := {}
  ride := {}
  surv := {}
  meter := Vector.replicate 9 {}
  epul := Vector.replicate 4 {}
  er := {}
  safe := { nv := { img := some factoryImage } }
  ka := {}
  nv := {}
  boot := {}
  timers := []
  freeCtr := 0

end Sys2Proof.Machine
end

