-- ==== Sys2Proof/Machine/Ops.lean ====
section
/-! DEFINITION. The named operations over the register file, events, the log, notifications, replies and time. -/

namespace Sys2Proof.Machine

/-! ### Addresses and reset values -/

/-- A word of a context (03 R85), by canonical address. -/
def isCtx (a : Nat) : Bool := 0x100000 ≤ a && a < 0x180000 && a % 0x10000 < 0x1000

def rowHit (a : Nat) (r : Row) : Bool :=
  r.base ≤ a && a < r.base + r.stride * r.count && (a - r.base) % r.stride == 0

/-- The register row at a canonical address, if a register lies there. -/
def rowAt (a : Nat) : Option Row :=
  if a < 0x70000 then (globalRows a).find? (rowHit a)
  else if 0x100000 ≤ a && a < 0x180000 then (channelRows (a % 0x10000)).find? (rowHit (a % 0x10000))
  else none

def rowReset (r : Row) : Word :=
  r.fields.foldl (fun w f => setBits w f.hi f.lo f.rst) 0#32

def rowMask (r : Row) : Word :=
  r.fields.foldl (fun w f => w ||| bitMask f.hi f.lo) 0#32

/-- Fields of the header words of a context (03 R85). -/
def ctxMask (w : Nat) : Word := if w = 0 then 0xFF#32 else if w = 2 then 0x1FFF#32 else if w = 3 then 0xFF0300FF#32 else 0xFFFFFFFF#32

/-- The number of SC bits of mask `m` below bit `b`. -/
def bitsBelow (m b : Nat) : Nat := ((List.range b).filter m.testBit).length

def lookupSrc (l : List (Nat × Nat × Nat)) (a b base : Nat) : Option Nat :=
  (l.find? fun r => r.1 == a).map fun r => base + r.2.2 + bitsBelow r.2.1 b

/-- The source number of status bit `b` of the register at `a` (12 R365). -/
def srcOf (a b : Nat) : Option Nat :=
  if 0x100000 ≤ a then lookupSrc srcCh (a % 0x10000) b (256 + 128 * ((a - 0x100000) / 0x10000))
  else if 0x40000 ≤ a && a < 0x50000 then lookupSrc srcPcc a b 0
  else lookupSrc srcDev a b 0

/-- The bit of rank `n` among the SC bits of `m`. -/
def nthBit (m n : Nat) : Nat := (((List.range 24).filter m.testBit)[n]?).getD 0

/-- The register and bit of a numbered source, if it has one (12 R365). -/
def srcReg (s : Nat) : Option (Nat × Nat) :=
  let go (l : List (Nat × Nat × Nat)) (n off : Nat) : Option (Nat × Nat) :=
    (l.find? fun r => r.2.2 ≤ n && n < r.2.2 + bitsBelow r.2.1 24).map fun r => (off + r.1, nthBit r.2.1 (n - r.2.2))
  if s < 256 then go srcDev s 0
  else if s < 1280 then go srcCh ((s - 256) % 128) (chBase ((s - 256) / 128))
  else go srcPcc s 0

/-- Device events without a status bit (12 R365). -/
def bareSource (s : Nat) : Bool := s ≤ 8 || (32 ≤ s && s ≤ 35)

/-- HEALTH_SRCDESCs (12 R372): fixed for every part; the severity of each source is the part's (12 R366 names no table). -/
def srcDesc (s : Nat) : Word :=
  let sev := (Config.severity s).toNat <<< 27
  match srcReg s with
  | some (a, b) => wd (a % 2 ^ 21 + (b <<< 21) + (1 <<< 26) + sev)
  | none => if bareSource s then wd sev else 0#32

/-- What a word reads as when nothing wrote it: its reset value; 0 for a reserved word (15 R436). -/
def resetWord (a : Nat) : Word :=
  if isCtx a then (if a % 0x100 = 4 then 0xFFFFFFFF#32 else 0#32)
  else if 0x32000 ≤ a && a < 0x33800 then srcDesc ((a - 0x32000) / 4)
  else match rowAt a with
    | some r => rowReset r
    | none => 0#32

/-- The implemented bits of the word at a canonical address; reserved bits read 0 (00 R9). -/
def implMask (a : Nat) : Word :=
  if isCtx a then ctxMask (a % 0x100 / 4)
  else match rowAt a with
    | some r => rowMask r
    | none => 0#32

/-! ### The register file -/

/-- The first entry of an address in a list of writes, newest first. -/
def lookupReg (l : List (Nat × Word)) (a : Nat) : Option Word :=
  match l with
  | [] => none
  | (b, v) :: t => if a = b then some v else lookupReg t a

/-- Put one entry into a canonical list: addresses strictly rising, no entry equal to its reset word. -/
def insertReg (a : Nat) (v : Word) : List (Nat × Word) → List (Nat × Word)
  | [] => if v = resetWord a then [] else [(a, v)]
  | (b, u) :: t =>
    if a < b then (if v = resetWord a then (b, u) :: t else (a, v) :: (b, u) :: t)
    else if a = b then (if v = resetWord a then t else (a, v) :: t)
    else (b, u) :: insertReg a v t

/-- The canonical form of a list of writes, newest first: the older entries go in first. -/
def canonRegs : List (Nat × Word) → List (Nat × Word)
  | [] => []
  | (a, v) :: t => insertReg a v (canonRegs t)

/-- Addresses strictly rising and above `lo`, no entry equal to its reset word. -/
def regsOk : Option Nat → List (Nat × Word) → Bool
  | _, [] => true
  | lo, (a, v) :: t => (match lo with | some b => decide (b < a) | none => true) && v != resetWord a && regsOk (some a) t

/-- The canonical form of the register file. -/
def State.regsWf (s : State) : Bool := regsOk none s.regs

/-- The word at a canonical address. -/
def State.rd (s : State) (a : Nat) : Word := (lookupReg s.regs a).getD (resetWord a)

/-- Write the word at a canonical address; `complete` restores the canonical form at the end of the command. -/
def State.wr (s : State) (a : Nat) (v : Word) : State := { s with regs := (a, v &&& implMask a) :: s.regs }

/-- A field's value, and the word with a field replaced. -/
def State.get (s : State) (f : Fld) : Nat := bits (s.rd f.addr) f.hi f.lo
def State.put (s : State) (f : Fld) (v : Nat) : State := s.wr f.addr (setBits (s.rd f.addr) f.hi f.lo v)
def State.flag (s : State) (f : Fld) : Bool := s.get f == 1
def State.putb (s : State) (f : Fld) (b : Bool) : State := s.put f (b2n b)
/-- Bit `i` of a field that is a set of bits. -/
def State.bitOf (s : State) (f : Fld) (i : Nat) : Bool := (s.get f).testBit i
def State.putBit (s : State) (f : Fld) (i : Nat) (b : Bool) : State :=
  s.put f (if b then s.get f ||| 2 ^ i else s.get f &&& (2 ^ (f.hi + 1 - f.lo) - 1 - 2 ^ i))
/-- Count one up, wrapping at the field's width. -/
def State.inc (s : State) (f : Fld) (n : Nat := 1) : State := s.put f ((s.get f + n) % 2 ^ (f.hi + 1 - f.lo))
/-- Count one up, saturating at the field's largest value. -/
def State.incSat (s : State) (f : Fld) : State := s.put f (min (s.get f + 1) (2 ^ (f.hi + 1 - f.lo) - 1))
/-- A 64-bit pair, _LO at the lower address (15 R442). -/
def State.get64 (s : State) (a : Nat) : Nat := (s.rd a).toNat + (s.rd (a + 4)).toNat * 2 ^ 32
def State.put64 (s : State) (a n : Nat) : State := (s.wr a (wd n)).wr (a + 4) (wd (n / 2 ^ 32))

/-- The end of every command: what it did, with the register file in canonical form and the queue as it was. -/
def complete (s s' : State) : Host.Outcome State Fault Refusal :=
  .next { s' with regs := canonRegs s'.regs, pending := s.pending }

/-! ### Channels -/

def State.chn (s : State) (c : Nat) : Ch := s.ch[c]?.getD {}
def State.modCh (s : State) (c : Nat) (f : Ch → Ch) : State := { s with ch := s.ch.setIfInBounds c (f (s.chn c)) }
def State.hb (s : State) (c h : Nat) : HbSt := (s.chn c).hb[h]?.getD {}
def State.modHb (s : State) (c h : Nat) (f : HbSt → HbSt) : State :=
  s.modCh c fun x => { x with hb := x.hb.setIfInBounds h (f (x.hb[h]?.getD {})) }
def State.gate (s : State) (c h : Nat) : GateSt := (s.chn c).gate[h]?.getD {}
def State.modGate (s : State) (c h : Nat) (f : GateSt → GateSt) : State :=
  s.modCh c fun x => { x with gate := x.gate.setIfInBounds h (f (x.gate[h]?.getD {})) }
def State.mdi (s : State) (c m : Nat) : MdSt := (s.chn c).md[m]?.getD {}
def State.modMd (s : State) (c m : Nat) (f : MdSt → MdSt) : State :=
  s.modCh c fun x => { x with md := x.md.setIfInBounds m (f (x.md[m]?.getD {})) }
def State.modGrid (s : State) (c : Nat) (f : GridSt → GridSt) : State := s.modCh c fun x => { x with grid := f x.grid }
def State.modDc (s : State) (c : Nat) (f : DcSt → DcSt) : State := s.modCh c fun x => { x with dc := f x.dc }
def State.modMach (s : State) (c : Nat) (f : MachSt → MachSt) : State := s.modCh c fun x => { x with mach := f x.mach }
def State.modT (s : State) (f : TickSt → TickSt) : State := { s with t := f s.t }
def State.modHost (s : State) (f : HostSt → HostSt) : State := { s with host := f s.host }
def State.modLog (s : State) (f : LogSt → LogSt) : State := { s with log := f s.log }

/-- The channels, the half-bridges of a channel, and a fold over indices. -/
def chans : List Nat := [0, 1, 2, 3, 4, 5, 6, 7]
def hbs : List Nat := [0, 1, 2, 3, 4, 5, 6, 7, 8, 9]
def State.each (s : State) (l : List Nat) (f : Nat → State → State) : State := l.foldl (fun s i => f i s) s

/-- Do `f` where `b` holds. -/
def State.when (s : State) (b : Bool) (f : State → State) : State := if b then f s else s

/-- Word `w` of context `k` of channel `c`. -/
def State.cx (s : State) (c k w : Nat) : Word := s.rd (ctxAddr c k w)
def State.setCx (s : State) (c k w : Nat) (v : Word) : State := s.wr (ctxAddr c k w) v

/-! ### Modes, roles and channel states -/

def mWAKE : Nat := 1
def mSTANDBY : Nat := 2
def mRUN : Nat := 3
def mRIDE : Nat := 4
def mSERVICE : Nat := 5
def mBRUMATE : Nat := 0
def State.mode (s : State) : Nat := s.get F.SYS_MODE_MODE

def rIDLE : Nat := 0
def rGRID : Nat := 1
def rDCB : Nat := 2
def rDCP : Nat := 3
def rMACH : Nat := 4
def State.role (s : State) (c : Nat) : Nat := s.get (F.ROLE_SEL_ROLE c)

def sOFF : Nat := 0
def sPRECHARGE : Nat := 1
def sSYNC : Nat := 2
def sACTIVE : Nat := 3
def sTAIL : Nat := 4
def State.cst (s : State) (c : Nat) : Nat := s.get (F.ROLE_STAT_CH_STATE c)

/-! ### Free values and time -/

/-- A free value of the counter `freeCtr`, and the state with the counter advanced. -/
def State.fresh (s : State) : Nat × State := (Config.freeValue s.freeCtr, { s with freeCtr := s.freeCtr + 1 })

/-- Engine clocks since WAKE at `off` clocks into the present tick (00 R8). -/
def State.clk (s : State) (off : Nat := 0) : Nat := s.t.start + off
/-- Engine clocks in `n` µs and ms. -/
def usClk (n : Nat) : Nat := 800 * n
def msClk (n : Nat) : Nat := 800000 * n
def State.tickCnt (s : State) : Nat := s.get64 A.SYS_TICK_CNT_LO
/-- PTP time is the device time while alignment is LOCKED on PTP (09 R285). -/
def State.ptpLocked (s : State) : Bool := s.get F.SYS_SYNC_STAT_STATE == 2 && s.get F.SYS_SYNC_SRC == 2
/-- PTP time in ns: it runs on from the last servo update (14 R412). -/
def State.ptpTime (s : State) : Nat := s.host.ptpNs + (s.clk - s.host.ptpAt) * 5 / 4
/-- Device time in µs (09 R285): PTP time while aligned to it, else the real-time clock. -/
def State.devTime (s : State) : Nat := if s.ptpLocked then s.ptpTime / 1000 else s.get64 A.KA_RTC_LO

/-! ### Packets to the hosts -/

/-- Send a packet: the port's queue in order; TL1 packets wait for a burst (14 R402, R417); a port that a restarting MGS
terminates holds its packets (12 R370). -/
def State.send (s : State) (p : OutPkt) : State :=
  let profile := s.get F.HEALTH_MGS_PROF
  if p.port == .h1 && profile == 1 && !s.flag F.HEALTH_MGS_RUNNING && !s.flag F.SYS_BOOT_RECOVERY then s.modHost fun h => { h with held := h.held ++ [p] }
  else match p.port with
    | .h0 => (s.modHost fun h => { h with tx0 := h.tx0 ++ [p] }).putb F.HOST_SPI_STAT_PKT_PEND true
    | .h1 => s.modHost fun h => { h with tx1 := h.tx1 ++ [p] }
    | .h2 => if p.peer < 64 then s.modHost fun h => { h with tl1 := h.tl1 ++ [p] }
             else s.modHost fun h => { h with tx2 := h.tx2 ++ [p] }

def State.sesOf (s : State) (i : Nat) : Ses := s.host.ses[i]?.getD {}
def State.modSes (s : State) (i : Nat) (f : Ses → Ses) : State :=
  s.modHost fun h => { h with ses := h.ses.setIfInBounds i (f (h.ses[i]?.getD {})) }
def State.sesOpen (s : State) (i : Nat) : Bool := s.flag (F.HOST_SES_STAT_OPEN i)
def portOf (n : Nat) : Port := if n = 0 then .h0 else if n = 1 then .h1 else .h2
def portNo : Port → Nat
  | .h0 => 0
  | .h1 => 1
  | .h2 => 2

/-- A NOTIFY to session `i` (14 R424, 13 R399): the count rises and PEND is set; the packet itself is withheld while the
fixed device reserve is empty, whose size is the part's. -/
def State.notify (i src : Nat) (status : Word) (s : State) : State :=
  if !s.sesOpen i then s else
  let n := ((s.sesOf i).ncount + 1) % 65536
  let s1 := (((s.modSes i fun x => { x with ncount := n }).put (F.HOST_DB_PEND i) 1).inc (F.HOST_DB_SEQ i))
  if Config.notifyRoom (s.host.tx0.length + s.host.tx1.length + s.host.tx2.length + s.host.tl1.length) then
    s1.send ⟨portOf (s.get (F.HOST_SES_STAT_PORT i)), (s.sesOf i).peer, 0xAF, 5, 0, i, wd n, [wd src, status, s.rd A.SYS_TICK_CNT_LO]⟩
  else s1

def ix16s : List Nat := List.range 16

/-! ### Events -/

/-- The record an occurrence makes (12 R366). -/
def State.logRec (s : State) (src : Nat) (status : Word) (det : List Word) : LogRec :=
  { src := src, ses := s.host.actor, tsrc := !s.ptpLocked, tick := s.tickCnt, time := s.devTime,
    count := (s.rd (A.HEALTH_EVCNT src)).toNat, data := status :: det }

/-- An occurrence of a source (12 R367): its counter rises, and it is coalesced into the source's queued record, gets a
record of its own, or is kept as the source's latest. -/
def State.occur (src : Nat) (status : Word) (det : List Word) (s : State) : State :=
  let s := s.inc (F.HEALTH_EVCNT_V src)
  let r := s.logRec src status det
  let p := ((s.log.pend.find? fun x => x.1 == src).map fun x => x.2.1).getD 0
  if s.log.queue.any fun q => q.src == src then
    (s.modLog fun l => { l with queue := l.queue.map fun q => if q.src == src then { r with more := q.more + 1 } else q }).inc F.HEALTH_LOG_COAL_V
  else if s.log.queue.length < 256 then
    ((s.modLog fun l => { l with queue := l.queue ++ [{ r with more := p }], pend := l.pend.filter fun x => x.1 != src }).inc
      F.HEALTH_LOG_COAL_V p).put F.HEALTH_LOG_WR_QDEPTH (s.log.queue.length + 1)
  else s.modLog fun l => { l with pend := (src, p + 1, r) :: l.pend.filter fun x => x.1 != src }

/-- Notifications of an event of a status register (14 R424, 08 R268). -/
def State.notifyEvent (a b src : Nat) (status : Word) (s : State) : State :=
  let dev := a == A.HEALTH_EVT || a == A.SAFE_EVT || (a == A.SYS_RIDE_STAT && 8 ≤ b && b ≤ 15)
  let c := (a - 0x100000) / 0x10000
  let chan := 0x100000 ≤ a && a == A.GDI_EVT c && s.bitOf (F.GDI_IRQ_EN_EN c) b
  s.each ix16s fun i s =>
    s.when ((dev && s.flag (F.HOST_NSUB_DEV i)) || (chan && s.bitOf (F.HOST_NSUB_CH i) c)) (State.notify i src status)

/-- Record an event in bit `b` of the status register at `a` (15 R439): the bit is set, SEQ counts, the source occurs. -/
def State.raiseAt (a b : Nat) (s : State) (det : List Word := []) : State :=
  let w := s.rd a
  let s := s.wr a (setBits (setBits w b b 1) 31 24 (bits w 31 24 + 1))
  match srcOf a b with
  | some src => (s.occur src (s.rd a) det).notifyEvent a b src (s.rd a)
  | none => s

/-- Set a status bit and count it in SEQ without an occurrence of its own. -/
def State.mark (s : State) (f : Fld) : State :=
  let w := s.rd f.addr
  s.wr f.addr (setBits (setBits w f.lo f.lo 1) 31 24 (bits w 31 24 + 1))

/-- Record the event of a one-bit SC field. -/
def State.raise (s : State) (f : Fld) (det : List Word := []) : State := State.raiseAt f.addr f.lo s det

/-- An event without a status bit. -/
def State.bare (s : State) (src : Nat) (det : List Word := []) : State := s.occur src 0#32 det

/-! ### The replacement request (12 R358, R359) -/

def cFAILOVER : Nat := 0
def cTAIL : Nat := 1
def cSPARE : Nat := 2
def cAGEING : Nat := 3
def cCOMP : Nat := 4
def cRECORDS : Nat := 5
def cCLOCK : Nat := 6
def cMONITOR : Nat := 7

/-- LEVEL and the SRQ pin from the causes present. -/
def srqLevel (causes : Nat) : Nat := if causes % 4 ≠ 0 then 2 else if causes ≠ 0 then 1 else 0
def State.srqUpdate (s : State) : State :=
  let l := srqLevel (s.get F.HEALTH_SRQ_CAUSE)
  (s.put F.HEALTH_SRQ_LEVEL l).putb F.HEALTH_SRQ_PIN (l ≠ 0)

/-- A cause arises: SRQ_RAISE when it was absent. -/
def State.cause (s : State) (b : Nat) : State :=
  if s.bitOf F.HEALTH_SRQ_CAUSE b then s
  else (s.putBit F.HEALTH_SRQ_CAUSE b true).srqUpdate.raise F.HEALTH_EVT_SRQ_RAISE

/-- A cause ends: source 2. -/
def State.uncause (s : State) (b : Nat) : State :=
  if s.bitOf F.HEALTH_SRQ_CAUSE b then (s.putBit F.HEALTH_SRQ_CAUSE b false).srqUpdate.bare 2 else s

end Sys2Proof.Machine
end

