-- ==== Sys2Proof/Machine/Flags.lean ====
section
/-! DEFINITION. Status codes, and the flags a register write or a run leaves: sequence-clear, the written fields of a
write, and the clamp and saturation flags of a context. -/

namespace Sys2Proof.Machine

/-! ### STATUS codes (13 R377) -/
def OK : Nat := 0x00
def ACCEPTED : Nat := 0x01
def ABORTED : Nat := 0x02
def ABORT_TOO_LATE : Nat := 0x03
def BAD_OPCODE : Nat := 0x10
def BAD_LENGTH : Nat := 0x11
def BAD_PARAM : Nat := 0x12
def NOT_IN_MODE : Nat := 0x13
def OWNED : Nat := 0x14
def NO_CREDIT : Nat := 0x15
def TAG_IN_USE : Nat := 0x16
def BUDGET_EXCEEDED : Nat := 0x17
def REFUSED_SAFETY : Nat := 0x20
def REFUSED_SPEED : Nat := 0x21
def REFUSED_ENERGY : Nat := 0x22
def CLEAR_REFUSED : Nat := 0x23
def INTERNAL_FAULT : Nat := 0x30

/-- The word after a sequence-clear write `v` to a status register holding `w` whose SC bits are `m` (15 R439): the
masked bits clear only when the SEQ written is the present one; SEQ stays. -/
def seqClear (w v : Word) (m : Word) : Word :=
  if bits v 31 24 = bits w 31 24 then w &&& ~~~(v &&& m &&& 0x00FFFFFF#32) else w

/-- The SC bits of a row. -/
def rowSc (r : Row) : Word := r.fields.foldl (fun w f => if f.acc = .sc then w ||| bitMask f.hi f.lo else w) 0#32
def rowWritable (r : Row) : Word := r.fields.foldl (fun w f => if f.acc = .rw then w ||| bitMask f.hi f.lo else w) 0#32

/-- A write changes this field (15 R519): a WO field counts when 1 is written, ROLE_SEL.ROLE and GRID_CTRL.SUB always. -/
def fieldWritten (act : RegAct) (f : RegField) (old new : Word) : Bool :=
  match f.acc with
  | .wo => bits new f.hi f.lo != 0 || act == .shLo || act == .shHi
  | .rw => bits new f.hi f.lo != bits old f.hi f.lo || act == .role
  | _ => false

/-! ### Limits of a context run (03 R91, R92) -/

/-- A clamped integrator: value, held high, held low, limits inverted. The upper limit is tested first. -/
structure Clamped where
  v : Word
  hi : Bool
  lo : Bool
  inv : Bool
  deriving DecidableEq, Repr

def clampTo (lo hi x : Word) : Clamped :=
  if fLt hi lo then ⟨hi, true, false, true⟩
  else if fLt hi x then ⟨hi, true, false, false⟩
  else if fLt x lo then ⟨lo, false, true, false⟩
  else ⟨x, false, false, false⟩

/-- CTX_STAT after a run: clamp flags, saturation flags, RAMP, RES_OFF and INV_LIM; the SC bits and SEQ stay. -/
def ctxStatWord (old : Word) (ci sat : Clamped) (ramp resOff : Bool) : Word :=
  setBits (setBits (setBits (setBits (setBits (setBits (setBits (setBits old 0 0 (b2n ci.hi)) 1 1 (b2n ci.lo)) 2 2 (b2n sat.hi))
    3 3 (b2n sat.lo)) 4 4 (b2n ramp)) 5 5 0) 6 6 (b2n resOff)) 7 7 (b2n (ci.inv || sat.inv))

/-! ### Trip inputs (08 R255, R260) -/

/-- Bit of GDI_SRC and GDI_IN for a source code of R255. -/
def srcBit (code : Nat) : Nat :=
  if code < 16 then code else if code < 32 then 10 + (code - 16) else 20 + (code - 32)

end Sys2Proof.Machine
end

