-- ==== Sys2Proof/Machine/Operands.lean ====
section
/-! DEFINITION. Operand forms: register addresses with their mirrors, aliases and the compatibility window (15 R431–R436,
R444), the claim a word needs (13 R389), and the fields of request payloads (13 R390). -/

namespace Sys2Proof.Machine

/-! ### Register addresses -/

/-- The canonical offset of an offset in a channel block (15 R434, R435). -/
def chanCanon (o : Nat) : Nat :=
  if o < 0x4000 then o &&& 0x2FFC
  else if o < 0x6000 then 0x4000 + ((o - 0x4000) &&& 0x03FC)
  else if o < 0x8000 then 0x6000 + ((o - 0x6000) &&& 0x03FC)
  else if o < 0xA000 then 0x8000 + ((o - 0x8000) &&& 0x03FC)
  else if o < 0xC000 then 0xA000 + ((o - 0xA000) &&& 0x0FFC)
  else 0xC000 + ((o - 0xC000) &&& 0x0FFC)

/-- The word a window offset reaches (15 R444); a reserved address where the window has none. -/
def windowTarget (o : Nat) : Nat :=
  if o < 0x400 then o
  else if o < 0x800 then 0x30000 + (o - 0x400)
  else if o < 0xC00 then 0x20000 + (o - 0x800)
  else if o < 0x1000 ∨ 0x9000 ≤ o then 0x7FFFC
  else
    let n := (o - 0x1000) / 0x1000
    let q := o % 0x1000
    chBase n + (if q < 0x400 then 0x4000 else if q < 0x800 then 0x6000 else if q < 0xC00 then 0x8000 else 0xC000) + q % 0x400

/-- The canonical address of a word, or none outside every block or off a word boundary (15 R431–R433). `win`: the
request comes through TL1 or TL2 in the Compatibility profile. -/
def resolve (win : Bool) (a : Nat) : Option Nat :=
  if a % 4 ≠ 0 then none
  else if a < 0x70000 then some (a - a % 0x10000 + (a % 0x10000 &&& 0x3FFC))
  else if 0x80000 ≤ a ∧ a < 0x90000 then (if win then some (windowTarget (a - 0x80000)) else none)
  else if 0x100000 ≤ a ∧ a < 0x180000 then some (a - a % 0x10000 + chanCanon (a % 0x10000))
  else none

/-- No register lies at the canonical address (15 R436). -/
def reserved (a : Nat) : Bool := !isCtx a && (rowAt a).isNone

/-! ### Claims (13 R389) -/

inductive Need
  | chan (c : Nat)
  | dev
  | only (i : Nat)
  | anyone
  deriving DecidableEq, Repr

/-- The claim a write of the word at `a` needs. `gateOnly`: the write changes nothing but METER_TARIFF.GATE. -/
def needOf (a : Nat) (gateOnly : Bool) : Need :=
  if 0x100000 ≤ a then .chan ((a - 0x100000) / 0x10000)
  else if a = A.SAFE_CTRL then .anyone
  else if a = A.METER_TARIFF 8 ∧ gateOnly then .anyone
  else if 0x10100 ≤ a ∧ a < 0x10180 ∧ a % 8 = 4 then .anyone
  else if 0x10180 ≤ a ∧ a < 0x101C0 then .only ((a - 0x10180) / 4)
  else if 0x10200 ≤ a ∧ a < 0x10240 then .anyone
  else if 0x102C0 ≤ a ∧ a < 0x10300 then .only ((a - 0x102C0) / 4)
  else if 0x10300 ≤ a ∧ a < 0x10340 then .only ((a - 0x10300) / 4)
  else .dev

/-- Owner + 1 of a channel claim, and of the device claim; 0 unclaimed. -/
def State.chOwner (s : State) (c : Nat) : Nat :=
  if c < 4 then bits (s.rd A.HOST_CLAIM0) (8 * c + 7) (8 * c) else bits (s.rd A.HOST_CLAIM1) (8 * (c - 4) + 7) (8 * (c - 4))
def State.setChOwner (s : State) (c v : Nat) : State :=
  if c < 4 then s.wr A.HOST_CLAIM0 (setBits (s.rd A.HOST_CLAIM0) (8 * c + 7) (8 * c) v)
  else s.wr A.HOST_CLAIM1 (setBits (s.rd A.HOST_CLAIM1) (8 * (c - 4) + 7) (8 * (c - 4)) v)
def State.devOwner (s : State) : Nat := s.get F.HOST_CLAIM2_DEVICE

/-- Session `i` may write a word that needs `n`; 16 stands for a register operation of H0 without a session. -/
def State.holds (s : State) (i : Nat) : Need → Bool
  | .chan c => s.chOwner c == i + 1 && i < 16
  | .dev => s.devOwner == i + 1 && i < 16
  | .only j => i == j
  | .anyone => true

/-! ### Payload fields -/

/-- Payload word `i`; 0 beyond the end. -/
def pw (l : List Word) (i : Nat) : Word := l[i]?.getD 0#32
/-- A field of a payload word. -/
def pf (l : List Word) (i hi lo : Nat) : Nat := bits (pw l i) hi lo
/-- Word `i` sets no bit outside mask `m` (13 R390). -/
def pok (l : List Word) (i : Nat) (m : Nat) : Bool := (pw l i) &&& ~~~(wd m) == 0#32

/-- The bytes of payload words from word `i`: lowest-numbered byte in bits [7:0] (13 R373). -/
def payBytes (l : List Word) (n : Nat) : List Byte :=
  ((l.flatMap fun w => [w.extractLsb' 0 8, w.extractLsb' 8 8, w.extractLsb' 16 8, w.extractLsb' 24 8])).take n

/-- Words from bytes, the last padded with zeros. -/
def bytesToWords : List Byte → List Word
  | a :: b :: c :: d :: t => wd (a.toNat + 256 * b.toNat + 65536 * c.toNat + 16777216 * d.toNat) :: bytesToWords t
  | [] => []
  | [a] => [wd a.toNat]
  | [a, b] => [wd (a.toNat + 256 * b.toNat)]
  | [a, b, c] => [wd (a.toNat + 256 * b.toNat + 65536 * c.toNat)]

/-- The channels, half-bridges or contexts of a bit mask. -/
def maskList (n m : Nat) : List Nat := (List.range n).filter m.testBit

end Sys2Proof.Machine
end

