-- ==== Sys2Proof/Machine/Channel.lean ====
section
/-! DEFINITION. What every role of a channel shares: forcing off, the contactor command, the move into OFF and the trip
latch (04 R120, R126; 06 R182; 07 R233, R235; 08 R255–R258). -/

namespace Sys2Proof.Machine

/-! ### Forcing off (07 R233) -/

/-- Legs of a DC channel. -/
def State.legs (s : State) (c : Nat) : Nat := s.get (F.DC_CFG_LEGS c)
/-- The legs of channel `c` run on a variable-period carrier (06 R196). -/
def State.vpCarrier (s : State) (c : Nat) : Bool :=
  (s.role c == rDCB || s.role c == rDCP) && s.get (F.DC_CFG_CAR c) != 0
/-- HB6 is the contactor output of the role (04 R110, 06 R185). -/
def State.kmSlot (s : State) (c : Nat) : Bool :=
  (s.role c == rGRID && s.flag (F.GRID_CFG_KM_EN c)) || ((s.role c == rDCB || s.role c == rDCP) && s.flag (F.DC_CFG_KM_EN c))
/-- HB9 is the chopper output (05 R155). -/
def State.chopSlot (s : State) (c : Nat) : Bool := s.get (F.CHOP_CFG_MODE c) != 0
/-- A static output of the role (07 R234). -/
def State.isStatic (s : State) (c h : Nat) : Bool := (h == 6 && s.kmSlot c) || (h == 9 && s.chopSlot c)

/-- The half-bridges a role switches. -/
def State.roleDrives (s : State) (c h : Nat) : Bool :=
  let r := s.role c
  if r = rGRID then h < 6
  else if r = rDCB ∨ r = rDCP then h < s.legs c
  else if r = rMACH then h < 3
  else s.bitOf (F.PWM_FORCE_USE c) h

/-- The role holds slot `h` off: its slot table, CH_STATE, the USE bits in IDLE, or no carrier (07 R233). MACH also
switches in SYNC, where its open-loop start runs (06 R204). -/
def State.roleHolds (s : State) (c h : Nat) : Bool :=
  if s.isStatic c h then false
  else
    let r := s.role c
    let noCar := s.get (F.PWM_CAR_SHAPE c) == 0 && !(s.vpCarrier c && h < 4)
    let active := s.cst c == sACTIVE && !(s.chn c).grid.offNext && !(s.chn c).dc.offNext
    let starting := r == rMACH && s.cst c == sSYNC && (s.chn c).mach.start != 0
    if r = rIDLE then !s.bitOf (F.PWM_FORCE_USE c) h || noCar
    else !(s.roleDrives c h && (active || starting)) || noCar

/-- The device mode or TAIL holds every slot off: WAKE, STANDBY and BRUMATE; in SERVICE only slots that a role other
than IDLE drives (17 R482). -/
def State.modeHolds (s : State) (c : Nat) : Bool :=
  s.mode == mWAKE || s.mode == mSTANDBY || s.mode == mBRUMATE || s.cst c == sTAIL ||
    (s.mode == mSERVICE && s.role c != rIDLE)

def State.forced (s : State) (c h : Nat) : Bool :=
  s.bitOf (F.PWM_FORCE_OFF c) h || s.roleHolds c h || s.modeHolds c

/-! ### Forming HI and LO (08 R244) -/

/-- The contactor is commanded closed. -/
def State.kmCmd (s : State) (c : Nat) : Bool :=
  if s.role c = rGRID then s.flag (F.GRID_STAT_KM_CMD c) else s.flag (F.DC_STAT_KM_CMD c)

/-- Commands for HI and LO after stages 1 to 6 of R244. -/
def State.gateCmd (s : State) (c h : Nat) : Bool × Bool :=
  let x := s.hb c h
  let g := s.gate c h
  if g.linkErr then (false, false)
  else if s.isStatic c h then ((if h = 6 then s.kmCmd c else s.flag (F.CHOP_STAT_ON c)), false)
  else
    let high := x.e && x.p
    let low := x.e && !x.p
    let held := s.bitOf (F.BOOT_STAT_HOLD c) h
    let high := high && !held && !g.refresh
    let low := if held then g.refresh else low || g.refresh
    let hi := if x.swap then low else high
    let lo := if x.swap then high else low
    let cbc := s.bitOf (F.GDI_STAT_CBC_HOLD c) h
    let hi := hi && !cbc && !g.pgHi
    let lo := lo && !cbc && !g.pgLo
    if (hi && lo) || g.shoot then (false, false) else (hi, lo)

/-- Re-form HI and LO of one half-bridge; a rising edge of either starts the blanking of L1 (R251). -/
def State.gateUpdate (c h : Nat) (s : State) : State :=
  let (hi, lo) := s.gateCmd c h
  let g := s.gate c h
  let rise := (hi && !g.hi) || (lo && !g.lo)
  s.modGate c h fun g => { g with hi := hi, lo := lo, blanked := (g.blanked || rise) && s.get (F.GDI_BLANK_BLANK c h) != 0 }

/-- Command the contactor; HB6 follows where it is the contactor output. -/
def State.setKm (s : State) (c : Nat) (b : Bool) : State :=
  (if s.role c = rGRID then s.putb (F.GRID_STAT_KM_CMD c) b
  else if s.role c = rDCB ∨ s.role c = rDCP then s.putb (F.DC_STAT_KM_CMD c) b else s).gateUpdate c 6

/-- Re-evaluate every forcing source of channel `c`: PWM_FSTAT, P and E of newly forced slots at once with HI and LO, and a
release that waits for the next reload; the end of forcing abandons a running self-check (08 R265). -/
def State.applyForce (c : Nat) (s : State) : State :=
  let mask (f : Nat → Bool) : Nat := hbs.foldl (fun m h => if f h then m + 2 ^ h else m) 0
  let old := s.get (F.PWM_FSTAT_OFF_EFF c)
  let now := mask (s.forced c)
  let role := mask (s.roleHolds c)
  let s1 := ((s.put (F.PWM_FSTAT_OFF_EFF c) now).put (F.PWM_FSTAT_ROLE c) role).putb (F.PWM_FSTAT_MODE c) (s.modeHolds c)
  (s1.each hbs fun h s =>
    if now.testBit h then s.modHb c h fun x => { x with p := false, e := false, relWait := false, nRel := 0, vpWait := false, vpNext := false, vpMean := none }
    else if old.testBit h then
      (s.modHb c h fun x => { x with relWait := true }).modGate c h fun g =>
        { g with settle := g.checking, checking := false, refreshDue := true }
    else s).each hbs (State.gateUpdate c)

def State.applyForceAll (s : State) : State := s.each chans State.applyForce

/-! ### Moves of CH_STATE -/

/-- Record a refusal or exit code and its event (04 R120, 06 R183). -/
def State.refuse (s : State) (c code : Nat) : State :=
  let r := s.role c
  if r = rGRID then (s.put (F.GRID_STAT_REFUSE c) code).raise (F.GRID_EVT_REFUSED c)
  else if r = rDCB ∨ r = rDCP then (s.put (F.DC_STAT_REFUSE c) code).raise (F.DC_EVT_REFUSED c)
  else if r = rMACH then (s.put (F.MACH_STAT_REFUSE c) code).raise (F.MACH_EVT_REFUSED c)
  else s
def State.refuseCode (s : State) (c : Nat) : Nat :=
  let r := s.role c
  if r = rGRID then s.get (F.GRID_STAT_REFUSE c)
  else if r = rDCB ∨ r = rDCP then s.get (F.DC_STAT_REFUSE c)
  else if r = rMACH then s.get (F.MACH_STAT_REFUSE c) else 0

/-- Refusal and exit codes (04 R122, 06 R184). -/
def kPC_TIMEOUT : Nat := 8
def kKM_FAIL : Nat := 9
def kTRIP : Nat := 10
def kGAINS : Nat := 12
def kMODE : Nat := 13
def kSTOP : Nat := 14
def kINPUTS : Nat := 15
def kCFG : Nat := 4

/-- Every move into OFF (04 R120, R138; 06 R182): half-bridges forced off and the contactor command off in the same
tick, pending sub-mode requests and ramps gone, MPPT scan ended, the code recorded. -/
def State.toOff (s : State) (c code : Nat) : State :=
  let s := (s.put (F.ROLE_STAT_CH_STATE c) sOFF).setKm c false
  let s := s.modCh c fun x => { x with
    startNext := false
    grid := { x.grid with pend := none, riding := false, reconn := false, actNext := false, stopAt := none, offNext := false, black := false, blackAt := none, clFire := false, guard := 0 }
    dc := { x.dc with actNext := false, stopAt := none, offNext := false, scanDue := false }
    mach := { x.mach with actNext := false, stopping := false, start := 0 } }
  let s := ((s.putb (F.GRID_STAT_PEND c) false).putb (F.GRID_STAT_SYNC_OK c) false).put (F.GRID_STAT_SUB_NOW c) 0
  let s := ((s.putb (F.RIDE_CH_STAT_RIDE_REF c) false).putb (F.RIDE_CH_STAT_RECOV c) false).putb (F.RIDE_CH_STAT_LIMITED c) false
  let s := (s.putb (F.DC_STAT_SCANNING c) false).putb (F.MACH_STAT_START_PH c) false
  (s.refuse c code).applyForce c

/-- The move of R126 and R182: from PRECHARGE, SYNC or ACTIVE to OFF; OFF and TAIL stay. -/
def State.exitToOff (s : State) (c code : Nat) : State :=
  if s.cst c = sPRECHARGE ∨ s.cst c = sSYNC ∨ s.cst c = sACTIVE then s.toOff c code else s

/-! ### The trip latch (08 R255–R258) -/

def State.effEn (s : State) (c : Nat) : Bool := s.flag (F.GDI_STAT_EFF_EN c)

/-- Enter a source event in GDI_SRC and GDI_TRQ (R258). -/
def State.trqEntry (s : State) (c code inp off : Nat) : State :=
  let b := srcBit code
  let a := A.GDI_SRC c
  let s := s.wr a (setBits (s.rd a) b b 1)
  let n := s.get (F.GDI_TRQ_N_N c)
  if n < 8 then
    ((s.wr (A.GDI_TRQ_A c n) (setBits (setBits (setBits 0#32 7 0 code) 11 8 inp) 28 12 off)).wr (A.GDI_TRQ_B c n)
      (s.rd A.SYS_TICK_CNT_LO)).put (F.GDI_TRQ_N_N c) (n + 1)
  else s.incSat (F.GDI_TRQ_N_OVF c)

/-- A source of the trip latch becomes active, `off` engine clocks into the tick: the latch sets if it was clear, with
off-drive, the channel's move to OFF and the USE bits of IDLE cleared; every source is recorded. -/
def State.trip (s : State) (c code inp off : Nat) : State :=
  if s.flag (F.GDI_STAT_TRIPPED c) then s.trqEntry c code inp off
  else
    let s := (s.putb (F.GDI_STAT_TRIPPED c) true).modCh c fun x => { x with offDrive := true }
    let s := ((s.wr (A.GDI_SRC c) 0#32).wr (A.GDI_TRQ_N c) 0#32)
    let s := s.each [0, 1, 2, 3, 4, 5, 6, 7] fun k s => (s.wr (A.GDI_TRQ_A c k) 0#32).wr (A.GDI_TRQ_B c k) 0#32
    let s := (s.trqEntry c code inp off).inc (F.GDI_CNT_TRIP_CNT c)
    let s := if s.role c = rIDLE then s.put (F.PWM_FORCE_USE c) 0 else s
    let s := ((s.exitToOff c kTRIP).applyForce c)
    s.raise (F.GDI_EVT_TRIP c)

/-- A trip input turns active or inactive: GDI_IN, and the time of its end for the clear qualification (R260). -/
def State.tripIn (s : State) (c code : Nat) (act : Bool) (off : Nat) : State :=
  let b := srcBit code
  let a := A.GDI_IN c
  let was := bit (s.rd a) b
  let s := s.wr a (setBits (s.rd a) b b (b2n act))
  let s := s.putb (F.GDI_STAT_IN_ACTIVE c) (s.rd a != 0#32)
  if was && !act then s.modCh c fun x => { x with inClearAt := s.clk off } else s

end Sys2Proof.Machine
end

