-- ==== Sys2Proof/Machine/Gate.lean ====
section
/-! DEFINITION. The gate-drive interface and power-stage protection (08): forming HI and LO, comparators, the clearing of
trips, self-checks and capture; bootstrap hold (06 R209). -/

namespace Sys2Proof.Machine

/-! ### Forming HI and LO (R244) and the balls (R240) -/

/-- Type of phase group `g`: 0 none, 1 NPC, 2 T-type (R247). -/
def State.pgType (s : State) (c g : Nat) : Nat :=
  if s.role c = rGRID then (if s.flag (F.GRID_CFG_TOPO c) then 2 else 1)
  else if s.role c = rIDLE then bits (s.rd (A.GDI_CFG c)) (2 * g + 1) (2 * g)
  else 0

/-- The state of one ball. -/
inductive Ball | high | low | z
  deriving DecidableEq, Repr

/-- CHn_HBh_HI and CHn_HBh_LO (R240): the first row whose condition holds. -/
def State.gateBalls (s : State) (c h : Nat) : Ball × Ball :=
  let g := s.gate c h
  let od := (s.chn c).offDrive
  let low5 := od || s.bitOf (F.PWM_FSTAT_OFF_EFF c) h || s.bitOf (F.GDI_STAT_CHK_HOLD c) h || g.settle ||
    s.bitOf (F.GDI_STAT_CBC_HOLD c) h || g.linkErr || g.shoot
  if s.mode == mBRUMATE || s.flag F.PWR_STAT_PF && s.get F.PWR_STAT_WARN != 0 || (s.mode == mWAKE && !(s.chn c).chkDone) then (.z, .z)
  else if s.flag (F.GDI_STAT_TRIPPED c) && !od then (.z, .z)
  else if !s.effEn c && !od then (.z, .z)
  else if s.flag F.SAFE_STAT_SGI && !od then (.z, .z)
  else if low5 then (.low, .low)
  else ((if g.hi then .high else .low), (if g.lo then .high else .low))

/-! ### Capture (R267) -/

/-- The carrier period in counts (07 R217). -/
def State.prd (s : State) (c : Nat) : Nat :=
  let d := s.get F.SYS_TICK_TICK_DIV
  let r := bits (s.chn c).car 3 2
  if r = 0 then 4 * d else if r = 1 then 2 * d else if r = 2 then d else d / 2

/-- A PWM event of half-bridge `h` at a clock: the reference of every capture unit that selects it (07 R238). Events 0 to
2 are kept as the period start; the peak and the reload follow it by half a period. -/
def State.pwmEvent (c evt h t : Nat) (s : State) : State :=
  let hit (u : Nat) : Bool :=
    let e := s.get (F.GDI_CAPCFG_EVT c u)
    s.flag (F.GDI_CAPCFG_EN c u) && (if e ≤ 2 then evt == 0 else e == evt && s.get (F.GDI_CAPCFG_EVT_HB c u) == h)
  s.modCh c fun x => { x with capRef := x.capRef.mapIdx fun u r => if hit u then some t else r }

/-- The latest instant of the selected event at or before `t`, from the period start `r` (07 R238). -/
def capInstant (evt rld prd r t : Nat) : Nat :=
  let peak := if r + prd / 2 ≤ t then r + prd / 2 else r - prd / 2
  if evt = 1 then peak
  else if evt = 2 then (if rld = 1 then peak else if rld = 2 then max r (if r + prd / 2 ≤ t then r + prd / 2 else 0) else r)
  else r

/-- A comparator crossing reaches the capture units (R252, R267). -/
def State.capture (c h : Nat) (l2 fall : Bool) (off : Nat) (s : State) : State :=
  s.each [0, 1] fun u s =>
    s.when (s.flag (F.GDI_CAPCFG_EN c u) && s.get (F.GDI_CAPCFG_HB c u) == h && s.flag (F.GDI_CAPCFG_LVL c u) == l2 &&
        s.flag (F.GDI_CAPCFG_EDGE c u) == fall) fun s =>
      let t := s.clk off
      let e := s.get (F.GDI_CAPCFG_EVT c u)
      let d := match ((s.chn c).capRef[u]?.getD none) with
        | some r => min 0xFFFFF (t - (if e ≤ 2 then capInstant e (bits (s.chn c).car 5 4) (s.prd c) r t else r))
        | none => 0xFFFFF
      ((s.put (F.GDI_CAP_DELAY c u) d).inc (F.GDI_CAP_COUNT c u)).raise (F.GDI_EVT_CAP c)

/-! ### Comparators -/

/-- An L1 comparator is a trip input by its mode (R260). -/
def State.l1Arms (s : State) (c h : Nat) : Bool :=
  s.get (F.GDI_SNS_L1_MODE c h) == 1 || s.get (F.GDI_SNS_L1_MODE c h) == 2

/-- A cycle-by-cycle hold (R253): both outputs low until the next period start; CBC_N periods in a row trip. -/
def State.cbcHold (c h off : Nat) (s : State) : State :=
  let s := (s.putBit (F.GDI_STAT_CBC_HOLD c) h true).inc (F.GDI_CNT2_CBC_CNT c)
  let s := (s.raise (F.GDI_EVT_CBC c)).gateUpdate c h
  let g := s.gate c h
  let run := if g.cbcNow then g.cbcRun else g.cbcRun + 1
  let s := s.modGate c h fun g => { g with cbcNow := true, cbcRun := run }
  let n := s.get (F.GDI_SNS_CBC_N c h)
  s.when (n != 0 && n ≤ run) fun s => s.trip c (0x10 + h) 0 off

/-- An unblanked L1 of 1 acts by L1_MODE (R251). -/
def State.l1Act (c h off : Nat) (s : State) : State :=
  let m := s.get (F.GDI_SNS_L1_MODE c h)
  if m = 2 then s.trip c (0x10 + h) 0 off
  else if m = 1 then s.cbcHold c h off
  else s

/-- L2_CROSSING (R250): nothing masks L2. -/
def State.l2Crossing (c h off : Nat) (s : State) : State :=
  let s := (s.modGate c h fun g => { g with l2 := true }).capture c h true false off
  s.when (s.flag (F.GDI_SNS_L2_EN c h)) fun s => (s.tripIn c h true off).trip c h 0 off

/-- L1_CROSSING (R251–R253). While the forwarded engine clock is absent no blanking applies (R245). -/
def State.l1Crossing (c h off : Nat) (s : State) : State :=
  let s := (s.modGate c h fun g => { g with l1 := true }).capture c h false false off
  let s := s.when (s.l1Arms c h) fun s => s.tripIn c (0x10 + h) true off
  s.when (!(s.gate c h).blanked) (State.l1Act c h off)

/-- L1_BLANKING_END: an L1 still at 1 acts at once. -/
def State.l1BlankingEnd (c h off : Nat) (s : State) : State :=
  if (s.gate c h).blanked then
    let s := s.modGate c h fun g => { g with blanked := false }
    s.when (s.gate c h).l1 (State.l1Act c h off)
  else s

/-- COMPARATOR_OUTPUT_FALL (R249): the trip input ends and the fall is captured. -/
def State.comparatorFall (c h : Nat) (l2 : Bool) (off : Nat) (s : State) : State :=
  let s := s.modGate c h fun g => if l2 then { g with l2 := false } else { g with l1 := false }
  (s.tripIn c (if l2 then h else 0x10 + h) false off).capture c h l2 true off

/-- GDI_SNS has been written: the trip inputs follow the comparators that are armed now, and an output that stands at 1 acts
as armed (R250, R251, R260). -/
def State.snsWritten (c h off : Nat) (old : Word) (s : State) : State :=
  let g := s.gate c h
  let en := s.flag (F.GDI_SNS_L2_EN c h)
  let s := (s.tripIn c h (g.l2 && en) off).tripIn c (0x10 + h) (g.l1 && s.l1Arms c h) off
  let s := s.when (g.l2 && en && !bit old 22) fun s => s.trip c h 0 off
  s.when (g.l1 && !g.blanked && s.get (F.GDI_SNS_L1_MODE c h) != bits old 21 20) (State.l1Act c h off)

/-! ### Link, interlocks -/

/-- LINK_CHECK_FAULT (R245): both outputs low. -/
def State.linkFault (c h : Nat) (s : State) : State :=
  let s := s.modGate c h fun g => { g with linkErr := true }
  ((s.inc (F.GDI_CNT2_LINK_CNT c)).raise (F.GDI_EVT_LINK_ERR c)).gateUpdate c h

/-- LINK_FAULT_END: both pairs have disagreed correctly for 10 ns. -/
def State.linkEnd (c h : Nat) (s : State) : State :=
  let s := (s.modGate c h fun g => { g with linkErr := false }).gateUpdate c h
  s.when (hbs.all fun k => !(s.gate c k).linkErr) fun s => s.tripIn c 0x23 false 0

/-- LINK_TRIP: a line-pair fault that has lasted 1 µs. -/
def State.linkTrip (c h off : Nat) (s : State) : State :=
  s.when (s.gate c h).linkErr fun s => (s.tripIn c 0x23 true off).trip c 0x23 0 off

/-- SHOOT_THROUGH_BLOCK (R246): both commands on; both outputs stay low while it lasts. The next change of the commands
ends it. -/
def State.shootBlock (c h : Nat) (s : State) : State :=
  let s := s.modGate c h fun g => { g with shoot := true, hi := false, lo := false }
  (s.inc (F.GDI_ICNT_SHOOT_CNT c)).raise (F.GDI_EVT_SHOOT c)

/-- PHASE_GROUP_INTERLOCK (R248): T1 is HI of HB(2g), T2 HI of HB(2g+1), T3 LO of HB(2g), T4 LO of HB(2g+1). The action
holds the named switch low; it ends with the next change of that half-bridge's commands. -/
def State.phaseGroup (c g : Nat) (v : PgViol) (s : State) : State :=
  let ty := s.pgType c g
  let applies := match v with
    | .t1 | .t4 | .t2Off | .t3Off => ty == 1
    | .t1t4 _ | .both => ty == 2
  if !applies then s else
  let t1 (s : State) := (s.modGate c (2 * g) fun x => { x with pgHi := true }).gateUpdate c (2 * g)
  let t4 (s : State) := (s.modGate c (2 * g + 1) fun x => { x with pgLo := true }).gateUpdate c (2 * g + 1)
  let s := match v with
    | .t1 | .t2Off => t1 s
    | .t4 | .t3Off => t4 s
    | .t1t4 l4 => if l4 then t4 s else t1 s
    | .both => t4 (t1 s)
  (s.inc (F.GDI_ICNT_PG_CNT c)).raise (F.GDI_EVT_PG_VIOL c)

/-! ### Enable and clearing (R259–R262) -/

/-- OFF_DRIVE_END (R256): high impedance follows. -/
def State.offDriveEnd (c : Nat) (s : State) : State := s.modCh c fun x => { x with offDrive := false }

/-- The effective enable falls (R256, R259, R126). -/
def State.enableFall (c off : Nat) (s : State) : State :=
  if s.effEn c then
    let s := (s.putb (F.GDI_STAT_EFF_EN c) false).modCh c fun x => { x with offDrive := true, enaLowAt := s.clk off }
    s.exitToOff c kTRIP
  else s

/-- The outcome of a rising edge of the effective enable: the latch clears, or both failures are recorded (R260). -/
def State.enableRise (c off : Nat) (s : State) : State :=
  let s := s.putb (F.GDI_STAT_EFF_EN c) true
  if s.flag (F.GDI_STAT_TRIPPED c) then
    let now := s.clk off
    let short := now < (s.chn c).enaLowAt + usClk 10
    let refused := s.flag (F.GDI_STAT_IN_ACTIVE c) || now < (s.chn c).inClearAt + usClk (s.get (F.GDI_CLRQ_CLRQ c))
    if short || refused then
      let s := if short && refused then (s.mark (F.GDI_EVT_CLR_SHORT c)).raise (F.GDI_EVT_CLR_REFUSED c)
        else if short then s.raise (F.GDI_EVT_CLR_SHORT c) else s.raise (F.GDI_EVT_CLR_REFUSED c)
      s.inc (F.GDI_CNT_CLR_REF_CNT c)
    else (s.putb (F.GDI_STAT_TRIPPED c) false).raise (F.GDI_EVT_CLR_OK c)
  else s

/-- CHN_ENA_FALL: the pin after its filter. -/
def State.enaFall (c : Nat) (off : Nat) (s : State) : State :=
  (s.enableFall c off).putb (F.GDI_STAT_ENA_PIN c) false

/-- ENABLE_RISING_EDGE of the pin: the effective enable rises only with SW_EN at 1. -/
def State.enaRise (c off : Nat) (s : State) : State :=
  if s.flag (F.GDI_STAT_ENA_PIN c) then s
  else
    let s := s.putb (F.GDI_STAT_ENA_PIN c) true
    s.when (s.flag (F.GDI_CTRL_SW_EN c)) (State.enableRise c off)

/-- SW_EN has been written (R261): 1 → 0 lowers the effective enable; 0 → 1 is a clear attempt, whose status is
CLEAR_REFUSED while the latch stays set. `off`: clocks into the tick of the command slot. -/
def State.swEnChanged (c : Nat) (new : Bool) (off : Nat) (s : State) : State × Nat :=
  if new then
    let s := s.when (s.flag (F.GDI_STAT_ENA_PIN c)) (State.enableRise c off)
    (s, if s.flag (F.GDI_STAT_TRIPPED c) then CLEAR_REFUSED else OK)
  else (s.enableFall c off, OK)

/-- SW_TRIP applied (R255 code 0x24); its clock in the tick is that of the command slot. -/
def State.swTrip (c off : Nat) (s : State) : State := s.trip c 0x24 0 off

/-! ### Comparator self-checks (R263–R266) -/

/-- SNS `h` may be checked now (R264). -/
def State.chkEligible (s : State) (c h : Nat) : Bool :=
  !s.flag (F.GDI_STAT_TRIPPED c) && (s.mode == mWAKE || s.mode == mSTANDBY ||
    (s.bitOf (F.PWM_FSTAT_OFF_EFF c) h && !(s.cst c == sACTIVE && s.roleDrives c h)))

/-- COMPARATOR_SELF_CHECK: the ball is disconnected from both comparators. -/
def State.chkStart (c h : Nat) (s : State) : State :=
  s.when (s.chkEligible c h) fun s => s.modGate c h fun g => { g with checking := true }

/-- SELF_CHECK_END: a failure holds the outputs low and raises COMP_CHK; three passes in a row end the hold; the cause
clears when no half-bridge of any channel is held (12 R359). -/
def State.chkEnd (c h : Nat) (pass : Bool) (s : State) : State :=
  if !(s.gate c h).checking then s else
  let held := s.bitOf (F.GDI_STAT_CHK_HOLD c) h
  let n := if pass then (s.gate c h).passes + 1 else 0
  let s := s.modGate c h fun g => { g with checking := false, passes := n }
  if !pass then
    ((s.putBit (F.GDI_STAT_CHK_HOLD c) h true).raise (F.GDI_EVT_CHK_FAIL c)).cause cCOMP
  else if held && 3 ≤ n then
    let s := s.putBit (F.GDI_STAT_CHK_HOLD c) h false
    s.when (chans.all fun k => s.get (F.GDI_STAT_CHK_HOLD k) == 0) fun s => s.uncause cCOMP
  else s

/-! ### Bootstrap hold (06 R209) -/

/-- A survey entry signals "below" to a declared half-bridge: HI off and held. -/
def State.bootBelow (c h : Nat) (s : State) : State :=
  if !s.bitOf (F.BOOT_CFG_BOOT c) h then s
  else if s.bitOf (F.BOOT_STAT_HOLD c) h then s.modGate c h fun g => { g with above := false }
  else
    let s := (s.putBit (F.BOOT_STAT_HOLD c) h true).modGate c h fun g => { g with above := false, refresh := false }
    ((s.inc (F.BOOT_CNT_HOLD_CNT c)).raise (F.BOOT_EVT_HOLD_EVT c)).gateUpdate c h

/-- "above": the hold ends at the next period start. -/
def State.bootAbove (c h : Nat) (s : State) : State :=
  s.when (s.bitOf (F.BOOT_STAT_HOLD c) h) fun s => s.modGate c h fun g => { g with above := true }

end Sys2Proof.Machine
end

