-- ==== Sys2Proof/Machine/Pwm.lean ====
section
/-! DEFINITION. Pulse generation (07): shadow words, carriers, edges, dead time, reload, hold and extrapolate; bootstrap
refresh (06 R208) and the single-shunt windows (06 R206, R207). -/

namespace Sys2Proof.Machine

/-- 1.0 in the DUTY format of R220. -/
def dutyOne : Nat := 0x10000000
def dutyOf (lo : Word) : Nat := min dutyOne (bits lo 28 0)

/-- A context of the law set that feeds half-bridge `h` (03 R85, R96). -/
def State.feeder (s : State) (c h : Nat) : Option Nat :=
  (List.range 16).find? fun k => bit (s.cx c k 0) 0 && bit (s.cx c k 2) h

/-- Write one shadow word in one engine clock (R220). -/
def State.writeShadow (c h : Nat) (lo hi : Word) (s : State) : State :=
  s.modHb c h fun x => { x with
    oldLo := x.shLo, oldHi := x.shHi, shLo := lo, shHi := hi, fresh := true, oldRel8 := x.rel8, rel8 := x.extrap || x.dExt.isSome }

/-- The low word of a released duty: limited to 0.0–1.0 (03 R97) and rounded to 2 ^ -28 (R221). -/
def dutyWord (d : F32) : Word :=
  if fLt d fZero then 0#32 else if fLt fOne d then wd dutyOne else wd (min dutyOne (fToIntScaled d 28).toNat)

/-! ### Carrier period start -/

/-- Carrier period in steps of 19.53125 ps, 64 to a count. -/
def State.prdSteps (s : State) (c : Nat) : Nat := 64 * s.prd c

/-- LO of half-bridge `h` conducts for less than REFRESH_W in a period of the active duty (06 R208). -/
def State.loIsShort (s : State) (c h : Nat) : Bool :=
  let x := s.hb c h
  let d := dutyOf (s.rd (A.PWM_ACTLO c h))
  let d := if x.inv then dutyOne - d else d
  (dutyOne - d) * s.prdSteps c / dutyOne < x.dtHL + 64 * s.get (F.BOOT_TIM_REFRESH_W c)

/-- The interlocks forbid LO of `h` now (08 R248): T4 of an NPC leg needs T3, and T4 of a T-type leg excludes T1. -/
def State.refreshBlocked (s : State) (c h : Nat) : Bool :=
  if h < 6 ∧ h % 2 = 1 then
    let ty := s.pgType c (h / 2)
    (ty == 1 && !(s.gate c (h - 1)).lo) || (ty == 2 && (s.gate c (h - 1)).hi)
  else false

/-- Bootstrap refresh at a period start (06 R208). -/
def State.bootRefresh (c h : Nat) (s : State) : State :=
  if !s.bitOf (F.BOOT_CFG_BOOT c) h || s.bitOf (F.PWM_FSTAT_OFF_EFF c) h then s.modGate c h fun g => { g with refresh := false }
  else
    let g := s.gate c h
    let short := s.loIsShort c h
    let n := if short then g.shortLo + 1 else 0
    let due := g.refreshDue || (short && s.get (F.BOOT_CFG_REFRESH_N c) ≤ n && s.get (F.BOOT_CFG_REFRESH_N c) != 0)
    let s := s.when (!short) fun s => s.putBit (F.BOOT_STAT_DUTY_LIM c) h false
    if due && s.refreshBlocked c h then
      ((s.modGate c h fun g => { g with shortLo := n, refresh := false }).inc (F.BOOT_CNT_BLOCKED_CNT c)).raise (F.BOOT_EVT_BLOCKED c)
    else if due then
      (s.modGate c h fun g => { g with shortLo := 0, refresh := true, refreshDue := false }).putBit (F.BOOT_STAT_DUTY_LIM c) h short
    else s.modGate c h fun g => { g with shortLo := n, refresh := false }

/-- The bootstrap hold at a period start (06 R209). -/
def State.bootHoldStart (c h : Nat) (s : State) : State :=
  if !s.bitOf (F.BOOT_STAT_HOLD c) h then s
  else if (s.gate c h).above then
    (s.putBit (F.BOOT_STAT_HOLD c) h false).modGate c h fun g => { g with above := false, refresh := false }
  else s.modGate c h fun g => { g with refresh := s.flag (F.BOOT_CFG_RECHG c) }

/-- CARRIER_PERIOD_START (R216): the cycle-by-cycle hold ends and may start again (08 R253), the bootstrap logic runs, the
capture reference moves. -/
def State.periodStart (c h off : Nat) (s : State) : State :=
  let g := s.gate c h
  let s := s.modGate c h fun g => { g with cbcRun := if g.cbcNow then g.cbcRun else 0, cbcNow := false, pgHi := false, pgLo := false, shoot := false }
  let s := s.putBit (F.GDI_STAT_CBC_HOLD c) h false
  let s := s.when (g.l1 && !g.blanked && s.get (F.GDI_SNS_L1_MODE c h) == 1) (State.cbcHold c h off)
  let s := ((s.bootRefresh c h).bootHoldStart c h).gateUpdate c h
  let ref := if s.vpCarrier c then s.clk off else s.clk off - s.get (F.PWM_OFS_OFS c h)
  s.when (h == 0) fun s => (s.pwmEvent c 0 0 ref).put (F.PWM_CNT_CNT c) 0

/-! ### Reload (R228–R231, R236) -/

/-- Reload instants of the carrier in force (R228). -/
def State.reloads (s : State) (c : Nat) (peak : Bool) : Bool :=
  s.vpCarrier c || (match bits (s.chn c).car 5 4 with
    | 0 => !peak
    | 1 => peak
    | _ => true)

/-- The duty of R236: twice the last minus the one before, kept in 0.0–1.0. -/
def extrapolate (d1 d0 : Nat) : Nat := if 2 * d1 < d0 then 0 else min dutyOne (2 * d1 - d0)

/-- Leg `h` has a variable-period carrier of its own (06 R196). -/
def State.vpLeg (s : State) (c h : Nat) : Bool := s.vpCarrier c && h < s.legs c && h < 4

/-- The level P takes at a reload that ends forcing (R233), from the active word at that instant; a variable period opens with
its controlled side (06 R197). -/
def State.levelAt (s : State) (c h : Nat) (peak : Bool) : Bool :=
  let d := dutyOf (s.rd (A.PWM_ACTLO c h))
  if s.vpLeg c h then (d != 0) == (s.get (F.DC_CFG_CAR c) == 1) else
  let up := bits (s.chn c).car 1 0 == 1
  let v := if up && !peak then d == dutyOne else d != 0
  if (s.hb c h).inv then !v else v

/-- ε of R353: the distance of two duties as binary32. -/
def dutyDist (a b : Nat) : F32 := fOfRat ((Int.natAbs ((a : Int) - b) : Nat) : Int) dutyOne

/-- RELOAD of half-bridge `h`. -/
def State.reloadHb (c h : Nat) (peak : Bool) (w : ReloadWhen) (s : State) : State :=
  if !s.reloads c peak || s.isStatic c h then s else
  let x := s.hb c h
  let dk := dutyOf (s.rd (A.PWM_ACTLO c h))
  let dk1 := if x.nRel < 2 then dk else dutyOf x.prevLo
  let ext := x.extrap && !(x.fresh && w == ReloadWhen.after) && !s.vpCarrier c && (s.feeder c h).isSome
  let old := w != ReloadWhen.after
  let late := w == ReloadWhen.inCycle && x.fresh
  let lo := if ext then wd (extrapolate dk dk1) else if old && x.fresh then x.oldLo else x.shLo
  let hi := if ext then s.rd (A.PWM_ACTHI c h) else if old && x.fresh then x.oldHi else x.shHi
  let s := (s.wr (A.PWM_ACTLO c h) lo).wr (A.PWM_ACTHI c h) hi
  let s := s.when ext fun s => (s.inc (F.PWM_DROP_CNT_HOLD_CNT c)).raise (F.PWM_STAT_HOLD_EXT c)
  let s := s.when late fun s => State.raiseAt (A.PWM_STAT c) h (s.inc (F.PWM_LATE_CNT_CNT c))
  let took8 := !ext && (if old && x.fresh then x.oldRel8 else x.rel8)
  let s := match x.dExt with
    | some d => s.when took8 fun s => s.wr A.HEALTH_FO_ERR (fMax (s.rd A.HEALTH_FO_ERR) (dutyDist (dutyOf d) (dutyOf lo)))
    | none => s
  let dExt := if ext then some lo else if took8 then none else x.dExt
  let swap := s.bitOf (F.PWM_OVR_SWAP c) (h / 2)
  let inv := s.bitOf (F.PWM_OVR_INV c) (h / 2)
  let s := s.modHb c h fun x => { x with
    prevLo := wd dk, nRel := min 2 (x.nRel + 1), extrap := false, dExt := dExt, fresh := x.fresh && old,
    dtLH := s.get (F.PWM_DTLH_DT_LH c h), dtHL := s.get (F.PWM_DTHL_DT_HL c h), swap := swap, inv := inv }
  let rel := (s.hb c h).relWait && !s.forced c h
  let s := s.when rel fun s =>
    let p := s.levelAt c h peak
    (s.modHb c h fun x => { x with relWait := false, p := p, e := false, vpNext := s.vpLeg c h }).modGate c h fun g => { g with settle := false }
  s.gateUpdate c h

/-! ### Edges and dead time -/

/-- The edge of P asked for falls outside its half-period or period (R224). -/
def State.phaseClips (s : State) (c h : Nat) (rise : Bool) : Bool :=
  let d := dutyOf (s.rd (A.PWM_ACTLO c h))
  let ph := sext 32 (s.rd (A.PWM_ACTHI c h)).toNat
  let t : Int := s.prdSteps c
  if bits (s.chn c).car 1 0 = 1 then
    let th := t / 2
    let e : Int := (if rise then (dutyOne - d) * th / dutyOne else d * th / dutyOne) + ph
    e < 0 || th < e
  else
    let e : Int := (if rise then 0 else d * t / dutyOne) + ph
    e < 0 || t < e

/-- The interval of P that an edge opens is too short to keep (R225), judged by the active duty. -/
def State.pulseDrops (s : State) (c h : Nat) (rise : Bool) : Bool :=
  let x := s.hb c h
  let d := dutyOf (s.rd (A.PWM_ACTLO c h))
  let d := if x.inv then dutyOne - d else d
  let m := s.get (F.PWM_MINPW_MINPW c)
  if rise then d * s.prdSteps c / dutyOne < x.dtLH + m else (dutyOne - d) * s.prdSteps c / dutyOne < x.dtHL + m

/-- A carrier half-bridge whose edges the PWM unit places now. -/
def State.switches (s : State) (c h : Nat) : Bool :=
  !s.bitOf (F.PWM_FSTAT_OFF_EFF c) h && !(s.hb c h).relWait && !s.isStatic c h

/-- PULSE_EDGE (R223): the edge is placed, clipped, or removed with its interval; E falls for the dead time (R227). -/
def State.pulseEdge (c h : Nat) (rise : Bool) (off : Nat) (s : State) : State :=
  let d := dutyOf (s.rd (A.PWM_ACTLO c h))
  if !s.switches c h || (s.hb c h).p == rise || (s.hb c h).vpNext || ((d == 0 || d == dutyOne) && !s.vpCarrier c) then s else
  let s := s.when (!s.vpCarrier c && s.phaseClips c h rise) fun s => s.raise (F.PWM_STAT_PH_CLIP c)
  if s.pulseDrops c h rise && !s.vpCarrier c then
    (s.inc (F.PWM_DROP_CNT_DROP c)).raise (F.PWM_STAT_DROP c)
  else
    let s := s.modHb c h fun x => { x with p := rise, e := false }
    let s := (s.modGate c h fun g => { g with refresh := false, shoot := false, pgHi := false, pgLo := false }).gateUpdate c h
    s.pwmEvent c (if rise then 6 else 4) h (s.clk off)

/-- Leg `h` runs its own free period now. -/
def State.vpRuns (s : State) (c h : Nat) : Bool := s.vpLeg c h && s.switches c h

/-- A variable period starts: E has returned to 1 after the dead time that follows the crossing or the clamp (R231). The mean of
the period that ended is kept for CTX6 (06 R198). -/
def State.vpStart (c h off : Nat) (s : State) : State :=
  let s := match (s.hb c h).vpMean with
    | some m => s.modDc c fun d => { d with legMean := d.legMean.set h m }
    | none => s
  (s.modHb c h fun x => { x with vpAt := s.clk off, vpNext := false, vpMean := none }).periodStart c h off

/-- E returns to 1 and the side that P selects conducts; with the crossing or clamp of a variable period behind, its next
period starts. -/
def State.conduct (c h off : Nat) (s : State) : State :=
  let x := s.hb c h
  let s := ((s.modHb c h fun x => { x with e := true }).gateUpdate c h).pwmEvent c (if x.p then 3 else 5) h (s.clk off)
  s.when x.vpNext (State.vpStart c h off)

/-- DEAD_TIME_END (R227). After an early crossing both sides stay off until DC_VP_TMIN (06 R197). -/
def State.deadEnd (c h off : Nat) (s : State) : State :=
  if s.switches c h && !(s.hb c h).e then
    if (s.hb c h).vpWait then s.modHb c h fun x => { x with vpOver := true } else s.conduct c h off
  else s

/-- CARRIER_PERIOD_START: the periods of a variable-period leg that runs start with the end of their dead time. -/
def State.periodRow (c h off : Nat) (s : State) : State := if s.vpRuns c h then s else s.periodStart c h off

/-- DELAY_LINE_CALIBRATION (R226): a new map, or CAL_FAIL when the replica cannot span one count. -/
def State.delayCal (c : Nat) (taps : Option (Fin 128)) (s : State) : State :=
  match taps with
  | some t => ((s.put (F.PWM_CAL_TAPS c) t.val).putb (F.PWM_CAL_LOCK c) true).inc (F.PWM_CAL_UPD c)
  | none => (s.putb (F.PWM_CAL_LOCK c) false).raise (F.PWM_STAT_CAL_FAIL c)

/-! ### Single-shunt windows (06 R206, R207) -/

/-- The duties in falling order. -/
def sort3 (a b c : Nat) : Nat × Nat × Nat :=
  (max a (max b c), max (min a b) (min (max a b) c), min a (min b c))

/-- Number of windows still narrower than SAMPLE_MIN after the shifts of R206, and whether a shift was made; times in
steps of 2 ^ -6 counts. -/
def State.shuntWindows (s : State) (c : Nat) : Nat × Bool :=
  let du (h : Nat) : Nat := dutyOf (s.rd (A.PWM_ACTLO c h))
  let (mx, md, mn) := sort3 (du 0) (du 1) (du 2)
  let th := s.prdSteps c / 2
  let sm := (fToUnits (s.rd (A.MACH_SAMPLE_MIN c)) 51200000000).toNat
  let w1 := (mx - md) * th / dutyOne
  let w2 := (md - mn) * th / dutyOne
  let s1 := min (sm - w1) ((dutyOne - mx) * th / dutyOne)
  let s2 := min (sm - w2) ((dutyOne - mn) * th / dutyOne)
  (b2n (w1 + s1 < sm) + b2n (w2 + s2 < sm), s1 != 0 || s2 != 0)

/-- At the reload that begins a carrier period of a SHUNT machine whose phases switch, none of them held: shifted periods and
windows without a sample are counted (06 R206, R207, R209). -/
def State.shuntReload (c : Nat) (s : State) : State :=
  let runs := s.cst c == sACTIVE || (s.cst c == sSYNC && (s.chn c).mach.start != 0)
  let held := [0, 1, 2].any fun h => s.bitOf (F.BOOT_STAT_HOLD c) h
  if s.role c = rMACH ∧ s.flag (F.MACH_CFG_SHUNT c) ∧ runs ∧ ¬ held then
    let (lost, shifted) := s.shuntWindows c
    let s := s.when shifted fun s => s.inc (F.MACH_SHIFT_CNT_SHIFTED c)
    s.when (lost != 0) fun s => (s.inc (F.MACH_SHIFT_CNT_FAIL c) lost).raise (F.MACH_EVT_SHIFT_FAIL c)
  else s

/-- RELOAD of half-bridge `h`; with that of a machine's last phase the windows of the carrier period are judged. -/
def State.reloadRow (c h : Nat) (peak : Bool) (w : ReloadWhen) (s : State) : State :=
  let s := s.reloadHb c h peak w
  let begins := if bits (s.chn c).car 5 4 = 1 then peak else !peak
  s.when (h == 2 && begins) (State.shuntReload c)

end Sys2Proof.Machine
end

