-- ==== Sys2Proof/Machine/Engine.lean ====
section
/-! DEFINITION. The control engines (03): input selection, set-point ramps, the laws, limits and release. The role blocks
stand in Roles.lean. -/

namespace Sys2Proof.Machine

/-! ### Numbers and transforms -/

def c32 (n : Int) (d : Nat) : F32 := fOfRat n d
/-- 2π and the transform constants 1/3, 1/√3, √3/2 as the nearest binary32. -/
def f2Pi : F32 := 0x40C90FDB#32
def fThird : F32 := 0x3EAAAAAB#32
def fInvSqrt3 : F32 := 0x3F13CD3A#32
def fSqrt3Half : F32 := 0x3F5DB3D7#32

/-- An angle brought back into one turn after a step of less than a turn. -/
def fWrap (x : F32) : F32 := if fLe f2Pi x then fSub x f2Pi else if fLt x fZero then fAdd x f2Pi else x
/-- An angle difference in ±π. -/
def fWrapPi (x : F32) : F32 := if fLt fPi x then fSub x f2Pi else if fLt x (fNegate fPi) then fAdd x f2Pi else x

/-- abc → αβz, αβ → dq, dq → αβ, αβz → abc: amplitude-invariant (03 R90 XFORM). -/
def clarke (a b c : F32) : F32 × F32 × F32 :=
  let z := fMul (fAdd (fAdd a b) c) fThird
  (fSub a z, fMul (fSub b c) fInvSqrt3, z)
def park (th al be : F32) : F32 × F32 :=
  let c := fCos th
  let s := fSin th
  (fAdd (fMul al c) (fMul be s), fSub (fMul be c) (fMul al s))
def unpark (th d q : F32) : F32 × F32 :=
  let c := fCos th
  let s := fSin th
  (fSub (fMul d c) (fMul q s), fAdd (fMul d s) (fMul q c))
def unclarke (al be z : F32) : F32 × F32 × F32 :=
  let h := fMul fHalf al
  let r := fMul fSqrt3Half be
  (fAdd al z, fAdd (fSub r h) z, fSub (fSub z h) r)

/-! ### Inputs -/

/-- The value an input selector reads (03 R86). -/
def State.selIn (s : State) (c code : Nat) : F32 :=
  if code < 12 then s.rd (A.FLT_LAT c code)
  else if 0x10 ≤ code ∧ code < 0x18 then s.rd (A.PCC_LAT (code - 0x10))
  else if 0x20 ≤ code ∧ code < 0xA0 then s.cx c ((code - 0x20) / 8) (8 + (code - 0x20) % 8)
  else if code = 0xF0 then fOne
  else fZero

/-- Selector codes a host may write (03 R86). -/
def selOk (code : Nat) : Bool :=
  code < 12 || (0x10 ≤ code && code < 0x18) || (0x20 ≤ code && code < 0xA0) || code == 0xF0 || code == 0xFF

/-! ### One run of a law -/

/-- What one run leaves: outputs, state words, flags. -/
structure Run where
  y : List (Nat × F32) := []
  st : List (Nat × F32) := []
  ci : Clamped := ⟨0, false, false, false⟩
  sat : Clamped := ⟨0, false, false, false⟩
  resOff : Bool := false
  deriving DecidableEq, Repr

/-- The inputs of a run: reference, the four inputs, the tick period, and the flags and options of the context. -/
structure RunIn where
  r : F32
  a : F32
  b : F32
  c : F32
  d : F32
  dNone : Bool
  ts : F32
  aw : Bool
  tri : Bool
  satHi : Bool
  satLo : Bool
  holdI : Bool := false
  deriving DecidableEq, Repr

/-- A PI integrator step with anti-windup and clamp (03 R89 pseudocode, R91). -/
def piInt (x : RunIn) (ki lo hi i e : F32) : Clamped :=
  let hold := x.holdI || (x.aw && ((x.satHi && fLt fZero e) || (x.satLo && fLt e fZero)))
  clampTo lo hi (if hold then i else fAdd i (fMul (fMul ki x.ts) e))

def outLim (g : Nat → Word) (u : F32) : Clamped := clampTo (g 6) (g 7) u

def lawPI (g : Nat → Word) (x : RunIn) : Run :=
  let e := fSub x.r x.b
  let i := piInt x (g 17) (g 18) (g 19) (g 41) e
  let y := outLim g (fAdd (fAdd (fMul (g 16) e) i.v) (fMul (g 20) x.c))
  { y := [(0, y.v)], st := [(41, i.v)], ci := i, sat := y }

def lawPID (g : Nat → Word) (x : RunIn) : Run :=
  let e := fSub x.r x.b
  let i := piInt x (g 17) (g 18) (g 19) (g 41) e
  let n := fAdd (g 22) x.ts
  let d := fSub (fMul (fDiv (g 22) n) (g 42)) (fMul (fDiv (g 21) n) (fSub x.b (g 43)))
  let y := outLim g (fAdd (fAdd (fAdd (fMul (g 16) e) i.v) d) (fMul (g 20) x.c))
  { y := [(0, y.v)], st := [(41, i.v), (42, d), (43, x.b)], ci := i, sat := y }

/-- Harmonic order of resonator `i` (HORD0, HORD1). -/
def horder (g : Nat → Word) (i : Nat) : Nat := bits (g (34 + i / 4)) (8 * (i % 4) + 7) (8 * (i % 4))

/-- One resonator: its contribution, its states and whether it is off (03 R90). -/
def prRes (g : Nat → Word) (x : RunIn) (e : F32) (i : Nat) : F32 × F32 × F32 × Bool :=
  let w := fMul (fOfNat (horder g i)) x.d
  let wt := fMul w x.ts
  let s1 := g (41 + 2 * i)
  let s2 := g (42 + 2 * i)
  let off := fLe (c32 45 100) wt || (fLe (c32 43 100) wt && fEq s1 fZero && fEq s2 fZero)
  if off then (fZero, fZero, fZero, true)
  else
    let (y, a, b) := Config.resonator (g (18 + i)) (g (26 + i)) w x.ts e s1 s2
    (y, a, b, false)

def lawPR (g : Nat → Word) (x : RunIn) : Run :=
  let e := fSub x.r x.b
  let rs := (List.range 8).map (prRes g x e)
  let u := rs.foldl (fun u r => fAdd u r.1) (fAdd (fMul (g 16) e) (fMul (g 17) x.c))
  let y := outLim g u
  { y := [(0, y.v)], sat := y, resOff := rs.any fun r => r.2.2.2,
    st := (rs.mapIdx fun i r => [(41 + 2 * i, r.2.1), (42 + 2 * i, r.2.2.1)]).flatten }

/-- One section of BIQ, transposed direct form II. -/
def biqSection (g : Nat → Word) (s : Nat) (x : F32) : F32 × F32 × F32 :=
  let w (j : Nat) := g (17 + 5 * s + j)
  let s1 := g (41 + 2 * s)
  let s2 := g (42 + 2 * s)
  let y := fAdd (fMul (w 0) x) s1
  (y, fAdd (fSub (fMul (w 1) x) (fMul (w 3) y)) s2, fSub (fMul (w 2) x) (fMul (w 4) y))

def lawBIQ (g : Nat → Word) (x : RunIn) : Run :=
  let n := (g 37).toNat
  let go := (List.range (min n 4)).foldl (fun (acc : F32 × List (Nat × F32)) s =>
    let (y, a, b) := biqSection g s acc.1
    (y, acc.2 ++ [(41 + 2 * s, a), (42 + 2 * s, b)])) (x.b, [])
  let y := outLim g (fMul (g 16) go.1)
  { y := [(0, y.v)], st := go.2, sat := y }

def lawLEADLAG (g : Nat → Word) (x : RunIn) : Run :=
  let (u, st) := Config.leadLag (g 16) (g 17) (g 18) x.ts (g 41) x.b
  let y := outLim g u
  { y := [(0, y.v)], st := [(41, st)], sat := y }

/-- The PI of a PLL: integrator clamped to WMIN–WMAX, ω := W0 + PI output, θ integrates ω (03 R90). -/
def pllStep (x : RunIn) (kp ki w0 wmin wmax th i e : F32) : F32 × F32 × Clamped :=
  let ci := if x.holdI then ⟨i, false, false, false⟩ else clampTo wmin wmax (fAdd i (fMul (fMul ki x.ts) e))
  let w := if x.holdI then fAdd w0 i else fAdd w0 (fAdd (fMul kp e) ci.v)
  (fWrap (fAdd th (fMul w x.ts)), w, ci)

/-- SOGI_PLL: word 41 holds θ, 42 the integrator, 43–49 the filters. -/
def lawSOGI (g : Nat → Word) (x : RunIn) : Run :=
  let w := fAdd (g 19) (g 42)
  let (vq, outs, st) := Config.sogi x.tri (g 16) w x.ts [x.a, x.b, x.c] ((List.range 7).map fun i => g (43 + i))
  let (th, w, ci) := pllStep x (g 17) (g 18) (g 19) (g 20) (g 21) (g 41) (g 42) vq
  { y := [(0, th), (1, w)] ++ (List.range 3).map (fun i => (2 + i, outs[i]?.getD fZero)),
    st := [(41, th), (42, ci.v)] ++ (List.range 7).map (fun i => (43 + i, st[i]?.getD fZero)), ci := ci }

/-- SRF_PLL: word 41 holds θ, 42 the integrator, 43–47 the filters. -/
def lawSRF (g : Nat → Word) (x : RunIn) : Run :=
  let (v, st) := Config.srf (g 21) x.ts (g 41) [x.a, x.b, x.c] ((List.range 5).map fun i => g (43 + i))
  let (th, w, ci) := pllStep x (g 16) (g 17) (g 18) (g 19) (g 20) (g 41) (g 42) (v[1]?.getD fZero)
  { y := [(0, th), (1, w)] ++ (List.range 4).map (fun i => (2 + i, v[i]?.getD fZero)),
    st := [(41, th), (42, ci.v)] ++ (List.range 5).map (fun i => (43 + i, st[i]?.getD fZero)), ci := ci }

def lawVSM (g : Nat → Word) (x : RunIn) : Run :=
  let w := g 41
  let xd := if x.dNone then fOne else x.d
  let acc := fSub (fSub (fAdd x.r (fMul (g 18) (fSub fOne w))) x.b) (fMul (g 17) (fSub w xd))
  let ci := clampTo (g 20) (g 21) (fAdd w (fMul x.ts (fDiv acc (fMul fTwo (g 16)))))
  let th := fWrap (fAdd (g 42) (fMul (fMul (g 19) ci.v) x.ts))
  { y := [(0, th), (1, ci.v)], st := [(41, ci.v), (42, th)], ci := ci }

/-- sign(e) × max(0, |e| − DB), continuous at the band edges. -/
def deadband (db e : F32) : F32 :=
  let m := fMax fZero (fSub (fAbs e) db)
  if fNeg? e then fNegate m else m

def lawDROOP (g : Nat → Word) (x : RunIn) : Run :=
  let f := Config.lag (g 19) x.ts (g 41) (deadband (g 18) (fSub x.r x.b))
  let y := outLim g (fAdd (g 16) (fMul (g 17) f))
  { y := [(0, y.v)], st := [(41, f)], sat := y }

/-- Σ g(base + i) × v(i) over the first n. -/
def dotN (g : Nat → Word) (base n : Nat) (v : Nat → F32) : F32 :=
  (List.range n).foldl (fun a i => if i = 0 then fMul (g base) (v 0) else fAdd a (fMul (g (base + i)) (v i))) fZero

def lawOBS (g : Nat → Word) (x : RunIn) : Run :=
  let n := min 3 (g 34).toNat
  let xh (i : Nat) := g (41 + i)
  let inn := fSub x.b (dotN g 28 n xh)
  let nx := (List.range n).map fun i => fAdd (fAdd (dotN g (16 + 3 * i) n xh) (fMul (g (25 + i)) x.a)) (fMul (g (31 + i)) inn)
  { y := (nx.mapIdx fun i v => (i, v)) ++ [(3, inn)], st := nx.mapIdx fun i v => (41 + i, v) }

def lawXFORM (g : Nat → Word) (x : RunIn) : Run :=
  let th := fAdd x.d (g 17)
  let (p, q, r) := match (g 16).toNat with
    | 0 => clarke x.a x.b x.c
    | 1 => let (d, q) := park th x.a x.b; (d, q, x.c)
    | 2 => let (al, be, z) := clarke x.a x.b x.c; let (d, q) := park th al be; (d, q, z)
    | 3 => let (al, be) := unpark th x.a x.b; (al, be, x.c)
    | 4 => unclarke x.a x.b x.c
    | _ => let (al, be) := unpark th x.a x.b; unclarke al be x.c
  { y := [(0, p), (1, q), (2, r)] }

/-- The law a code of CTX_CFG.LAW selects (03 R89). -/
def runLaw (law : Nat) (g : Nat → Word) (x : RunIn) : Run :=
  match law with
  | 1 => lawPI g x
  | 2 => lawPID g x
  | 3 => lawPR g x
  | 4 => lawBIQ g x
  | 5 => lawLEADLAG g x
  | 6 => lawSOGI g x
  | 7 => lawSRF g x
  | 8 => lawVSM g x
  | 9 => lawDROOP g x
  | 10 => lawOBS g x
  | 11 => lawXFORM g x
  | _ => {}

/-! ### Ramps (03 R93–R95) -/

/-- `now` moved towards `tgt` by at most `d`. -/
def fMove (now tgt d : F32) : F32 :=
  let e := fSub tgt now
  if fLe (fAbs e) d then tgt else if fNeg? e then fSub now d else fAdd now d

/-- REF_NOW after this tick. -/
def rampNow (g : Nat → Word) (first : Bool) (b ts : F32) : F32 :=
  if bits (g 1) 7 0 ≠ 0xFF then b
  else if bit (g 0) 6 then
    (if first then b else if fEq (g 5) fZero then g 4 else fMove (g 40) (g 4) (fMul (g 5) ts))
  else g 4

/-! ### Write-back and release (03 R84, R96, R97) -/

/-- Write words of a run and remember what they replaced, so that a mismatch found later in the tick can discard them. -/
def State.runWrite (c k : Nat) (ws : List (Nat × Word)) (s : State) : State :=
  ws.foldl (fun s w =>
    let a := ctxAddr c k w.1
    let old := s.rd a
    (s.wr a w.2).modCh c fun x => { x with undo := (k, a, old, w.2) :: x.undo }) s

/-- Half-bridges a context feeds, with the output each takes (CTX_OUT). -/
def feeds (out : Word) : List (Nat × Nat) :=
  ((maskList 10 (bits out 9 0)).mapIdx fun i h => (h, bits out 12 10 + i))

/-- Write the mapped outputs as duties, `ph` their phase words (03 R96, 07 R221). -/
def State.releaseDuties (c k : Nat) (ph : Nat → Word) (s : State) : State :=
  (feeds (s.cx c k 2)).foldl (fun s p =>
    let lo := dutyWord (s.cx c k (8 + p.2))
    let x := s.hb c p.1
    (s.writeShadow c p.1 lo (ph p.1)).modCh c fun y => { y with undoSh := (k, p.1, x.shLo, x.shHi, lo) :: y.undoSh }) s

/-- End a run: a NaN or an infinity discards it (R84); else outputs, states, REF_NOW and flags are written and the
duties released. -/
def State.endRun (c k : Nat) (refNow : Option F32) (r : Run) (ph : Nat → Word) (s : State) : State :=
  let bad := (r.y.any fun p => fBad p.2) || (r.st.any fun p => fBad p.2) || (match refNow with | some v => fBad v | none => false)
  if bad then
    State.raiseAt (ctxAddr c k 3) 16 (s.inc (F.ENG_NUMERR_CNT c))
  else
    let ref := match refNow with | some v => [(40, v)] | none => []
    let ramp := match refNow with | some v => !fEq v (s.cx c k 4) | none => false
    let stat := ctxStatWord (s.cx c k 3) r.ci r.sat ramp r.resOff
    let s := s.runWrite c k ((r.y.map fun p => (8 + p.1, p.2)) ++ r.st ++ ref ++ [(3, stat)])
    s.releaseDuties c k ph

/-- What a role changes in the run of a law: the ramp position, the reference, and a held integrator. -/
structure Adj where
  now : Option F32 := none
  ref : Option F32 := none
  holdI : Bool := false
  deriving DecidableEq, Repr

/-- REF_NOW that a run of context `k` would reach. -/
def State.refNext (s : State) (c k : Nat) (ts : F32) : F32 :=
  let g := s.cx c k
  rampNow g (bit (s.chn c).firstRun k) (s.selIn c (bits (g 1) 15 8)) ts

/-- The inputs of a run of context `k`. -/
def State.runIn (s : State) (c k : Nat) (ts : F32) (adj : Adj) : RunIn :=
  let g := s.cx c k
  let sel := g 1
  let a := s.selIn c (bits sel 7 0)
  let now := adj.now.getD (s.refNext c k ts)
  { r := adj.ref.getD (if bits sel 7 0 ≠ 0xFF then a else now), a := a, b := s.selIn c (bits sel 15 8),
    c := s.selIn c (bits sel 23 16), d := s.selIn c (bits sel 31 24), dNone := bits sel 31 24 == 0xFF, ts := ts,
    aw := bit (g 0) 5, tri := bit (g 0) 7, satHi := bit (g 3) 2, satLo := bit (g 3) 3, holdI := adj.holdI }

/-- The run of a host law in context `k` with period `ts`. -/
def State.runCtx (c k : Nat) (ts : F32) (adj : Adj) (s : State) : State :=
  let g := s.cx c k
  let now := adj.now.getD (s.refNext c k ts)
  let s := s.endRun c k (some now) (runLaw (bits (g 0) 4 1) g (s.runIn c k ts adj)) (fun _ => 0#32)
  s.modCh c fun ch => { ch with firstRun := setBits ch.firstRun k k 0 }

/-- A conditions timer (see Tm): it runs from the tick in which the condition first held. -/
def State.hold (k : Tm) (b : Bool) (s : State) : State :=
  if b then (if s.timers.any fun x => x.1 == k then s else { s with timers := (k, s.t.start) :: s.timers })
  else { s with timers := s.timers.filter fun x => x.1 != k }
/-- Start a timer afresh. -/
def State.restart (k : Tm) (s : State) : State := { s with timers := (k, s.t.start) :: s.timers.filter fun x => x.1 != k }
/-- The condition has held for `d` engine clocks. -/
def State.held (s : State) (k : Tm) (d : Nat) : Bool := s.timers.any fun x => x.1 == k && x.2 + d ≤ s.t.start
/-- Engine clocks in a time given in seconds. -/
def secClk (w : Word) : Nat := (fToUnits w 800000000).toNat
/-- The tick period Ttick in seconds. -/
def State.ts (s : State) : F32 := fOfRat s.t.len 800000000
/-- Seconds since clock `t0`. -/
def State.since (s : State) (t0 : Nat) : F32 := fOfRat ((s.t.start - t0 : Nat) : Int) 800000000

end Sys2Proof.Machine
end

