-- ==== Sys2Proof/Machine/Grid.lean ====
section
/-! DEFINITION. The GRID role (04): role blocks GMEAS, GREF and GMOD, tracking, sub-mode transfers, connection and the
current reference during RIDE (05 R150–R154). -/

namespace Sys2Proof.Machine

/-! ### Sub-modes (R109) -/
def mFOLLOW : Nat := 0
def mFORM : Nat := 1
def mISLAND : Nat := 2
def mFORM_CL : Nat := 3
def State.sub (s : State) (c : Nat) : Nat := s.get (F.GRID_STAT_SUB_NOW c)
/-- The control frame is the virtual synchronous machine's (R117). -/
def State.vsmFrame (s : State) (c : Nat) : Bool := s.sub c == mFORM || s.sub c == mISLAND

/-- Outputs of contexts that the GRID role uses: θ, ω, Vd+, Vq+, Vd−, Vq− of CTX0. -/
def State.y (s : State) (c k j : Nat) : F32 := s.cx c k (8 + j)
def State.lat (s : State) (c m : Nat) : F32 := s.rd (A.FLT_LAT c m)
def State.pccLat (s : State) (k : Nat) : F32 := s.rd (A.PCC_LAT k)
/-- |V+| and |V−| at the PCC, from the monitor (05 R143). -/
def State.vPos (s : State) : F32 := s.rd A.PCCM_VPOS
def State.vNeg (s : State) : F32 := s.rd A.PCCM_VNEG

/-- Entries of a history that are at most `d` clocks old. -/
def recent (now d : Nat) (l : List (Nat × Word)) : List (Nat × Word) := l.filter fun x => now ≤ x.1 + d
def fSum (l : List F32) : F32 := l.foldl fAdd fZero
def fMean (l : List F32) : F32 := fDiv (fSum l) (fOfNat l.length)

/-! ### GMEAS (R117) -/

def State.gmeas (c : Nat) (s : State) : State :=
  let ts := s.ts
  let thP := fWrap (fAdd (s.y c 0 0) (s.rd (A.GRID_PCC_ANG c)))
  let w0 := s.cx c 8 19
  let wv := fMul w0 (s.y c 8 1)
  let th := if s.vsmFrame c then fWrap (fAdd (s.y c 8 0) (fMul wv ts)) else thP
  let w := if s.vsmFrame c then wv else s.y c 0 1
  let (ia, ib, _) := clarke (s.lat c 0) (s.lat c 1) (s.lat c 2)
  let (id, iq) := park th ia ib
  let (va, vb, _) := clarke (s.lat c 3) (s.lat c 4) (s.lat c 5)
  let (vd, vq) := park th va vb
  let p := fAdd (fMul vd id) (fMul vq iq)
  let q := fSub (fMul vq id) (fMul vd iq)
  let s := s.endRun c 1 none { y := [(0, th), (1, w), (2, id), (3, iq), (4, vd), (5, vq), (6, p), (7, q)] } (fun _ => 0#32)
  s.modGrid c fun g => { g with thPll := thP, idHist := (s.clk, id) :: recent s.clk (msClk 20) g.idHist }

/-! ### GREF (R129–R132, 05 R151–R154) -/

/-- A current reference with its nominal magnitude and impedance factor. -/
structure IRef where
  d : F32
  q : F32
  nom : F32 := fZero
  k : F32 := fOne
  deriving DecidableEq, Repr

/-- Scale a vector down to magnitude `m`, keeping its direction. -/
def scaleTo (m d q : F32) : F32 × F32 :=
  let r := fDiv m (fHypot d q)
  (fMul d r, fMul q r)

/-- P*: REF_NOW of CTX8 or the negated output of CTX11 (R129). -/
def State.pStar (s : State) (c : Nat) : F32 :=
  if s.flag (F.GRID_CFG_PSRC c) then fNegate (s.y c 11 0) else s.cx c 8 40

/-- Grid-following (R129). -/
def State.refFollow (s : State) (c : Nat) : IRef :=
  let vd := s.y c 1 4
  let vq := s.y c 1 5
  let p := s.pStar c
  let q := s.cx c 9 40
  let den := fMax (c32 1 100) (fAdd (fMul vd vd) (fMul vq vq))
  let d := fDiv (fAdd (fMul p vd) (fMul q vq)) den
  let qq := fDiv (fSub (fMul p vq) (fMul q vd)) den
  let n := fHypot d qq
  let m := s.rd (A.GRID_IMAX_F c)
  if fLt m n then let (d, qq) := scaleTo m d qq; ⟨d, qq, n, fOne⟩ else ⟨d, qq, n, fOne⟩

/-- The EMF magnitude: the droop's output of the previous tick, scaled during a black start (R125). -/
def State.emfNow (s : State) (c : Nat) : F32 :=
  let e := s.y c 9 0
  match (s.chn c).grid.blackAt with
  | some t0 => fMul e (fMin fOne (fDiv (s.since t0) (s.rd (A.GRID_T_BLACK c))))
  | none => e

/-- Grid-forming through the virtual impedance (R130). -/
def State.refForm (s : State) (c : Nat) : IRef :=
  let a := fSub (s.emfNow c) (s.y c 1 4)
  let b := fNegate (s.y c 1 5)
  let rv := s.rd (A.GRID_RV c)
  let xv := s.rd (A.GRID_XV c)
  let z2 := fAdd (fMul rv rv) (fMul xv xv)
  let d := fDiv (fAdd (fMul a rv) (fMul b xv)) z2
  let q := fDiv (fSub (fMul b rv) (fMul a xv)) z2
  let n := fHypot d q
  let k := fMin (s.rd (A.GRID_KMAX c)) (fAdd fOne (fMul (s.rd (A.GRID_KVI c)) (fMax fZero (fSub n (s.rd (A.GRID_IVI c))))))
  ⟨fDiv d k, fDiv q k, n, k⟩

/-- The limit of R131, and whether it acts. -/
def State.clLimit (s : State) (c : Nat) : F32 := fMax (s.rd (A.GRID_ILIM_CL c)) (s.rd (A.GRID_IVI c))
def State.clActs (s : State) (c : Nat) (r : IRef) : Bool :=
  fEq r.k (s.rd (A.GRID_KMAX c)) && fLt (s.clLimit c) (fHypot r.d r.q)

/-- The largest s in steps of 2 ^ -8 that the current limit allows (05 R151). -/
def bisect (ok : F32 → Bool) : F32 :=
  if ok fOne then fOne
  else (List.range 8).foldl (fun lo i => let m := fAdd lo (c32 1 (2 ^ (i + 1))); if ok m then m else lo) fZero

/-- The ride reference (05 R151): id, iq, the negative-sequence magnitude and LIMITED. `g` is the snapshot of R150. -/
def rideRef (g : List Word) (vp vn : F32) : F32 × F32 × F32 × Bool :=
  let w (i : Nat) : F32 := g[i]?.getD fZero
  let prio := bits (w 6) 1 0
  let dv := fSub (w 7) vp
  let dve := deadband (w 3) dv
  let iqr := fNegate (fMul (w 0) dve)
  let inr := if bit (w 6) 2 then fMul (w 1) vn else fZero
  let a := w 4
  let tot := fAdd (fAbs iqr) inr
  if prio = 1 then
    let id := fClamp (fNegate a) a (w 8)
    let x := bisect fun x => fLe (fAdd (fHypot id (fMul x iqr)) (fMul x inr)) a
    (id, fMul x iqr, fMul x inr, fLt x fOne || !fEq id (w 8))
  else
    let wt := if prio = 0 then fOne else w 5
    let x := if fEq tot fZero then fOne else fMin fOne (fDiv (fMul wt a) tot)
    let iq := fMul x iqr
    let i2 := fMul x inr
    let r := fSub a i2
    let m := fSqrt (fSub (fMul r r) (fMul iq iq))
    let id := fClamp (fNegate m) m (w 8)
    (id, iq, i2, fLt x fOne || !fEq id (w 8))

/-- RIDE forms the reference of channel `c` (05 R151). -/
def State.rideActs (s : State) (c : Nat) : Bool :=
  s.mode == mRIDE && (s.chn c).grid.riding && (s.sub c == mFOLLOW || s.sub c == mFORM_CL)

/-- Write GREF's outputs: the reference `r` is what later rules hold or continue from; the negative-sequence component and
the probe are added to what the loops see. -/
def State.grefOut (c : Nat) (r : IRef) (neg : F32) (s : State) : State :=
  let th := s.y c 1 0
  let arg := fSub (fAdd s.ride.argNeg ((s.chn c).grid.snap[2]?.getD fZero)) (fMul fTwo th)
  let d := if fEq neg fZero then r.d else fAdd r.d (fMul neg (fCos arg))
  let q := if fEq neg fZero then r.q else fAdd r.q (fMul neg (fSin arg))
  let inj := s.flag F.ISL_STAT_PROBE_ON && s.get F.ISL_STAT_PROBE_CH_NOW == c
  let pa := fSub s.ride.prbTh th
  let d := if inj then fAdd d (fMul s.ride.prbA (fCos pa)) else d
  let q := if inj then fAdd q (fMul s.ride.prbA (fSin pa)) else q
  let vd := s.y c 1 4
  let vq := s.y c 1 5
  let rv := s.rd (A.GRID_RV c)
  let xv := s.rd (A.GRID_XV c)
  let ed := fAdd vd (fSub (fMul rv d) (fMul xv q))
  let eq := fAdd vq (fAdd (fMul rv q) (fMul xv d))
  let e := if s.vsmFrame c then s.emfNow c else fHypot ed eq
  let del := if s.vsmFrame c then fWrapPi (fSub th (s.chn c).grid.thPll) else fAtan2 eq ed
  let s := s.endRun c 2 none { y := [(0, d), (1, q), (2, r.nom), (3, r.k), (4, e), (5, del)] } (fun _ => 0#32)
  (s.modGrid c fun g => { g with refD := r.d, refQ := r.q, delta := s.y c 2 5, emf := s.y c 2 4 }).putb (F.GRID_STAT_VI_ACTIVE c) (s.vsmFrame c && fLt fOne r.k)

/-- GREF. -/
def State.gref (c : Nat) (s : State) : State :=
  let s := s.putb (F.RIDE_CH_STAT_RIDE_REF c) (s.rideActs c && (s.chn c).grid.stopAt.isNone)
  let g := (s.chn c).grid
  match g.stopAt with
  | some t0 =>
    let f := fMax fZero (fSub fOne (fDiv (s.since t0) (s.rd (A.GRID_T_STOP c))))
    s.grefOut c ⟨fMul g.stopD f, fMul g.stopQ f, fMul (fHypot g.stopD g.stopQ) f, fOne⟩ fZero
  | none =>
    if s.rideActs c then
      let (d, q, n, lim) := rideRef g.snap s.vPos s.vNeg
      (s.grefOut c ⟨d, q, fHypot d q, fOne⟩ n).putb (F.RIDE_CH_STAT_LIMITED c) lim
    else if s.sub c = mFORM_CL then
      s.grefOut c ⟨g.clD, g.clQ, fHypot g.clD g.clQ, fOne⟩ fZero
    else if s.vsmFrame c then
      let r := s.refForm c
      if s.clActs c r then
        let (d, q) := scaleTo (s.clLimit c) r.d r.q
        let s := s.grefOut c { r with d := d, q := q } fZero
        if s.sub c = mISLAND then (s.inc (F.GRID_XCNT_CL_CNT c)).raise (F.GRID_EVT_CL_ENTER c)
        else
          let vd := s.y c 1 4
          let vq := s.y c 1 5
          let v := fHypot vd vq
          s.modGrid c fun x => { x with
            clFire := true, guard := max 1 x.guard,
            clD := fDiv (fAdd (fMul d vd) (fMul q vq)) v, clQ := fDiv (fSub (fMul q vd) (fMul d vq)) v }
      else s.grefOut c r fZero
    else
      let r := s.refFollow c
      if s.flag (F.RIDE_CH_STAT_RECOV c) then
        let d := fMove g.recD r.d (fMul (s.rd (A.RIDE_P_REC c)) s.ts)
        let q := fMove g.recQ r.q (fMul (s.rd (A.RIDE_Q_REC c)) s.ts)
        let s := s.modGrid c fun x => { x with recD := d, recQ := q }
        (s.grefOut c { r with d := d, q := q } fZero).putb (F.RIDE_CH_STAT_RECOV c) !(fEq d r.d && fEq q r.q)
      else s.grefOut c r fZero

/-! ### GMOD (R127, R128, R137) -/

/-- 0.5° in rad. -/
def fGuard : F32 := c32 872664625997165 100000000000000000

/-- Map a normalised reference to the outer and inner duty of a leg (R128). -/
def legDuty (m : F32) : F32 × F32 :=
  let m := fClamp (fNegate fOne) fOne m
  if fLe fZero m then (m, fOne) else (fZero, fAdd fOne m)

def State.gmod (c : Nat) (s : State) : State :=
  let ts := s.ts
  let th := s.y c 1 0
  let w := s.y c 1 1
  let wp := fMul (fDiv w (s.cx c 8 19)) (s.rd (A.GRID_LF c))
  let ud := fSub (fAdd (s.y c 3 0) (s.y c 6 0)) (fMul wp (s.y c 1 3))
  let uq := fAdd (fAdd (s.y c 4 0) (s.y c 7 0)) (fMul wp (s.y c 1 2))
  let (al, be) := unpark (fAdd th (fMul (fMul w ts) fHalf)) ud uq
  let g := (s.chn c).grid
  let phi := fWrapPi (fSub (fSub (fAtan2 be al) (fAtan2 g.vBe g.vAl)) (fMul w ts))
  let lim := g.guard != 0 && fLt fGuard (fAbs phi)
  let rot := fSub (if fNeg? phi then fNegate fGuard else fGuard) phi
  let (al, be) := if lim then unpark rot al be else (al, be)
  let (va, vb, vc) := unclarke al be fZero
  let z := fNegate (fMul fHalf (fAdd (fMax va (fMax vb vc)) (fMin va (fMin vb vc))))
  let vlow := s.lat c 7
  let vup := fSub (s.lat c 6) vlow
  let npm := s.rd (A.GRID_NP_MAX c)
  let np := fClamp (fNegate npm) npm (fMul (s.rd (A.GRID_NP_K c)) (fSub vup vlow))
  let is := [s.lat c 0, s.lat c 1, s.lat c 2]
  let z := if Config.npSign [va, vb, vc] is then fAdd z np else fSub z np
  let norm (v : F32) : F32 := if fLe fZero v then fDiv v vup else fDiv v vlow
  let ma := norm (fAdd va z)
  let mb := norm (fAdd vb z)
  let mc := norm (fAdd vc z)
  let ms := [ma, mb, mc]
  let mi := fMax (fAbs ma) (fMax (fAbs mb) (fAbs mc))
  let sat : Clamped := ⟨fZero, ms.any fun m => fLt fOne m, ms.any fun m => fLt m (fNegate fOne), false⟩
  let (a0, a1) := legDuty ma
  let (b0, b1) := legDuty mb
  let (c0, c1) := legDuty mc
  let s := s.endRun c 5 none { y := [(0, a0), (1, a1), (2, b0), (3, b1), (4, c0), (5, c1), (6, z), (7, mi)], sat := sat } (fun _ => 0#32)
  let s := s.modGrid c fun x => { x with vAl := al, vBe := be }
  s.when lim fun s => (s.incSat (F.GRID_STAT_XFER_LIM c)).raise (F.GRID_EVT_GUARD c)

/-! ### Tracking (R134) -/

/-- After CTX8 and CTX9 have run: their states follow the converter in FOLLOW and FORM_CL; a frozen CTX8 or CTX9 is left. -/
def State.gridTrack (c : Nat) (s : State) : State :=
  let frozen := bit (s.chn c).frz 8 || bit (s.chn c).frz 9
  if s.vsmFrame c || frozen then
    (s.modGrid c fun g => { g with track := 0 }).putb (F.GRID_STAT_TRACK_OK c) false
  else
    let g := (s.chn c).grid
    let th := fWrap (fAdd (s.y c 1 0) g.delta)
    let w := fDiv (s.y c 1 1) (s.cx c 8 19)
    let s := s.runWrite c 8 [(41, w), (42, th), (8, th), (9, w)]
    let k := s.cx c 9 17
    let s := s.when (!fEq k fZero) fun s => s.runWrite c 9 [(41, fDiv (fSub g.emf (s.cx c 9 16)) k), (8, g.emf)]
    let n := min 8 (g.track + 1)
    (s.modGrid c fun g => { g with track := n }).putb (F.GRID_STAT_TRACK_OK c) (n == 8 && s.flag (F.GRID_STAT_PLL_OK c))

/-! ### Connection checks (R122, R123) -/

/-- 2π × GRID_FNOM. -/
def State.wNom (s : State) (c : Nat) : F32 := fMul f2Pi (s.rd (A.GRID_FNOM c))

/-- The neutral check (R122): the RMS of the zero-sequence voltage over one nominal cycle, by its square, and the PCC point. -/
def State.neutralOk (s : State) (c : Nat) : Bool :=
  let cyc := if fLt (c32 55 1) (s.rd (A.GRID_FNOM c)) then usClk 16667 else msClk 20
  let l := (recent s.clk cyc s.ride.zSeq).map fun x => x.2
  let m := s.rd (A.GRID_NEU_MAX c)
  fLe (fSum l) (fMul (fMul m m) (fOfNat l.length)) && !s.flag (F.METER_STAT_NEU_MISS 8)

/-- The checks of R122 in the order of their codes, each with its result. -/
def State.gridChecks (s : State) (c : Nat) : List (Nat × Bool) :=
  let w0 := s.wNom c
  let vd := s.y c 0 2
  let w := s.y c 0 1
  [ (1, fLt s.vNeg s.vPos),
    (2, !s.flag (F.GRID_CFG_NEUTRAL c) || s.neutralOk c),
    (3, fLe (s.rd (A.GRID_VWIN_LO c)) vd && fLe vd (s.rd (A.GRID_VWIN_HI c))),
    (4, fLe (fMul (s.rd (A.GRID_FWIN_LO c)) w0) w && fLe w (fMul (s.rd (A.GRID_FWIN_HI c)) w0)),
    (5, fLe s.vNeg (fMul (s.rd (A.GRID_UNBAL_MAX c)) s.vPos)),
    (6, s.flag (F.GRID_STAT_PLL_OK c)),
    (7, fLe (s.rd (A.GRID_DEAD_V c)) s.vPos),
    (11, fLe (s.rd (A.GRID_VDC_MIN c)) (s.lat c 6)) ]

/-- The code of the first failing check; 0 when all pass. -/
def firstFail (l : List (Nat × Bool)) : Nat := ((l.find? fun x => !x.2).map Prod.fst).getD 0

/-- Black start is permitted here (R125). -/
def State.blackOk (s : State) (c : Nat) : Bool :=
  s.flag (F.GRID_CFG_BLACK_OK c) && s.get (F.GRID_CTRL_SUB c) == 1 && fLt s.vPos (s.rd (A.GRID_DEAD_V c))

/-- The closure condition of R123. -/
def State.closureNow (s : State) (c : Nat) : Bool :=
  let dv := fAbs (fSub (s.y c 10 2) (s.y c 0 2))
  let da := fAbs (fWrapPi (fSub (s.y c 10 0) (s.chn c).grid.thPll))
  fLe dv (s.rd (A.GRID_KM_VTOL c)) && fLe da (s.rd (A.GRID_KM_ATOL c))

/-- PLL_OK's condition (R118). -/
def State.pllNow (s : State) (c : Nat) : Bool :=
  fLe (fAbs (s.y c 0 3)) (fMul (c32 2 100) (s.y c 0 2)) && bits (s.cx c 0 3) 1 0 == 0

/-- After the laws of a tick: the conditions that time the connection (R118–R123, R132). -/
def State.gridConditions (c : Nat) (s : State) : State :=
  let st := s.cst c
  let checks := s.gridChecks c
  let all := firstFail checks == 0
  let s := s.hold (.pll c) (s.pllNow c)
  let s := s.hold (.vdc c) (st == sPRECHARGE && fLe (s.rd (A.GRID_VDC_MIN c)) (s.lat c 6))
  let s := s.putb (F.GRID_STAT_SYNC_OK c) (st == sSYNC && all)
  let s := s.hold (.qual c) (st == sSYNC && all && s.mode != mRIDE && !s.flag F.ISL_STAT_ISLANDED)
  let s := s.hold (.seq c) (st == sSYNC && fLe s.vPos s.vNeg)
  let s := s.hold (.close c) (st == sSYNC && s.flag (F.GRID_STAT_KM_CMD c) && s.closureNow c)
  let s := s.hold (.ret c) (st == sACTIVE && s.sub c == mFORM_CL && s.mode != mRIDE && fLe (s.rd (A.GRID_VRET c)) s.vPos)
  s.modGrid c fun g => { g with guard := g.guard - 1 }

/-! ### Transfers (R135–R138) -/

/-- Rotate the integrators of CTX3 and CTX4 by −Δ (R136). -/
def State.rotateInts (c : Nat) (delta : F32) (s : State) : State :=
  let (d, q) := park delta (s.cx c 3 41) (s.cx c 4 41)
  (s.setCx c 3 41 d).setCx c 4 41 q

/-- A transfer to sub-mode `m` with frame change `delta` (none: no change). -/
def State.gridTransfer (c m : Nat) (delta : Option F32) (s : State) : State :=
  let s := match delta with | some d => s.rotateInts c d | none => s
  let s := ((s.put (F.GRID_STAT_SUB_NOW c) m).inc (F.GRID_XCNT_XFER_CNT c)).put (F.GRID_STAT_XFER_LIM c) 0
  let s := s.modGrid c fun g => { g with guard := 9, clFire := false, reconn := false }
  (s.putb (F.RIDE_CH_STAT_RECOV c) false).raise (F.GRID_EVT_XFER c)

/-- θPLL-referred − θsel at the boundary. -/
def State.toPll (s : State) (c : Nat) : F32 := fWrapPi (fSub (s.chn c).grid.thPll (s.y c 1 0))

/-- FORM → FOLLOW: the set-points start from the measured powers. -/
def State.formToFollow (c : Nat) (s : State) : State :=
  ((s.setCx c 8 40 (s.y c 1 6)).setCx c 9 40 (s.y c 1 7)).gridTransfer c mFOLLOW (some (s.toPll c))

/-- FORM → FORM_CL. -/
def State.enterFormCl (c : Nat) (s : State) : State :=
  ((s.inc (F.GRID_XCNT_CL_CNT c)).raise (F.GRID_EVT_CL_ENTER c)).gridTransfer c mFORM_CL (some (s.toPll c))

def State.setPend (c : Nat) (p : Option Bool) (s : State) : State :=
  (s.modGrid c fun g => { g with pend := p }).putb (F.GRID_STAT_PEND c) p.isSome

/-- A SUB value is applied in ACTIVE (R138): a later value replaces a pending one; a value of the present family cancels
it; in ISLAND it is stored. -/
def State.subApplied (c : Nat) (v : Bool) (s : State) : State :=
  if s.cst c ≠ sACTIVE then s
  else if s.sub c = mISLAND then s.setPend c (some v)
  else if v == (s.sub c != mFOLLOW) then s.setPend c none
  else s.setPend c (some v)

/-- The transfer that a boundary makes, at most one (R133, R135, R138). -/
def State.gridTransfers (c : Nat) (s : State) : State :=
  let g := (s.chn c).grid
  let ride := s.mode == mRIDE
  if s.cst c ≠ sACTIVE ∨ g.stopAt.isSome then s
  else if s.sub c = mISLAND then (if g.reconn then s.gridTransfer c mFORM none else s)
  else if s.sub c = mFORM then
    if g.pend = some false ∧ ¬ ride then (s.setPend c none).formToFollow c
    else if g.clFire then s.enterFormCl c
    else s
  else if s.sub c = mFORM_CL then
    (if g.pend = some false ∧ ¬ ride then (s.setPend c none).gridTransfer c mFOLLOW none else s)
  else
    (if g.pend = some true ∧ ¬ ride ∧ s.flag (F.GRID_STAT_TRACK_OK c) then
      (s.setPend c none).gridTransfer c mFORM (some g.delta) else s)

/-! ### ACTIVE entry and the tick boundary -/

/-- Write 0.0 to a run of state words. -/
def State.zeroCx (c k lo n : Nat) (s : State) : State := (List.range n).foldl (fun s i => s.setCx c k (lo + i) 0#32) s

/-- ACTIVE begins (R123, R125). -/
def State.gridActivate (c : Nat) (s : State) : State :=
  let black := (s.chn c).grid.black
  let s := (((s.zeroCx c 3 41 1).zeroCx c 4 41 1).zeroCx c 6 41 16).zeroCx c 7 41 16
  let s := (s.setCx c 8 40 (s.y c 1 6)).setCx c 9 40 (s.y c 1 7)
  let s := s.when black fun s => (((s.setCx c 8 41 fOne).setCx c 8 42 fZero).setCx c 8 8 fZero).setCx c 8 9 fOne
  let s := (s.put (F.ROLE_STAT_CH_STATE c) sACTIVE).put (F.GRID_STAT_SUB_NOW c) (if black then mFORM else s.get (F.GRID_CTRL_SUB c))
  let s := s.modGrid c fun g => { g with actNext := false, black := false, blackAt := if black then some s.clk else none, pend := none, clFire := false, reconn := false }
  (s.restart (.entered c)).applyForce c

/-- What a tick boundary does to a GRID channel before the samples latch. -/
def State.gridBoundary (c : Nat) (s : State) : State :=
  let g := (s.chn c).grid
  if g.offNext then s.toOff c kSTOP
  else if g.actNext && s.cst c == sSYNC then s.gridActivate c
  else
    let s := s.gridTransfers c
    s.when (s.cst c != sACTIVE) fun s => (s.put (F.GRID_STAT_SUB_NOW c) mFOLLOW).putb (F.GRID_STAT_VI_ACTIVE c) false

/-! ### Commands of the role -/

/-- The trip condition of a start: latch clear, SGI not active (11 R328), effective enable high, no check hold of a half-bridge the role drives (08 R262). -/
def State.startBlocked (s : State) (c : Nat) : Bool :=
  s.flag (F.GDI_STAT_TRIPPED c) || s.flag F.SAFE_STAT_SGI || !s.effEn c || hbs.any fun h => s.roleDrives c h && s.bitOf (F.GDI_STAT_CHK_HOLD c) h

/-- The inputs `l` of the role are enabled and valid, and no other enabled input is unsettled (R112, R183, 02 R57). -/
def State.inputsOk (s : State) (c : Nat) (l : List Nat) : Bool :=
  (l.all fun m => s.flag (F.FLT_IN_CFG_EN c m) && s.bitOf (F.FLT_VALID_VALID c) m) &&
    (List.range 12).all fun m => !s.flag (F.FLT_IN_CFG_EN c m) || s.bitOf (F.FLT_VALID_VALID c) m

/-- The conditions of R121 in order: the code of the first that fails, 0 when all hold. -/
def State.gridStartCode (s : State) (c : Nat) : Nat :=
  let ins := s.inputsOk c (List.range 8)
  let neu := !s.flag (F.GRID_CFG_NEUTRAL c) || s.get (F.METER_CFG_TYPE 8) == 2
  let gains := fEq (s.cx c 3 16) fZero || fEq (s.cx c 4 16) fZero || (s.flag (F.GRID_CFG_PSRC c) && fEq (s.cx c 11 16) fZero)
  if s.mode ≠ mRUN then kMODE
  else if s.startBlocked c then kTRIP
  else if !(ins && neu) then kINPUTS
  else if gains then kGAINS
  else 0

/-- The start conditions met: PRECHARGE from the next boundary. -/
def State.startNext (c : Nat) (s : State) : State := s.modCh c fun x => { x with startNext := true }

/-- START of a GRID channel in OFF (R121). -/
def State.gridStart (c : Nat) (s : State) : State :=
  let k := s.gridStartCode c
  if k ≠ 0 then s.refuse c k else s.startNext c

/-- STOP (R124). -/
def State.gridStop (c : Nat) (s : State) : State :=
  let st := s.cst c
  if st = sPRECHARGE ∨ st = sSYNC then s.toOff c kSTOP
  else if st = sACTIVE then
    s.modGrid c fun g => if g.stopAt.isSome then g else { g with stopAt := some s.clk, stopD := g.refD, stopQ := g.refQ }
  else s.modCh c fun x => { x with startNext := false }

/-- PRECHARGE_COMPLETE (R120). -/
def State.prechargeDone (c : Nat) (s : State) : State :=
  if s.role c = rGRID ∧ s.cst c = sPRECHARGE ∧ s.held (.vdc c) (msClk 20) then
    (s.put (F.ROLE_STAT_CH_STATE c) sSYNC).restart (.entered c)
  else s

/-- PC_TIMEOUT: GRID_T_PC in PRECHARGE. -/
def State.pcTimeout (c : Nat) (s : State) : State :=
  if s.role c = rGRID ∧ s.cst c = sPRECHARGE ∧ s.held (.entered c) (secClk (s.rd (A.GRID_T_PC c))) then s.toOff c kPC_TIMEOUT else s

/-- SYNC_QUALIFIED (R122): the contactor command. -/
def State.syncQualified (c : Nat) (s : State) : State :=
  if s.role c = rGRID ∧ s.cst c = sSYNC ∧ ¬ s.flag (F.GRID_STAT_KM_CMD c) ∧ s.held (.qual c) (secClk (s.rd (A.GRID_T_QUAL c))) then
    (s.setKm c true).restart (.km c)
  else s

/-- SYNC_TIMEOUT: the code of the first failing check. -/
def State.syncTimeout (c : Nat) (s : State) : State :=
  if s.role c = rGRID ∧ s.cst c = sSYNC ∧ ¬ s.flag (F.GRID_STAT_KM_CMD c) ∧ s.held (.entered c) (secClk (s.rd (A.GRID_T_SYNC c))) then
    s.toOff c (firstFail (s.gridChecks c))
  else s

/-- The code of an immediate refusal in SYNC (R122); 0 when none applies. -/
def State.immediateCode (s : State) (c : Nat) : Nat :=
  if s.held (.seq c) (msClk 40) then 1
  else if s.flag (F.GRID_CFG_NEUTRAL c) && !s.neutralOk c then 2
  else if fLt s.vPos (s.rd (A.GRID_DEAD_V c)) && !s.blackOk c then 7
  else 0

/-- SYNC_IMMEDIATE_REFUSAL. Black start skips checks 1 to 6 (R125). -/
def State.syncRefusal (c : Nat) (s : State) : State :=
  if s.role c = rGRID ∧ s.cst c = sSYNC ∧ ¬ (s.chn c).grid.black ∧ s.immediateCode c ≠ 0 then s.toOff c (s.immediateCode c) else s

/-- CLOSURE_CONFIRMED (R123): ACTIVE from the next boundary. -/
def State.closureConfirmed (c : Nat) (s : State) : State :=
  if s.role c = rGRID ∧ s.cst c = sSYNC ∧ ¬ (s.chn c).grid.black ∧ s.held (.close c) (msClk 5) then
    s.modGrid c fun g => { g with actNext := true }
  else s

/-- KM_FAIL: closure not confirmed within GRID_T_KM of the command. -/
def State.kmFail (c : Nat) (s : State) : State :=
  if s.role c = rGRID ∧ s.cst c = sSYNC ∧ ¬ (s.chn c).grid.black ∧ ¬ (s.chn c).grid.actNext ∧ s.held (.km c) (secClk (s.rd (A.GRID_T_KM c))) ∧ s.flag (F.GRID_STAT_KM_CMD c) then
    (s.raise (F.GRID_EVT_KM_FAIL c)).toOff c kKM_FAIL
  else s

/-- STOP_RAMP_END (R124): half-bridges off now, contactor and state at the next boundary. -/
def State.stopRampEnd (c : Nat) (s : State) : State :=
  match (s.chn c).grid.stopAt with
  | some t0 =>
    if s.role c = rGRID ∧ s.cst c = sACTIVE ∧ t0 + secClk (s.rd (A.GRID_T_STOP c)) ≤ s.clk then
      (s.modGrid c fun g => { g with offNext := true }).applyForce c
    else s
  | none => s

/-- BLACK_START (R125): checks 1–6 and the closure check are skipped. -/
def State.blackStart (c : Nat) (s : State) : State :=
  if s.role c = rGRID ∧ s.cst c = sSYNC ∧ ¬ s.flag (F.GRID_STAT_KM_CMD c) ∧ s.mode ≠ mRIDE ∧ s.blackOk c ∧
      fLe (s.rd (A.GRID_VDC_MIN c)) (s.lat c 6) then
    ((s.setKm c true).modGrid c fun g => { g with black := true }).restart (.km c)
  else s

/-- BLACK_START_ACTIVE: GRID_T_KM after the command, ACTIVE in FORM from the next boundary. -/
def State.blackStartActive (c : Nat) (s : State) : State :=
  if s.role c = rGRID ∧ s.cst c = sSYNC ∧ (s.chn c).grid.black ∧ s.held (.km c) (secClk (s.rd (A.GRID_T_KM c))) then
    s.modGrid c fun g => { g with actNext := true }
  else s

/-- PLL_OK_CHANGE (R118). -/
def State.pllOkChange (c : Nat) (ok : Bool) (s : State) : State :=
  if s.role c = rGRID ∧ ok = s.held (.pll c) (msClk 20) then s.putb (F.GRID_STAT_PLL_OK c) ok else s

/-- FORM_CL_EXIT (R132). -/
def State.formClExit (c : Nat) (s : State) : State :=
  if s.role c = rGRID ∧ s.cst c = sACTIVE ∧ s.sub c = mFORM_CL ∧ (s.chn c).grid.stopAt = none ∧ s.mode ≠ mRIDE ∧
      s.held (.ret c) (secClk (s.rd (A.GRID_T_RET c))) then
    (s.raise (F.GRID_EVT_CL_EXIT c)).gridTransfer c mFORM (some (s.chn c).grid.delta)
  else s

end Sys2Proof.Machine
end

