-- ==== Sys2Proof/Machine/Dc.lean ====
section
/-! DEFINITION. The DCB and DCP roles (06 R181–R198): leg references, MPPT, connection, and variable-period carriers. -/

namespace Sys2Proof.Machine

def State.isDc (s : State) (c : Nat) : Bool := s.role c == rDCB || s.role c == rDCP
/-- A carrier other than the fixed one is selected (R196). -/
def State.dcVp (s : State) (c : Nat) : Bool := s.get (F.DC_CFG_CAR c) != 0

/-! ### The reference of the legs (R188, R189) -/

/-- Y0–Y3 of DCMEAS: fast outputs, or the means of the last complete variable period (R198). -/
def State.legCur (s : State) (c h : Nat) : F32 :=
  if s.dcVp c then (s.chn c).dc.legMean[h]?.getD fZero else s.lat c h
def State.legSum (s : State) (c : Nat) : F32 := fSum ((List.range (s.legs c)).map (s.legCur c))

/-- 1 / LEGS as the device holds it. -/
def invLegs (n : Nat) : F32 := if n ≤ 1 then fOne else if n = 2 then fHalf else if n = 3 then fThird else c32 1 4

/-- r_eff with its limiting: value, LIM_HI, LIM_LO (R188). `now`: REF_NOW of CTX0 in this tick. -/
def State.dcReff (s : State) (c : Nat) (now : F32) : F32 × Bool × Bool :=
  if s.role c = rDCP then (s.y c 4 0, false, false)
  else if !s.flag (F.DC_CFG_TAPER c) then (now, false, false)
  else
    let hi := if s.flag (F.DC_STAT_FULL c) then fZero else s.y c 4 0
    let lo := if s.flag (F.DC_STAT_EMPTY c) then fZero else s.y c 5 0
    let r := clampTo lo hi now
    (r.v, r.hi && !fEq r.v now, r.lo && !fEq r.v now)

/-- Before the laws: REF_NOW of CTX0 follows the measured current while not ACTIVE; r_eff, moved to zero by a STOP. -/
def State.dcBefore (c : Nat) (s : State) : State :=
  let ts := s.ts
  let act := s.cst c == sACTIVE
  let s := s.when (!act) fun s => s.setCx c 0 40 (s.legSum c)
  let now := if act && !bit (s.chn c).frz 0 then s.refNext c 0 ts else s.cx c 0 40
  let (r, hi, lo) := if act then s.dcReff c now else (now, false, false)
  let r := match (s.chn c).dc.stopAt with
    | some t0 => fMul (s.chn c).dc.stopR (fMax fZero (fSub fOne (fDiv (s.since t0) (s.rd (A.DC_T_STOP c)))))
    | none => r
  ((s.modDc c fun d => { d with rEff := r }).putb (F.DC_STAT_LIM_HI c) hi).putb (F.DC_STAT_LIM_LO c) lo

/-- The run of a leg context (R188): r := r_eff / LEGS. While not ACTIVE, REF_NOW of CTX0 keeps the measured current. -/
def State.dcLegAdj (s : State) (c k : Nat) : Adj :=
  { ref := some (fMul (s.chn c).dc.rEff (invLegs (s.legs c))),
    now := if k = 0 ∧ s.cst c ≠ sACTIVE then some (s.cx c 0 40) else none }

/-- DCMEAS (CTX6). -/
def State.dcmeas (c : Nat) (s : State) : State :=
  let sum := s.legSum c
  let p := fMul (s.lat c 4) sum
  s.endRun c 6 none { y := (List.range 4).map (fun h => (h, s.legCur c h)) ++ [(4, p), (5, sum)] } (fun _ => 0#32)

/-! ### MPPT (R193–R195) -/

/-- Clocks of the present dwell after which its second half begins. -/
def State.scanHalf (s : State) (c : Nat) : Nat := secClk (s.rd (A.DC_SCAN_DWELL c)) / 2

/-- MPPT (CTX5 of DCP): power and voltage are summed over time, and the outputs shown. -/
def State.mppt (c : Nat) (s : State) : State :=
  let ts := s.ts
  let scan := s.flag (F.DC_STAT_SCANNING c)
  let take := !scan || s.scanHalf c ≤ (s.chn c).dc.dwell
  let p := fNegate (s.y c 6 4)
  let v := s.lat c 4
  let len := s.t.len
  let s := s.when (s.cst c == sACTIVE) fun s => s.modDc c fun d =>
    { d with
      sumP := if take then fAdd d.sumP (fMul p ts) else d.sumP
      sumV := if take then fAdd d.sumV (fMul v ts) else d.sumV
      sumT := if take then d.sumT + len else d.sumT
      dwell := if scan then d.dwell + len else 0 }
  let d := (s.chn c).dc
  s.endRun c 5 none { y := [(0, d.vref), (1, d.pPrev), (2, d.vPrev)] } (fun _ => 0#32)

/-- Mean power and mean voltage of the sums; the sums start afresh. -/
def DcSt.means (d : DcSt) : F32 × F32 :=
  let t := fOfRat d.sumT 800000000
  (fDiv d.sumP t, fDiv d.sumV t)
def DcSt.clear (d : DcSt) : DcSt := { d with sumP := fZero, sumV := fZero, sumT := 0, dwell := 0 }

def State.setVref (c : Nat) (v : F32) (s : State) : State :=
  (s.modDc c fun d => { d with vref := v }).wr (A.DC_MPPT_V c) v

/-- The j-th voltage of a scan (R194). -/
def State.scanV (s : State) (c j : Nat) : F32 :=
  let hi := s.rd (A.DC_V_MPP_HI c)
  let step := fDiv (fSub hi (s.rd (A.DC_V_MPP_LO c))) (fOfNat (s.get (F.DC_CFG_SCAN_N c) - 1))
  fSub hi (fMul (fOfNat j) step)

/-- A due scan starts: the first point. -/
def State.scanStart (c : Nat) (s : State) : State :=
  let s := s.modDc c fun d => { d.clear with scanDue := false, scanIx := 0, vBefore := d.vref, bestP := fZero, bestV := fZero }
  (s.putb (F.DC_STAT_SCANNING c) true).setVref c (s.scanV c 0)

/-- Perturb and observe (R193): the new direction, CURTAIL and reference. -/
def State.perturb (s : State) (c : Nat) (pk vk : F32) : Bool × Bool × F32 :=
  let d := (s.chn c).dc
  let dp := fSub pk d.pPrev
  let dv := fSub vk d.vPrev
  let step := fClamp (s.rd (A.DC_STEP_MIN c)) (s.rd (A.DC_STEP_MAX c)) (fMul (s.rd (A.DC_KSTEP c)) (fAbs dp))
  let pm := s.rd (A.DC_P_MAX c)
  let cur := fLt fZero pm && fLt pm pk
  let x := fMul dp dv
  let up := if cur then true else if fLt fZero x then true else if fLt x fZero then false else d.up
  let v := fClamp (s.rd (A.DC_V_MPP_LO c)) (s.rd (A.DC_V_MPP_HI c)) (if up then fAdd d.vref step else fSub d.vref step)
  (up, cur, v)

/-- MPPT_PERIOD_END: DC_MPPT_T of accumulated time in ACTIVE, outside a scan. -/
def State.mpptPeriodEnd (c : Nat) (s : State) : State :=
  let d := (s.chn c).dc
  if s.role c = rDCP ∧ s.cst c = sACTIVE ∧ ¬ s.flag (F.DC_STAT_SCANNING c) ∧ secClk (s.rd (A.DC_MPPT_T c)) ≤ d.sumT then
    let (pk, vk) := d.means
    let s := if d.first then s else
      let (up, cur, v) := s.perturb c pk vk
      ((s.modDc c fun d => { d with up := up }).putb (F.DC_STAT_CURTAIL c) cur).setVref c v
    let s := s.modDc c fun d => { d.clear with pPrev := pk, vPrev := vk, first := false }
    s.when ((s.chn c).dc.scanDue && !s.flag (F.DC_STAT_CURTAIL c)) (State.scanStart c)
  else s

/-- SCAN_DUE: DC_SCAN_T minutes after ACTIVE entry or the end of the last scan. -/
def State.scanDueNow (c : Nat) (s : State) : State :=
  let t := s.rd (A.DC_SCAN_T c)
  if s.role c = rDCP ∧ s.cst c = sACTIVE ∧ ¬ fEq t fZero ∧ ¬ s.flag (F.DC_STAT_SCANNING c) ∧ s.held (.scan c) (60 * secClk t) then
    s.modDc c fun d => { d with scanDue := true }
  else s

/-- DC_CTRL.SCAN (R194, R195): ignored during a scan, and in a channel that is not DCP. -/
def State.dcScan (c : Nat) (s : State) : State :=
  if s.role c = rDCP ∧ ¬ s.flag (F.DC_STAT_SCANNING c) then s.modDc c fun d => { d with scanDue := true } else s

/-- SCAN_POINT_END (R194, R195). -/
def State.scanPointEnd (c : Nat) (s : State) : State :=
  let d := (s.chn c).dc
  if s.role c = rDCP ∧ s.cst c = sACTIVE ∧ s.flag (F.DC_STAT_SCANNING c) ∧ secClk (s.rd (A.DC_SCAN_DWELL c)) ≤ d.dwell then
    let (p, _) := d.means
    let pm := s.rd (A.DC_P_MAX c)
    if fLt fZero pm && fLt pm p then
      let s := (s.modDc c DcSt.clear).setVref c d.vBefore
      ((s.putb (F.DC_STAT_SCANNING c) false).restart (.scan c)).raise (F.DC_EVT_SCAN_ABORT c)
    else
      let better := d.scanIx == 0 || fLt d.bestP p
      let bp := if better then p else d.bestP
      let bv := if better then d.vref else d.bestV
      if d.scanIx + 1 < s.get (F.DC_CFG_SCAN_N c) then
        (s.modDc c fun d => { d.clear with bestP := bp, bestV := bv, scanIx := d.scanIx + 1 }).setVref c (s.scanV c (d.scanIx + 1))
      else
        let s := (s.modDc c fun d => { d.clear with bestP := bp, bestV := bv, pPrev := bp }).setVref c bv
        (((s.wr (A.DC_SCAN_V c) bv).putb (F.DC_STAT_SCANNING c) false).restart (.scan c)).raise (F.DC_EVT_SCAN_DONE c)
  else s

/-! ### Conditions of a tick (R190, R191) -/

/-- The checks of R191: VWIN, RATIO, VDC. -/
def State.dcChecks (s : State) (c : Nat) : List (Nat × Bool) :=
  let vs := s.lat c 6
  let vl := s.lat c 5
  [ (3, fLe (s.rd (A.DC_VSRC_LO c)) vs && fLe vs (s.rd (A.DC_VSRC_HI c))),
    (1, fLe vs (fMul (s.rd (A.DC_RATIO_MAX c)) vl)),
    (11, fLe (s.rd (A.DC_VLINK_MIN c)) vl) ]

def State.dcClosureNow (s : State) (c : Nat) : Bool :=
  fLe (fAbs (fSub (s.lat c 4) (s.lat c 6))) (fMul (s.rd (A.DC_KM_VTOL c)) (s.lat c 6))

/-- After the laws of a tick: timed conditions, and the release of FULL and EMPTY (R190). -/
def State.dcConditions (c : Nat) (s : State) : State :=
  let st := s.cst c
  let checks := s.dcChecks c
  let taper := s.role c == rDCB && s.flag (F.DC_CFG_TAPER c)
  let s := s.hold (.vdc c) (st == sPRECHARGE && fLe (s.rd (A.DC_VLINK_MIN c)) (s.lat c 5))
  let s := s.hold (.qual c) (st == sSYNC && firstFail checks == 0)
  let s := s.hold (.ratio c) (st == sSYNC && !fLe (s.lat c 6) (fMul (s.rd (A.DC_RATIO_MAX c)) (s.lat c 5)))
  let s := s.hold (.close c) (st == sSYNC && s.flag (F.DC_STAT_KM_CMD c) && s.dcClosureNow c)
  let s := s.hold (.full c) (taper && s.flag (F.DC_STAT_LIM_HI c) && fLt (s.y c 4 0) (s.rd (A.DC_I_END c)))
  let s := s.hold (.empty c) (taper && s.flag (F.DC_STAT_LIM_LO c) && fLt (fNegate (s.y c 5 0)) (s.rd (A.DC_I_END c)))
  let s := s.when (s.flag (F.DC_STAT_FULL c) && fLt (s.lat c 4) (s.rd (A.DC_V_RECHG c))) fun s => s.putb (F.DC_STAT_FULL c) false
  s.when (s.flag (F.DC_STAT_EMPTY c) && fLt (s.rd (A.DC_V_REDIS c)) (s.lat c 4)) fun s => s.putb (F.DC_STAT_EMPTY c) false

/-! ### Boundary and ACTIVE entry (R192) -/

def State.dcActivate (c : Nat) (s : State) : State :=
  let d0 := fDiv (s.lat c 4) (s.lat c 5)
  let s := s.each [0, 1, 2, 3] fun h s => s.when (bit (s.cx c h 0) 0) fun s => s.setCx c h 41 d0
  let s := s.when (s.role c == rDCP) fun s =>
    (s.modDc c fun d => { d.clear with up := false, first := true, scanDue := false }).setVref c (fMin (s.lat c 4) (s.rd (A.DC_V_MPP_HI c)))
  let s := (s.put (F.ROLE_STAT_CH_STATE c) sACTIVE).modDc c fun d => { d with actNext := false }
  ((s.restart (.entered c)).restart (.scan c)).applyForce c

def State.dcBoundary (c : Nat) (s : State) : State :=
  let d := (s.chn c).dc
  if d.offNext then s.toOff c kSTOP
  else if d.actNext && s.cst c == sSYNC then s.dcActivate c
  else s

/-! ### Commands of the role -/

/-- The conditions of R183 in order; 0 when all hold. -/
def State.dcStartCode (s : State) (c : Nat) : Nat :=
  let ins := s.inputsOk c (List.range (s.legs c) ++ [4, 5, 6])
  let zero (k : Nat) := fEq (s.cx c k 16) fZero
  let gains := ([0, 1, 2, 3].any fun k => bit (s.cx c k 0) 0 && zero k) ||
    (s.role c == rDCP && zero 4) || (s.role c == rDCB && s.flag (F.DC_CFG_TAPER c) && (zero 4 || zero 5))
  let bad := (s.role c == rDCP && (fEq (s.rd (A.DC_STEP_MAX c)) fZero || fLt (s.rd (A.DC_STEP_MAX c)) (s.rd (A.DC_STEP_MIN c)) ||
      fLe (s.rd (A.DC_V_MPP_HI c)) (s.rd (A.DC_V_MPP_LO c)))) ||
    (s.dcVp c && fLt (s.rd (A.DC_VP_TMAX c)) (s.rd (A.DC_VP_TMIN c)))
  if s.mode ≠ mRUN then kMODE
  else if s.startBlocked c then kTRIP
  else if !ins then kINPUTS
  else if gains then kGAINS
  else if bad then kCFG
  else 0

def State.dcStart (c : Nat) (s : State) : State :=
  let k := s.dcStartCode c
  if k ≠ 0 then s.refuse c k else s.startNext c

/-- STOP (R192). -/
def State.dcStop (c : Nat) (s : State) : State :=
  let st := s.cst c
  if st = sPRECHARGE ∨ st = sSYNC then s.toOff c kSTOP
  else if st = sACTIVE then s.modDc c fun d => if d.stopAt.isSome then d else { d with stopAt := some s.clk, stopR := d.rEff }
  else s.modCh c fun x => { x with startNext := false }

def State.dcPrechargeDone (c : Nat) (s : State) : State :=
  if s.isDc c ∧ s.cst c = sPRECHARGE ∧ s.held (.vdc c) (msClk 20) then (s.put (F.ROLE_STAT_CH_STATE c) sSYNC).restart (.entered c) else s

def State.dcPcTimeout (c : Nat) (s : State) : State :=
  if s.isDc c ∧ s.cst c = sPRECHARGE ∧ s.held (.entered c) (secClk (s.rd (A.DC_T_PC c))) then s.toOff c kPC_TIMEOUT
  else if s.role c = rMACH ∧ s.cst c = sPRECHARGE ∧ s.held (.entered c) (msClk 5000) then s.toOff c kPC_TIMEOUT
  else s

def State.dcQualified (c : Nat) (s : State) : State :=
  if s.isDc c ∧ s.cst c = sSYNC ∧ ¬ s.flag (F.DC_STAT_KM_CMD c) ∧ s.held (.qual c) (secClk (s.rd (A.DC_T_QUAL c))) then
    (s.setKm c true).restart (.km c)
  else s

def State.dcSyncTimeout (c : Nat) (s : State) : State :=
  if s.isDc c ∧ s.cst c = sSYNC ∧ ¬ s.flag (F.DC_STAT_KM_CMD c) ∧ s.held (.entered c) (secClk (s.rd (A.DC_T_SYNC c))) then
    s.toOff c (firstFail (s.dcChecks c))
  else s

def State.dcRatioRefusal (c : Nat) (s : State) : State :=
  if s.isDc c ∧ s.cst c = sSYNC ∧ s.held (.ratio c) (msClk 20) then s.toOff c 1 else s

def State.dcClosure (c : Nat) (s : State) : State :=
  if s.isDc c ∧ s.cst c = sSYNC ∧ s.held (.close c) (msClk 5) then s.modDc c fun d => { d with actNext := true } else s

def State.dcKmFail (c : Nat) (s : State) : State :=
  if s.isDc c ∧ s.cst c = sSYNC ∧ s.flag (F.DC_STAT_KM_CMD c) ∧ ¬ (s.chn c).dc.actNext ∧ s.held (.km c) (secClk (s.rd (A.DC_T_KM c))) then
    (s.raise (F.DC_EVT_KM_FAIL c)).toOff c kKM_FAIL
  else s

def State.dcStopRampEnd (c : Nat) (s : State) : State :=
  match (s.chn c).dc.stopAt with
  | some t0 =>
    if s.isDc c ∧ s.cst c = sACTIVE ∧ t0 + secClk (s.rd (A.DC_T_STOP c)) ≤ s.clk then
      (s.modDc c fun d => { d with offNext := true }).applyForce c
    else s
  | none => s

/-- DC_FULL and DC_EMPTY (R190). -/
def State.dcFull (c : Nat) (s : State) : State :=
  if s.role c = rDCB ∧ ¬ s.flag (F.DC_STAT_FULL c) ∧ s.held (.full c) (secClk (s.rd (A.DC_T_END c))) then
    (s.putb (F.DC_STAT_FULL c) true).raise (F.DC_EVT_FULL_EVT c)
  else s
def State.dcEmpty (c : Nat) (s : State) : State :=
  if s.role c = rDCB ∧ ¬ s.flag (F.DC_STAT_EMPTY c) ∧ s.held (.empty c) (secClk (s.rd (A.DC_T_END c))) then
    (s.putb (F.DC_STAT_EMPTY c) true).raise (F.DC_EVT_EMPTY_EVT c)
  else s

/-! ### Variable-period carriers (R197, R198) -/

/-- The conducting interval of leg `h` ends, the mean of its period `mean`: P goes to the controlled side with E at 0, and the
next period starts after the dead time (07 R231). -/
def State.vpTurn (c h : Nat) (mean : Word) (s : State) : State :=
  let cot := s.get (F.DC_CFG_CAR c) == 1
  (s.modHb c h fun x => { x with p := cot, e := false, vpNext := true, vpMean := some mean }).gateUpdate c h

/-- COT_CROSSING: before DC_VP_TMIN from the period start both sides stay off until then. -/
def State.cotCrossing (c h off : Nat) (mean : Word) (s : State) : State :=
  let x := s.hb c h
  let cot := s.get (F.DC_CFG_CAR c) == 1
  if s.vpRuns c h && x.e && x.p == !cot && !x.vpNext then
    let early := s.clk off < x.vpAt + secClk (s.rd (A.DC_VP_TMIN c))
    (s.vpTurn c h mean).modHb c h fun x => { x with vpWait := early, vpOver := false }
  else s

/-- VP_TMAX_CLAMP. -/
def State.vpTmax (c h off : Nat) (mean : Word) (s : State) : State :=
  let x := s.hb c h
  if s.vpRuns c h && !x.vpNext && x.vpAt + secClk (s.rd (A.DC_VP_TMAX c)) ≤ s.clk off then
    ((s.inc (F.DC_CCM_CNT_CNT c)).raise (F.DC_EVT_CCM c)).vpTurn c h mean
  else s

/-- VP_TMIN_END: the period starts, once the dead time after the crossing is over too. -/
def State.vpTmin (c h off : Nat) (mean : Word) (s : State) : State :=
  let x := s.hb c h
  if s.vpRuns c h && x.vpWait && x.vpAt + secClk (s.rd (A.DC_VP_TMIN c)) ≤ s.clk off then
    let s := s.modHb c h fun x => { x with vpWait := false, vpMean := some mean }
    s.when x.vpOver (State.conduct c h off)
  else s

end Sys2Proof.Machine
end

