-- ==== Sys2Proof/Machine/Mach.lean ====
section
/-! DEFINITION. The MACH role (06 R199–R207): role blocks, start, field weakening and reversal. -/

namespace Sys2Proof.Machine

/-- Position from the sine–cosine sensor. -/
def State.posSensor (s : State) (c : Nat) : Bool := s.flag (F.MACH_CFG_POS c)
/-- Phase currents: three inputs, or the reconstruction of the last complete carrier period (R207). -/
def State.machCur (s : State) (c : Nat) : F32 × F32 × F32 :=
  if s.flag (F.MACH_CFG_SHUNT c) then ((s.chn c).mach.ia, (s.chn c).mach.ib, (s.chn c).mach.ic)
  else (s.lat c 0, s.lat c 1, s.lat c 2)
/-- The direction of an open-loop start: the sign of REF of CTX4 (R204). -/
def State.machDir (s : State) (c : Nat) (x : F32) : F32 := if fNeg? (s.cx c 4 4) then fNegate x else x

/-- MMEAS (CTX0): angle, speed and dq currents (R203, R204). Words 41 and 42 hold θ and ω of the tracking loop. -/
def State.mmeas (c : Nat) (s : State) : State :=
  let ts := s.ts
  let wn := s.rd (A.MACH_W_NOM c)
  let m := (s.chn c).mach
  let (th, w, st) :=
    if s.posSensor c then
      let (th, w) := Config.posTrack (s.lat c 6) (s.lat c 7) (s.cx c 0 41) (s.cx c 0 42) ts
      (fWrap (fAdd th (s.rd (A.MACH_POS_OFS c))), fDiv w wn, [(41, th), (42, w)])
    else if m.start = 1 then (fZero, fZero, [])
    else if m.start = 2 then (m.th, m.w, [])
    else (fWrap (fAdd (s.y c 6 0) (fMul (fMul (s.y c 6 1) wn) ts)), s.y c 6 1, [])
  let (ia, ib, ic) := s.machCur c
  let (al, be, _) := clarke ia ib ic
  let (d, q) := park th al be
  s.endRun c 0 none { y := [(0, th), (1, w), (2, d), (3, q)], st := st } (fun _ => 0#32)

/-- The open-loop angle and speed move on (R204): in step 2 the speed ramps towards MACH_W_HO. -/
def State.openLoop (c : Nat) (s : State) : State :=
  let m := (s.chn c).mach
  if m.start = 2 then
    let ts := s.ts
    let w := fMove m.w (s.machDir c (s.rd (A.MACH_W_HO c))) (fMul (s.rd (A.MACH_A_START c)) ts)
    s.modMach c fun m => { m with w := w, th := fWrap (fAdd m.th (fMul (fMul w (s.rd (A.MACH_W_NOM c))) ts)) }
  else s

/-- The limit of the q reference (R200), from id* of the previous tick. -/
def State.qLimit (s : State) (c : Nat) : F32 :=
  let i := s.rd (A.MACH_IMAX c)
  let d := s.y c 5 0
  fSqrt (fSub (fMul i i) (fMul d d))

/-- References of CTX1 and CTX2: the start current along d, else id* and the clamped iq*. -/
def State.machAdj (s : State) (c k : Nat) : Adj :=
  if (s.chn c).mach.start ≠ 0 then { ref := some (if k = 1 then s.rd (A.MACH_I_START c) else fZero) }
  else if k = 2 then
    let l := s.qLimit c
    { ref := some (fClamp (fNegate l) l (s.selIn c (bits (s.cx c 2 1) 7 0))) }
  else {}

def State.qClamps (s : State) (c : Nat) : Bool :=
  let l := s.qLimit c
  let r := s.selIn c (bits (s.cx c 2 1) 7 0)
  (s.chn c).mach.start == 0 && (fLt l r || fLt r (fNegate l))

/-- REF_NOW of CTX4 after the rules of R201, R204 and R205. -/
def State.speedRef (s : State) (c : Nat) : F32 :=
  let g := s.cx c 4
  let g' (w : Nat) : Word := if w = 4 ∧ (s.chn c).mach.stopping then fZero else g w
  let old := g 40
  let b := s.selIn c (bits (g 1) 15 8)
  let now := rampNow g' (bit (s.chn c).firstRun 4) b s.ts
  let now := if s.flag (F.MACH_STAT_PLATEAU c) && fLt (fAbs old) (fAbs now) then old else now
  let who := s.rd (A.MACH_W_HO c)
  if !s.posSensor c && s.cst c == sACTIVE && !(s.chn c).mach.stopping && !fEq (g 4) fZero && fLt (fAbs now) who then
    (if fNeg? (if fEq now fZero then g 4 else now) then fNegate who else who)
  else now

/-- CTX4: under PLATEAU the integrator does not grow (R201). -/
def State.speedRun (c : Nat) (s : State) : State :=
  let now := s.speedRef c
  let ts := s.ts
  let adj : Adj := { now := some now }
  let i := ((runLaw 1 (s.cx c 4) (s.runIn c 4 ts adj)).ci).v
  let hold := s.flag (F.MACH_STAT_PLATEAU c) && fLt (fAbs (s.cx c 4 41)) (fAbs i)
  s.runCtx c 4 ts { adj with holdI := hold }

/-- Space-vector modulation (R200): duties and modulation index of a voltage vector on a link `vdc`. -/
def svm (vdc al be : F32) : F32 × F32 × F32 × F32 :=
  let lim := fMul vdc fInvSqrt3
  let m := fDiv (fHypot al be) lim
  let k := if fLt fOne m then fDiv fOne m else fOne
  let (a, b, c) := unclarke (fMul al k) (fMul be k) fZero
  let z := fNegate (fMul fHalf (fAdd (fMax a (fMax b c)) (fMin a (fMin b c))))
  let du (v : F32) : F32 := fAdd fHalf (fDiv (fAdd v z) vdc)
  (du a, du b, du c, m)

/-- The phase words of the shifts of R206, for half-bridge `h`, from the released duties. -/
def State.shuntPhase (s : State) (c : Nat) (d : Nat → Nat) (h : Nat) : Word :=
  if !s.flag (F.MACH_CFG_SHUNT c) then 0#32 else
  let (mx, md, mn) := sort3 (d 0) (d 1) (d 2)
  let th := s.prdSteps c / 2
  let sm := (fToUnits (s.rd (A.MACH_SAMPLE_MIN c)) 51200000000).toNat
  let s1 := min (sm - (mx - md) * th / dutyOne) ((dutyOne - mx) * th / dutyOne)
  let s2 := min (sm - (md - mn) * th / dutyOne) ((dutyOne - mn) * th / dutyOne)
  let top := if d 0 = mx then 0 else if d 1 = mx then 1 else 2
  let bot := if d 2 = mn then 2 else if d 1 = mn then 1 else 0
  if h = top then wd (twos 32 (-(s1 : Int))) else if h = bot then wd s2 else 0#32

/-- MMOD (CTX3). -/
def State.mmod (c : Nat) (s : State) : State :=
  let ts := s.ts
  let th := s.y c 0 0
  let w := s.y c 0 1
  let id := s.y c 0 2
  let iq := s.y c 0 3
  let ud := fSub (s.y c 1 0) (fMul (fMul w (s.rd (A.MACH_LQ c))) iq)
  let uq := fAdd (s.y c 2 0) (fMul w (fAdd (fMul (s.rd (A.MACH_LD c)) id) (s.rd (A.MACH_PSI c))))
  let adv := fMul (fMul (fMul w (s.rd (A.MACH_W_NOM c))) ts) fHalf
  let (al, be) := unpark (fAdd th adv) ud uq
  let (a, b, cc, m) := svm (s.lat c 5) al be
  let du (h : Nat) : Nat := dutyOf (dutyWord (if h = 0 then a else if h = 1 then b else cc))
  let ph := s.shuntPhase c du
  s.endRun c 3 none { y := [(0, a), (1, b), (2, cc), (7, m)], sat := ⟨fZero, fLt fOne m, false, false⟩ } ph

/-- MOBS (CTX6): words 41–49 hold the observer's states. -/
def State.mobs (c : Nat) (s : State) : State :=
  let ins := [s.y c 0 0, s.y c 0 1, s.y c 0 2, s.y c 0 3, s.y c 1 0, s.y c 2 0, s.y c 3 7, s.lat c 5, s.ts]
  let (th, w, inn, st) := Config.mobs ins ((List.range 9).map fun i => s.cx c 6 (41 + i))
  s.endRun c 6 none { y := [(0, th), (1, w), (3, inn)], st := (List.range 9).map fun i => (41 + i, st[i]?.getD fZero) } (fun _ => 0#32)

/-- The words of CTX5 that the device keeps (R201). -/
def State.keepCtx5 (c : Nat) (s : State) : State :=
  let m := s.rd (A.MACH_ID_MIN c)
  ((((s.setCx c 5 4 (s.rd (A.MACH_M_FW c))).setCx c 5 18 m).setCx c 5 6 m).setCx c 5 19 fZero).setCx c 5 7 fZero

/-- After CTX5: FW and PLATEAU (R201). -/
def State.plateau (c : Nat) (s : State) : State :=
  let p := bit (s.cx c 5 3) 1 && fLe (s.rd (A.MACH_M_FW c)) (s.y c 3 7)
  let rise := p && !s.flag (F.MACH_STAT_PLATEAU c)
  let s := (s.putb (F.MACH_STAT_PLATEAU c) p).putb (F.MACH_STAT_FW c) (fLt (s.y c 5 0) fZero)
  s.when rise fun s => s.raise (F.MACH_EVT_PLATEAU_EVT c)

/-! ### Conditions, boundary, commands -/

/-- Speed below which a stopping machine is switched off (R205). -/
def State.stopSpeed (s : State) (c : Nat) : F32 :=
  fMax (s.rd (A.MACH_REV_TH c)) (if s.posSensor c then fZero else s.rd (A.MACH_W_HO c))

/-- After the laws of a tick: timed conditions, and the end of a STOP (R203–R205). -/
def State.machConditions (c : Nat) (s : State) : State :=
  let st := s.cst c
  let m := (s.chn c).mach
  let a := fAdd (fMul (s.lat c 6) (s.lat c 6)) (fMul (s.lat c 7) (s.lat c 7))
  let s := s.hold (.vdc c) (st == sPRECHARGE && fLe (s.rd (A.MACH_VLINK_MIN c)) (s.lat c 5))
  let s := s.hold (.pos c) (st == sSYNC && s.posSensor c && fLe (c32 1 4) a && fLe a (c32 9 4))
  let s := s.hold (.ho c) (st == sSYNC && m.start == 2 && fEq (fAbs m.w) (s.rd (A.MACH_W_HO c)) &&
    fLe (fAbs (fWrapPi (fSub (s.y c 6 0) (s.y c 0 0)))) (c32 35 100))
  s.when (st == sACTIVE && m.stopping && fLt (fAbs (s.y c 0 1)) (s.stopSpeed c)) fun s => s.toOff c kSTOP

/-- ACTIVE begins (R205). -/
def State.machActivate (c : Nat) (s : State) : State :=
  let s := ((s.setCx c 1 41 0#32).setCx c 2 41 0#32).setCx c 4 41 0#32
  let s := s.setCx c 4 40 (s.y c 0 1)
  let s := ((s.put (F.ROLE_STAT_CH_STATE c) sACTIVE).putb (F.MACH_STAT_START_PH c) false).modMach c fun m => { m with actNext := false, start := 0 }
  (s.restart (.entered c)).applyForce c

def State.machBoundary (c : Nat) (s : State) : State :=
  if (s.chn c).mach.actNext && s.cst c == sSYNC then s.machActivate c else s

/-- The carrier of the channel is up/down, and SAMPLE_MIN spans four fast outputs (R206). -/
def State.shuntOk (s : State) (c : Nat) : Bool :=
  let osr := s.get (F.FLT_CFG_FAST_OSR c)
  let clks := 4 * osr * s.get (F.FLT_MCLK_DIV c)
  s.get (F.PWM_CAR_SHAPE c) == 1 && !fLt (s.rd (A.MACH_SAMPLE_MIN c)) (fOfRat clks 800000000)

/-- The conditions of R183 in order; 0 when all hold. -/
def State.machStartCode (s : State) (c : Nat) : Nat :=
  let cur := if s.flag (F.MACH_CFG_SHUNT c) then [0, 5] else [0, 1, 2, 5]
  let ins := s.inputsOk c (cur ++ (if s.posSensor c then [6, 7] else []))
  let gains := [1, 2, 4, 5].any fun k => bit (s.cx c k 0) 0 && fEq (s.cx c k 16) fZero
  let bad := (!s.posSensor c && fEq (s.cx c 4 4) fZero) || (s.flag (F.MACH_CFG_SHUNT c) && !s.shuntOk c)
  if s.mode ≠ mRUN then kMODE
  else if s.startBlocked c then kTRIP
  else if !ins then kINPUTS
  else if gains then kGAINS
  else if bad then kCFG
  else 0

def State.machStart (c : Nat) (s : State) : State :=
  let k := s.machStartCode c
  if k ≠ 0 then s.refuse c k else s.startNext c

/-- STOP: the target of CTX4 becomes 0.0 in ACTIVE; before ACTIVE the channel goes to OFF at once. -/
def State.machStop (c : Nat) (s : State) : State :=
  let st := s.cst c
  if st = sPRECHARGE ∨ st = sSYNC then s.toOff c kSTOP
  else if st = sACTIVE then s.modMach c fun m => { m with stopping := true }
  else s.modCh c fun x => { x with startNext := false }

/-- SYNC begins (R203, R204): without a sensor the open-loop start aligns. -/
def State.machPrechargeDone (c : Nat) (s : State) : State :=
  if s.role c = rMACH ∧ s.cst c = sPRECHARGE ∧ s.held (.vdc c) (msClk 20) then
    let s := (s.put (F.ROLE_STAT_CH_STATE c) sSYNC).restart (.entered c)
    if s.posSensor c then s
    else
      let s := (s.modMach c fun m => { m with start := 1, th := fZero, w := fZero }).putb (F.MACH_STAT_START_PH c) true
      (s.restart (.align c)).applyForce c
  else s

def State.machPosSync (c : Nat) (s : State) : State :=
  if s.role c = rMACH ∧ s.cst c = sSYNC ∧ s.posSensor c ∧ s.held (.pos c) (msClk 20) then s.modMach c fun m => { m with actNext := true } else s

/-- POS after 1 s without a valid signal. -/
def State.machPosTimeout (c : Nat) (s : State) : State :=
  if s.role c = rMACH ∧ s.cst c = sSYNC ∧ s.posSensor c ∧ ¬ (s.chn c).mach.actNext ∧ s.held (.entered c) (msClk 1000) then s.toOff c 6 else s

def State.machAlignEnd (c : Nat) (s : State) : State :=
  if s.role c = rMACH ∧ s.cst c = sSYNC ∧ (s.chn c).mach.start = 1 ∧ s.held (.align c) (secClk (s.rd (A.MACH_T_ALIGN c))) then
    s.modMach c fun m => { m with start := 2 }
  else s

def State.machHandover (c : Nat) (s : State) : State :=
  if s.role c = rMACH ∧ s.cst c = sSYNC ∧ (s.chn c).mach.start = 2 ∧ s.held (.ho c) (msClk 20) then s.modMach c fun m => { m with actNext := true } else s

/-- HO_FAIL: ACTIVE not reached within MACH_T_HO of the start. -/
def State.machHoTimeout (c : Nat) (s : State) : State :=
  if s.role c = rMACH ∧ s.cst c = sSYNC ∧ (s.chn c).mach.start ≠ 0 ∧ ¬ (s.chn c).mach.actNext ∧ s.held (.entered c) (secClk (s.rd (A.MACH_T_HO c))) then
    s.toOff c 5
  else s

/-- A write of REF of CTX4 that R202 refuses. -/
def State.reversal (s : State) (c : Nat) (v : Word) : Bool :=
  let w := s.y c 0 1
  s.role c == rMACH && !fEq v fZero && !fEq w fZero && fNeg? v != fNeg? w && fLe (s.rd (A.MACH_REV_TH c)) (fAbs w)

end Sys2Proof.Machine
end

