-- ==== Sys2Proof/Machine/Filters.lean ====
section
/-! DEFINITION. Modulator inputs, fast paths and PCC converters (02 R48–R65, R517). -/

namespace Sys2Proof.Machine

def mds : List Nat := List.range 12
def State.mdOn (s : State) (c m : Nat) : Bool := s.flag (F.FLT_IN_CFG_EN c m)

/-! ### Validity (R53–R57) -/

/-- INVALID of the channel's trip inputs: an input with FAULT_ACT 0b00 that a fault makes invalid (R56, 08 R260). -/
def State.invalidInput (s : State) (c : Nat) : Bool :=
  mds.any fun m => s.mdOn c m && (s.mdi c m).stuck && s.get (F.FLT_IN_CFG_FAULT_ACT c m) == 0
def State.invalidUpdate (c off : Nat) (s : State) : State := s.tripIn c 0x21 (s.invalidInput c) off

/-- Input `m` becomes invalid by a fault (R55): FAULT_ACT 0b00 trips the channel; the other actions log, through the
status bit that declares the fault. -/
def State.inputFault (c m : Nat) (s : State) : State :=
  let s := (s.putBit (F.FLT_VALID_VALID c) m false).modMd c m fun x => { x with stuck := true }
  let s := s.invalidUpdate c 0
  s.when (s.get (F.FLT_IN_CFG_FAULT_ACT c m) == 0) fun s => s.trip c 0x21 m 0

/-- INPUT_STUCK (R53): enabled inputs only. -/
def State.inputStuck (c m : Nat) (s : State) : State :=
  if s.mdOn c m && s.flag (F.FLT_MCLK_OUT_EN c) then
    (State.raiseAt (A.FLT_STAT c) m s).inputFault c m
  else s

/-- MCLK_LOSS (R54): every enabled input is treated as stuck. -/
def State.mclkLoss (c : Nat) (s : State) : State :=
  if !s.flag (F.FLT_MCLK_OUT_EN c) then s else
  let s := (s.raise (F.FLT_STAT_MCLK_LOSS c)).putb (F.FLT_VALID_MCLK_OK c) false
  s.each mds fun m s => s.when (s.mdOn c m) (State.inputFault c m)

/-- INPUT_VALID_AGAIN (R56): after MCLK loss the clock is seen again too. -/
def State.inputValid (c m : Nat) (s : State) : State :=
  if s.mdOn c m && (s.mdi c m).stuck && s.flag (F.FLT_MCLK_OUT_EN c) then
    let s := (s.putb (F.FLT_VALID_MCLK_OK c) true).modMd c m fun x => { x with stuck := false }
    let s := s.when (!(s.mdi c m).settling) fun s => s.putBit (F.FLT_VALID_VALID c) m true
    s.invalidUpdate c 0
  else s

/-- Settling begins on every enabled input (R57). -/
def State.settleAll (c : Nat) (s : State) : State :=
  s.each mds fun m s =>
    s.when (s.mdOn c m) fun s => (s.putBit (F.FLT_VALID_VALID c) m false).modMd c m fun x => { x with settling := true }

/-- FILTER_SETTLED: the fine filter of an enabled input has settled. -/
def State.filterSettled (c m : Nat) (s : State) : State :=
  if s.mdOn c m && (s.mdi c m).settling && s.flag (F.FLT_MCLK_OUT_EN c) then
    let s := s.modMd c m fun x => { x with settling := false }
    s.when (!(s.mdi c m).stuck) fun s => s.putBit (F.FLT_VALID_VALID c) m true
  else s

/-- FLT_MCLK written: settling after any write; OUT_EN 0 stops the clock (R48, R57). -/
def State.mclkWritten (c : Nat) (s : State) : State :=
  (s.putb (F.FLT_VALID_MCLK_OK c) (s.flag (F.FLT_MCLK_OUT_EN c))).settleAll c

/-- FLT_IN_CFGm written over `old`: an input newly enabled settles; one disabled is not checked and not valid; FAULT_ACT
0b00 written for an input that is invalid by a fault trips the channel (R55). -/
def State.inCfgWritten (c m : Nat) (old : Word) (s : State) : State :=
  let now := s.mdOn c m
  let was := bit old 0
  let trips := now && was && (s.mdi c m).stuck && s.get (F.FLT_IN_CFG_FAULT_ACT c m) == 0 && bits old 2 1 != 0
  let s := if now && !was then (s.putBit (F.FLT_VALID_VALID c) m false).modMd c m fun x => { x with settling := true }
    else if !now then (s.putBit (F.FLT_VALID_VALID c) m false).modMd c m fun x => { x with stuck := false, settling := false, above := false, below := false }
    else s
  (s.invalidUpdate c 0).when trips fun s => s.trip c 0x21 m 0

/-! ### Digital limits (R61) -/

/-- LIMIT of the channel's trip inputs: a limit with LIM_TRIP is violated at the latest output. -/
def State.limitUpdate (c off : Nat) (s : State) : State :=
  s.tripIn c 0x20 (mds.any fun m => s.flag (F.FLT_IN_CFG_LIM_EN c m) && s.flag (F.FLT_IN_CFG_LIM_TRIP c m) && ((s.mdi c m).above || (s.mdi c m).below)) off

/-- A limit as binary32: the signed value over 32,768. -/
def limVal (n : Nat) : F32 := fOfRat (sext 16 n) 32768

/-- DIGITAL_LIMIT_EXCURSION: the first fast output `x` beyond a limit. -/
def State.limitExcursion (c m : Nat) (x : Word) (s : State) : State :=
  if !s.flag (F.FLT_IN_CFG_LIM_EN c m) || !s.flag (F.FLT_MCLK_OUT_EN c) then s else
  let hi := fLt (limVal (s.get (F.FLT_LIM_HI c m))) x && !(s.mdi c m).above
  let lo := fLt x (limVal (s.get (F.FLT_LIM_LO c m))) && !(s.mdi c m).below
  if !(hi || lo) then s else
  let s := s.modMd c m fun y => { y with above := y.above || hi, below := y.below || lo, x := some x }
  let s := s.when hi fun s => State.raiseAt (A.FLT_LIMSTAT c) m s
  let s := s.when lo fun s => State.raiseAt (A.FLT_LIMSTAT c) (12 + m) s
  let s := s.limitUpdate c 0
  s.when (s.flag (F.FLT_IN_CFG_LIM_TRIP c m)) fun s => s.trip c 0x20 m 0

/-- LIMIT_EXCURSION_END: an output back at or within both limits. -/
def State.limitEnd (c m : Nat) (s : State) : State :=
  (s.modMd c m fun y => { y with above := false, below := false }).limitUpdate c 0

/-! ### The sample latch (R59, R64, R55, R517) -/

/-- The latch keeps its value: an invalid input held under FAULT_ACT, or no clock. -/
def State.latchHeld (s : State) (c m : Nat) : Bool :=
  !s.flag (F.FLT_MCLK_OUT_EN c) || (s.mdOn c m && (s.mdi c m).stuck && s.get (F.FLT_IN_CFG_FAULT_ACT c m) != 2)

/-- New fast outputs arrive. -/
def State.takeFast (l : List FastOut) (s : State) : State :=
  l.foldl (fun s f => s.modMd f.c.val f.m.val fun y => { y with x := some f.x }) s

/-- The latched value of a fast output: (x − OFS) × SCALE. -/
def latchVal (x ofs scale : Word) : F32 := fMul (fSub x ofs) scale

/-- SAMPLE_LATCH of the channel inputs. -/
def State.latchMd (s : State) : State :=
  s.each chans fun c s => s.each mds fun m s =>
    match (s.mdi c m).x with
    | some x => if s.latchHeld c m then s else s.wr (A.FLT_LAT c m) (latchVal x (s.rd (A.FLT_OFS c m)) (s.rd (A.FLT_SCALE c m)))
    | none => s

/-- SAMPLE_LATCH of the PCC converters: outputs of the converters that run. -/
def State.latchPcc (l : List (Fin 8 × Word)) (s : State) : State :=
  l.foldl (fun s p =>
    let k := p.1.val
    if s.bitOf F.PCC_ADC_CFG_EN k then s.wr (A.PCC_LAT k) (latchVal p.2 (s.rd (A.PCC_OFS k)) (s.rd (A.PCC_SCALE k))) else s) s

/-- Single-shunt samples of the last complete carrier period (06 R206, R207): window 1 carries the current of the phase of
largest duty, window 2 minus that of the phase of smallest duty; a window without a sample keeps its phase's value, and the
third current is minus the sum of the other two. -/
def State.takeShunt (x : ShuntIn) (s : State) : State :=
  let c := x.c.val
  let held := [0, 1, 2].any fun h => s.bitOf (F.BOOT_STAT_HOLD c) h
  if s.role c ≠ rMACH ∨ ¬ s.flag (F.MACH_CFG_SHUNT c) ∨ held then s else
  let d (h : Nat) : Nat := dutyOf (s.rd (A.PWM_ACTLO c h))
  let (mx, _, mn) := sort3 (d 0) (d 1) (d 2)
  let top := if d 0 = mx then 0 else if d 1 = mx then 1 else 2
  let bot := if d 2 = mn then 2 else if d 1 = mn then 1 else 0
  let m := (s.chn c).mach
  let cur (h : Nat) : Word := if h = 0 then m.ia else if h = 1 then m.ib else m.ic
  let val (w : Word) : F32 := latchVal w (s.rd (A.FLT_OFS c 0)) (s.rd (A.FLT_SCALE c 0))
  let it := match x.w1 with | some w => val w | none => cur top
  let ib := match x.w2 with | some w => fNegate (val w) | none => cur bot
  let im := fNegate (fAdd it ib)
  let new (h : Nat) : Word := if h = top then it else if h = bot then ib else im
  s.modMach c fun m => { m with ia := new 0, ib := new 1, ic := new 2 }

/-! ### PCC converters (R65) -/

def State.pccOver (k : Nat) (s : State) : State :=
  if s.t.pccOver.toNat.testBit k then s else
  (s.modT fun t => { t with pccOver := t.pccOver ||| BitVec.ofNat 8 (2 ^ k) }).when (s.bitOf F.PCC_ADC_CFG_EN k) (State.raiseAt A.PCC_ADC_STAT k)

/-- PCC_OVERRANGE_END: the input is back inside ±1.2 V. -/
def State.pccOverEnd (k : Nat) (s : State) : State :=
  s.modT fun t => { t with pccOver := t.pccOver &&& ~~~BitVec.ofNat 8 (2 ^ k) }

/-! ### The chopper (05 R155–R157) -/

/-- The chopper may be on in this mode (R156). -/
def State.chopPermits (s : State) (c : Nat) : Bool :=
  s.get (F.CHOP_CFG_MODE c) == 2 || (s.get (F.CHOP_CFG_MODE c) == 1 && s.mode == mRIDE)
def State.chopInvalid (s : State) (c : Nat) : Bool :=
  !s.bitOf (F.FLT_VALID_VALID c) (s.get (F.CHOP_CFG_IN c))
/-- Held off: VOFF at or above VON, or an invalid input (R156). -/
def State.chopHeldOff (s : State) (c : Nat) : Bool :=
  fLe (s.rd (A.CHOP_VON c)) (s.rd (A.CHOP_VOFF c)) || s.chopInvalid c

/-- The chopper turns off at clock `t`; its on-time in the present tick is kept for the model. -/
def State.chopOff (c t : Nat) (s : State) : State :=
  if s.flag (F.CHOP_STAT_ON c) then
    let s := s.modCh c fun x => { x with chopOn := x.chopOn + (t - max x.chopAt s.t.start), chopAt := t }
    (s.putb (F.CHOP_STAT_ON c) false).gateUpdate c 9
  else s

/-- CHOPPER_ON: a fast output at or above VON; off for at least CHOP_TMIN. -/
def State.chopperOn (c off : Nat) (s : State) : State :=
  if s.chopPermits c && !s.chopHeldOff c && !s.flag (F.CHOP_STAT_LOCKOUT c) && !s.flag (F.CHOP_STAT_ON c) &&
      (s.chn c).chopAt + secClk (s.rd (A.CHOP_TMIN c)) ≤ s.clk off then
    let s := (s.putb (F.CHOP_STAT_ON c) true).modCh c fun x => { x with chopAt := s.clk off }
    (s.raise (F.CHOP_STAT_ENGAGED c)).gateUpdate c 9
  else s

/-- CHOPPER_OFF: a fast output at or below VOFF; on for at least CHOP_TMIN. -/
def State.chopperOff (c off : Nat) (s : State) : State :=
  if s.flag (F.CHOP_STAT_ON c) && (s.chn c).chopAt + secClk (s.rd (A.CHOP_TMIN c)) ≤ s.clk off then s.chopOff c (s.clk off) else s

/-- Re-evaluate what holds the chopper off: INV_LIM, an invalid input, MODE 0. -/
def State.chopUpdate (c : Nat) (s : State) : State :=
  let s := s.putb (F.CHOP_STAT_INV_LIM c) (s.get (F.CHOP_CFG_MODE c) != 0 && fLe (s.rd (A.CHOP_VON c)) (s.rd (A.CHOP_VOFF c)))
  s.when (s.chopHeldOff c || s.get (F.CHOP_CFG_MODE c) == 0) (State.chopOff c s.clk)

/-- The resistor model in the sample latch of a tick (R157); `prev`: start and length of the last tick. -/
def State.chopModel (c prev len : Nat) (s : State) : State :=
  if s.get (F.CHOP_CFG_MODE c) = 0 then s else
  let x := s.chn c
  let on := if s.flag (F.CHOP_STAT_ON c) then x.chopOn + (s.t.start - max x.chopAt prev) else x.chopOn
  let i := fMul (s.rd (A.CHOP_GAIN c)) (s.lat c (s.get (F.CHOP_CFG_IN c)))
  let v := s.rd (A.CHOP_I2T c)
  let v := fSub (fAdd v (fMul (fMul i i) (fOfRat on 800000000))) (fDiv (fMul v (fOfRat len 800000000)) (s.rd (A.CHOP_TAU c)))
  let s := (s.wr (A.CHOP_I2T c) v).modCh c fun x => { x with chopOn := 0 }
  if fLe (s.rd (A.CHOP_I2T_MAX c)) v && !s.flag (F.CHOP_STAT_LOCKOUT c) then
    (((s.chopOff c s.t.start).modCh c fun x => { x with chopOn := 0 }).putb (F.CHOP_STAT_LOCKOUT c) true).raise (F.CHOP_STAT_LOCK_EVT c)
  else if fLe v (s.rd (A.CHOP_I2T_REL c)) then s.putb (F.CHOP_STAT_LOCKOUT c) false
  else s

end Sys2Proof.Machine
end

