-- ==== Sys2Proof/Machine/Survey.lean ====
section
/-! DEFINITION. The survey converter (02 R66–R77): sequences, triggers, results, windows and the SRAM buffer. -/

namespace Sys2Proof.Machine

def State.seqOf (s : State) (inj : Bool) : SeqSt := if inj then s.surv.inj else s.surv.reg
def State.modSeq (inj : Bool) (f : SeqSt → SeqSt) (s : State) : State :=
  { s with surv := if inj then { s.surv with inj := f s.surv.inj } else { s.surv with reg := f s.surv.reg } }
def State.modSurv (f : Surv → Surv) (s : State) : State := { s with surv := f s.surv }

/-- Length and source of a sequence. -/
def State.seqLen (s : State) (inj : Bool) : Nat := if inj then s.get F.SURV_CTRL_INJ_LEN else s.get F.SURV_CTRL_REG_LEN
def State.seqSrc (s : State) (inj : Bool) : Nat := if inj then s.get F.SURV_TRG_INJ_SRC else s.get F.SURV_TRG_REG_SRC

/-- The conversion of a sequence's present entry begins. -/
def State.convStart (inj : Bool) (s : State) : State :=
  s.modSurv fun v => { v with conv := some inj, convTick := s.rd A.SYS_TICK_CNT_LO }

/-- A sequence starts at entry 0 on a copy of its entries and windows (R69). -/
def State.seqStart (inj : Bool) (s : State) : State :=
  let n := s.seqLen inj
  let ents := (List.range n).map fun j => s.rd (if inj then A.SURV_INJ j else A.SURV_REG j)
  let wins := (List.range n).map fun j => s.rd (if inj then A.SURV_WIN_INJ j else A.SURV_WIN_REG j)
  (s.modSeq inj fun q => { q with run := true, ix := 0, ents := ents, wins := wins, pend := false }).convStart inj

/-- A regular trigger is lost, or an injected one (R71). -/
def State.trigLost (inj : Bool) (s : State) : State :=
  if inj then (s.inc F.SURV_LOST_INJ_LOST_CNT).raise F.SURV_STAT_INJ_LOST else (s.inc F.SURV_LOST_REG_LOST_CNT).raise F.SURV_STAT_REG_LOST

/-- A trigger instant (R71). The converter must run, and a length of 0 disables the sequence (R68). -/
def State.survTrigger (inj : Bool) (s : State) : State :=
  if !s.flag F.SURV_CTRL_EN || s.seqLen inj == 0 then s
  else if inj then (if s.surv.inj.run then s.trigLost true else s.seqStart true)
  else if s.surv.reg.run then s.trigLost false
  else if s.surv.inj.run then (if s.surv.reg.pend then s.trigLost false else s.modSeq false fun q => { q with pend := true })
  else s.seqStart false

/-- A continuous regular sequence that stands idle starts (R72). -/
def State.survKick (s : State) : State :=
  s.when (s.flag F.SURV_CTRL_EN && s.get F.SURV_TRG_REG_SRC == 3 && s.surv.conv.isNone && s.seqLen false != 0) (State.seqStart false)

/-- SURVEY_SOURCE_EVENT (R70): counted towards the divider; a running delay is not restarted. -/
def State.survSource (inj : Bool) (s : State) : State :=
  let src := s.seqSrc inj
  if !s.flag F.SURV_CTRL_EN || s.seqLen inj == 0 || !(src == 1 || src == 2) then s else
  let div := if inj then s.get F.SURV_DLY_INJ_DIV else s.get F.SURV_DLY_REG_DIV
  s.modSeq inj fun q => if q.cnt < div then { q with cnt := q.cnt + 1 } else { q with cnt := 0, dly := true }

/-- SURVEY_TRIGGER_INSTANT: the delay ends. -/
def State.survInstant (inj : Bool) (s : State) : State :=
  if (s.seqOf inj).dly then (s.modSeq inj fun q => { q with dly := false }).survTrigger inj else s

/-- EN := 0 (R72). -/
def State.survStop (s : State) : State :=
  s.modSurv fun v => { v with conv := none, reg := { v.reg with run := false, ix := 0, pend := false, dly := false }, inj := { v.inj with run := false, ix := 0, pend := false, dly := false } }

/-! ### Results -/

/-- Put a record at WR_IDX and move on. -/
def State.bufPut (a b : Word) (s : State) : State :=
  let i := s.get F.SURV_BUF_WR_WR_IDX
  (s.modSurv fun v => { v with buf := (i, a, b) :: v.buf.filter fun x => x.1 != i }).put F.SURV_BUF_WR_WR_IDX ((i + 1) % 8192)

/-- Free record slots. -/
def State.bufRoom (s : State) : Nat :=
  8191 - (s.get F.SURV_BUF_WR_WR_IDX + 8192 - s.get F.SURV_BUF_RD_RD_IDX) % 8192

def State.bufDrop (s : State) : State :=
  ((s.inc F.SURV_BUF_DROP_DROP).modSurv fun v => { v with gap := v.gap + 1 }).raise F.SURV_STAT_BUF_DROP

/-- Write a result into the buffer, behind a gap record when results were dropped (R76). -/
def State.bufResult (a b : Word) (s : State) : State :=
  let room := s.bufRoom
  if room = 0 then s.bufDrop
  else if s.surv.gap = 0 then s.bufPut a b
  else
    let s := (s.bufPut 0x80000000#32 (wd s.surv.gap)).modSurv fun v => { v with gap := 0 }
    if 2 ≤ room then s.bufPut a b else s.bufDrop

/-- The next conversion after the end of an entry of sequence `inj` (R72). -/
def State.survNext (inj : Bool) (s : State) : State :=
  let q := s.seqOf inj
  if q.ix + 1 < q.ents.length then (s.modSeq inj fun q => { q with ix := q.ix + 1 }).convStart inj
  else
    let s := (s.modSeq inj fun q => { q with run := false, ix := 0 }).modSurv fun v => { v with conv := none }
    if inj then
      (if s.surv.reg.run then s.convStart false else if s.surv.reg.pend then s.seqStart false else s.survKick)
    else s.survKick

/-- SURVEY_CONVERSION_END with its 20-bit code (R67, R74–R76). -/
def State.survEnd (code : Nat) (s : State) : State :=
  match s.surv.conv with
  | none => s
  | some inj =>
    let q := s.seqOf inj
    let e := q.ents[q.ix]?.getD 0#32
    let w := q.wins[q.ix]?.getD 0#32
    let v := code / 16
    let act := bits e 11 10
    let below := v < bits w 15 0
    let win := (act = 1 ∧ (below ∨ bits w 31 16 < v)) ∨ (act = 2 ∧ below)
    let bufOn := s.flag F.SURV_CTRL_BUF_EN
    let ovr := s.flag F.SURV_DATA_VALID && !bufOn
    let base := code + q.ix * 2 ^ 20 + b2n inj * 2 ^ 25 + 2 ^ 26 + (if win then 2 ^ 27 else 0)
    let s := s.wr A.SURV_DATA (wd (base + b2n ovr * 2 ^ 28))
    let s := s.when ovr fun s => s.raise F.SURV_STAT_DATA_OVR
    let s := s.when bufOn (State.bufResult (wd base) s.surv.convTick)
    let s := if win then s.raise F.SURV_STAT_WIN else s
    let inp := bits e 5 0
    let bad := (inp = 48 ∧ (code + 64 < 0x80000 ∨ 0x80040 < code)) ∨ (inp = 49 ∧ 64 < code)
    let s := if bad then s.raise F.SURV_STAT_SELF_FAIL else s
    let c := bits e 14 12
    let h := bits e 18 15
    let s := if act = 2 ∧ h < 10 then (if below then s.bootBelow c h else s.bootAbove c h) else s
    s.survNext inj

/-- A read of SURV_DATA (R74). -/
def State.survRead (s : State) : State := s.putb F.SURV_DATA_VALID false

end Sys2Proof.Machine
end

