-- ==== Sys2Proof/Machine/Ride.lean ====
section
/-! DEFINITION. Device mode transitions (17 R478), the PCC monitor, RIDE, GRIDPROT, islanding and the disturbance recorder
(05 R142–R173). -/

namespace Sys2Proof.Machine

def State.modRide (f : Ride → Ride) (s : State) : State := { s with ride := f s.ride }

/-! ### Mode transitions -/

/-- Why MODE_SET 3 would be refused (17 R478, R480). -/
def State.runBlocked (s : State) : Bool :=
  s.flag F.HEALTH_THERM_INHIBIT || s.flag F.PWR_STAT_PF || s.t.noRun || s.flag F.SYS_BOOT_BIST_FAIL
def State.runUpdate (s : State) : State := s.putb F.SYS_MODE_RUN_BLOCK (s.runBlocked || s.mode == mSERVICE)

/-- RIDE ends for every channel without its recovery: the snapshot is given up. -/
def State.rideDrop (s : State) : State :=
  (s.putb F.SYS_RIDE_STAT_RIDE false).each chans fun c s => (s.modGrid c fun g => { g with riding := false }).putb (F.RIDE_CH_STAT_RIDE_REF c) false

/-- The mode changes to `to` for reason `why` (17 R478): outside RUN and RIDE every channel in PRECHARGE, SYNC or ACTIVE goes
to OFF with MODE and the RIDE detector disarms; entry to SERVICE runs the PCC self-checks. -/
def State.setMode (tgt why : Nat) (s : State) : State :=
  let old := s.mode
  let s := ((s.put F.SYS_MODE_PREV old).put F.SYS_MODE_MODE tgt).put F.SYS_MODE_WHY why
  let s := if tgt = mRUN ∨ tgt = mRIDE then s
    else ((s.putb F.SYS_RIDE_STAT_ARMED false).rideDrop).each chans fun c s => s.exitToOff c kMODE
  let s := if tgt = mSERVICE then s.modT fun t => { t with pccChk := true } else s
  let s := s.putb F.ER_STAT_WT (tgt == mWAKE || tgt == mSERVICE)
  (s.applyForceAll.runUpdate).bare 1

/-! ### The active bank -/

def State.bank (s : State) : Nat := s.get F.SYS_RIDE_STAT_BANK_ACT
/-- The curve value at τ seconds (R148): V of the highest-numbered used point with t_j ≤ τ. `t`, `v`: addresses by point. -/
def State.curve (s : State) (t v : Nat → Nat) (tau : F32) : F32 :=
  let used := ((List.range 8).takeWhile fun j => j = 0 ∨ fLt fZero (s.rd (t j)))
  match (used.filter fun j => fLe (s.rd (t j)) tau).getLast? with
  | some j => s.rd (v j)
  | none => s.rd (v 0)

def State.lvNow (s : State) (tau : F32) : F32 := s.curve (A.RB_LV_T s.bank) (A.RB_LV_V s.bank) tau
def State.hvNow (s : State) (tau : F32) : F32 := s.curve (A.RB_HV_T s.bank) (A.RB_HV_V s.bank) tau

/-- Lower and upper amplitude indicators. -/
def State.vLower (s : State) : F32 := fMin (s.rd A.PCCM_VA) (fMin (s.rd A.PCCM_VB) (s.rd A.PCCM_VC))
def State.vUpper (s : State) : F32 := fMax (s.rd A.PCCM_VA) (fMax (s.rd A.PCCM_VB) (s.rd A.PCCM_VC))
def State.fPcc (s : State) : F32 := s.rd A.PCCM_FREQ

/-- The PCC is normal (R144). -/
def State.pccNormal (s : State) : Bool :=
  let b := s.bank
  fLe (s.rd (A.RB_UV_EXIT b)) s.vLower && fLe s.vUpper (s.rd (A.RB_OV_EXIT b)) &&
    fLe (s.rd (A.RB_F_LO_EXIT b)) s.fPcc && fLe s.fPcc (s.rd (A.RB_F_HI_EXIT b))

def State.gridActive (s : State) (c : Nat) : Bool := s.role c == rGRID && s.cst c == sACTIVE
def State.anyGridActive (s : State) : Bool := chans.any s.gridActive

/-- The τ of R148: seconds since RIDE entry. -/
def State.rideTau (s : State) : F32 :=
  match (s.timers.find? fun x => x.1 == .ride) with
  | some x => s.since x.2
  | none => fZero

/-! ### The monitor (R142–R145, R148) -/

/-- The monitor's figures of this tick and the conditions timed on them. -/
def State.pccMonitor (s : State) : State :=
  let ins := [s.pccLat 0, s.pccLat 1, s.pccLat 2]
  let o := Config.pccMonitor (s.flag F.SYS_RIDE_CFG_FNOM) (s.get F.ISL_CFG_ROCOF_WIN) s.ts ins s.ride.mon
  let w (i : Nat) : Word := o[i]?.getD fZero
  let s := ((((((s.wr A.PCCM_VA (w 0)).wr A.PCCM_VB (w 1)).wr A.PCCM_VC (w 2)).wr A.PCCM_VPOS (w 3)).wr A.PCCM_VNEG (w 4)).wr A.PCCM_FREQ (w 5)).wr A.PCCM_ROCOF (w 6)
  let z := fMul (fAdd (fAdd (s.pccLat 0) (s.pccLat 1)) (s.pccLat 2)) fThird
  s.modRide fun r => { r with
    mon := o.drop 8, argNeg := w 7,
    vpos := (s.clk, w 3) :: recent s.clk (msClk 20) r.vpos,
    zSeq := (s.clk, fMul z z) :: recent s.clk (msClk 20) r.zSeq }

def State.rideConditions (s : State) : State :=
  let b := s.bank
  let lo := s.vLower
  let hi := s.vUpper
  let f := s.fPcc
  let n := s.pccNormal
  let run := s.flag F.SYS_RIDE_STAT_ARMED && s.mode == mRUN
  let ride := s.mode == mRIDE
  let tau := s.rideTau
  let lv := s.lvNow tau
  let hv := s.hvNow tau
  let out := fLt lo (s.rd A.ISL_V_LO) || fLt (s.rd A.ISL_V_HI) hi || fLt f (s.rd A.ISL_F_LO) || fLt (s.rd A.ISL_F_HI) f
  let s := (s.putb F.SYS_RIDE_STAT_NORMAL n).hold .normal n
  let uv := run && fLt lo (s.rd (A.RB_UV_ENT b))
  let ov := run && fLt (s.rd (A.RB_OV_ENT b)) hi
  let fl := run && fLt f (s.rd (A.RB_F_LO_ENT b))
  let fh := run && fLt (s.rd (A.RB_F_HI_ENT b)) f
  let s := (((s.hold .uv uv).hold .ov ov).hold .fLo fl).hold .fHi fh
  let s := s.when (!(uv || ov || fl || fh)) fun s => s.modRide fun r => { r with excDone := false }
  let s := s.hold .lv (ride && fLt fZero lv && fLt lo lv)
  let s := s.hold .hv (ride && fLt hv (c32 10 1) && fLt hv hi)
  let s := s.hold .fTripLo (ride && fLt f (s.rd (A.RB_F_TRIP_LO b)))
  let s := s.hold .fTripHi (ride && fLt (s.rd (A.RB_F_TRIP_HI b)) f)
  s.hold .win out

/-! ### The recorder (R161–R164) -/

/-- A binary32 as binary16, rounded to nearest even, saturated at ±65,504; a NaN becomes a quiet NaN. -/
def fToHalf (x : F32) : Nat :=
  let sg := if fNeg? x then 0x8000 else 0
  if fIsNaN x then 0x7E00 + sg
  else if fBad x then sg + 0x7BFF
  else
    let e := fExp x
    if e < 113 then
      -- subnormal halves: units of 2 ^ -24
      let sh : Int := (fExp x : Int) - 150 + 24
      let n := if 0 ≤ sh then fSig x * 2 ^ sh.toNat else divRne (fSig x) (2 ^ (-sh).toNat)
      sg + n
    else
      let m := divRne (fSig x) (2 ^ 13)
      let v := (e - 113) * 1024 + m
      sg + min v 0x7BFF

def State.recState (s : State) : Nat := s.get F.REC_STAT_STATE
/-- The value that a selector of REC_SELi format names. -/
def State.recSel (s : State) (code c : Nat) : F32 :=
  if 0xA0 ≤ code ∧ code ≤ 0xA7 then s.rd (A.PCCM_VA + 4 * (code - 0xA0))
  else if code = 0xA8 then (if s.flag (F.CHOP_STAT_ON c) then fOne else fZero)
  else s.selIn c code
def State.recValue (s : State) (i : Nat) : F32 := s.recSel (s.get (F.REC_SEL_CODE i)) (s.get (F.REC_SEL_CH i))

def packHalves : List Nat → List Word
  | [] => []
  | [a] => [wd a]
  | a :: b :: t => wd (a + 65536 * b) :: packHalves t

/-- Records per 200 ms, and per POST_MS. -/
def State.recPeriod (s : State) : Nat := s.get F.SYS_TICK_TICK_DIV * (s.get F.REC_CFG_DIV + 1)
def ceilDiv (a b : Nat) : Nat := (a + b - 1) / b
def State.recPre (s : State) : Nat := ceilDiv 160000000 s.recPeriod
def State.recPost (s : State) : Nat := ceilDiv (s.get F.REC_CFG_POST_MS * 800000) s.recPeriod
/-- Bytes of a record. -/
def recSize (nsig : Nat) : Nat := 4 + 4 * ((nsig + 2) / 2)

def State.recRecord (s : State) : List Word :=
  let h := s.tickCnt % 2 ^ 24 + b2n (s.mode == mRIDE) * 2 ^ 24 + s.get F.SYS_BURST_ACTIVE * 2 ^ 25 + b2n s.ride.recMark * 2 ^ 26 + b2n s.ride.recTrig * 2 ^ 27
  wd h :: packHalves ((List.range (s.get F.REC_CFG_NSIG + 1)).map fun i => fToHalf (s.recValue i))

/-- The capture is complete. -/
def State.recDone (s : State) : State :=
  let s := ((s.put F.REC_STAT_STATE 4).put F.REC_LEN_RECORDS s.ride.recs.length).inc F.REC_CNT_CAPT_CNT
  s.raise F.REC_STAT_CAPTURED

/-- One record of a running recorder. -/
def State.recWrite (s : State) : State :=
  let st := s.recState
  if st = 0 ∨ st = 4 then s else
  let r := s.recRecord
  let trig := s.ride.recTrig
  let s := s.modRide fun x => { x with recs := x.recs ++ [r], recMark := false, recTrig := false }
  if st = 3 then
    let s := if trig then (s.put64 A.REC_TRG_LO s.tickCnt).put F.REC_TRG_IDX_IDX (s.ride.recs.length - 1) else s
    let s := s.modRide fun x => { x with recLeft := x.recLeft - 1 }
    if s.ride.recLeft = 0 then s.recDone else s
  else
    let n := s.recPre
    let s := s.modRide fun x => { x with recs := x.recs.drop (x.recs.length - n) }
    if n ≤ s.ride.recs.length then s.put F.REC_STAT_STATE 2 else s

/-- The recorder at a base-tick instant: every (DIV + 1)th writes a record. -/
def State.recTick (s : State) : State :=
  if s.recState = 0 ∨ s.recState = 4 then s
  else if s.ride.recDiv = 0 then (s.recWrite).modRide fun r => { r with recDiv := s.get F.REC_CFG_DIV }
  else s.modRide fun r => { r with recDiv := r.recDiv - 1 }

/-- A trigger (R164). -/
def State.recTrigger (s : State) : State :=
  let st := s.recState
  if st = 3 then (s.modRide fun r => { r with recMark := true }).raise F.REC_STAT_MARKER
  else if st = 1 ∨ st = 2 then
    let s := (s.put F.REC_STAT_STATE 3).modRide fun r => { r with recLeft := s.recPost, recTrig := true }
    let s := s.when (st == 1) fun s => s.raise F.REC_STAT_SHORT_PRE
    if s.recPost = 0 then s.recDone else s
  else (s.inc F.REC_CNT_MISS_CNT).raise F.REC_STAT_MISSED

/-- EN written: 1 starts filling, 0 discards the buffer; RELEASE of a held capture returns to FILLING (R163). -/
def State.recFill (s : State) : State :=
  (s.put F.REC_STAT_STATE 1).modRide fun r => { r with recs := [], recDiv := 0, recLeft := 0, recTrig := false, recMark := false }
def State.recStop (s : State) : State :=
  (s.put F.REC_STAT_STATE 0).modRide fun r => { r with recs := [], recDiv := 0, recLeft := 0, recTrig := false, recMark := false }
def State.recRelease (s : State) : State := if s.recState = 4 then s.recFill else s

/-! ### GRIDPROT (R148, R149, R171) -/

/-- A GRIDPROT trip of channel `c`, recorded by the event `f`. -/
def State.gridprot (c : Nat) (f : Fld) (s : State) : State :=
  (((s.tripIn c 0x22 true 0).trip c 0x22 0 0).raise f).putb F.SYS_RIDE_STAT_PROT true

/-- Protective-trip conditions that hold now: LV, HV, frequency (R148). -/
def State.protCauses (s : State) : Bool × Bool × Bool :=
  let b := s.bank
  let tl := s.rd (A.RB_T_F_TRIP_LO b)
  let th := s.rd (A.RB_T_F_TRIP_HI b)
  (s.held .lv (usClk 50), s.held .hv (usClk 50),
    (!fEq tl fZero && s.held .fTripLo (secClk tl)) || (!fEq th fZero && s.held .fTripHi (secClk th)))

/-- PROTECTIVE_TRIP. -/
def State.protectiveTrip (s : State) : State :=
  let (lv, hv, f) := s.protCauses
  if s.mode ≠ mRIDE ∨ ¬ (lv || hv || f) ∨ ¬ s.anyGridActive then s else
  let s := (s.when lv fun s => s.raise F.SYS_RIDE_STAT_LV_TRIP).when hv fun s => s.raise F.SYS_RIDE_STAT_HV_TRIP
  let s := s.when f fun s => s.raise F.SYS_RIDE_STAT_F_TRIP
  let s := s.each chans fun c s => s.when (s.gridActive c) (State.gridprot c (F.RIDE_CH_STAT_PROT_TRIP c))
  s.inc F.SYS_RIDE_CNT_PROT_CNT

/-- GRIDPROT_RELEASE (R149). -/
def State.gridprotRelease (s : State) : State :=
  if s.flag F.SYS_RIDE_STAT_PROT ∧ s.held .normal (secClk (s.rd (A.RB_T_RECON s.bank))) then
    (s.each chans fun c s => s.tripIn c 0x22 false 0).putb F.SYS_RIDE_STAT_PROT false
  else s

/-! ### RIDE (R144–R147, R150, R154) -/

/-- RIDE_DETECTOR_ARM. -/
def State.rideArm (s : State) : State :=
  if s.flag F.SYS_RIDE_CFG_EN ∧ (s.mode = mRUN ∨ s.mode = mRIDE) ∧ s.held .normal (secClk (s.rd (A.RB_T_EXIT s.bank))) then
    s.putb F.SYS_RIDE_STAT_ARMED true
  else s

/-- The entry cause that qualifies now, in the order UV, OV, F_LO, F_HI; 0 none. -/
def State.rideCause (s : State) : Nat :=
  let d := secClk (s.rd (A.RB_T_DET s.bank))
  let fd := secClk (s.rd (A.RB_T_FDET s.bank))
  if !s.flag F.SYS_RIDE_STAT_ARMED || s.mode != mRUN then 0
  else if s.held .uv d then 1
  else if s.held .ov d then 2
  else if s.held .fLo fd then 3
  else if s.held .fHi fd then 4 else 0

/-- CTX `k` has a resonator of order 2 with KR ≠ 0 (R152). -/
def State.tracks2 (s : State) (c k : Nat) : Bool :=
  (List.range 8).any fun i => horder (s.cx c k) i == 2 && !fEq (s.cx c k (18 + i)) fZero

/-- The snapshot of R150. -/
def State.rideSnapshot (c : Nat) (s : State) : State :=
  let g := (s.chn c).grid
  let keep := s.flag (F.RIDE_CH_STAT_RECOV c)
  let vpre := if keep then g.snap[7]?.getD fZero else fMean ((recent s.clk (msClk 20) s.ride.vpos).map Prod.snd)
  let ipre := if keep then g.snap[8]?.getD fZero else fMean ((recent s.clk (msClk 20) g.idHist).map Prod.snd)
  let l := [s.rd (A.RIDE_K1 c), s.rd (A.RIDE_K2 c), s.rd (A.RIDE_PHI2 c), s.rd (A.RIDE_DB c), s.rd (A.RIDE_IMAX c), s.rd (A.RIDE_W c), s.rd (A.RIDE_CH_CFG c), vpre, ipre]
  let un := s.flag (F.RIDE_CH_CFG_NEG_EN c) && !(s.tracks2 c 6 && s.tracks2 c 7)
  let s := s.modGrid c fun x => { x with snap := l, riding := true }
  (s.putb (F.RIDE_CH_STAT_NEG_UNTRACKED c) un).putb (F.RIDE_CH_STAT_RECOV c) false

/-- RIDE_ENTRY (R145, R146). -/
def State.rideEntry (s : State) : State :=
  let k := s.rideCause
  if k = 0 then s
  else if !s.anyGridActive then
    (if s.ride.excDone then s else (s.modRide fun r => { r with excDone := true }).raise F.SYS_RIDE_STAT_EXCURSION)
  else
    let s := (s.setMode mRIDE 2).putb F.SYS_RIDE_STAT_RIDE true
    let s := (s.put F.SYS_RIDE_STAT_CAUSE k).restart .ride
    let s := s.each chans fun c s => s.when (s.gridActive c) (State.rideSnapshot c)
    let s := s.modT fun t => { t with exited := false, refBud := false, refTherm := false }
    ((s.inc F.SYS_RIDE_CNT_ENT_CNT).raise F.SYS_RIDE_STAT_ENTER).recTrigger

/-- The ground on which RIDE ends now (R147): 1 normal, 2 timeout, 3 last; 0 none. -/
def State.rideEndCode (s : State) : Nat :=
  let b := s.bank
  if s.mode ≠ mRIDE then 0
  else if s.held .normal (secClk (s.rd (A.RB_T_EXIT b))) then 1
  else if s.held .ride (secClk (s.rd (A.RB_T_MAX b))) then 2
  else if !s.anyGridActive then 3 else 0

/-- A channel leaves RIDE (R154). -/
def State.rideLeave (c : Nat) (s : State) : State :=
  let g := (s.chn c).grid
  let acts := g.riding && s.gridActive c
  let s := s.modGrid c fun x => { x with
    riding := false,
    recD := if acts then x.refD else x.recD, recQ := if acts then x.refQ else x.recQ,
    clD := if acts && s.sub c == mFORM_CL then x.refD else x.clD, clQ := if acts && s.sub c == mFORM_CL then x.refQ else x.clQ }
  let s := (s.putb (F.RIDE_CH_STAT_RIDE_REF c) false).putb (F.RIDE_CH_STAT_LIMITED c) false
  s.when (acts && s.sub c == mFOLLOW) fun s => s.putb (F.RIDE_CH_STAT_RECOV c) true

/-- RIDE_EXIT. -/
def State.rideExit (s : State) : State :=
  let k := s.rideEndCode
  if k = 0 then s else
  let s := s.each chans State.rideLeave
  let s := ((s.setMode mRUN 3).putb F.SYS_RIDE_STAT_RIDE false).hold .ride false
  let s := s.when (k != 1) fun s => s.putb F.SYS_RIDE_STAT_ARMED false
  s.raise (if k = 1 then F.SYS_RIDE_STAT_EXIT_NORMAL else if k = 2 then F.SYS_RIDE_STAT_EXIT_TIMEOUT else F.SYS_RIDE_STAT_EXIT_LAST)

/-! ### Islanding (R166–R173) -/

/-- The channel that injects the probe. -/
def State.probeChan (s : State) : Option Nat :=
  if !s.flag F.ISL_CFG_PROBE_EN then none
  else
    let p := s.get F.ISL_CFG_PROBE_CH
    if s.gridActive p then some p else chans.find? s.gridActive

/-- PROBE_CHANNEL_CHANGE, and the probe's angle in this tick. -/
def State.probeTick (s : State) : State :=
  let on := s.flag F.ISL_STAT_PROBE_ON
  match s.probeChan with
  | none =>
    let s := s.when on fun s => (s.putb F.ISL_STAT_PROBE_ON false).modRide fun r => { r with fresh := 0, exceed := 0, below := 0, prbA := fZero }
    s.when (on && s.flag F.ISL_CFG_PROBE_EN) fun s => s.raise F.ISL_STAT_PROBE_LOST
  | some c =>
    let s := if on && s.get F.ISL_STAT_PROBE_CH_NOW == c then s
      else ((s.putb F.ISL_STAT_PROBE_ON true).put F.ISL_STAT_PROBE_CH_NOW c).modRide fun r => { r with fresh := 0, exceed := 0, below := 0 }
    let fn : F32 := if s.flag F.SYS_RIDE_CFG_FNOM then c32 60 1 else c32 50 1
    let fp := fMul (fMul (fAdd (fOfNat (s.get F.ISL_CFG_ORD)) fHalf) s.fPcc) fn
    let ts := s.ts
    s.modRide fun r => { r with prbTh := fWrap (fAdd r.prbTh (fMul (fMul f2Pi fp) ts)) }

/-- ISLAND_DECLARATION (R170): by the probe, or by a decisive passive detector. -/
def State.declareIsland (probe : Bool) (s : State) : State :=
  if s.flag F.ISL_STAT_ISLANDED then s else
  let det := if s.flag F.ISL_CFG_TEST then [wd s.ride.firstEx, wd s.clk, wd (s.clk / 2 ^ 32)] else []
  let s := (s.putb F.ISL_STAT_ISLANDED true).put64 A.ISL_DET_LO s.tickCnt
  let s := (s.raise F.ISL_STAT_DET det).raise (if probe then F.ISL_STAT_PROBE_DET else F.ISL_STAT_PASSIVE_DET)
  let s := s.modRide fun r => { r with act := true }
  s.when (s.flag F.REC_CFG_TRG_ISL) State.recTrigger

/-- PROBE_WINDOW_END with the magnitudes of the probe voltage and current. -/
def State.probeWindow (vp ip : Word) (s : State) : State :=
  if !s.flag F.ISL_STAT_PROBE_ON then s else
  let a := s.rd A.ISL_PROBE_A
  let zp := fDiv vp ip
  let top := fMul (c32 4 1) a
  let amp := fClamp fZero top (Config.probeServo s.ride.prbA ip a)
  let s := ((s.wr A.PCCM_ZP zp).modRide fun r => { r with prbA := amp, fresh := min 2 (r.fresh + 1) }).putb F.ISL_STAT_IP_SAT (fEq amp top)
  if s.ride.fresh < 2 || fLt ip (fMul (c32 1 4) a) then s
  else if fLt (s.rd A.ISL_Z_TH) zp then
    let s := s.modRide fun r => { r with exceed := r.exceed + 1, below := 0, firstEx := if r.exceed = 0 then s.tickCnt else r.firstEx }
    let need := if s.flag F.ISL_STAT_CAND then 2 else s.get F.ISL_CFG_N
    s.when (need ≤ s.ride.exceed) (State.declareIsland true)
  else s.modRide fun r => { r with exceed := 0, below := r.below + 1 }

/-- A detector may fire now (R169): ROCOF and the window are judged from the state; vector shift and distortion as brought. -/
def State.passiveMay (s : State) (d : Nat) : Bool :=
  s.bitOf F.ISL_CFG_PASS_EN d &&
    (if d = 0 then fLt (s.rd A.ISL_ROCOF) (fAbs (s.rd A.PCCM_ROCOF)) else if d = 2 then s.held .win (secClk (s.rd A.ISL_T_WIN)) else true) &&
    (d ≥ 2 || s.mode != mRIDE || s.flag F.ISL_CFG_RIDE_PASSIVE)

/-- PASSIVE_DETECTOR_FIRE. -/
def State.passiveFire (d : Nat) (s : State) : State :=
  if !s.passiveMay d then s
  else if s.bitOf F.ISL_CFG_DECISIVE d then s.declareIsland false
  else (s.putb F.ISL_STAT_CAND true).restart .cand

def State.candExpiry (s : State) : State :=
  if s.held .cand (msClk 1000) then (s.putb F.ISL_STAT_CAND false).hold .cand false else s

/-- ISLANDED_CLEAR (R173). -/
def State.islandedClear (s : State) : State :=
  let none := chans.all fun c => !(s.gridActive c && s.sub c == mISLAND)
  let ok := if s.flag F.ISL_STAT_PROBE_ON then decide (s.get F.ISL_CFG_N ≤ s.ride.below) else s.held .normal (secClk (s.rd (A.RB_T_RECON s.bank)))
  if s.flag F.ISL_STAT_ISLANDED && none && ok then s.putb F.ISL_STAT_ISLANDED false else s

/-- ISLAND_ACTION (R171). -/
def State.islandAction (s : State) : State :=
  if !s.ride.act then s else
  let s := s.modRide fun r => { r with act := false }
  let goes (c : Nat) : Bool := s.sub c == mFORM && s.flag (F.GRID_CFG_ISL_OK c) && !s.flag F.ISL_CFG_TEST
  let trips := chans.filter fun c => s.gridActive c && !goes c
  let s := s.each chans fun c s => s.when (s.gridActive c && goes c) (State.gridTransfer c mISLAND none)
  let s := s.each trips fun c s => s.gridprot c (F.RIDE_CH_STAT_ISL_TRIP c)
  s.when (!trips.isEmpty) fun s => s.inc F.SYS_RIDE_CNT_PROT_CNT

end Sys2Proof.Machine
end

