-- ==== Sys2Proof/Machine/Tables.lean ====
section
/-! DEFINITION. The tick table and its rebuilds, role templates, burst, and tick alignment (01 R26–R46, 03 R88, R89;
04 R107–R115; 06 R181, R186, R187, R199; 07 R219). -/

namespace Sys2Proof.Machine

/-! ### Slot times (R28, R29; 03 R89) -/

/-- Worst-case time of a role block in 10 ns (04 R113, 06 R186, R199). -/
def blockTime (role k : Nat) : Nat :=
  if role = rGRID then (if k = 1 then 58 else if k = 2 then 52 else 72)
  else if role = rMACH then (if k = 0 then 20 else 30)
  else if k = 5 then 12 else 14

/-- Worst-case compute time of the law of a context in 10 ns. -/
def State.lawTime (s : State) (c k : Nat) : Nat :=
  let g := s.cx c k
  match bits (g 0) 4 1 with
  | 1 => 6
  | 2 => 9
  | 3 =>
    let n := ((List.range 8).filter fun i => !fEq (g (18 + i)) fZero).length
    6 + 7 * (if s.role c = rGRID ∧ k < 12 then 8 else n)
  | 4 => 3 + 4 * min 4 (g 37).toNat
  | 5 => 4
  | 6 => if bit (g 0) 7 then 52 else 30
  | 7 => 46
  | 8 => 20
  | 9 => 6
  | 10 => 28
  | 11 => 10
  | 12 => blockTime (s.role c) k
  | _ => 0

/-- The law set of a channel in slot order. -/
def State.lawSet (s : State) (c : Nat) : List Nat := (List.range 16).filter fun k => bit (s.cx c k 0) 0

/-- Slots of a channel: context, best-case and worst-case end in 10 ns from the tick boundary. -/
def State.slots (s : State) (c : Nat) : List (Nat × Nat × Nat) :=
  ((s.lawSet c).foldl (fun (acc : List (Nat × Nat × Nat) × Nat × Nat) k =>
    let law := bits (s.cx c k 0) 4 1
    let w := acc.2.2 + 16 + s.lawTime c k
    let b := min w (acc.2.1 + Config.bestSlot law (if law = 12 then 16 * s.role c + k else 0))
    (acc.1 ++ [(k, b, w)], b, w)) ([], 10, 10)).1

/-- L in 10 ns (R29). -/
def State.lawMax (s : State) : Nat :=
  chans.foldl (fun m c => max m (((s.lawSet c).map fun k => 16 + s.lawTime c k).foldl (· + ·) 0)) 0
/-- S in 10 ns. -/
def schedule (l : Nat) : Nat := l + 210
/-- S fits 0.8 × Ttick for a tick of `div` clocks. -/
def fits (l div : Nat) : Bool := 10 * schedule l ≤ div

/-- The budget test of R29 for a configuration. -/
def State.tableFits (s : State) : Bool :=
  let l := s.lawMax
  let d := s.get F.SYS_TICK_TICK_DIV
  fits l d && (!s.flag F.SYS_BURST_EN || fits l (d / 2))
/-- The table in effect fits the burst tick. -/
def State.burstFits (s : State) : Bool := fits (s.get F.SYS_TT_STAT_LMAX) (s.get F.SYS_TICK_TICK_DIV / 2)

/-- Show the table in effect (R47). -/
def State.installTable (s : State) : State :=
  let s := s.each chans fun c s =>
    let l := s.slots c
    s.each (List.range 16) fun k s =>
      s.wr (A.SYS_TT_ENT (16 * c + k)) (match l.find? fun e => e.1 == k with
        | some e => wd (min 0xFFFF e.2.1 + 65536 * min 0xFFFF e.2.2)
        | none => 0xFFFFFFFF#32)
  let l := s.lawMax
  let d := s.get F.SYS_TICK_TICK_DIV
  let m := if 8 * schedule l ≤ d then 100 * (d - 8 * schedule l) / d else 0
  ((s.put F.SYS_TT_STAT_LMAX (min 0xFFFF l)).put F.SYS_TT_STAT_MARGIN m).putb F.SYS_TT_STAT_BURST_FIT (fits l (d / 2))

/-! ### Carrier settings that a role owns (07 R219) -/

def prdOf (div ratio : Nat) : Nat :=
  if ratio = 0 then 4 * div else if ratio = 1 then 2 * div else if ratio = 2 then div else div / 2

/-- The carrier fields that the device owns, recomputed; they take effect at the next frame boundary. -/
def State.ownCarrier (c : Nat) (s : State) : State :=
  let r := s.role c
  let s := s.put (F.PWM_CAR_VP c) (if r = rDCB ∨ r = rDCP then s.get (F.DC_CFG_CAR c) else 0)
  let s := if r = rDCB ∨ r = rDCP then s.put (F.PWM_CAR_RATIO c) (s.get (F.DC_CFG_RATIO c))
    else if r = rMACH then s.put (F.PWM_CAR_RATIO c) (s.get (F.MACH_CFG_RATIO c)) else s
  if r = rIDLE then s
  else
    let prd := prdOf (s.get F.SYS_TICK_TICK_DIV) (s.get (F.PWM_CAR_RATIO c))
    let s := s.each hbs fun h s => s.put (F.PWM_OFS_OFS c h) (if r = rDCB ∨ r = rDCP then (if h < s.legs c then h * prd / s.legs c else 0) else 0)
    s.modCh c fun x => { x with carWait := true }

/-! ### Role templates -/

/-- The values of a template context: words not named read as after reset (03 R85). -/
abbrev Tmpl := List (Nat × Word)

def inWord (a b c d : Nat) : Word := wd (a + 256 * b + 65536 * c + 16777216 * d)
/-- CTX_CFG with EN set: law and option bits. -/
def cfgWord (law opt : Nat) : Word := wd (1 + 2 * law + opt)
def oAW : Nat := 0x20
def oRAMP : Nat := 0x40
def oTRI : Nat := 0x80

/-- Write every word of a context with a template; a newly enabled context has not run (03 R93). -/
def State.installCtx (c k : Nat) (t : Tmpl) (s : State) : State :=
  let s := (List.range 64).foldl (fun s w =>
    s.setCx c k w (((t.find? fun x => x.1 == w).map Prod.snd).getD (resetWord (ctxAddr c k w)))) s
  s.modCh c fun x => { x with firstRun := setBits x.firstRun k k 1 }

def State.gridTemplate (s : State) (c : Nat) : List Tmpl :=
  let w0 := s.wNom c
  let n := c32 (-3142) 100
  let p := c32 3142 100
  let m2 := c32 (-2) 1
  let lim : Tmpl := [(6, m2), (7, fTwo), (18, m2), (19, fTwo)]
  let horders : Tmpl := [(34, 0x06120C06#32), (35, 0x0C06120C#32)]
  let rate : Tmpl := [(5, fHalf)]
  [ [(0, cfgWord 7 0), (1, inWord 0x10 0x11 0x12 0xFF), (16, c32 2666 10), (17, c32 35530 1), (18, w0), (19, n), (20, p), (21, c32 2 1000)],
    [(0, cfgWord 12 0)],
    [(0, cfgWord 12 0)],
    [(0, cfgWord 1 oAW), (1, inWord 0x30 0x2A 0x2C 0xFF), (20, fOne)] ++ lim,
    [(0, cfgWord 1 oAW), (1, inWord 0x31 0x2B 0x2D 0xFF), (20, fOne)] ++ lim,
    [(0, cfgWord 12 0), (2, 0x3F#32)],
    [(0, cfgWord 3 0), (1, inWord 0x30 0x2A 0xFF 0x29)] ++ horders,
    [(0, cfgWord 3 0), (1, inWord 0x31 0x2B 0xFF 0x29)] ++ horders,
    [(0, cfgWord 8 oRAMP), (1, inWord 0xFF 0x2E 0xFF 0xFF), (16, c32 5 1), (17, c32 5 1), (18, c32 20 1), (19, w0), (20, c32 95 100), (21, c32 105 100)] ++ rate,
    [(0, cfgWord 9 oRAMP), (1, inWord 0xFF 0x2F 0xFF 0xFF), (16, fOne), (17, c32 5 100), (19, c32 2 100)] ++ rate,
    [(0, cfgWord 6 oTRI), (1, inWord 0x03 0x04 0x05 0xFF), (16, c32 141 100), (17, c32 2666 10), (18, c32 35530 1), (19, w0), (20, n), (21, p)],
    [(0, cfgWord 1 (oAW + oRAMP)), (1, inWord 0xFF 0x06 0xFF 0xFF)] ++ lim ++ rate ]

/-- IN_B of leg context `h` (06 R186, R198). -/
def State.legIn (s : State) (c h : Nat) : Nat := if s.dcVp c then 0x50 + h else h

def State.dcTemplate (s : State) (c r : Nat) : List Tmpl :=
  let leg (h : Nat) : Tmpl :=
    [(0, wd (b2n (h < s.legs c) + 2 + oAW + (if h = 0 then oRAMP else 0))), (1, inWord 0xFF (s.legIn c h) 0xFF 0xFF), (2, wd (2 ^ h)),
     (6, c32 2 100), (7, c32 98 100), (19, fOne)]
  [ leg 0, leg 1, leg 2, leg 3,
    [(0, cfgWord 1 oAW), (1, inWord (if r = rDCP then 0x48 else 0xFF) 0x04 0xFF 0xFF)],
    (if r = rDCP then [(0, cfgWord 12 oAW)] else [(0, cfgWord 1 oAW), (1, inWord 0xFF 0x04 0xFF 0xFF)]),
    [(0, cfgWord 12 0)] ]

def State.machTemplate (s : State) (c : Nat) : List Tmpl :=
  let i := s.rd (A.MACH_IMAX c)
  let m := s.rd (A.MACH_ID_MIN c)
  [ [(0, cfgWord 12 0)],
    [(0, cfgWord 1 0), (1, inWord 0x48 0x22 0xFF 0xFF)],
    [(0, cfgWord 1 0), (1, inWord 0x40 0x23 0xFF 0xFF)],
    [(0, cfgWord 12 0), (2, 0x7#32)],
    [(0, cfgWord 1 oRAMP), (1, inWord 0xFF 0x21 0xFF 0xFF), (6, fNegate i), (7, i)],
    [(0, cfgWord 1 0), (1, inWord 0xFF 0x3F 0xFF 0xFF), (4, s.rd (A.MACH_M_FW c)), (6, m), (18, m)],
    [(0, cfgWord 12 0)] ]

/-- Contexts of a role's template. -/
def tmplSize (r : Nat) : Nat := if r = rGRID then 12 else if r = rIDLE then 0 else 7

/-- The role of channel `c` becomes `r` (04 R107, R108, R120; 06 R181): the old template's contexts are disabled, the new
template overwrites its own, and the channel is in OFF. -/
def State.applyRole (c r : Nat) (s : State) : State :=
  let s := (List.range (tmplSize (s.role c))).foldl (fun s k => s.setCx c k 0 (setBits (s.cx c k 0) 0 0 0)) s
  let s := s.put (F.ROLE_SEL_ROLE c) r
  let t := if r = rGRID then s.gridTemplate c else if r = rMACH then s.machTemplate c else if r = rIDLE then [] else s.dcTemplate c r
  let s := (t.zipIdx).foldl (fun s x => s.installCtx c x.2 x.1) s
  let s := s.when (s.cst c != sTAIL) fun s => s.put (F.ROLE_STAT_CH_STATE c) sOFF
  let s := s.modCh c fun x => { x with startNext := false, grid := {}, dc := {}, mach := {} }
  (s.ownCarrier c).applyForce c

/-- DC_CFG written with other legs (06 R187): EN of CTX0–CTX3 matches; IN_B follows CAR. -/
def State.applyLegs (c : Nat) (v : Word) (s : State) : State :=
  let s := s.wr (A.DC_CFG c) v
  let n := s.legs c
  let s := s.each [0, 1, 2, 3] fun h s =>
    let was := bit (s.cx c h 0) 0
    let s := (s.setCx c h 0 (setBits (s.cx c h 0) 0 0 (b2n (h < n)))).setCx c h 1 (setBits (s.cx c h 1) 15 8 (s.legIn c h))
    s.when (!was && h < n) fun s => s.modCh c fun x => { x with firstRun := setBits x.firstRun h h 1 }
  (s.ownCarrier c).applyForce c

/-! ### Rebuilds (R28–R30) -/

/-- What a change does to the configuration. -/
def State.applyChange (g : Change) (s : State) : State :=
  match g with
  | .ctxWord c k w v =>
    let was := bit (s.cx c k 0) 0
    let s := s.setCx c k w v
    s.when (!was && bit (s.cx c k 0) 0) fun s => s.modCh c fun x => { x with firstRun := setBits x.firstRun k k 1 }
  | .tickDiv v => (s.put F.SYS_TICK_TICK_DIV v).each chans State.ownCarrier
  | .role c r => s.applyRole c r
  | .legs c v => s.applyLegs c v

/-- The configuration with every change accepted so far, for the checks of later ones. -/
def State.planned (s : State) : State := s.t.rebuilds.foldl (fun s r => s.applyChange r.chg) s

/-- Put a rebuild in the queue for request `wid`. -/
def State.queueRebuild (g : Change) (wid : Nat) (s : State) : State :=
  (s.modT fun t => { t with rebuilds := t.rebuilds ++ [⟨g, wid, false⟩] }).putb F.SYS_TT_STAT_BUILDING true

/-- Split the queue at the first rebuild not yet checked. -/
def splitRebuild : List Rebuild → List Rebuild × Option (Rebuild × List Rebuild)
  | [] => ([], none)
  | r :: t => if r.ok then let (a, b) := splitRebuild t; (r :: a, b) else ([], some (r, t))

/-- TICK_TABLE_REBUILD: the first change not yet checked is accepted, or refused; the answer names a refused request. -/
def State.rebuildCheck (s : State) : State × Option Nat :=
  match splitRebuild s.t.rebuilds with
  | (_, none) => (s, none)
  | (a, some (r, t)) =>
    let p := (a.foldl (fun s x => s.applyChange x.chg) s).applyChange r.chg
    let l := if p.tableFits then a ++ { r with ok := true } :: t else a ++ t
    ((s.modT fun x => { x with rebuilds := l }).putb F.SYS_TT_STAT_BUILDING (l.any fun x => !x.ok), if p.tableFits then none else some r.wid)

/-- At a frame boundary the accepted changes take effect; the answer names their requests. -/
def State.rebuildApply (s : State) : State × List Nat :=
  let done := s.t.rebuilds.takeWhile fun r => r.ok
  if done.isEmpty then (s, []) else
  let s := done.foldl (fun s r => s.applyChange r.chg) s
  let s := s.modT fun t => { t with rebuilds := t.rebuilds.dropWhile fun r => r.ok }
  (s.installTable.inc F.SYS_TT_GEN_GEN done.length, done.map Rebuild.wid)

/-! ### Burst (R35–R40) -/

def State.burstOn (s : State) : Bool := s.flag F.SYS_BURST_ACTIVE
/-- Engine clocks of a frame period. -/
def State.frameLen (s : State) : Nat := 4 * s.get F.SYS_TICK_TICK_DIV

/-- Burst time up to clock `t` goes into the partial bin. -/
def State.burstCharge (t : Nat) (s : State) : State :=
  let d := if s.burstOn then t - s.t.burstAt else 0
  let s := s.modT fun x => { x with bins := (match x.bins with | [] => [d] | b :: l => (b + d) :: l), burstAt := t }
  s.put F.SYS_BURST_BUD_REMAIN_US ((1600000000 - s.t.bins.foldl (· + ·) 0) / 800)

/-- BURST_BUDGET_BIN_ROLL (R37). -/
def State.binRoll (s : State) : State :=
  let s := s.burstCharge s.clk
  let s := s.modT fun x => { x with bins := (0 :: x.bins).take 61 }
  s.put F.SYS_BURST_BUD_REMAIN_US ((1600000000 - s.t.bins.foldl (· + ·) 0) / 800)

/-- A trigger becomes new (R36). -/
def State.burstTrigger (s : State) : State := s.modT fun t => { t with exited := false, refBud := false, refTherm := false }

/-- Entry, refusal or exit at a frame boundary at clock `t`. -/
def State.burstFrame (t : Nat) (s : State) : State :=
  let s := s.burstCharge t
  let short := s.get F.SYS_BURST_BUD_REMAIN_US * 800 < s.frameLen
  let hot := s.flag F.SYS_BURST_THERM_BLOCK
  let trig := (s.mode == mRIDE && s.flag F.SYS_BURST_ON_RIDE) || s.flag F.SYS_BURST_HOST_REQ
  let mode := s.mode == mRUN || s.mode == mRIDE || s.mode == mSERVICE
  let live := trig && mode && s.flag F.SYS_BURST_EN
  if s.burstOn then
    if short || hot || !live then
      let s := (s.putb F.SYS_BURST_ACTIVE false).modT fun t => { t with exited := true }
      let s := (s.when short fun s => s.raise F.SYS_BURST_STAT_EXIT_BUDGET).when hot fun s => s.raise F.SYS_BURST_STAT_EXIT_THERMAL
      s.when (!live) fun s => s.raise F.SYS_BURST_STAT_EXIT_REQUEST
    else s
  else if live && !s.t.exited then
    if short || hot then
      let s := s.when (short && !s.t.refBud) fun s => (s.modT fun t => { t with refBud := true }).raise F.SYS_BURST_STAT_REFUSED_BUDGET
      s.when (hot && !s.t.refTherm) fun s => (s.modT fun t => { t with refTherm := true }).raise F.SYS_BURST_STAT_REFUSED_THERMAL
    else ((s.putb F.SYS_BURST_ACTIVE true).modT fun x => { x with burstAt := t }).raise F.SYS_BURST_STAT_ENTERED
  else s

/-! ### Alignment (R43–R46) -/

def yFREE : Nat := 0
def yACQUIRE : Nat := 1
def yLOCKED : Nat := 2
def yHOLDOVER : Nat := 3
def State.syncSt (s : State) : Nat := s.get F.SYS_SYNC_STAT_STATE

def State.setSync (st : Nat) (s : State) : State :=
  let s := (s.put F.SYS_SYNC_STAT_STATE st).modT fun t => { t with good := 0, bad := 0 }
  if st = yACQUIRE then s.modT fun t => { t with stepped := false } else if st = yFREE then s.modT fun t => { t with slew := 0 } else s

/-- Signed saturation to 16 bits. -/
def sat16 (i : Int) : Nat := twos 16 (max (-32768) (min 32767 i))

/-- No half-bridge can switch. -/
def State.noneSwitches (s : State) : Bool := chans.all fun c => hbs.all fun h => s.bitOf (F.PWM_FSTAT_OFF_EFF c) h || s.isStatic c h

/-- The alignment error at a frame boundary: counts, ACQUIRE and LOCKED, and the correction. -/
def State.syncFrame (err : Option Int) (s : State) : State :=
  match err with
  | none => s
  | some e =>
    if s.syncSt = yFREE ∨ s.syncSt = yHOLDOVER then s else
    let s := s.put F.SYS_SYNC_STAT_ERR (sat16 e)
    let ok := e.natAbs ≤ 16
    let s := s.modT fun t => { t with good := if ok then t.good + 1 else 0, bad := if ok then 0 else t.bad + 1 }
    let s := if s.syncSt = yACQUIRE ∧ 16 ≤ s.t.good then s.setSync yLOCKED
      else if s.syncSt = yLOCKED ∧ 4 ≤ s.t.bad then s.setSync yACQUIRE else s
    let may := !s.t.stepped && s.syncSt == yACQUIRE && s.flag F.SYS_SYNC_STEP_OK && s.noneSwitches &&
      (s.mode == mWAKE || s.mode == mSTANDBY || s.mode == mSERVICE)
    if may then s.modT fun t => { t with stepped := true, step := (-e) % (s.frameLen : Int), slew := 0 }
    else s.modT fun t => { t with slew := -e }

/-- The length of a tick of `n` clocks with its correction (R44): a step, or a slew of at most one clock; HOLDOVER keeps the
last corrected period. -/
def State.tickLen (n : Nat) (s : State) : Nat × State :=
  let cor : Int := if s.syncSt = yHOLDOVER then s.t.lastCor else if s.syncSt = yFREE then 0 else Int.sign s.t.slew
  let len := ((n : Int) + cor + s.t.step).toNat
  (len, s.modT fun t => { t with step := 0, lastCor := cor, slew := if s.syncSt = yHOLDOVER then t.slew else t.slew - cor })

/-- SYNC_IN_EDGE, `err` clocks from the expected boundary. -/
def State.syncEdge (err : Int) (s : State) : State :=
  if s.get F.SYS_SYNC_SRC ≠ 1 then s
  else if s.syncSt = yLOCKED ∧ 800 < err.natAbs then s.inc F.SYS_SYNC_STAT_REJECT
  else if s.syncSt = yHOLDOVER then (s.setSync yACQUIRE).bare 4
  else s

/-- SYNC_HOLDOVER. -/
def State.syncHoldover (s : State) : State :=
  if s.syncSt = yFREE ∨ s.syncSt = yHOLDOVER then s else (s.setSync yHOLDOVER).bare 4

/-- SYS_SYNC.SRC has been written: an alignment mode newly set acquires. -/
def State.syncSrcWritten (s : State) : State := s.setSync (if s.get F.SYS_SYNC_SRC = 0 then yFREE else yACQUIRE)

/-! ### FRAME_BOUNDARY (R35) -/

/-- Carrier settings that wait for a frame boundary take effect (07 R219). -/
def State.carFrame (s : State) : State :=
  s.each chans fun c s => s.modCh c fun x => if x.carWait then { x with carWait := false, car := s.rd (A.PWM_CAR c) } else x

/-- A frame boundary: tables, carriers, burst, alignment, SYNC_OUT; the answer names the requests whose table took effect. -/
def State.frameBoundary (err : Option Int) (s : State) : State × List Nat :=
  let t := s.t.start + s.t.len
  let (s, ids) := s.rebuildApply
  let s := ((s.carFrame).burstFrame t).syncFrame err
  let s := s.modT fun x => { x with inFrame := 0, syncOut := x.syncOut || s.flag F.SYS_SYNC_OUT_EN }
  (s, ids)

end Sys2Proof.Machine
end

