-- ==== Sys2Proof/Machine/Meter.lean ====
section
/-! DEFINITION. Metrology (09): accumulators and tariffs in phase 4, aggregation and the readout windows, calibration storage,
and the energy pulse outputs. -/

namespace Sys2Proof.Machine

def pts : List Nat := [0, 1, 2, 3, 4, 5, 6, 7, 8]
def State.mtr (s : State) (p : Nat) : MeterSt := s.meter[p]?.getD {}
def State.modMeter (p : Nat) (f : MeterSt → MeterSt) (s : State) : State := { s with meter := s.meter.setIfInBounds p (f (s.mtr p)) }
def State.epl (s : State) (j : Nat) : Epul := s.epul[j]?.getD {}
def State.modEpul (j : Nat) (f : Epul → Epul) (s : State) : State := { s with epul := s.epul.setIfInBounds j (f (s.epl j)) }
def State.modEr (f : ErSt → ErSt) (s : State) : State := { s with er := f s.er }
def State.mtype (s : State) (p : Nat) : Nat := s.get (F.METER_CFG_TYPE p)

/-! ### Accumulators (R277, R278; 10 R302, R304) -/

/-- Base increments 0 to 11 of a tick, in 2 ^ -32 of a unit. -/
def baseInc (dc : Bool) (e e1 q1 : Int) (sv : Nat) (a : Nat) : Nat :=
  let h := e - e1
  if dc && !(a == 0 || a == 1 || a == 8 || a == 9) then 0
  else match a with
  | 0 => e.toNat
  | 1 => (-e).toNat
  | 2 => e1.toNat
  | 3 => (-e1).toNat
  | 4 => if 0 ≤ e1 ∧ 0 < q1 then q1.natAbs else 0
  | 5 => if e1 < 0 ∧ 0 < q1 then q1.natAbs else 0
  | 6 => if e1 < 0 ∧ q1 ≤ 0 then q1.natAbs else 0
  | 7 => if 0 ≤ e1 ∧ q1 ≤ 0 then q1.natAbs else 0
  | 8 => if 0 ≤ e then sv else 0
  | 9 => if e < 0 then sv else 0
  | 10 => h.toNat
  | 11 => (-h).toNat
  | _ => 0

/-- Source accumulator of a tariff copy 12 to 15. -/
def State.tariffSel (s : State) (p a : Nat) : Nat := bits (s.rd (A.METER_TARIFF p)) (4 * (a - 12) + 3) (4 * (a - 12))

/-- Increment of accumulator `a` of point `p` for the partial sums `x` (R272, R277, R278). -/
def State.tickInc (s : State) (x : Partial) (a : Nat) : Nat :=
  let p := x.p.val
  let g (v : Int) : Int := if s.flag (F.METER_CFG_DIR p) then -v else v
  let base := baseInc (s.mtype p == 3) (g x.e) (g x.e1) (g x.q1) x.s
  if a < 12 then base a else if s.bitOf (F.METER_TARIFF_GATE p) (a - 12) then base (s.tariffSel p a) else 0

/-- Add `n` units of 2 ^ -32 to an accumulator: fraction, 64-bit count and wrap counter. -/
def State.accAdd (p a n : Nat) (s : State) : State :=
  let f := ((s.mtr p).frac[a]?.getD 0) + n
  let v := s.get64 (A.METER_ACC_LO p a) + f / 2 ^ 32
  let s := (s.modMeter p fun m => { m with frac := m.frac.setIfInBounds a (f % 2 ^ 32) }).put64 (A.METER_ACC_LO p a) (v % 2 ^ 64)
  let w := F.METER_WRAP_WRAP_LO p (a / 2)
  let w := if a % 2 = 0 then w else F.METER_WRAP_WRAP_HI p (a / 2)
  s.when (2 ^ 64 ≤ v) fun s => s.inc w (v / 2 ^ 64)

/-- Write-through modes (10 R303). -/
def State.writeThrough (s : State) : Bool := s.mode == mWAKE || s.mode == mSERVICE

/-- Whole units that the increment `n` adds to the accumulator or its pending set (R293). -/
def State.wholeInc (s : State) (p a n : Nat) : Nat :=
  let m := s.mtr p
  let b := (m.frac[a]?.getD 0) + (m.pend[a]?.getD 0)
  (b + n) / 2 ^ 32 - b / 2 ^ 32

/-- Phase 4 of one point: increments to the accumulators, or to the pending set in WAKE and SERVICE; substitution and
frequency status (R275, R276, R279). The answer holds the whole-unit increments. -/
def State.pointPhase4 (x : Partial) (s : State) : State × List Nat :=
  let p := x.p.val
  if s.mtype p = 0 then (s, [])
  else
    let incs := (List.range 16).map (s.tickInc x)
    let whole := (List.range 16).map fun a => s.wholeInc p a ((incs[a]?).getD 0)
    let s := if s.writeThrough then s.modMeter p fun m => { m with pend := m.pend.mapIdx fun i v => v + (incs[i]?).getD 0 }
      else s.each (List.range 16) fun a s => s.accAdd p a ((incs[a]?).getD 0)
    let rise := x.marked && !s.flag (F.METER_STAT_MARKED p)
    let s := (s.putb (F.METER_STAT_MARKED p) x.marked).when rise fun s => s.raise (F.METER_EVT_MARK_EVT p)
    let s := s.when x.marked fun s =>
      let f := (s.mtr p).mkeFrac + x.mke.natAbs
      let c := (s.mtr p).markClk + s.t.len
      let s := s.modMeter p fun m => { m with mkeFrac := f % 2 ^ 32, markClk := c % 800000 }
      (s.put64 (A.METER_MKE_LO p) ((s.get64 (A.METER_MKE_LO p) + f / 2 ^ 32) % 2 ^ 64)).inc (F.METER_MARK_T_MS p) (c / 800000)
    let s := (s.put (F.METER_STAT_NOLOAD p) x.noload.toNat).putb (F.METER_STAT_FREQ_HOLD p) (x.lowV && s.mtype p != 3)
    (s.putb (F.METER_STAT_TSRC p) (!s.ptpLocked), whole)

/-! ### Energy pulses (R292–R295) -/

/-- EPUL_CFG that governs emission now (R292 step 2). -/
def State.epulCfg (s : State) (j : Nat) : Word :=
  let e := s.epl j
  if e.zero && !bit e.cfg 0 then s.rd (A.EPUL_CFG j) else e.cfg

/-- Twice the fine-path group delay of a point in engine clocks, without its fixed 0.05 µs (02 R62). -/
def State.fineDelay2 (s : State) (p : Nat) : Nat :=
  if p < 8 then (68 * (64 * 2 ^ s.get (F.FLT_CFG_FINE_OSR p)) - 5) * s.get (F.FLT_MCLK_DIV p)
  else (68 * (64 * 2 ^ s.get F.PCC_ADC_CFG_FINE_OSR) - 5) * 40

/-- Schedule one pulse at clock `t`, no closer than 125 µs to the one before (R294). -/
def State.epulPlace (j t : Nat) (s : State) : State :=
  let em := match (s.epl j).last with | some l => max t (l + 100000) | none => t
  let late := decide (t < em)
  let s := (s.modEpul j fun e => { e with sched := e.sched ++ [(em, late)], last := some em }).inc (F.EPUL_PEND_PEND j)
  s.when late fun s => (s.putb (F.EPUL_STAT_OVR j) true).raise (F.EPUL_STAT_OVR_EVT j)

/-- Place the pulses of a tick's increment `de` (R293). -/
def State.epulTick (j de : Nat) (s : State) : State :=
  let e := s.epl j
  if !bit e.cfg 0 || e.zero || de == 0 then s else
  let k := e.k.toNat
  let r := s.get64 (A.EPUL_RES_LO j)
  let n := (r + de) / k
  let p := bits e.cfg 4 1
  let base := 2 * (s.t.start + 2 * s.get F.SYS_TICK_TICK_DIV + 40) + s.fineDelay2 p
  let s := s.each (List.range n) fun i s =>
    s.epulPlace j (divRne (base * de + 2 * s.t.len * ((i + 1) * k - r)) (2 * de))
  s.put64 (A.EPUL_RES_LO j) (if n = 0 then r + de else r + de - n * k)

/-- EPUL_ZEROING: at the first boundary with no pulse pending after a write. -/
def State.epulBoundary (s : State) : State :=
  s.each [0, 1, 2, 3] fun j s =>
    let e := s.epl j
    if e.zero && s.get (F.EPUL_PEND_PEND j) == 0 then
      let s := ((s.put (F.EPUL_CNT_CNT j) 0).put (F.EPUL_PEND_PEND j) 0).put64 (A.EPUL_RES_LO j) 0
      s.modEpul j fun e => { e with zero := false, cfg := s.rd (A.EPUL_CFG j), k := s.rd (A.EPUL_K j), sched := [], old := 0 }
    else s

/-- PULSE_EMISSION: the next pulse whose time has come; none while its output is off or after a power failure (10 R309). -/
def State.pulseEmission (j : Nat) (s : State) : State :=
  let e := s.epl j
  let floor := match e.lastEm with | some l => l + 100000 | none => 0
  let at? : Option Nat := if e.old ≠ 0 then some (max floor s.clk) else e.sched.head?.map fun x => max x.1 floor
  match at? with
  | none => s
  | some t =>
    if !bit (s.epulCfg j) 0 || e.on || s.er.stopNext || s.er.stopAt.isSome || s.t.start + s.t.len < t then s
    else
      let s := s.modEpul j fun e => { e with
        on := true, lastEm := some t, old := e.old - 1, sched := if e.old ≠ 0 then e.sched else e.sched.drop 1 }
      let s := (s.inc (F.EPUL_CNT_CNT j)).put (F.EPUL_PEND_PEND j) (s.get (F.EPUL_PEND_PEND j) - 1)
      s.putb (F.EPUL_STAT_OVR j) ((s.epl j).sched.any Prod.snd)

/-- PULSE_END after WIDTH. -/
def State.pulseEnd (j : Nat) (s : State) : State := s.modEpul j fun e => { e with on := false }

/-- EPUL_CFG or EPUL_K has been written. -/
def State.epulWritten (j : Nat) (s : State) : State := s.modEpul j fun e => { e with zero := true }

/-- Level of ball EPULj. -/
def State.epulBall (s : State) (j : Nat) : Bool := (s.epl j).on != bit (s.epulCfg j) 9

/-! ### Phase 4 (R274) -/

/-- Phase 4 of a tick; after a power failure the books freeze behind it (10 R309). -/
def State.phase4 (l : List Partial) (late : Bool) (s : State) : State :=
  let s := s.modT fun t => { t with metLate := if late then t.metLate + 1 else 0 }
  if s.er.stopAt.isSome then s else
  let (s, whole) := l.foldl (fun (acc : State × List (Nat × List Nat)) x =>
    let (s, w) := acc.1.pointPhase4 x
    (s, (x.p.val, w) :: acc.2)) (s, [])
  let s := s.each [0, 1, 2, 3] fun j s =>
    let c := (s.epl j).cfg
    let w := ((whole.find? fun x => x.1 == bits c 4 1).map Prod.snd).getD []
    s.epulTick j ((w[bits c 8 5]?).getD 0)
  s.when s.er.stopNext fun s => (s.modEr fun e => { e with stopNext := false, stopAt := some s.clk, due := false }).putb F.ER_STAT_FROZEN true

/-- METROLOGY_ENGINE_FAULT (01 R32): eight overruns in consecutive ticks. -/
def State.metFault (s : State) : State := if 8 ≤ s.t.metLate then s.modT fun t => { t with metFault := true } else s

/-! ### Aggregation (R285, R287, R288) -/

/-- How a readout word aggregates: 0 root mean square, 1 mean. Powers, power factors and the frequency take the mean. -/
def roMode (i : Nat) : Nat := if (8 ≤ i ∧ i ≤ 24) ∨ i = 31 then 1 else 0
/-- The same for a harmonic word by KIND: 0 RMS, 2 power; 2 for phase angles. -/
def harmMode (i : Nat) : Nat := match i / 229 % 3 with | 0 => 0 | 1 => 2 | _ => 1

/-- Add a value to running sums. -/
def aggAdd (mode : Nat → Nat) (n : Nat) (sums vals : List Word) : List Word :=
  vals.mapIdx fun i v =>
    let a := (sums[i]?).getD fZero
    match mode i with
    | 0 => fAdd a (fMul v v)
    | 1 => fAdd a v
    | _ => Config.angleAgg n a v

def aggOut (mode : Nat → Nat) (n : Nat) (sums : List Word) : List Word :=
  sums.mapIdx fun i a => match mode i with
    | 0 => fSqrt (fDiv a (fOfNat n))
    | 1 => fDiv a (fOfNat n)
    | _ => a

def Ival.add (a x : Ival) : Ival :=
  { n := a.n + 1, flagged := a.flagged || x.flagged, ro := aggAdd roMode a.n a.ro x.ro, harm := aggAdd harmMode a.n a.harm x.harm,
    supra := aggAdd (fun _ => 0) a.n a.supra x.supra }
def Ival.out (a : Ival) : Ival :=
  { a with ro := aggOut roMode a.n a.ro, harm := aggOut harmMode a.n a.harm, supra := aggOut (fun _ => 0) a.n a.supra }

def qNaN : Word := 0x7FC00000#32

/-- Clocks of the fine and fast output periods of a point. -/
def State.fineClks (s : State) (p : Nat) : Nat :=
  if p < 8 then 256 * 2 ^ s.get (F.FLT_CFG_FINE_OSR p) * s.get (F.FLT_MCLK_DIV p) else 256 * 2 ^ s.get F.PCC_ADC_CFG_FINE_OSR * 40
def State.fastClks (s : State) (p : Nat) : Nat := if p < 8 then s.get (F.FLT_CFG_FAST_OSR p) * s.get (F.FLT_MCLK_DIV p) else 1280

/-- Hmax (R282). -/
def State.hmax (s : State) (p : Nat) : Nat :=
  min 100 (6400000000 / (21 * s.fineClks p * (if s.flag F.SYS_RIDE_CFG_FNOM then 60 else 50)))

/-- A readout word that the point's type computes (R270, R297). -/
def roUsed (typ i : Nat) : Bool :=
  if typ = 3 then i == 0 || i == 4 || i == 11 || i == 19 else if typ = 1 then i != 3 && i != 7 else true

/-- Word `w` of HARM_DATA for a signal and kind of interval `v`: 0 to 100 the orders, 128 to 228 the interharmonics. -/
def State.harmWord (s : State) (p : Nat) (v : Ival) (sig kind w : Nat) : Word :=
  if s.mtype p = 3 ∨ (101 ≤ w ∧ w < 128) then fZero
  else if s.hmax p < (if w < 128 then w else w - 128) then qNaN
  else (v.harm[(sig * 3 + kind) * 229 + w]?).getD fZero
/-- Band `b` of SUPRA for a signal. -/
def State.supraWord (s : State) (p : Nat) (v : Ival) (sig b : Nat) : Word :=
  if s.flag (F.METER_STAT_SUPRA_SHED p) ∨ 320000 < (4 + 2 * b) * s.fastClks p then qNaN else (v.supra[sig * 74 + b]?).getD fZero
/-- Readout word `i` of interval `v`; word 30 is FREQ10S. -/
def State.roWord (s : State) (p : Nat) (v : Ival) (i : Nat) : Word :=
  if i = 30 then s.rd (A.METER_WIN p 30) else if roUsed (s.mtype p) i then (v.ro[i]?).getD fZero else fZero

/-- Show the interval that AGG selects, and the selection of HARM_SEL (R288). -/
def State.showWindow (p : Nat) (s : State) : State :=
  let v := ((s.mtr p).shown[s.get (F.METER_CFG_AGG p)]?).getD ({} : Ival)
  let sig := s.get (F.HARM_SEL_SIG p)
  let kind := s.get (F.HARM_SEL_KIND p)
  let s := s.each ((List.range 32).filter fun i => i ≠ 30) fun i s => s.wr (A.METER_WIN p i) (s.roWord p v i)
  let s := s.each (List.range 101) fun w s =>
    (s.wr (A.HARM_DATA p w) (s.harmWord p v sig kind w)).wr (A.HARM_DATA_I p w) (s.harmWord p v sig kind (128 + w))
  let s := s.each (List.range 74) fun b s => s.wr (A.SUPRA p b) (s.supraWord p v sig b)
  s.putb (F.METER_STAT_FLAGGED p) v.flagged

def Ival.ofWindow (x : WindowIn) : Ival := { n := 1, flagged := x.flagged, ro := x.ro, harm := x.harm, supra := x.supra }

/-- The tests of R289: a bit sets after two intervals with its condition, and clears after two without it. -/
def State.seqTests (p : Nat) (x : WindowIn) (s : State) : State :=
  let typ := s.mtype p
  let sq := x.seqErr && typ != 3
  let ne := x.neuMiss && typ == 2
  let m := s.mtr p
  let go (s : State) (c prev : Bool) (stat evt : Fld) : State :=
    if c && prev then (if s.flag stat then s else (s.putb stat true).raise evt)
    else if !c && !prev then s.putb stat false else s
  let s := go s sq m.seqPrev (F.METER_STAT_SEQ_ERR p) (F.METER_EVT_SEQ_EVT p)
  let s := go s ne m.neuPrev (F.METER_STAT_NEU_MISS p) (F.METER_EVT_NEU_EVT p)
  s.modMeter p fun m => { m with seqPrev := sq, neuPrev := ne }

/-- A 10/12-cycle value enters the 10/12-cycle window and the running sums `l` (0: 150/180-cycle, 1: 10 min). -/
def State.intervalAdd (p : Nat) (x : WindowIn) (l : List Nat) (s : State) : State :=
  let v := Ival.ofWindow x
  (s.modMeter p fun m => { m with
    shown := m.shown.setIfInBounds 0 v
    sums := m.sums.mapIdx fun i a => if l.contains i then a.add v else a }).inc (F.METER_INTV_N1012 p)

/-- HARMONIC_WINDOW_END. -/
def State.windowEnd (p : Nat) (x : WindowIn) (s : State) : State :=
  if s.mtype p = 0 then s else
  let s := (s.seqTests p x).intervalAdd p x [0, 1]
  let a := ((s.mtr p).sums[0]?).getD ({} : Ival)
  let s := s.when (15 ≤ a.n) fun s => s.modMeter p fun m => { m with
    shown := m.shown.setIfInBounds 1 a.out
    n180 := (m.n180 + 1) % 2 ^ 32
    sums := m.sums.setIfInBounds 0 ({} : Ival) }
  (s.putb (F.METER_STAT_TSRC p) (!s.ptpLocked)).showWindow p

/-- TEN_MIN_BOUNDARY of one point, with its window in progress (R285). -/
def State.tenMinPoint (p : Nat) (x : Option WindowIn) (s : State) : State :=
  if s.mtype p = 0 then s else
  let s := match x with | some x => (s.seqTests p x).intervalAdd p x [1] | none => s
  let a := ((s.mtr p).sums[1]?).getD ({} : Ival)
  let v := a.out
  let s := s.modMeter p fun m => { m with
    shown := m.shown.setIfInBounds 2 v
    sums := ((m.sums.setIfInBounds 0 ({} : Ival)).setIfInBounds 1 (match x with | some x => Ival.add {} (Ival.ofWindow x) | none => {})).setIfInBounds 2
      ((m.sums[2]?.getD ({} : Ival)).add v) }
  let b := ((s.mtr p).sums[2]?).getD ({} : Ival)
  let s := s.when (12 ≤ b.n) fun s => s.modMeter p fun m =>
    { m with shown := m.shown.setIfInBounds 3 b.out, n2h := (m.n2h + 1) % 2 ^ 32, sums := m.sums.setIfInBounds 2 ({} : Ival) }
  ((s.inc (F.METER_INTV_N10M p)).putb (F.METER_STAT_TSRC p) (!s.ptpLocked)).showWindow p

def State.tenMin (xs : List (Point × WindowIn)) (s : State) : State :=
  s.each pts fun p s => s.tenMinPoint p ((xs.find? fun x => x.1.val == p).map Prod.snd)

/-- FREQ10S_END (R286); a DC point has no frequency. -/
def State.freq10s (p : Nat) (f : Word) (s : State) : State :=
  if s.mtype p = 0 then s else s.wr (A.METER_WIN p 30) (if s.mtype p = 3 then fZero else f)

/-- At a tick boundary after TYPE, DIR or METER_MAP changed: windows and aggregation restart (R273). -/
def State.meterBoundary (s : State) : State :=
  s.each pts fun p s => s.when (s.mtr p).restart fun s =>
    s.modMeter p fun m => { m with restart := false, sums := Vector.replicate 3 {}, seqPrev := false, neuPrev := false }

/-! ### Calibration (R280) -/

/-- Addresses of every calibration word. -/
def calAddrs : List Nat :=
  pts.flatMap fun p => [0, 1, 2, 3].flatMap fun ph => [0, 4, 8, 12, 16, 20].map fun o => A.CAL_VGAIN p ph + o

/-- CAL_SAVE: the sets of every point as one commit; `wid` the request that waits. A save during another starts nothing. -/
def State.calSave (wid : Nat) (s : State) : State :=
  if s.er.calBusy.isSome then s
  else s.modEr fun e => { e with calBusy := some ((calAddrs.map fun a => (a, s.rd a)).filter fun x => x.2 ≠ resetWord x.1), calWid := wid }

/-- CAL_SAVE_DONE: the commit reaches its pointer flip; a commit that fails leaves the stored sets. -/
def State.calDone (ok : Bool) (s : State) : State :=
  match s.er.calBusy with
  | some l => s.modEr fun e => { e with calBusy := none, calWid := 0, cal := if ok then l else e.cal }
  | none => s

/-- WAKE restores every set. -/
def State.calRestore (s : State) : State := s.er.cal.foldl (fun s x => s.wr x.1 x.2) s

end Sys2Proof.Machine
end

