-- ==== Sys2Proof/Machine/Records.lean ====
section
/-! DEFINITION. Energy records and their conservation (10): forming a record, commits, the tail, and recovery at WAKE. -/

namespace Sys2Proof.Machine

/-- `n` bytes of a number, least significant first. -/
def le (n v : Nat) : List Byte := (List.range n).map fun i => BitVec.ofNat 8 (v / 256 ^ i)

/-! ### The record (R308) -/

def tPERIODIC : Nat := 1
def tWRITE : Nat := 2
def tTAIL : Nat := 3
def tLOSS : Nat := 4
def tSNAP : Nat := 5
def tGENESIS : Nat := 6

/-- Bytes 0 to 2,431. -/
def Rec.body (r : Rec) : List Byte :=
  le 4 0x4E564552 ++ le 2 r.typ ++ le 2 r.flags ++ le 8 r.seq ++ le 8 r.tick ++ le 8 r.time ++ le 4 r.wakes ++ le 4 r.saveMs ++
    le 8 r.unmet ++ List.replicate 16 0#8 ++ r.acc.flatMap (le 8) ++ r.frac.flatMap (le 4) ++ r.wrap.flatMap (le 2) ++
    r.mke.flatMap (le 8) ++ (r.epul.mapIdx fun i v => le (if i % 3 = 2 then 8 else 4) v).flatten ++ r.loss.flatMap (le 8) ++
    List.replicate 16 0#8 ++ r.snap ++ r.prev
def Rec.bytes (r : Rec) : List Byte := r.body ++ r.hash
def zero64 : List Byte := List.replicate 64 0#8

/-- Accumulator `a` of point `p` with its pending increment: value, fraction, wrap counter. -/
def State.accWithPend (s : State) (p a : Nat) : Nat × Nat × Nat :=
  let m := s.mtr p
  let f := (m.frac[a]?.getD 0) + (m.pend[a]?.getD 0)
  let v := s.get64 (A.METER_ACC_LO p a) + f / 2 ^ 32
  let w := if a % 2 = 0 then s.get (F.METER_WRAP_WRAP_LO p (a / 2)) else s.get (F.METER_WRAP_WRAP_HI p (a / 2))
  (v % 2 ^ 64, f % 2 ^ 32, (w + v / 2 ^ 64) % 65536)

/-- Every point and accumulator in record order. -/
def accIx : List (Nat × Nat) := pts.flatMap fun p => (List.range 16).map fun a => (p, a)

def dayOf (time : Nat) : Nat := time / 86400000000

/-- A record of type `typ` over the present books, chained to the head. -/
def State.formRec (s : State) (typ flags unmet : Nat) (loss : List Nat) : Rec :=
  let l := accIx.map fun x => s.accWithPend x.1 x.2
  let r : Rec :=
    { typ := typ, flags := flags + b2n (!s.ptpLocked) + 8 * b2n s.er.resumed,
      seq := match s.er.head with | some h => h.seq + 1 | none => 0,
      tick := s.tickCnt, time := s.devTime, wakes := (s.rd A.SYS_WAKES).toNat, saveMs := s.get F.ER_CFG_SAVE_MS, unmet := unmet,
      acc := l.map fun x => x.1, frac := l.map fun x => x.2.1, wrap := l.map fun x => x.2.2,
      mke := pts.map fun p => s.get64 (A.METER_MKE_LO p),
      epul := [0, 1, 2, 3].flatMap fun j => [s.get (F.EPUL_CNT_CNT j), s.get (F.EPUL_PEND_PEND j), s.get64 (A.EPUL_RES_LO j)],
      loss := loss, snap := match s.er.lastSnap with | some h => h.hash | none => zero64,
      prev := match s.er.head with | some h => h.hash | none => zero64, hash := [] }
  { r with hash := Crypto.sha3_512 r.body }

def noLoss : List Nat := List.replicate 9 0

/-! ### Slots, pointer blocks and commits (R305–R307) -/

/-- The record of a slot code. -/
def ErSt.at (e : ErSt) (slot : Nat) : Option Rec :=
  if slot < 0x8000 then (e.ring.find? fun x => x.1 == slot).map Prod.snd else (e.snaps.find? fun x => x.1 == slot - 0x8000).map Prod.snd

/-- Put a record into a slot; none where the write did not read back. -/
def ErSt.store (e : ErSt) (slot : Nat) (r : Option Rec) : ErSt :=
  let put (l : List (Nat × Rec)) (k : Nat) := (match r with | some r => [(k, r)] | none => []) ++ l.filter fun x => x.1 ≠ k
  if slot < 0x8000 then { e with ring := put e.ring slot } else { e with snaps := put e.snaps (slot - 0x8000) }

/-- The pointer block with the higher pointer sequence. -/
def ErSt.ptr (e : ErSt) : Option Ptr :=
  match e.ptrA, e.ptrB with
  | some a, some b => if a.pseq < b.pseq then some b else some a
  | some a, none => some a
  | none, x => x

/-- Name a slot as the head: the pointer block that does not hold the current head. -/
def ErSt.flip (e : ErSt) (slot : Nat) (r : Rec) : ErSt :=
  let n := match e.ptr with | some p => p.pseq + 1 | none => 0
  let p : Ptr := ⟨n, slot, r.seq, r.hash⟩
  let inA : Bool := match e.ptrA, e.ptrB with
    | some a, some b => decide (a.pseq < b.pseq)
    | some _, none => false
    | none, _ => true
  if inA then { e with ptrA := some p } else { e with ptrB := some p }

/-- Show the head in the registers and send its TIME to the brumation domain (R305, R321). -/
def State.showHead (r : Rec) (s : State) : State :=
  let s := ((s.put64 A.ER_HSEQ_LO r.seq).put64 A.ER_HTIME_LO r.time)
  let ws := bytesToWords r.hash
  s.each ix16s fun i s => s.wr (A.ER_HEAD i) (pw ws i)

/-- The pointer flip is complete: the head moves, the committed increments become readable, and counts follow. -/
def State.flipDone (c : Commit) (s : State) : State :=
  let r := c.r
  let s := s.modEr fun e => { e.flip c.slot r with
    head := some r, commit := none, fails := 0, unmet := e.unmet - r.unmet, resumed := false
    lastSnap := if r.typ = tSNAP then some r else e.lastSnap }
  let s := (s.showHead r).put64 A.KA_LREC_LO r.time
  let s := (accIx.zip c.incs).foldl (fun s x =>
    if x.2 = 0 then s else
    let s := s.accAdd x.1.1 x.1.2 x.2
    s.modMeter x.1.1 fun m => { m with pend := m.pend.setIfInBounds x.1.2 ((m.pend[x.1.2]?.getD 0) - x.2) }) s
  let s := s.modLog fun l => { l with okCommits := if c.tries = 0 then l.okCommits + 1 else 0 }
  let s := s.when (16 ≤ s.log.okCommits) fun s => s.uncause cRECORDS
  let s := if r.typ = tSNAP then s.raise F.ER_EVT_SNAP else if r.typ = tTAIL then s.raise F.ER_EVT_TAIL_REC else s
  s.putb F.ER_STAT_BUSY false

/-- The pending increments of every accumulator. -/
def State.pendAll (s : State) : List Nat := accIx.map fun x => (s.mtr x.1).pend[x.2]?.getD 0

/-- A PERIODIC or WRITE_THROUGH commit begins; the first of a later day is a SNAPSHOT (R318). -/
def State.commitBegin (typ : Nat) (s : State) : State :=
  let day := dayOf s.devTime
  let snap : Bool := match s.er.lastSnap with | some r => decide (dayOf r.time < day) | none => true
  let r := s.formRec (if snap then tSNAP else typ) 0 s.er.unmet noLoss
  let slot := if snap then 0x8000 + day % 400 else s.er.next
  let s := s.modEr fun e => { e with
    commit := some ⟨r, slot, 0, false, s.pendAll⟩, lastAt := s.clk, due := false
    next := if snap then e.next else (e.next + 1) % 20 }
  s.putb F.ER_STAT_BUSY true

/-- A commit that waited begins as soon as the previous one ends (R303). -/
def State.commitNext (s : State) : State :=
  if s.er.due && s.er.commit.isNone && s.er.stopAt.isNone && !s.er.stopNext then (s.commitBegin tPERIODIC).raise F.ER_EVT_LATE else s

/-- A power failure, or stopped books, allow no new commit (R309, R310). -/
def State.booksOpen (s : State) : Bool := s.er.stopAt.isNone && !s.er.stopNext

/-- PERIODIC_COMMIT (R303). -/
def State.periodicCommit (s : State) : State :=
  if s.writeThrough || s.mode == mBRUMATE || !s.booksOpen || s.clk < s.er.lastAt + msClk (s.get F.ER_CFG_SAVE_MS) then s
  else if s.er.commit.isSome then s.modEr fun e => { e with due := true }
  else s.commitBegin tPERIODIC

/-- WRITE_THROUGH_COMMIT (R304). -/
def State.writeThroughCommit (s : State) : State :=
  if !s.writeThrough || !s.booksOpen || s.er.commit.isSome || s.pendAll.all (· == 0) then s else s.commitBegin tWRITE

/-- RECORD_WRITE_COMPLETE (R306): readback good, the next slot, or a failed commit. -/
def State.recordWrite (ok : Bool) (s : State) : State :=
  match s.er.commit with
  | none => s
  | some c =>
    if c.flip then s
    else if ok then s.modEr fun e => { e.store c.slot (some c.r) with commit := some { c with flip := true } }
    else if c.tries < 2 then
      s.modEr fun e => { e.store c.slot none with commit := some { c with slot := e.next, tries := c.tries + 1 }, next := (e.next + 1) % 20 }
    else
      let s := s.modEr fun e => { e.store c.slot none with commit := none, fails := e.fails + 1 }
      let s := ((s.putb F.ER_STAT_BUSY false).inc F.ER_CNT_FAIL_CNT).raise F.ER_EVT_COMMIT_FAIL
      let s := s.modLog fun l => { l with okCommits := 0 }
      (s.when (3 ≤ s.er.fails) fun s => s.cause cRECORDS).commitNext

/-- POINTER_FLIP_COMPLETE. -/
def State.pointerFlip (s : State) : State :=
  match s.er.commit with
  | some c => if c.flip then (s.flipDone c).commitNext else s
  | none => s

/-- A record committed in one step: TAIL, LOSS and GENESIS, into the periodic ring. -/
def State.commitNow (typ flags unmet : Nat) (loss : List Nat) (s : State) : State :=
  let r := s.formRec typ flags unmet loss
  let slot := s.er.next
  let s := s.modEr fun e => { e.store slot (some r) with next := (e.next + 1) % 20, lastAt := s.clk }
  s.flipDone ⟨r, slot, 0, true, s.pendAll⟩

/-- TAIL_COMMIT (R309, R310): a flip already begun is completed, any other step abandoned; then the TAIL record. -/
def State.tailCommit (s : State) : State :=
  if s.er.stopAt.isNone || s.er.tail then s else
  let s := match s.er.commit with
    | some c => if c.flip then s.flipDone c else (s.modEr fun e => { e with commit := none }).putb F.ER_STAT_BUSY false
    | none => s
  (s.commitNow tTAIL 0 s.er.unmet noLoss).modEr fun e => { e with tail := true }

/-- At the tick boundary of a resume, once the tail is complete, accumulation and pulses go on (R311). -/
def State.resumeBoundary (s : State) : State :=
  if !s.er.resume || !s.er.tail then s else
  let d := match s.er.stopAt with | some t => (s.clk - t) / 800 | none => 0
  (s.modEr fun e => { e with resume := false, stopNext := false, stopAt := none, unmet := e.unmet + d, resumed := true, tail := false }).putb F.ER_STAT_FROZEN false

/-! ### Recovery at WAKE (R313–R317) -/

/-- Restore the books from a record. -/
def State.restoreRec (r : Rec) (s : State) : State :=
  let s := (accIx.zipIdx).foldl (fun s x =>
    let p := x.1.1
    let a := x.1.2
    let i := x.2
    let s := s.put64 (A.METER_ACC_LO p a) ((r.acc[i]?).getD 0)
    let s := s.put (if a % 2 = 0 then F.METER_WRAP_WRAP_LO p (a / 2) else F.METER_WRAP_WRAP_HI p (a / 2)) ((r.wrap[i]?).getD 0)
    s.modMeter p fun m => { m with frac := m.frac.setIfInBounds a ((r.frac[i]?).getD 0) }) s
  let s := s.each pts fun p s => s.put64 (A.METER_MKE_LO p) ((r.mke[p]?).getD 0)
  s.each [0, 1, 2, 3] fun j s =>
    let n := (r.epul[3 * j + 1]?).getD 0
    (((s.put (F.EPUL_CNT_CNT j) ((r.epul[3 * j]?).getD 0)).put (F.EPUL_PEND_PEND j) n).put64 (A.EPUL_RES_LO j) ((r.epul[3 * j + 2]?).getD 0)).modEpul j
      fun e => { e with old := n, sched := [] }

/-- The loss bound of a point over `us` µs (R316): ceil(SRATED × Δt / 0.0036), at most 64 ones. -/
def State.lossBound (s : State) (p us : Nat) : Nat :=
  let v := s.rd (A.ER_SRATED p)
  let e := fExp v
  let num := fSig v * us * 2 ^ (e - 150)
  let den := 3600 * 2 ^ (150 - e)
  min (2 ^ 64 - 1) ((num + den - 1) / den)

/-- The record with the highest SEQ of a list. -/
def highest (l : List Rec) : Option Rec :=
  l.foldl (fun m r => match m with | some x => if x.seq < r.seq then some r else some x | none => some r) none

/-- HEAD_SELECTION (R313): the head, and whether a valid pointer block names it. -/
def ErSt.select (e : ErSt) : Option (Rec × Bool) :=
  let named := match e.ptr with
    | some p => match e.at p.slot with | some r => if r.hash = p.hash then some r else none | none => none
    | none => none
  match named with
  | some r => some (r, true)
  | none => (highest (e.ring.map Prod.snd ++ e.snaps.map Prod.snd)).map fun r => (r, false)

/-- The energy part of WAKE: restore, then continue, a LOSS record, or a GENESIS record (R313–R317). `lost`: the clock of the
brumation domain did not keep time. -/
def State.wakeRecords (lost : Bool) (s : State) : State :=
  let e := s.er
  let lrec := s.get64 A.KA_LREC_LO
  let s := s.modEr fun e => { e with
    commit := none, due := false, lastAt := 0, fails := 0, stopNext := false, stopAt := none, unmet := 0, tail := false
    resume := false, resumed := false, head := none, lastSnap := highest (e.snaps.map Prod.snd) }
  match e.select with
  | some (r, named) =>
    let s := (s.restoreRec r).modEr fun e => { e with head := some r }
    let s := s.showHead r
    let dt := s.devTime - r.time
    if r.typ = tTAIL ∧ named ∧ r.time = lrec ∧ ¬ lost then s.modEr fun e => { e with unmet := dt }
    else
      let loss := if lost then List.replicate 9 (2 ^ 64 - 1) else pts.map fun p => s.lossBound p dt
      let s := s.commitNow tLOSS (if lost then 2 else 0) dt loss
      ((s.putb F.ER_STAT_UNBOUNDED lost).inc F.ER_CNT_LOSS_CNT).raise F.ER_EVT_LOSS_REC
  | none =>
    let orphan := e.ptrA.isSome || e.ptrB.isSome
    let s := s.commitNow tGENESIS (if orphan then 6 else 0) 0 noLoss
    let s := (s.putb F.ER_STAT_UNBOUNDED orphan).raise F.ER_EVT_GENESIS
    s.when orphan fun s => (s.modLog fun l => { l with okCommits := 0 }).cause cRECORDS

end Sys2Proof.Machine
end

