-- ==== Sys2Proof/Machine/Island.lean ====
section
/-! DEFINITION. The safety island (11): Safe Gate Inhibit, safety inputs and outputs, limited functions, the cross-check,
the reset, and the safety configuration. -/

namespace Sys2Proof.Machine

def State.modSafe (f : SafeSt → SafeSt) (s : State) : State := { s with safe := f s.safe }

/-! ### The image (R341) -/

/-- The bits of word `w` that the layout lists. -/
def imgMask (w : Nat) : Word :=
  if w < 5 then ([0xFF#32, 0x7FF#32, 0x3FF#32, 0xFFFFFFFF#32, 0x7F#32][w]?.getD 0#32)
  else if w < 8 then 0#32
  else [0x1FFFF#32, 0xFFFFFF#32, 0xFFFFFF#32, 0xFFFFFFFF#32, 0xFFFFFFFF#32, 0xFFFFFFFF#32, 0xFFFFFFF#32][(w - 8) % 7]?.getD 0#32
def imgClean (img : List Word) : List Word := (img.take 64).mapIdx fun w v => v &&& imgMask w

def within (lo n hi : Nat) : Bool := lo ≤ n && n ≤ hi
def fWithin (lo x hi : F32) : Bool := fLe lo x && fLe x hi

def slcEn (img : List Word) (n : Nat) : Bool := bit (pw img (8 + 7 * n)) 0
def sldEn (img : List Word) (n : Nat) : Bool := bit (pw img (8 + 7 * n)) 1
def slsEn (img : List Word) (n : Nat) : Bool := bit (pw img (8 + 7 * n)) 2
def sldAc (img : List Word) (n : Nat) : Bool := bit (pw img (8 + 7 * n)) 3
/-- Selector `k` of V0, I0, V1, I1, V2, I2. -/
def sldSel (img : List Word) (n k : Nat) : Nat := pf img (10 + 7 * n) (4 * k + 3) (4 * k)

/-- Slice `n` of an image passes the range checks; fields of a disabled function are not checked. -/
def sliceOk (img : List Word) (n : Nat) : Bool :=
  let b := 8 + 7 * n
  let slc := pf img (b + 1) 11 0 != 0 && fWithin 0x3D4CCCCD#32 (pw img (b + 3)) fOne && within 2 (pf img (b + 4) 15 0) 65535
  let cur := if sldAc img n then [1, 3, 5].any fun k => sldSel img n k != 15 else pf img (b + 1) 23 12 != 0
  let sld := cur && (List.range 6).all (fun k => sldSel img n k < 12 || sldSel img n k == 15) &&
    fWithin 0x3A83126F#32 (pw img (b + 5)) fHalf && within 1 (pf img (b + 4) 31 16) 10000
  let sls := within 1 (pf img (b + 6) 10 0) 2000 && within 5 (pf img (b + 6) 17 11) 100 && within 1 (pf img (b + 6) 27 18) 1000
  (!slcEn img n || slc) && (!sldEn img n || sld) && (!slsEn img n || sls)

/-- The image is valid (R341). -/
def imageOk (img : List Word) : Bool :=
  img.length == 64 && pf img 0 7 0 == 1 && within 100 (pf img 1 10 0) 2000 && within 10 (pf img 2 9 0) 1000 &&
    fWithin 0x3BA3D70A#32 (pw img 3) 0x3E4CCCCD#32 && within 2 (pf img 4 6 0) 64 && chans.all (sliceOk img)

/-- The digest as 16 words, bytes in the order of R321. -/
def imgDigest (img : List Word) : List Word := bytesToWords (Crypto.sha3_512 (payBytes img 256))

/-- The image that rules the device-wide values: the one in force, else the factory image (R343). -/
def State.safeImg (s : State) : List Word := s.safe.inForce.getD factoryImage
/-- The committed image, as SAFE_CFG shows it. -/
def State.safeShown (s : State) : List Word := s.safe.nv.img.getD factoryImage

/-- Inputs of slice `n` that an enabled function monitors. -/
def monMask (img : List Word) (n : Nat) : Nat :=
  let sel := if sldAc img n then
      [0, 1, 2].foldl (fun m k => if sldSel img n (2 * k) < 12 ∧ sldSel img n (2 * k + 1) < 12
        then m ||| 2 ^ sldSel img n (2 * k) ||| 2 ^ sldSel img n (2 * k + 1) else m) 0
    else pf img (9 + 7 * n) 23 12 ||| (if sldSel img n 0 < 12 then 2 ^ sldSel img n 0 else 0)
  (if slcEn img n then pf img (9 + 7 * n) 11 0 else 0) ||| (if sldEn img n then sel else 0) ||| (if slsEn img n then 0xC0 else 0)

/-- Show the committed image and its digest, and the inputs monitored. -/
def State.showImage (s : State) : State :=
  let img := s.safeShown
  let s := s.each (List.range 64) fun w s => s.wr (A.SAFE_CFG w) (pw img w)
  let d := imgDigest img
  s.each (List.range 16) fun i s => s.wr (A.SAFE_DIG i) (pw d i)
def State.showMon (s : State) : State :=
  (s.each chans fun n s => s.put (F.SAFE_SL_STAT_MON n) (match s.safe.inForce with | some img => monMask img n | none => 0)).putb
    F.SAFE_STAT_CFG_VALID s.safe.inForce.isSome

/-! ### Safe Gate Inhibit (R327–R329) -/

def State.safeOuts (s : State) (b : Bool) : State := (s.putb F.SAFE_IO_OUT_A b).putb F.SAFE_IO_OUT_B b

/-- A source of SGI (R329): `d` class D. The first source makes SGI active; a later one is logged and counted, and ends a
reset whose feedback check runs (R339). -/
def State.sgi (code ch : Nat) (d : Bool) (s : State) : State :=
  let s := if d then s.putb F.SAFE_STAT_DFAULT true else s
  if s.flag F.SAFE_STAT_SGI then
    let s := if s.safe.rst then (s.modSafe fun x => { x with rst := false }).safeOuts false else s
    s.occur ((srcOf A.SAFE_EVT 0).getD 0) (s.rd A.SAFE_EVT) []
  else
    let s := ((s.putb F.SAFE_STAT_SGI true).put F.SAFE_CAUSE_CODE code).put F.SAFE_CAUSE_CH ch
    let s := ((s.putb F.SAFE_CAUSE_DCLASS d).safeOuts false).inc F.SAFE_CNT_SGI_CNT
    let s := s.modSafe fun x => { x with chOff := true, testA := false, testB := false }
    let s := s.each chans fun c s => s.modCh c fun x => { x with offDrive := true }
    s.raise F.SAFE_EVT_SGI_ENTER

/-- SGI_CHANNELS_OFF (R328). -/
def State.sgiChannelsOff (s : State) : State :=
  if s.safe.chOff then (s.modSafe fun x => { x with chOff := false }).each chans fun c s => s.exitToOff c kTRIP else s

/-- SAFE_CTRL.SGI_REQ and the SGI_REQ opcode (R329, code 0x03). -/
def State.sgiReq (s : State) : State := s.sgi 0x03 0 false

/-! ### Safety inputs (R330) -/

/-- SAFE_IN_DEMAND: a low of TP_MAX on input A (`b` false) or B. -/
def State.safeDemand (b : Bool) (s : State) : State :=
  let s := if b then (s.putb F.SAFE_IO_IN_B false).modSafe fun x => { x with demB := true }
    else (s.putb F.SAFE_IO_IN_A false).modSafe fun x => { x with demA := true }
  s.sgi 0x01 0 false

/-- SAFE_IN_DISCREPANCY: the inputs have differed for T_DISC, and a demand is present on one of them. -/
def State.safeDisc (s : State) : State :=
  if (s.safe.demA || s.safe.demB) && s.flag F.SAFE_IO_IN_A != s.flag F.SAFE_IO_IN_B && !s.safe.disc then
    (s.modSafe fun x => { x with disc := true }).sgi 0x02 0 false
  else s

/-- DISC_RELEASE: both inputs were low together and are high together. -/
def State.discRelease (s : State) : State :=
  if s.safe.disc then
    ((s.putb F.SAFE_IO_IN_A true).putb F.SAFE_IO_IN_B true).modSafe fun x => { x with disc := false, demA := false, demB := false }
  else s

/-! ### Conditions the island reads back -/

/-- Refresh the readouts: pin levels, condition bits of the enabled functions, value words. A demand ends when its input
is high. -/
def State.islandView (x : IslandIn) (s : State) : State :=
  let s := ((((s.putb F.SAFE_IO_IN_A x.inA).putb F.SAFE_IO_IN_B x.inB).putb F.SAFE_IO_FB_A x.fbA).putb F.SAFE_IO_FB_B x.fbB).putb F.SAFE_IO_RST x.rst
  let s := s.modSafe fun y => { y with demA := y.demA && !x.inA, demB := y.demB && !x.inB }
  let en (f : List Word → Nat → Bool) (n : Nat) : Bool := match s.safe.inForce with | some img => f img n | none => false
  let has (v : BitVec 8) (n : Nat) : Bool := v.toNat.testBit n
  let s := s.each chans fun n s =>
    let s := (s.putb (F.SAFE_SL_STAT_SLC_VIOL n) (has x.slc n && en slcEn n)).putb (F.SAFE_SL_STAT_SLD_VIOL n) (has x.sld n && en sldEn n)
    let s := (s.putb (F.SAFE_SL_STAT_SLS_VIOL n) (has x.sls n && en slsEn n)).putb (F.SAFE_SL_STAT_SLS_SIG n) (has x.sig n && en slsEn n)
    let s := s.putb (F.SAFE_SL_STAT_IN_FAULT n) (has x.inFault n && en (fun i n => monMask i n != 0) n)
    ((s.wr (A.SAFE_SL_IPK n) (pw x.ipk n)).wr (A.SAFE_SL_P n) (pw x.p n)).wr (A.SAFE_SL_F n) (pw x.f n)
  s.put F.SAFE_STAT_VIOL (chans.foldl (fun m n => if bits (s.rd (A.SAFE_SL_STAT n)) 3 0 ≠ 0 then m + 2 ^ n else m) 0)

/-- A violation of slice `c` (R335–R337): the condition bit `f` and SGI with `code`, while the function is enabled. -/
def State.slViolation (en : List Word → Nat → Bool) (f : Fld) (code c : Nat) (s : State) : State :=
  match s.safe.inForce with
  | some img => if en img c then ((s.putb f true).putBit F.SAFE_STAT_VIOL c true).sgi code c false else s
  | none => s
def State.slcViolation (c : Nat) (s : State) : State := s.slViolation slcEn (F.SAFE_SL_STAT_SLC_VIOL c) 0x10 c
def State.sldViolation (c : Nat) (s : State) : State := s.slViolation sldEn (F.SAFE_SL_STAT_SLD_VIOL c) 0x11 c
def State.slsViolation (c : Nat) (s : State) : State := s.slViolation slsEn (F.SAFE_SL_STAT_SLS_VIOL c) 0x12 c
def State.slsSigFault (c : Nat) (s : State) : State := s.slViolation slsEn (F.SAFE_SL_STAT_SLS_SIG c) 0x13 c

/-- A process fault of a monitored input, STUCK or MCLK (R324). -/
def State.islInput (code c : Nat) (hit : Nat → Bool) (s : State) : State :=
  match s.safe.inForce with
  | some img => if (List.range 12).any fun m => hit m && (monMask img c).testBit m then
      (s.putb (F.SAFE_SL_STAT_IN_FAULT c) true).sgi code c false else s
  | none => s
def State.islandInputStuck (c m : Nat) (s : State) : State := s.islInput 0x20 c (· == m)
def State.islandMclk (c : Nat) (s : State) : State := s.islInput 0x21 c fun _ => true

/-! ### The cross-check (R325) -/

def State.xchkN (s : State) : Nat := pf s.safeImg 4 6 0

/-- A missed cross-check window; three in a row are an XMISS fault. -/
def State.xMissed (s : State) : State :=
  let s := (s.inc F.SAFE_CNT2_XMISS_CNT).modSafe fun x => { x with xmiss := x.xmiss + 1 }
  if s.safe.xmiss = 3 then (s.raise F.SAFE_EVT_XCHK_FAIL).sgi 0x23 0 false else s

/-- SAFETY_CROSS_CHECK: phase 5 of a tick. `d`: channels of which a monitored input differs. -/
def State.crossCheck (h : Handover) (d : BitVec 8) (s : State) : State :=
  match h with
  | .badCheck => s.xMissed
  | .badCount => ((s.modSafe fun x => { x with xmiss := 0 }).raise F.SAFE_EVT_XCHK_FAIL).sgi 0x23 0 false
  | .good =>
    (s.modSafe fun x => { x with xmiss := 0 }).each chans fun c s =>
      if s.get (F.SAFE_SL_STAT_MON c) = 0 then s else
      let n := if d.toNat.testBit c then min (s.xchkN + 1) ((s.safe.xchk[c]?.getD 0) + 1) else 0
      let s := s.modSafe fun x => { x with xchk := x.xchk.setIfInBounds c n }
      if n = s.xchkN then (s.raise F.SAFE_EVT_XCHK_FAIL).sgi 0x22 c false else s

/-- OSC_FAULT (R326). -/
def State.oscFault (s : State) : State := s.sgi 0x31 0 true

/-! ### Outputs and their test (R331–R333) -/

/-- FB_FAULT: a feedback fault of output A or B. -/
def State.fbFault (_ : Bool) (s : State) : State := (s.raise F.SAFE_EVT_FB_FAIL).sgi 0x30 0 true

/-- OFF_PULSE_TEST: the output is driven low and its switch opens; no test runs while SGI is active or while the other
output is tested. -/
def State.offPulse (b : Bool) (s : State) : State :=
  if s.flag F.SAFE_STAT_SGI || s.safe.testA || s.safe.testB then s
  else if b then ((s.putb F.SAFE_IO_OUT_B false).putb F.SAFE_IO_FB_B false).modSafe fun x => { x with testB := true }
  else ((s.putb F.SAFE_IO_OUT_A false).putb F.SAFE_IO_FB_A false).modSafe fun x => { x with testA := true }

/-- OFF_PULSE_RESTORE: the output is driven high again; a feedback that does not read high is a feedback fault. -/
def State.offPulseRestore (b ok : Bool) (s : State) : State :=
  if b && s.safe.testB then
    let s := ((s.putb F.SAFE_IO_OUT_B true).putb F.SAFE_IO_FB_B ok).modSafe fun x => { x with testB := false }
    if ok then s else s.fbFault b
  else if !b && s.safe.testA then
    let s := ((s.putb F.SAFE_IO_OUT_A true).putb F.SAFE_IO_FB_A ok).modSafe fun x => { x with testA := false }
    if ok then s else s.fbFault b
  else s

/-! ### Resetting SGI (R338, R339) -/

/-- A limited-function or process condition is present. -/
def State.safeCondition (s : State) : Bool :=
  chans.any (fun n => s.rd (A.SAFE_SL_STAT n) &&& 0x1000F#32 != 0#32 || s.xchkN ≤ (s.safe.xchk[n]?.getD 0)) || 3 ≤ s.safe.xmiss

/-- The first reason that refuses the reset; 0 when it is accepted. -/
def State.rstReason (us : Nat) (s : State) : Nat :=
  if us < 100000 then 1
  else if 5000000 < us then 2
  else if !s.flag F.SAFE_IO_IN_A || !s.flag F.SAFE_IO_IN_B || s.safe.disc then 3
  else if s.safeCondition then 4
  else if s.flag F.SAFE_STAT_DFAULT then 5
  else if s.safe.inForce.isNone then 6
  else if s.flag F.SAFE_IO_FB_A || s.flag F.SAFE_IO_FB_B then 7
  else 0

/-- SAFE_RST_FALLING_EDGE: a pulse of `us` µs ends. It is judged only while SGI is active. -/
def State.safeRstFall (us : Nat) (x : IslandIn) (s : State) : State :=
  let s := s.islandView { x with rst := false }
  if !s.flag F.SAFE_STAT_SGI || s.safe.rst then s else
  let r := s.rstReason us
  if r = 0 then
    ((s.safeOuts true).modSafe fun y => { y with rst := true }).raise F.SAFE_EVT_RST_OK
  else ((s.put F.SAFE_IO_RST_WHY r).inc F.SAFE_CNT_RST_REJ_CNT).raise F.SAFE_EVT_RST_REJ

/-- SAFE_RST_STUCK: the pin has been high for longer than 5 s. -/
def State.safeRstStuck (s : State) : State := (s.putb F.SAFE_IO_RST true).raise F.SAFE_EVT_RST_STUCK

/-- RESET_FEEDBACK_CHECK: both feedbacks high end SGI and put a pending image in force; otherwise SGI continues with a
feedback fault. -/
def State.resetFeedback (fa fb : Bool) (s : State) : State :=
  if !s.safe.rst then s else
  let s := (s.putb F.SAFE_IO_FB_A fa).putb F.SAFE_IO_FB_B fb
  if fa && fb then
    let s := (s.putb F.SAFE_STAT_SGI false).modSafe fun x => { x with rst := false, chOff := false }
    if s.flag F.SAFE_STAT_PEND then
      ((s.putb F.SAFE_STAT_PEND false).modSafe fun x => { x with inForce := x.nv.img }).showMon
    else s
  else s.fbFault (!fb && fa)

/-! ### The safety operations (R342–R344) -/

/-- Write an entry of the change log; the newest 4,096 are kept. -/
def State.chgLog (ses port op : Nat) (old new : List Word) (s : State) : State :=
  let q := s.get F.SAFE_LOGSEQ_SEQ + 1
  (s.modSafe fun x => { x with
    nv := { x.nv with log := (⟨q, s.devTime, ses, port, op, old, new⟩ :: x.nv.log).take 4096 } }).put F.SAFE_LOGSEQ_SEQ q

def State.pwSet (s : State) : Bool := !s.safe.nv.hash.isEmpty
def State.safeOwner (s : State) (i : Nat) : Bool := s.safe.owner == some i
def State.safeUsed (s : State) : State := s.modSafe fun x => { x with opAt := s.clk }

/-- Seconds left of the block, rounded up. -/
def State.blockLeft (s : State) : Nat :=
  match s.safe.blockAt with
  | some t => (usClk 900000000 - (s.clk - t) + 799999999) / 800000000
  | none => 0

/-- The password bytes of a request: length 8–64 in w0, the words present. -/
def pwBytes (pay : List Word) : Option (List Byte) :=
  let n := pf pay 0 6 0
  if pok pay 0 0x7F && within 8 n 64 && pay.length == 1 + (n + 3) / 4 then some (payBytes (pay.drop 1) n) else none

/-- SAFE_UNLOCK: the state, the status and DETAIL. -/
def State.safeUnlock (i port : Nat) (pay : List Word) (s : State) : State × Nat × Nat :=
  match pwBytes pay with
  | none => (s, BAD_PARAM, 0)
  | some p =>
    if s.safe.blockAt.isSome then (s, REFUSED_SAFETY, s.blockLeft)
    else if !s.pwSet then (s, REFUSED_SAFETY, 0)
    else if Crypto.sha3_512 (s.safe.nv.salt ++ p) = s.safe.nv.hash then
      if s.safe.owner.isSome && !s.safeOwner i then (s, OWNED, 0)
      else (((s.modSafe fun x => { x with owner := some i, wrong := 0 }).safeUsed).putb F.SAFE_STAT_UNLOCKED true, OK, 0)
    else
      let d := imgDigest s.safeShown
      let s := (s.modSafe fun x => { x with wrong := x.wrong + 1 }).chgLog i port 2 d d
      let s := (s.inc F.SAFE_CNT2_PW_FAIL_CNT).raise F.SAFE_EVT_PW_FAIL
      let s := if 3 ≤ s.safe.wrong then s.modSafe fun x => { x with blockAt := some s.clk } else s
      (s, REFUSED_SAFETY, s.blockLeft)

/-- The unlock of session `i` ends: lock, session close, expiry. -/
def State.safeLock (i : Nat) (s : State) : State :=
  if s.safeOwner i then (s.modSafe fun x => { x with owner := none, staged := none }).putb F.SAFE_STAT_UNLOCKED false else s

/-- SAFE_UNLOCK_EXPIRY: 10 min without a safety operation. -/
def State.unlockExpiry (s : State) : State :=
  match s.safe.owner with
  | some i => if s.safe.opAt + usClk 600000000 ≤ s.clk then s.safeLock i else s
  | none => s

/-- UNLOCK_BLOCK_END: the 15 min have passed. -/
def State.blockEnd (s : State) : State :=
  if s.safe.blockAt.isSome && s.blockLeft = 0 then s.modSafe fun x => { x with blockAt := none, wrong := 0 } else s

/-- SAFE_STAGE. -/
def State.safeStage (i : Nat) (img : List Word) (s : State) : State × Nat :=
  if !s.safeOwner i then (s, REFUSED_SAFETY)
  else if !imageOk (imgClean img) then (s.safeUsed, BAD_PARAM)
  else ((s.modSafe fun x => { x with staged := some (imgClean img) }).safeUsed, OK)

/-- SAFE_COMMIT: the commit starts (ACCEPTED), or is refused. -/
def State.safeCommit (i port : Nat) (s : State) : State × Nat :=
  if !s.safeOwner i || !s.flag F.SAFE_STAT_SGI then (s, REFUSED_SAFETY)
  else if (s.mode != mSTANDBY && s.mode != mSERVICE) || s.safe.commit.isSome then (s.safeUsed, NOT_IN_MODE)
  else match s.safe.staged with
    | none => (s.safeUsed, BAD_PARAM)
    | some img => ((s.modSafe fun x => { x with commit := some (img, i, port), staged := none }).safeUsed, ACCEPTED)

/-- SAFE_COMMIT_DONE: image and change-log entry are on the M-die, or the previous image stays. The status of the reply. -/
def State.safeCommitDone (ok : Bool) (s : State) : State × Option Nat :=
  match s.safe.commit with
  | none => (s, none)
  | some (img, i, port) =>
    let s0 := s.modSafe fun x => { x with commit := none }
    if ok then
      let old := imgDigest s.safeShown
      let s1 := (s0.modSafe fun x => { x with nv := { x.nv with img := some img } }).chgLog i port 1 old (imgDigest img)
      (((s1.putb F.SAFE_STAT_PEND true).showImage).raise F.SAFE_EVT_CFG_COMMIT, some OK)
    else (s0, some INTERNAL_FAULT)

/-- 32 free bytes: the salt of a new password. -/
def State.newSalt (s : State) : List Byte × State :=
  (List.range 32).foldl (fun x _ => let (v, s) := x.2.fresh; (x.1 ++ [BitVec.ofNat 8 v], s)) ([], s)

/-- SAFE_SET_PW. -/
def State.safeSetPw (i port : Nat) (pay : List Word) (s : State) : State × Nat :=
  match pwBytes pay with
  | none => (s, BAD_PARAM)
  | some p =>
    if s.pwSet && !s.safeOwner i then (s, REFUSED_SAFETY)
    else if !s.pwSet && s.mode != mSERVICE then (s, NOT_IN_MODE)
    else
      let d := imgDigest s.safeShown
      let (salt, s) := s.newSalt
      let s := s.modSafe fun x => { x with nv := { x.nv with salt := salt, hash := Crypto.sha3_512 (salt ++ p) } }
      (((s.chgLog i port 0 d d).putb F.SAFE_STAT_PW_SET true).safeUsed, OK)

/-- SAFE_LOG_READ: entries from sequence number `q`, at most `n`, and whether earlier ones were overwritten. -/
def State.safeLogRead (q n : Nat) (s : State) : List Word × Bool :=
  let l := (s.safe.nv.log.reverse.filter fun e => q ≤ e.seq).take n
  let oldest := match s.safe.nv.log.getLast? with | some e => e.seq | none => 0
  (l.flatMap fun e => [wd e.seq, wd (e.time / 2 ^ 32), wd e.time, wd (e.ses + 16 * e.port + 256 * e.op)] ++ e.old ++ e.new ++
    [0#32, 0#32, 0#32, 0#32], decide (max q 1 < oldest))

/-- WAKE (R327, R343, R329): SGI active with POWERUP, the image restored; `test` passed its self-test. -/
def State.safeWake (nv : SafeNv) (test : Bool) (s : State) : State :=
  let img := match nv.img with | some i => if imageOk i then some i else none | none => none
  let s := s.modSafe fun _ => { nv := { nv with img := img }, inForce := img }
  let s := (s.showImage.showMon).putb F.SAFE_STAT_PW_SET s.pwSet
  let s := match nv.log.head? with | some e => s.put F.SAFE_LOGSEQ_SEQ e.seq | none => s
  let s := if test then s else s.sgi 0x32 0 true
  if img.isNone then s.sgi 0x33 0 true else s

end Sys2Proof.Machine
end

