-- ==== Sys2Proof/Machine/Health.lean ====
section
/-! DEFINITION. Failover and tail drop, the health monitor, the event log and the management subsystem (12). -/

namespace Sys2Proof.Machine

/-! ### Tail drop (R354, R355) -/

/-- Tail drop of channel `c`, with the clock of its cause. -/
def State.tailDrop (c : Nat) (s : State) : State :=
  if s.cst c = sTAIL then s else
  let s := ((s.setKm c false).chopOff c s.clk).put (F.ROLE_STAT_CH_STATE c) sTAIL
  let s := s.putb (F.ENG_STAT_TAIL c) true
  let s := s.modCh c fun x => { x with
    startNext := false, cutAt := 0, catchUp := none, foNext := false
    hb := x.hb.map fun h => { h with extrap := false }
    grid := { x.grid with pend := none, riding := false, reconn := false, actNext := false, stopAt := none, offNext := false, black := false, blackAt := none }
    dc := { x.dc with actNext := false, stopAt := none, offNext := false }
    mach := { x.mach with actNext := false, stopping := false, start := 0 } }
  let s := s.applyForce c
  (s.cause cTAIL).raise F.HEALTH_EVT_TAIL_DROP

/-! ### Failover (R349–R352) -/

/-- The channel ENG8 serves; 15 none. -/
def State.eng8 (s : State) : Nat := s.get F.HEALTH_FO_CH
def State.spareAvail (s : State) (c : Nat) : Bool := s.flag (F.ENG_STAT_SPARE_AVAIL c)
/-- The channel whose failover has not reached step 4. -/
def State.foPending (s : State) : Option Nat := chans.find? fun c => (s.chn c).foNext

/-- Discard what contexts `k` and later wrote and released in this tick (R82). -/
def State.discard (c k : Nat) (s : State) : State :=
  let x := s.chn c
  let s := x.undo.foldl (fun s u => if k ≤ u.1 && s.rd u.2.1 == u.2.2.2 then s.wr u.2.1 u.2.2.1 else s) s
  let s := x.undoSh.foldl (fun s u => if k ≤ u.1 && (s.hb c u.2.1).shLo == u.2.2.2.2 then
    s.modHb c u.2.1 fun h => { h with shLo := u.2.2.1, shHi := u.2.2.2.1, fresh := false, rel8 := false } else s) s
  s.modCh c fun x => { x with undo := x.undo.filter fun u => u.1 < k, undoSh := x.undoSh.filter fun u => u.1 < k, cutAt := min x.cutAt k }

/-- Failover of channel `c` whose context `k` failed: steps 1 to 3 of R349; step 4 at the next boundary. -/
def State.failover (c k : Nat) (s : State) : State :=
  let s := (s.cause cFAILOVER).raise F.HEALTH_EVT_FAILOVER
  let feeds (h : Nat) : Bool := match s.feeder c h with | some j => k ≤ j | none => false
  let s := s.each hbs fun h s => s.when (feeds h && !s.vpCarrier c) fun s => s.modHb c h fun x => { x with extrap := true, dExt := none, rel8 := false }
  (s.wr A.HEALTH_FO_ERR 0#32).modCh c fun x => { x with catchUp := some k, foNext := true }

/-- A mismatch or an overrun in the engine that serves channel `c`, in context `k` (R349, R352). -/
def State.engineFault (c k : Nat) (evt : Fld) (s : State) : State :=
  if s.cst c = sTAIL then s else
  let s := (s.discard c k).raise evt
  if s.eng8 = c || !s.spareAvail c then s.tailDrop c
  else match s.foPending with
    | none => s.failover c k
    | some p => if c < p then (s.tailDrop p).failover c k else s.tailDrop c

/-- The spare fails its self-test (01 R24). -/
def State.spareFail (s : State) : State :=
  ((s.each chans fun c s => s.putb (F.ENG_STAT_SPARE_AVAIL c) false).putb F.HEALTH_FO_SPARE_OK false).cause cSPARE

/-- LOCKSTEP_MISMATCH in engine `e` (8: ENG8), context `k`. -/
def State.lockstep (e k : Nat) (s : State) : State :=
  if e = 8 then
    (if s.eng8 < 8 then s.engineFault s.eng8 k (F.ENG_STAT_MISMATCH s.eng8) else s.spareFail)
  else if s.bitOf F.HEALTH_FO_OUT e then s.putBit F.HEALTH_FO_TEST_PASS e false
  else s.engineFault e k (F.ENG_STAT_MISMATCH e)

/-- GUARD_POINT (01 R32): phase 6 closes; overruns are taken in channel order. -/
def State.guardPoint (late : List (Chan × Ix16)) (s : State) : State :=
  let s := s.modT fun t => { t with open6 := false }
  s.each chans fun c s => match late.find? fun p => p.1.val == c with
    | some p => s.engineFault c p.2.val (F.ENG_STAT_OVERRUN c)
    | none => s

/-- ENG8_TAKEOVER (step 4): at the tick boundary. -/
def State.takeover (s : State) : State :=
  match s.foPending with
  | none => s
  | some c =>
    let s := ((s.modCh c fun x => { x with foNext := false }).putb (F.ENG_STAT_SERVED c) true).put F.HEALTH_FO_CH c
    let s := (s.putBit F.HEALTH_FO_OUT c true).putb F.HEALTH_FO_SPARE_OK false
    (s.each chans fun k s => s.putb (F.ENG_STAT_SPARE_AVAIL k) false).cause cSPARE

/-- The self-tests of a tick: the free spare (R24) and the engines out of service (R351). -/
def State.engineTests (spareOk : Bool) (pass : BitVec 9) (s : State) : State :=
  let s := s.when (s.eng8 = 15 && !spareOk && s.flag F.HEALTH_FO_SPARE_OK) State.spareFail
  s.each chans fun c s => if s.bitOf F.HEALTH_FO_OUT c then s.putBit F.HEALTH_FO_TEST_PASS c (pass.toNat.testBit c) else s

/-- Context-store errors met in a tick (R22). -/
def State.eccErr (e : EccErr) (s : State) : State :=
  let c := e.c.val
  if e.uncorr then (s.raise (F.ENG_STAT_ECC_UNCORR c)).tailDrop c
  else ((s.inc (F.ENG_ECC_CORR_CNT c)).put (F.ENG_ECC_LAST_CTX c) e.k.val).put (F.ENG_ECC_LAST_WORD c) e.w.toNat

/-! ### Temperature (R360, R363, R364) -/

/-- The reading of sensor `i` in 0.1 °C. -/
def State.temp (s : State) (i : Nat) : Int := fToUnits (s.rd (A.HEALTH_TEMP i)) 10
def State.sensorOk (s : State) (i : Nat) : Bool := !s.log.excl.toNat.testBit i
/-- The hottest valid sensor of a list. -/
def State.hottest (s : State) (l : List Nat) : Option Nat :=
  (l.filter s.sensorOk).foldl (fun b i => match b with | none => some i | some j => if s.temp j < s.temp i then some i else b) none

/-- A threshold with hysteresis, in 0.1 °C. -/
def thermOn (was : Bool) (t enter leave : Int) : Bool := if enter < t then true else if t < leave then false else was

def cDie : List Nat := List.range 12

/-- Enter a shedding step (each entry is an event). -/
def State.shed (s : State) : State := s.raise F.HEALTH_EVT_SHED

/-- Judge the present readings (R363, R39, R364). -/
def State.thermal (s : State) : State :=
  let few := (cDie.filter s.sensorOk).length < 4
  let tc : Int := if few then 100000 else match s.hottest cDie with | some i => s.temp i | none => 100000
  let hot := s.hottest ix16s
  let s := s.putb F.HEALTH_THERM_SENSOR_FAIL few
  let s := match hot with
    | some i => (s.put F.HEALTH_THERM_HOT i).put F.HEALTH_THERM_TMAX (twos 16 (s.temp i))
    | none => s
  let was := s.get F.HEALTH_THERM_STEP
  let on1 := thermOn (decide (1 ≤ was)) tc 1250 1200
  let on2 := thermOn (decide (2 ≤ was)) tc 1280 1230
  let on3 := thermOn (decide (3 ≤ was)) tc 1310 1260
  let now := if on3 then 3 else if on2 then 2 else if on1 then 1 else 0
  let s := s.put F.HEALTH_THERM_STEP now
  let s := s.each [1, 2, 3] fun n s => if was < n ∧ n ≤ now then s.shed else s
  let s := if (was = 0) = (now = 0) then s else
    s.each pts fun p s => (s.putb (F.METER_STAT_SUPRA_SHED p) (decide (0 < now))).showWindow p
  let blk := s.flag F.SYS_BURST_THERM_BLOCK
  let blkN := thermOn blk tc 1350 1300
  let s := (s.putb F.SYS_BURST_THERM_BLOCK blkN).putb F.HEALTH_THERM_BURST_BLOCK blkN
  let s := if blkN && !blk then s.shed else s
  let ta : Int := match s.hottest [12, 13, 14, 15] with | some i => s.temp i | none => -100000
  let inh := s.flag F.HEALTH_THERM_INHIBIT
  let cool := !few && (ix16s.filter s.sensorOk).all fun i => decide (s.temp i < 1300)
  if !inh && (decide (1400 < tc) || decide (1400 < ta)) then
    let s := ((s.putb F.HEALTH_THERM_INHIBIT true).raise F.HEALTH_EVT_INHIBIT).runUpdate
    if s.mode = mRUN ∨ s.mode = mRIDE ∨ s.mode = mSERVICE then s.modT fun t => { t with toMode := some (mSTANDBY, 5) } else s
  else if inh && cool then (s.putb F.HEALTH_THERM_INHIBIT false).runUpdate
  else s

/-- TEMPERATURE_READ: all 16 sensors, readings in 0.1 °C, and the rails in V as binary32 (R361). -/
def State.temperatureRead (t : List Int) (v : List Word) (s : State) : State :=
  let s := s.each (List.range 7) fun j s => match v[j]? with | some x => s.wr (A.HEALTH_VMON j) x | none => s
  (s.each ix16s fun i s => match t[i]? with | some v => s.wr (A.HEALTH_TEMP i) (fOfRat v 10) | none => s).thermal

/-- SENSOR_EXCLUSION and SENSOR_READMISSION. -/
def State.sensorExclude (i : Nat) (s : State) : State :=
  if !s.sensorOk i then s else
  let s := s.modLog fun l => { l with excl := l.excl ||| BitVec.ofNat 16 (2 ^ i) }
  ((s.raise F.HEALTH_EVT_SENSOR_EXCL).cause cMONITOR).thermal
def State.sensorReadmit (i : Nat) (s : State) : State :=
  if s.sensorOk i then s else
  (s.modLog fun l => { l with excl := l.excl &&& ~~~(BitVec.ofNat 16 (2 ^ i)) }).thermal

/-! ### Ageing (R362, R359) -/

/-- The AGEING cause follows DAYS, ADV_DAYS and WORST_PPM. -/
def State.ageEval (s : State) : State :=
  let worst := s.get F.HEALTH_AGE_WORST_PPM
  let late := decide (s.get F.HEALTH_AGE_DAYS ≤ s.get F.HEALTH_AGE_CFG_ADV_DAYS)
  if late || decide (24000 ≤ worst) then
    (if s.bitOf F.HEALTH_SRQ_CAUSE cAGEING then s else (s.cause cAGEING).raise F.HEALTH_EVT_AGE_ADV)
  else s.uncause cAGEING

/-- AGEING_MEASUREMENT: slowdowns in ppm and the projected days; thermal step 2 defers it. -/
def State.ageing (ro : List Int) (days : Nat) (s : State) : State :=
  if 2 ≤ s.get F.HEALTH_THERM_STEP then s else
  let s := s.each (List.range 24) fun k s => match ro[k]? with | some v => s.wr (A.HEALTH_RO k) (wd (twos 32 v)) | none => s
  let worst := ro.foldl max 0
  ((s.put F.HEALTH_AGE_WORST_PPM (min 65535 worst.toNat)).put F.HEALTH_AGE_DAYS days).ageEval

/-! ### The log writer (R366–R368) -/

/-- Queue the latest occurrence of a source that has none in the queue, while the queue has room. -/
def State.logRefill (s : State) : State :=
  match s.log.pend.getLast? with
  | some (src, n, r) =>
    if s.log.queue.length < 256 then
      ((s.modLog fun l => { l with queue := l.queue ++ [{ r with more := n - 1 }], pend := l.pend.filter fun x => x.1 != src }).inc
        F.HEALTH_LOG_COAL_V (n - 1)).put F.HEALTH_LOG_WR_QDEPTH (s.log.queue.length + 1)
    else s
  | none => s

def State.lseq (s : State) : Nat := s.get64 A.HEALTH_LOG_SEQ_LO

/-- Put a record into the ring of the M-die. -/
def State.logPut (r : LogRec) (s : State) : State :=
  let q := s.lseq + 1
  let s := s.modLog fun l => { l with ring := ({ r with lseq := q } :: l.ring).take 65536 }
  ((s.put64 A.HEALTH_LOG_SEQ_LO q).inc F.HEALTH_LOG_WR_IDX)

/-- LOG_RECORD_WRITE: the oldest queued record, while the MGS runs and no tail has been committed. -/
def State.logWrite (s : State) : State :=
  if !s.flag F.HEALTH_MGS_RUNNING || s.er.tail then s else
  match s.log.queue with
  | [] => s
  | r :: q =>
    (((s.modLog fun l => { l with queue := q }).logPut r).put F.HEALTH_LOG_WR_QDEPTH q.length).logRefill

/-- The bytes of a record. -/
def LogRec.body (r : LogRec) : List Byte :=
  let fl := (Config.severity r.src).toNat + 4 * b2n (r.more != 0 || r.restored) + 8 * b2n r.restored + 16 * b2n r.tsrc
  le 2 r.src ++ le 1 fl ++ le 1 r.ses ++ le 8 r.lseq ++ le 8 r.tick ++ le 8 r.time ++ le 4 r.count ++ le 4 r.more ++
    (List.range 6).flatMap fun i => le 4 (pw r.data i).toNat
def LogRec.words (r : LogRec) : List Word := bytesToWords (r.body ++ le 4 (Crypto.crc32c r.body).toNat)

/-- Power failure copies every counter into the retention copies (R368). -/
def State.retain (s : State) : State :=
  s.modLog fun l => { l with retained := ((s.regs.filter fun x => A.HEALTH_EVCNT 0 ≤ x.1 && x.1 < A.HEALTH_EVCNT 1536).map fun x => ((x.1 - A.HEALTH_EVCNT 0) / 4, s.rd x.1)).eraseDups }

/-- Counters and summary records at WAKE; `valid`: the retention copies are. -/
def State.logRestore (valid : Bool) (s : State) : State :=
  let lastOf (src : Nat) : Nat := match s.log.ring.find? fun r => r.src == src with | some r => r.count | none => 0
  let srcs := (s.log.ring.map fun r => r.src).eraseDups
  if valid then
    let s := s.log.retained.foldl (fun s x => s.wr (A.HEALTH_EVCNT x.1) x.2) s
    s.log.retained.foldl (fun s x =>
      let d := (x.2.toNat + 2 ^ 32 - lastOf x.1) % 2 ^ 32
      if d = 0 || 2 ^ 31 ≤ d then s else
      s.logPut { src := x.1, ses := 255, restored := true, tsrc := !s.ptpLocked, time := s.devTime, count := x.2.toNat, more := d - 1 }) s
  else
    let s := srcs.foldl (fun s i => s.wr (A.HEALTH_EVCNT i) (wd (lastOf i))) s
    s.bare 0 [1#32]

/-! ### MGS and pool (R370, R385) -/

/-- MGS_WATCHDOG_RESTART. -/
def State.mgsRestart (s : State) : State :=
  if !s.flag F.HEALTH_MGS_RUNNING then s else
  (((s.putb F.HEALTH_MGS_RUNNING false).inc F.HEALTH_MGS_RESTART_CNT).cause cMONITOR).raise F.HEALTH_EVT_MGS_RESTART

/-- MGS_RESTART_COMPLETE: the replies held for its ports are sent. -/
def State.mgsComplete (s : State) : State :=
  if s.flag F.HEALTH_MGS_RUNNING then s else
  let l := s.host.held
  let s := (s.putb F.HEALTH_MGS_RUNNING true).modHost fun h => { h with held := [] }
  (l.foldl State.send s).logRefill

/-- The pool accounts for every unit (R385). -/
def State.poolOk (s : State) : Bool :=
  let grants := ix16s.foldl (fun n i => n + s.get (F.HOST_SES_CR_GRANT i)) 0
  s.get F.HOST_POOL_FREE + grants + s.get F.HOST_POOL_STREAM_RES == 4096

/-- POOL_AUDIT_CHECK. -/
def State.poolAudit (s : State) : State := if s.poolOk then s else (s.bare 5).cause cMONITOR

end Sys2Proof.Machine
end

