-- ==== Sys2Proof/Machine/Clocks.lean ====
section
/-! DEFINITION. Clocks, supplies and the brumation domain (16). PLL `b`: false PLLA, true PLLB. -/

namespace Sys2Proof.Machine

/-! ### PLLs (R447–R458) -/

def fLock (b : Bool) : Fld := if b then F.CLK_STAT_LOCK_B else F.CLK_STAT_LOCK_A
def fRef (b : Bool) : Fld := if b then F.CLK_STAT_REF_B else F.CLK_STAT_REF_A
def fGated (b : Bool) : Fld := if b then F.CLK_STAT_GATED_B else F.CLK_STAT_GATED_A
def fLol (b : Bool) : Fld := if b then F.CLK_EVT_LOL_B else F.CLK_EVT_LOL_A
def fRefLoss (b : Bool) : Fld := if b then F.CLK_EVT_REFLOSS_B else F.CLK_EVT_REFLOSS_A
def State.drv (s : State) : Bool := s.flag F.CLK_STAT_DRV
def State.relock (s : State) (b : Bool) : Bool := if b then s.t.relockB else s.t.relockA
def State.setRelock (b v : Bool) (s : State) : State :=
  s.modT fun t => if b then { t with relockB := v } else { t with relockA := v }

/-- The clock tree moves to PLL `b` (R456). -/
def State.switchTo (b : Bool) (s : State) : State := ((s.putb F.CLK_STAT_DRV b).inc F.CLK_CNT_SW_CNT).raise F.CLK_EVT_SWITCHED

/-- PLL `b` is gated off with event `e` (R454): the other drives when it is locked, else the engine clock stops (R458). -/
def State.pllLost (b : Bool) (e : Fld) (s : State) : State :=
  let s := ((s.putb (fLock b) false).putb (fGated b) true).setRelock b false
  let s := (s.inc F.CLK_CNT_LOL_CNT).raise e
  let s := if s.drv == b && s.flag (fLock (!b)) then s.switchTo (!b) else s
  let s := s.cause cCLOCK
  if s.drv == b then s.modT fun t => { t with clkStop := some s.devTime, noRun := true } else s

/-- REFERENCE_LOSS and LOSS_OF_LOCK. A PLL already gated loses no more. -/
def State.referenceLoss (b : Bool) (s : State) : State :=
  let was := s.flag (fRef b)
  let s := s.putb (fRef b) false
  if was && !s.flag (fGated b) then s.pllLost b (fRefLoss b) else s
def State.lossOfLock (b : Bool) (s : State) : State :=
  if s.flag (fGated b) || !s.flag (fLock b) then s else s.pllLost b (fLol b)

/-- PLL_RELOCK: a gated PLL with its reference back and lock held for 10 ms is the standby PLL. -/
def State.pllRelock (b : Bool) (s : State) : State :=
  if s.flag (fGated b) && s.t.clkStop.isNone then
    (((s.putb (fRef b) true).putb (fLock b) true).putb (fGated b) false).raise F.CLK_EVT_RELOCK
  else s

/-- DOUBLE_FAULT_RECOVERY: PLL `b` has relocked and drives; STANDBY at the first tick. -/
def State.doubleRecovery (b : Bool) (s : State) : State :=
  match s.t.clkStop with
  | none => s
  | some t0 =>
    let s := (((s.putb (fRef b) true).putb (fLock b) true).putb (fGated b) false).putb F.CLK_STAT_DRV b
    let gap := s.devTime - t0
    let s := (s.modT fun t => { t with clkStop := none }).modEr fun e => { e with unmet := e.unmet + gap }
    let s := (s.raise F.CLK_EVT_DOUBLE).runUpdate
    if s.mode = mRUN ∨ s.mode = mRIDE ∨ s.mode = mSERVICE then s.modT fun t => { t with toMode := some (mSTANDBY, 6) } else s

/-- CLK_CFG_SWITCH accepted (R455); DIV_COMMIT accepted (R452): both act at the next tick boundary. -/
def State.clkSwitch (s : State) : State := s.modT fun t => { t with clkSw := true }
def State.divCommit (s : State) : State := s.modT fun t => { t with divPend := true }

def dividers (w : Word) : Nat := bits w 13 0
/-- A valid (FBDIV, POST) pair (R448). -/
def divPairOk (w : Word) : Bool :=
  let p := (bits w 7 0, bits w 9 8)
  p == (64, 0) || p == (96, 1) || p == (128, 2)
/-- The band a divider word names is valid for its VCO frequency (R451): FMIN ≤ 25 × FBDIV ≤ FMAX in MHz. -/
def State.bandOk (s : State) (b : Bool) (w : Word) : Bool :=
  let i := bits w 13 10
  let f := 25 * bits w 7 0
  let e := s.rd (if b then A.CLK_BAND_TBLB i else A.CLK_BAND_TBLA i)
  decide (bits e 11 0 ≤ f) && decide (f ≤ bits e 23 12)

def State.divChanges (s : State) (b : Bool) : Bool :=
  if b then dividers (s.rd A.DIV_SHADOWB) != dividers (s.rd A.DIV_ACTIVEB) else dividers (s.rd A.DIV_SHADOWA) != dividers (s.rd A.DIV_ACTIVEA)

/-- The checks of a commit (R452). -/
def State.divOk (s : State) : Bool :=
  let a := s.rd A.DIV_SHADOWA
  let b := s.rd A.DIV_SHADOWB
  divPairOk a && divPairOk b && s.bandOk false a && s.bandOk true b && !(s.divChanges false && s.divChanges true) &&
    !(s.divChanges false && s.flag F.CLK_STAT_LOCK_A && !s.flag F.CLK_STAT_LOCK_B) &&
    !(s.divChanges true && s.flag F.CLK_STAT_LOCK_B && !s.flag F.CLK_STAT_LOCK_A)

/-- The boundary of a switch or a commit (R453, R455). -/
def State.clkBoundary (s : State) : State :=
  let s := if s.t.clkSw then
      (if s.flag (fLock (!s.drv)) then s.switchTo (!s.drv) else s).modT fun t => { t with clkSw := false }
    else s
  if !s.t.divPend then s else
  let ca := s.divChanges false
  let cb := s.divChanges true
  let s := if (if s.drv then cb else ca) && s.flag (fLock (!s.drv)) then s.switchTo (!s.drv) else s
  let s := if ca then (s.putb F.CLK_STAT_LOCK_A false).setRelock false true else s
  let s := if cb then (s.putb F.CLK_STAT_LOCK_B false).setRelock true true else s
  ((s.wr A.DIV_ACTIVEA (s.rd A.DIV_SHADOWA)).wr A.DIV_ACTIVEB (s.rd A.DIV_SHADOWB)).modT fun t => { t with divPend := false }

/-- PLL_COMMIT_RELOCK and COMMIT_RELOCK_TIMEOUT (R453). -/
def State.commitRelock (b : Bool) (s : State) : State :=
  if s.relock b then (s.putb (fLock b) true).setRelock b false else s
def State.commitTimeout (b : Bool) (s : State) : State := if s.relock b then s.pllLost b (fLol b) else s

/-- ENGINE_CLOCK_ABSENT (R458, 08 R245): a line-pair fault of every half-bridge. -/
def State.engineAbsent (s : State) : State := s.each chans fun c s => s.each hbs fun h s => s.linkFault c h

/-- PLL_LOCK_TIMEOUT (R450). -/
def State.pllLockTimeout (b : Bool) (s : State) : State := if s.flag (fLock b) then s else s.cause cCLOCK

/-! ### Supplies (R459–R463) -/

/-- Power failure detected: books (10 R309), counters (12 R368), PF and STANDBY at the next boundary. -/
def State.powerFail (s : State) : State :=
  if s.flag F.PWR_STAT_PF then s else
  let s := ((s.putb F.PWR_STAT_PF true).inc F.PWR_CNT_PF_CNT).raise F.PWR_EVT_PF_DET
  let s := (s.modEr fun e => { e with stopNext := e.stopAt.isNone, resume := false, tail := e.tail && e.stopAt.isSome }).retain.runUpdate
  if s.mode = mRUN ∨ s.mode = mRIDE ∨ s.mode = mSERVICE then s.modT fun t => { t with toMode := some (mSTANDBY, 4) } else s

/-- PWRFAIL_ASSERT, RAIL_WARNING, RAIL_OVER_VOLTAGE (R461). -/
def State.pwrfail (s : State) : State := (s.putb F.PWR_STAT_PF_PIN true).powerFail
def State.railWarning (r : Nat) (s : State) : State :=
  ((s.putBit F.PWR_STAT_WARN r true).raise F.PWR_EVT_UV_WARN).powerFail
def State.railOver (r : Nat) (s : State) : State :=
  ((((s.putBit F.PWR_STAT_OV r true).inc F.PWR_CNT_OV_CNT).raise F.PWR_EVT_OV_EVT).cause cMONITOR).powerFail

/-- POWER_FAIL_RESUME (R463, 10 R311): detection has ended for 10 ms. -/
def State.powerResume (s : State) : State :=
  if !s.flag F.PWR_STAT_PF then s else
  let s := ((s.put F.PWR_STAT_WARN 0).put F.PWR_STAT_OV 0).putb F.PWR_STAT_PF_PIN false
  ((((s.putb F.PWR_STAT_PF false).raise F.PWR_EVT_PF_RESUME).modEr fun e => { e with resume := true }).runUpdate)

/-- The device is reset: what the M-die, the fuses and the brumation domain keep stays; the rest is as after reset. -/
def State.devReset (s : State) : State :=
  { State.reset with
    pending := s.pending
    regs := s.regs.filter fun x => decide (0x60000 ≤ x.1) && decide (x.1 < 0x70000)
    freeCtr := s.freeCtr
    er := { ring := s.er.ring, snaps := s.er.snaps, ptrA := s.er.ptrA, ptrB := s.er.ptrB, next := s.er.next, cal := s.er.cal }
    safe := { nv := s.safe.nv }
    log := { ring := s.log.ring, retained := s.log.retained }
    host := { tx1 := s.host.tx1, tx2 := s.host.tx2, fwd := s.host.fwd, eth := s.host.eth }
    ka := s.ka
    nv := { s.nv with causes := s.get F.HEALTH_SRQ_CAUSE }
    t := { held := true } }

/-- RAIL_BELOW_RESET (R460): the device is held in reset; with the brumation domain running it is in BRUMATE (R478). -/
def State.railReset (s : State) : State :=
  if s.t.held then s else
  let s := s.devReset
  if s.ka.on then s.put F.SYS_MODE_MODE mBRUMATE else s

/-! ### The brumation domain (R464–R472) -/

def State.modKa (f : KaSt → KaSt) (s : State) : State := { s with ka := f s.ka }

/-- V_ADMIT in mV for a declared capacitance in µF, rounded up to 10 mV (R472). -/
def admitMv (uf : Nat) : Nat :=
  let n := 40000 + (4500000 + uf - 1) / uf
  10 * (((List.range 300).find? fun k => n ≤ k * k).getD 300)

/-- The retention copy of a counter rises by one. -/
def State.retainBump (src : Nat) (s : State) : State × Nat :=
  let n := (((s.log.retained.find? fun x => x.1 == src).map fun x => x.2.toNat).getD 0 + 1) % 2 ^ 32
  (s.modLog fun l => { l with retained := (src, wd n) :: l.retained.filter fun x => x.1 != src }, n)

/-- BRUMATION_BURST or BURST_REFUSED (R471, R472). -/
def State.burst (src typ count peak dur : Nat) (s : State) : State :=
  if s.get F.KA_STORE_STORE_MV < s.get F.KA_ADMIT_ADMIT_MV then
    ((s.retainBump 34).1.inc F.KA_DEFER_DEFER).mark F.KA_EVT_DEFER_EVT
  else
    let r : KaRec := ⟨src, typ, s.ka.kseq + 1, s.get64 A.KA_RTC_LO, count, peak, dur⟩
    let s := s.modKa fun k => { k with ring := (r :: k.ring).take 256, head := (k.head + 1) % 256, kseq := k.kseq + 1 }
    ((s.put F.KA_RING_HEAD s.ka.head).put F.KA_RING_KSEQ s.ka.kseq).inc F.KA_DEFER_BURSTS

/-- An occurrence of source 32 or 33: in BRUMATE counted in retention with a burst; else an event of the log. -/
def State.kaOccur (src typ peak dur : Nat) (f : Fld) (s : State) : State :=
  if s.t.held then
    let (s, n) := (s.mark f).retainBump src
    s.burst src typ n peak dur
  else (s.raise f).bare src

/-- DOMAIN_START (R465, R468). -/
def State.domainStart (s : State) : State :=
  if s.ka.on then s else
  let s := (s.modKa fun k => { k with on := true }).put64 A.KA_RTC_LO 0
  let s := s.putb F.KA_STAT_RTC_LOST true
  if s.t.held then s.put F.SYS_MODE_MODE mBRUMATE else s

/-- DOMAIN_RESET: the RTC and the retention memory are lost. -/
def State.domainReset (s : State) : State :=
  let s := { s with regs := s.regs.filter fun x => !(decide (0x60000 ≤ x.1) && decide (x.1 < 0x70000)) }
  let s := s.modKa fun k => { ring := k.ring, head := k.head, kseq := k.kseq, imported := k.imported, wasReset := true }
  s.modLog fun l => { l with retained := [] }

/-- The shock threshold in mV (R470). -/
def State.shkTh (s : State) : Nat := 500 * (s.get F.KA_CFG_SHK_TH + 1)

/-- Sample the tamper input (R469). -/
def State.tamper (high : Bool) (s : State) : State :=
  if !s.flag F.KA_CFG_TAMP_EN then s else
  let s := s.modKa fun k => { k with hi := if high then min 3 (k.hi + 1) else 0, lo := if high then 0 else min 3 (k.lo + 1) }
  let s := if !s.ka.isOpen && s.ka.hi = 3 then (s.modKa fun k => { k with isOpen := true }).kaOccur 32 1 0 0 F.KA_EVT_TAMP_EVT
    else if s.ka.isOpen && s.ka.lo = 3 then (s.modKa fun k => { k with isOpen := false }).kaOccur 32 2 0 0 F.KA_EVT_TAMP_EVT
    else s
  s.putb F.KA_STAT_TAMPER s.ka.isOpen

/-- A keep-alive tick of a shock event (R470). -/
def State.shockTick (mv : Nat) (s : State) : State :=
  if !s.flag F.KA_STAT_SHOCK then s else
  let s := s.modKa fun k =>
    if s.shkTh < mv then { k with peak := max k.peak mv, dur := k.dur + 1, below := 0 } else { k with peak := max k.peak mv, below := k.below + 1 }
  if s.ka.below < 10 then s else
  (s.putb F.KA_STAT_SHOCK false).kaOccur 33 3 (s.ka.peak / 10) (min 65535 s.ka.dur) F.KA_EVT_SHK_EVT

/-- KEEP_ALIVE_TICK (R467): 32 crystal periods, 976.5625 µs. -/
def State.keepAlive (x : KaIn) (s : State) : State :=
  if !s.ka.on then s else
  let f := s.ka.frac + 15625
  let s := (s.put64 A.KA_RTC_LO (s.get64 A.KA_RTC_LO + f / 16)).modKa fun k => { k with frac := f % 16 }
  let s := (s.put F.KA_STORE_STORE_MV (min 8190 (x.storeMv / 10 * 10))).put F.KA_STORE_VKA_MV (min 8191 x.vkaMv)
  let s := (s.putb F.KA_STAT_ON_VKA (decide (1800 ≤ x.vkaMv))).putb F.PWR_STAT_VKA_OK (decide (1800 ≤ x.vkaMv) && !s.t.held)
  (s.tamper x.tampHigh).shockTick x.peakMv

/-- SHOCK_TRIP (R470): the wake detector trips at a peak of `mv`. -/
def State.shockTrip (mv : Nat) (s : State) : State :=
  if s.ka.on && s.flag F.KA_CFG_SHK_EN && s.shkTh < mv && !s.flag F.KA_STAT_SHOCK then
    (s.putb F.KA_STAT_SHOCK true).modKa fun k => { k with peak := mv, dur := 0, below := 0 }
  else s

/-- The RTC is set (R468). -/
def State.rtcSet (us : Nat) (s : State) : State :=
  ((s.put64 A.KA_RTC_LO us).modKa fun k => { k with frac := 0 }).putb F.KA_STAT_RTC_LOST false |>.raise F.KA_EVT_RTC_SET

/-- RTC_PTP_SET: every 1 s while PTP is locked. -/
def State.ptpLock (s : State) : Bool := s.get F.HOST_PTP_STAT_STATE == 3
def State.rtcPtp (s : State) : State := if s.ptpLock then s.rtcSet (s.ptpTime / 1000) else s

/-- KA_RTC_LO staged; KA_RTC_HI commits (R468). -/
def State.rtcStage (v : Word) (s : State) : State := s.modKa fun k => { k with stage := v }
def State.rtcCommit (v : Word) (s : State) : State := s.rtcSet (s.ka.stage.toNat + 2 ^ 32 * v.toNat)

/-- KA_CFG has been written (R472): V_ADMIT, and TAMPER shown only while the input is in use. -/
def State.kaCfgWritten (s : State) : State :=
  (s.put F.KA_ADMIT_ADMIT_MV (admitMv (s.get F.KA_CFG_STORE_UF))).putb F.KA_STAT_TAMPER (s.ka.isOpen && s.flag F.KA_CFG_TAMP_EN)

/-- BRUMATION_IMPORT at WAKE (R474): ring records above the last one imported enter the log, oldest first. -/
def State.kaImport (s : State) : State :=
  let l := (s.ka.ring.filter fun r => s.ka.imported < r.kseq).reverse
  let s := l.foldl (fun s r =>
    let last := match s.log.ring.find? fun x => x.src == r.src with | some x => x.count | none => 0
    let n := (r.count + 2 ^ 32 - last - 1) % 2 ^ 32
    s.logPut { src := r.src, ses := 255, restored := true, tsrc := true, time := r.time, count := r.count, more := n, data := [] }) s
  let s := s.modKa fun k => { k with imported := k.kseq }
  if s.ka.wasReset then (s.modKa fun k => { k with wasReset := false }).bare 35 else s

end Sys2Proof.Machine
end

