-- ==== Sys2Proof/Machine/RegAccess.lean ====
section
/-! DEFINITION. Register and context writes through the checks of R516, and register reads with their side effects
(15 R431–R443, R516, R519; 03 R85–R90, R99, R103, R114; and the write rules of the owning chapters). -/

namespace Sys2Proof.Machine

/-! ### Context words (03 R85, R89) -/

inductive WKind | unused | real | int
  deriving DecidableEq, Repr

/-- Last coefficient word, integer words, and last state word of a law. -/
def lawShape (law : Nat) : Nat × List Nat × Nat :=
  match law with
  | 1 => (20, [], 41)
  | 2 => (22, [], 43)
  | 3 => (35, [34, 35], 56)
  | 4 => (37, [37], 48)
  | 5 => (18, [], 41)
  | 6 => (21, [], 49)
  | 7 => (21, [], 47)
  | 8 => (21, [], 42)
  | 9 => (19, [], 41)
  | 10 => (34, [34], 43)
  | 11 => (17, [16], 40)
  | _ => (39, [], 63)

/-- What word `w` of a context is for law `law`. -/
def lawWord (law w : Nat) : WKind :=
  if w < 16 then (if 4 ≤ w && w < 8 then .real else .int)
  else
    let (co, ints, st) := lawShape law
    if ints.contains w then .int
    else if w ≤ co || (40 ≤ w && w ≤ st) then .real else .unused

/-- Ranges of the integer words. -/
def intOk (law : Nat) (v : Word) : Bool :=
  match law with
  | 3 => [0, 1, 2, 3].all fun i => within 1 (bits v (8 * i + 7) (8 * i)) 50
  | 4 => within 1 v.toNat 4
  | 10 => within 1 v.toNat 3
  | 11 => v.toNat ≤ 5
  | _ => true

/-- An enable of context `k` with configuration word `cfg` is allowed in the planned configuration `p` (R88, R155). -/
def State.enableOk (p : State) (c k : Nat) (cfg : Word) : Bool :=
  let law := bits cfg 4 1
  let fs := feeds (p.cx c k 2)
  let taken (h : Nat) := (List.range 16).any fun j => j != k && bit (p.cx c j 0) 0 && bit (p.cx c j 2) h
  within 1 law 11 && (fs.all fun x => x.2 ≤ 7 && !taken x.1 && !(x.1 == 9 && p.chopSlot c)) &&
    (lawShape law).2.1.all fun w => intOk law (p.cx c k w)

/-- A write of CTX_CFG, CTX_OUT changes the law set (R88). -/
def ctxRebuilds (w : Nat) (old v : Word) : Bool :=
  w == 2 || (w == 0 && (bits old 4 0 != bits v 4 0 || bit old 7 != bit v 7))

/-- The status of a write that changes word `w` of context `k` to `v`: check 5 of R516 for contexts. -/
def State.ctxRule (s : State) (c k w : Nat) (v : Word) : Nat :=
  let g := s.cx c k
  let law := bits (g 0) 4 1
  let p := s.planned
  let en := bit (g 0) 0 || bit (p.cx c k 0) 0
  let ok (b : Bool) : Nat := if b then OK else BAD_PARAM
  let tmpl := decide (k < tmplSize (s.role c))
  if tmpl && (w < 3 || (law == 12 && 16 ≤ w)) then BAD_PARAM
  else if w = 0 then
    ok (if bit v 0 && !en then p.enableOk c k v
        else if en then bits v 4 1 == law && (!bit v 0 || within 1 (bits v 4 1) 11) else true)
  else if w = 1 then ok ([0, 1, 2, 3].all fun i => selOk (bits v (8 * i + 7) (8 * i)))
  else if w = 2 then ok !en
  else if w < 8 then
    if fBad v || (w == 5 && fLt v fZero) then BAD_PARAM
    else if w = 4 ∧ k = 4 ∧ s.reversal c v then REFUSED_SPEED else OK
  else
    let free := w < 40 || bit (s.get (F.ENG_FREEZE_FREEZE c) |> wd) k || !bit (g 0) 0 || s.mode == mSTANDBY || s.mode == mSERVICE
    let val := match lawWord law w with
      | .unused => true
      | .int => intOk law v
      | .real => !fBad v && !(law == 5 && w == 18 && fLe v fZero) &&
          !(law == 8 && w == 16 && (fLt v (c32 1 10) || fLt (c32 20 1) v))
    ok (free && val)

/-- A host write of one context word, its claim checked before (R99, R516). The answer ACCEPTED means that a rebuild
decides; `wid` is the request that waits for it. -/
def State.writeCtx (c k w : Nat) (v : Word) (wid : Nat) (s : State) : State × Nat :=
  let a := ctxAddr c k w
  let old := s.rd a
  if v &&& ~~~(ctxMask w) ≠ 0#32 then (s, BAD_PARAM)
  else
    let done (s : State) : State := s.modT fun t => { t with written := (16 * c + k) :: t.written }
    if w = 3 then (done (s.wr a (seqClear old v 0x30000#32)), OK)
    else if (8 ≤ w ∧ w < 16) ∨ v = old then (done s, OK)
    else
      let st := s.ctxRule c k w v
      if st = REFUSED_SPEED then (s.raise (F.MACH_EVT_REV_REFUSED c), st)
      else if st ≠ OK then (s, st)
      else if ctxRebuilds w old v then ((done s).queueRebuild (.ctxWord c k w v) wid, ACCEPTED)
      else (done (s.wr a v), OK)

/-- What a host reads of a context word: a word that the law does not use reads 0 (R85). -/
def State.readCtx (s : State) (c k w : Nat) : Word :=
  if 16 ≤ w ∧ lawWord (bits (s.cx c k 0) 4 1) w = .unused then 0#32 else s.cx c k w

/-! ### Conditions and values of register fields (R516 checks 4 and 5) -/

def chanOf (a : Nat) : Nat := (a - 0x100000) / 0x10000

/-- Check 4 for a field that a write changes. -/
def State.condOk (s : State) (a : Nat) (k : WrCond) : Bool :=
  let c := chanOf a
  match k with
  | .always => true
  | .stdbySvc => s.mode == mSTANDBY || s.mode == mSERVICE
  | .svc => s.mode == mSERVICE
  | .chOff => s.cst c == sOFF
  | .roleOk => s.cst c == sOFF && (s.mode == mSTANDBY || s.mode == mRUN || s.mode == mSERVICE)
  | .recOff => !s.flag F.REC_CFG_EN
  | .snsOff => s.bitOf (F.PWM_FSTAT_OFF_EFF c) ((a - A.GDI_SNS c 0) / 16) || s.flag (F.GDI_STAT_TRIPPED c)

/-- The recorder's buffer holds a capture of these settings (05 R162). -/
def recFits (div rdiv nsig post : Nat) : Bool :=
  let per := div * (rdiv + 1)
  (ceilDiv 160000000 per + ceilDiv (post * 800000) per) * recSize nsig ≤ 4194304

/-- TICK_DIV may become `d` (01 R26, R43; 05 R162; 07 R219). -/
def State.tickDivOk (s : State) (d : Nat) : Bool :=
  within 8000 d 100000 && d % 16 == 0 &&
    (s.get F.SYS_SYNC_SRC != 2 || 800000000 % (4 * d) == 0) &&
    (!s.flag F.REC_CFG_EN || recFits d (s.get F.REC_CFG_DIV) (s.get F.REC_CFG_NSIG) (s.get F.REC_CFG_POST_MS)) &&
    chans.all fun c => s.role c != rIDLE || hbs.all fun h => s.get (F.PWM_OFS_OFS c h) < prdOf d (s.get (F.PWM_CAR_RATIO c))

/-- Bank `b` is consistent (05 R159). -/
def State.bankOk (s : State) (b : Nat) : Bool :=
  let uvE := s.rd (A.RB_UV_ENT b)
  let uvX := s.rd (A.RB_UV_EXIT b)
  let ovE := s.rd (A.RB_OV_ENT b)
  let ovX := s.rd (A.RB_OV_EXIT b)
  let fle := s.rd (A.RB_F_LO_ENT b)
  let flx := s.rd (A.RB_F_LO_EXIT b)
  let fhe := s.rd (A.RB_F_HI_ENT b)
  let fhx := s.rd (A.RB_F_HI_EXIT b)
  let curve (t : Nat → Nat) : Bool :=
    fEq (s.rd (t 0)) fZero && ((List.range 7).foldl (fun (acc : Bool × Bool) i =>
      if acc.2 then acc
      else if fEq (s.rd (t (i + 1))) fZero then (acc.1, true)
      else (acc.1 && fLe (s.rd (t i)) (s.rd (t (i + 1))), false)) (true, false)).1
  fLt uvE uvX && fLe uvX fOne && fLe fOne ovX && fLt ovX ovE && fLt fle flx && fLe flx fOne && fLe fOne fhx && fLt fhx fhe &&
    fLe (s.rd (A.RB_F_TRIP_LO b)) fle && fLe fhe (s.rd (A.RB_F_TRIP_HI b)) &&
    curve (A.RB_LV_T b) && curve (A.RB_HV_T b)

/-- A host may write the shadow word of half-bridge `h` (07 R222). -/
def State.shadowOk (s : State) (c h : Nat) : Bool := (s.feeder c h).isNone && !s.isStatic c h

/-- The chopper may run with MODE ≠ 0 and these parameters (05 R155). -/
def State.chopOk (s : State) (c : Nat) (gain mx rel : Word) : Bool :=
  (s.planned.feeder c 9).isNone && !fEq gain fZero && !fEq mx fZero && fLt rel mx

/-- Check 5 for a field that a write of `v` by session `i` to the word at `a` changes. -/
def State.valStatus (s : State) (a : Nat) (f : RegField) (v : Word) : Nat :=
  let c := chanOf a
  let n := bits v f.hi f.lo
  let ok (b : Bool) : Nat := if b then OK else BAD_PARAM
  let fin (lo hi : Nat) : Bool := !fBad v && fWithin (wd lo) v (wd hi)
  match f.chk with
  | .any => OK
  | .range lo hi => ok (within lo n hi)
  | .f32 lo hi => ok (fin lo hi)
  | .f32any => ok !fBad v
  | .f32zor lo hi => ok (fEq v fZero || fin lo hi)
  | .srange16 k => ok ((sext 16 n).natAbs ≤ k)
  | .burstEn =>
    let p := (s.t.rebuilds.filter Rebuild.ok).foldl (fun s r => s.applyChange r.chg) s
    if n = 0 ∨ (s.burstFits ∧ fits p.lawMax (p.get F.SYS_TICK_TICK_DIV / 2)) then OK else BUDGET_EXCEEDED
  | .carRatio => ok (s.role c == rIDLE || s.role c == rGRID)
  | .carRld => ok (n != 3 && !(bits v 1 0 == 2 && (n == 1 || n == 2)))
  | .carShape => ok (n != 3 && !(n == 2 && (bits v 5 4 == 1 || bits v 5 4 == 2)))
  | .chopGain => ok (fin 0 0x49742400 && (!s.chopSlot c || s.chopOk c v (s.rd (A.CHOP_I2T_MAX c)) (s.rd (A.CHOP_I2T_REL c))))
  | .chopMax => ok (fin 0 0x4E6E6B28 && (!s.chopSlot c || s.chopOk c (s.rd (A.CHOP_GAIN c)) v (s.rd (A.CHOP_I2T_REL c))))
  | .chopRel => ok (fin 0 0x4E6E6B28 && (!s.chopSlot c || s.chopOk c (s.rd (A.CHOP_GAIN c)) (s.rd (A.CHOP_I2T_MAX c)) v))
  | .chopMode => ok (n != 3 && (n == 0 || s.chopOk c (s.rd (A.CHOP_GAIN c)) (s.rd (A.CHOP_I2T_MAX c)) (s.rd (A.CHOP_I2T_REL c))))
  | .clkSwitch => ok (s.flag (fLock (!s.drv)))
  | .divCommit => ok s.divOk
  | .fnom => ok (fEq v (c32 50 1) || fEq v (c32 60 1))
  | .l1Mode => ok (n != 3)
  | .mclkDiv => ok (within 32 n 160 && n % 2 == 0)
  | .meterMap => ok (n ≤ 11 || n == 15)
  | .never => BAD_PARAM
  | .pg => ok (n != 3 && s.role c == rIDLE)
  | .phaseOfs => ok (n < s.frameLen)
  | .probeEn => ok (n == 0 || bits v 6 1 != 0)
  | .probeOrd => ok (n ≤ 39 && !s.flag F.ISL_CFG_PROBE_EN)
  | .pwmOfs => ok (s.role c == rIDLE && n < prdOf (s.get F.SYS_TICK_TICK_DIV) (s.get (F.PWM_CAR_RATIO c)))
  | .recSel => ok (selOk n || within 0xA0 n 0xA8)
  | .rideBank => ok (s.bankOk n)
  | .rtc => ok !s.ptpLock
  | .shadow => ok (s.shadowOk c ((a - A.PWM_SHLO c 0) / 0x20))
  | .shadowHi => ok (s.shadowOk c ((a - A.PWM_SHHI c 0) / 0x20) && !(s.vpCarrier c && v != 0#32))
  | .survRd => if s.host.streams.any fun x => x.2.typ == 0 then OWNED else OK
  | .survSrcReg => ok (n ≤ 4)
  | .survSrcInj => ok (n ≤ 4 && n != 3)
  | .syncSrc => ok (n != 3 && (n != 2 || 800000000 % s.frameLen == 0))
  | .tickDiv => ok (s.tickDivOk n)

/-- Rules over a whole register, for a write that changes it. -/
def State.wholeStatus (s : State) (a : Nat) (act : RegAct) (v : Word) : Nat :=
  let c := chanOf a
  match act with
  | .rideBankWord =>
    let b := (a - 0x800) / 0x100
    if b = s.bank ∨ (s.flag F.SYS_RIDE_STAT_BANK_PEND ∧ b = s.get F.SYS_RIDE_CFG_BANK) then BAD_PARAM else OK
  | .bootCfg => if bits v 9 0 ≠ 0 ∧ bits v 17 10 = 0 then BAD_PARAM else OK
  | .recCfg => if recFits (s.get F.SYS_TICK_TICK_DIV) (bits v 15 8) (bits v 7 3) (bits v 27 16) then OK else BAD_PARAM
  | .mailbox => if s.flag (F.HOST_MBS_FULL ((a - A.HOST_MBD 0) / 8)) then NO_CREDIT else OK
  | .lock => if v = 0#32 then OK else BAD_PARAM
  | .calSave => if s.er.calBusy.isSome ∧ bit v 0 then NOT_IN_MODE else OK
  | .cfgSave => if s.boot.save.isSome ∧ bit v 0 then NOT_IN_MODE else OK
  | .gridCtrl =>
    if bit v 9 then OK
    else if bit v 8 ∧ ¬(s.role c = rGRID ∧ s.cst c = sOFF) then NOT_IN_MODE
    else if bit v 10 ∧ s.role c ≠ rGRID then NOT_IN_MODE else OK
  | .dcCtrl =>
    if bit v 9 then OK
    else if bit v 8 ∧ ¬(s.isDc c ∧ s.cst c = sOFF) then NOT_IN_MODE
    else if bit v 10 ∧ s.role c ≠ rDCP then NOT_IN_MODE else OK
  | .machCtrl => if !bit v 9 ∧ bit v 8 ∧ ¬(s.role c = rMACH ∧ s.cst c = sOFF) then NOT_IN_MODE else OK
  | _ => OK

/-! ### Actions of a register write -/

/-- START of a channel whose CH_STATE is OFF, in its role: the code recorded, 0 when the start is accepted. -/
def State.startCh (c : Nat) (s : State) : State × Nat :=
  let r := s.role c
  if r = rGRID then (s.gridStart c, s.gridStartCode c)
  else if r = rDCB ∨ r = rDCP then (s.dcStart c, s.dcStartCode c)
  else if r = rMACH then (s.machStart c, s.machStartCode c)
  else (s, kMODE)

def State.stopCh (c : Nat) (s : State) : State :=
  let r := s.role c
  if r = rGRID then s.gridStop c else if r = rDCB ∨ r = rDCP then s.dcStop c else if r = rMACH then s.machStop c else s

/-- START and STOP bits of a control register; both together stop. -/
def State.startStop (c : Nat) (v : Word) (s : State) : State × Nat :=
  if bit v 9 then (s.stopCh c, OK)
  else if bit v 8 then
    let (s, k) := s.startCh c
    (s, if k = 0 then OK else NOT_IN_MODE)
  else (s, OK)

/-- Clocks into the tick at which the command slot applies a write: the spec gives no instant within phase 6. -/
def State.slotOff (s : State) : Nat × State := let (n, s) := s.fresh; (n % (s.t.len + 1), s)

/-- Owner + 1 of lock `k`; its byte (14 R429). -/
def State.lockOwner (s : State) (k : Nat) : Nat := bits (s.rd (A.HOST_LOCKOWN (k / 4))) (8 * (k % 4) + 7) (8 * (k % 4))
def State.setLock (k v : Nat) (s : State) : State :=
  let a := A.HOST_LOCKOWN (k / 4)
  s.wr a (setBits (s.rd a) (8 * (k % 4) + 7) (8 * (k % 4)) v)

/-- A mailbox word times out (14 R428). -/
def State.mbTimeout (m : Nat) (s : State) : State :=
  if !s.flag (F.HOST_MBS_FULL m) then s else
  let snd := s.get (F.HOST_MBS_SENDER m)
  let s := (s.putb (F.HOST_MBS_FULL m) false)
  let a := A.HOST_MBT snd
  let w := s.rd a
  let s := s.wr a (setBits (setBits w m m 1) 31 24 (bits w 31 24 + 1))
  (s.bare 3).notify snd 3 (s.rd a)

/-- A word is sent through mailbox `m` (14 R426, R428). -/
def State.mbSend (i m : Nat) (v : Word) (s : State) : State :=
  let s := (s.putb (F.HOST_MBS_FULL m) true).put (F.HOST_MBS_SENDER m) i
  let s := s.modHost fun h => { h with mbWord := h.mbWord.setIfInBounds m v, mbAt := h.mbAt.setIfInBounds m s.clk }
  (s.bare 3).notify m 3 (s.rd (A.HOST_MBS m))

/-- A word that a write stored since `s0` for a session that is not open times out after the write's answer (14 R428). -/
def State.mbLate (s0 s : State) : State :=
  s.each ix16s fun m s => s.when (!s0.flag (F.HOST_MBS_FULL m) && !s.sesOpen m) (State.mbTimeout m)

/-- Session `i` takes mailbox `m` (14 R427): the status word as it stood. -/
def State.mbTake (m : Nat) (s : State) : State :=
  let full := s.flag (F.HOST_MBS_FULL m)
  let w := if full then s.host.mbWord[m]?.getD 0#32 else 0#32
  (s.wr (A.HOST_MBD m) w).putb (F.HOST_MBS_FULL m) false

/-- Session `i` reads lock `k` (14 R429): the value read. -/
def State.lockRead (i k : Nat) (s : State) : State × Word :=
  let o := s.lockOwner k
  if o = 0 then (if i < 16 ∧ s.sesOpen i then s.setLock k (i + 1) else s, 0#32)
  else if o = i + 1 then (s, 0#32) else (s, wd o)

/-- Words that SAVE stores (17 R486): contexts without their states, and the writable words of the channels, SYS, SURV, the
PCC; KA_CFG is stored at each write (16 R476), and calibration and the port settings have stores of their own. -/
def State.cfgWords (s : State) : List (Nat × Word) :=
  let rows (off : Nat) (l : List Row) : List (Nat × Word) :=
    l.flatMap fun r =>
      let m := rowWritable r
      if m = 0#32 ∨ r.act = .cal ∨ r.act = .portCfg ∨ r.act = .rtcLo ∨ r.act = .rtcHi ∨ r.act = .mailbox ∨ r.act = .lock ∨ r.act = .clkCfg then []
      else (List.range r.count).map fun i => let a := off + r.base + i * r.stride; (a, s.rd a &&& m)
  let ctx := chans.flatMap fun c => (List.range 16).flatMap fun k =>
    ((List.range 40).filter fun w => w != 3 && !(8 ≤ w && w < 16)).map fun w => (ctxAddr c k w, s.cx c k w)
  let dev := (rowsSysA ++ rowsRide ++ rowsPccMeter ++ rowsPcc ++ rowsSurv).filter fun r =>
    (0x100 ≤ r.base && r.base < 0xA00) || 0x40000 ≤ r.base
  rows 0 dev ++ (chans.flatMap fun c => rows (chBase c) (rowsEng ++ rowsPwm ++ rowsGdi ++ rowsFlt ++ rowsMeter ++ rowsRoleA ++ rowsRoleB)) ++ ctx

/-- What follows from a write that was applied: the state holds the new word already, `old` is the word before. -/
def State.regAct (act : RegAct) (i a : Nat) (old v : Word) (wid : Nat) (s : State) : State × Nat :=
  let c := chanOf a
  let rose (k : Nat) : Bool := bit v k && !bit old k
  let fell (k : Nat) : Bool := bit old k && !bit v k
  match act with
  | .tick => if v = old then (s, OK) else (s.queueRebuild (.tickDiv (bits v 16 0)) wid, ACCEPTED)
  | .role => (s.queueRebuild (.role c (bits v 2 0)) wid, ACCEPTED)
  | .burst => (s.when (rose 2) State.burstTrigger, OK)
  | .sync => (s.when (bits old 1 0 != bits v 1 0) State.syncSrcWritten, OK)
  | .rideCfg =>
    let s := s.when (fell 0) fun s => s.putb F.SYS_RIDE_STAT_ARMED false
    (s.putb F.SYS_RIDE_STAT_BANK_PEND (bits v 2 2 != s.bank), OK)
  | .recCfg =>
    let s := s.when (bit v 2) State.recRelease
    ((s.when (rose 0) State.recFill).when (fell 0) State.recStop, OK)
  | .survCtrl =>
    let s := (s.when (fell 13) State.survStop).when (bit v 12) (State.survTrigger true)
    ((s.when (bit v 11) (State.survTrigger false)).survKick, OK)
  | .survTrg => (s.survKick, OK)
  | .flt => (if a = A.FLT_MCLK c then s.mclkWritten c else s.settleAll c, OK)
  | .inCfg => (s.inCfgWritten c ((a - A.FLT_IN_CFG c 0) / 0x20) old, OK)
  | .pwmCar => (s.modCh c fun x => { x with carWait := true }, OK)
  | .pwmForce => (s.applyForce c, OK)
  | .chanCfg | .chopV =>
    ((s.when (act == .chopV) (State.chopUpdate c)).applyForce c, OK)
  | .gdiCtrl =>
    let (off, s) := s.slotOff
    let (s, st) := if bit old 0 != bit v 0 then s.swEnChanged c (bit v 0) off else (s, OK)
    (s.when (bit v 8) (State.swTrip c off), st)
  | .sns =>
    let (off, s) := s.slotOff
    (s.snsWritten c ((a - A.GDI_SNS c 0) / 16) off old, OK)
  | .capCfg =>
    let j := (a - A.GDI_CAPCFG c 0) / 16
    (s.when (rose 14) fun s => s.modCh c fun x => { x with capRef := x.capRef.mapIdx fun n r => if n = j then none else r }, OK)
  | .shLo => (s.modHb c ((a - A.PWM_SHLO c 0) / 0x20) fun x => { x with stageLo := v }, OK)
  | .shHi =>
    let h := (a - A.PWM_SHHI c 0) / 0x20
    (s.writeShadow c h (s.hb c h).stageLo v, OK)
  | .gridCtrl =>
    let s := s.when (s.role c == rGRID) (State.subApplied c (bit v 0))
    let (s, st) := if s.role c = rGRID then s.startStop c v else (s, OK)
    (s.when (bit v 10 && !bit v 9 && s.sub c == mISLAND && s.cst c == sACTIVE) fun s => s.modGrid c fun g => { g with reconn := true }, st)
  | .gridFnom =>
    (s.when (s.role c == rGRID) fun s => ((s.setCx c 0 18 (s.wNom c)).setCx c 8 19 (s.wNom c)).setCx c 10 19 (s.wNom c), OK)
  | .dcCfg =>
    if bits old 2 0 ≠ bits v 2 0 ∧ s.isDc c then ((s.wr a old).queueRebuild (.legs c v) wid, ACCEPTED)
    else
      let s := s.when (s.isDc c) fun s => ([0, 1, 2, 3].foldl (fun s h => s.setCx c h 1 (setBits (s.cx c h 1) 15 8 (s.legIn c h))) s).ownCarrier c
      (s.applyForce c, OK)
  | .dcCtrl =>
    let (s, st) := if s.isDc c then s.startStop c v else (s, OK)
    (s.when (bit v 10 && !bit v 9) (State.dcScan c), st)
  | .machCfg => (s.ownCarrier c, OK)
  | .machCtrl => if s.role c = rMACH then s.startStop c v else (s, OK)
  | .meterCfg =>
    let p := if a < 0x100000 then 8 else c
    (s.when (a % 16 == 4 || bits old 2 0 != bits v 2 0) (State.modMeter p fun m => { m with restart := true }), OK)
  | .cal => (s.raise (if a < 0x100000 then F.METER_EVT_CAL_CHG 8 else F.METER_EVT_CAL_CHG c) [old, v], OK)
  | .calSave => if bit v 0 then (s.calSave wid, ACCEPTED) else (s, OK)
  | .cfgSave => if bit v 0 then ({ s with boot := { s.boot with save := some s.cfgWords, saveWid := wid } }, ACCEPTED) else (s, OK)
  | .harmSel => (s.showWindow (if a < 0x100000 then 8 else c), OK)
  | .epul => (s.epulWritten ((a - 0x42000) / 0x20), OK)
  | .portCfg => ({ s with nv := { s.nv with port := (a, v) :: s.nv.port.filter fun x => x.1 != a } }, OK)
  | .clkCfg =>
    let s := { s with nv := { s.nv with port := (a, v &&& 1#32) :: s.nv.port.filter fun x => x.1 != a } }
    (s.when (bit v 1) State.clkSwitch, OK)
  | .divCommit => (s.when (bit v 0) State.divCommit, OK)
  | .kaCfg => (({ s with nv := { s.nv with port := (a, v) :: s.nv.port.filter fun x => x.1 != a } }).kaCfgWritten, OK)
  | .rtcLo => (s.rtcStage v, OK)
  | .rtcHi => (s.rtcCommit v, OK)
  | .ageCfg => (s.ageEval, OK)
  | .safeCtrl => (s.when (bit v 0) State.sgiReq, OK)
  | .mailbox => (s.mbSend i ((a - A.HOST_MBD 0) / 8) v, OK)
  | .lock => (s.setLock ((a - A.HOST_MBLOCK 0) / 4) 0, OK)
  | .none | .bootCfg | .islCfg | .meterTariff | .rideBankWord => (s, OK)

/-- Registers whose word a write does not store: a rebuild decides, the action has its own effect, or the value counts on. -/
def actStores : RegAct → Bool
  | .tick | .role | .mailbox | .lock | .rtcLo | .rtcHi => false
  | _ => true
/-- Registers whose action acts on every write. -/
def actAlways : RegAct → Bool
  | .mailbox | .lock | .rtcLo | .rtcHi | .gridCtrl => true
  | _ => false

/-! ### A register write (R516) -/

/-- The write changes nothing but METER_TARIFF.GATE (09 R278). -/
def State.gateOnly (s : State) (a : Nat) (v : Word) : Bool := (s.rd a ^^^ v) &&& ~~~0xF0000#32 == 0#32

/-- Check 2: the claim, the session of a register of a session, and the owner of a lock. -/
def State.claimOk (s : State) (i a : Nat) (v : Word) : Bool :=
  let k := (a - 0x10200) / 4
  let lock := 0x10200 ≤ a && a < 0x10240 && s.lockOwner k != 0 && s.lockOwner k != i + 1
  s.holds i (needOf a (s.gateOnly a v)) && !lock

/-- Checks 3 to 5 and the effect for the register row at canonical address `a`. -/
def State.writeRow (r : Row) (i a : Nat) (v : Word) (wid : Nat) (s : State) : State × Nat :=
  let old := s.rd a
  if v &&& ~~~(rowMask r) ≠ 0#32 then (s, BAD_PARAM)
  else
    let fs := r.fields.filter fun f => fieldWritten r.act f old v
    let sc := rowSc r
    let act := !fs.isEmpty || actAlways r.act
    if !(fs.all fun f => s.condOk a f.cond) then (s, NOT_IN_MODE)
    else
      let st := ((fs.map fun f => s.valStatus a f v).find? (· != OK)).getD (if act then s.wholeStatus a r.act v else OK)
      if st ≠ OK then (s, st)
      else
        let rw := rowWritable r
        let new := (old &&& ~~~rw) ||| (v &&& rw)
        let new := if sc = 0#32 then new else seqClear new v sc
        let s := if actStores r.act then s.wr a new else s
        if act then s.regAct r.act i a old v wid else (s, OK)

/-- A write of the word at canonical address `a` by session `i`; 16 stands for a register operation without a session. -/
def State.writeReg (i a : Nat) (v : Word) (wid : Nat) (s : State) : State × Nat :=
  if !s.claimOk i a v then (s, OWNED)
  else
    let was := s.host.actor
    let s := s.modHost fun h => { h with actor := if i < 16 then i else 255 }
    let (s, st) :=
      if isCtx a then s.writeCtx (chanOf a) (a % 0x1000 / 0x100) (a % 0x100 / 4) v wid
      else match rowAt a with
        | some r => s.writeRow r i a v wid
        | none => (s, BAD_PARAM)
    (s.modHost fun h => { h with actor := was }, st)

/-- A read of the word at canonical address `a` by session `i` (R436, R437 and the registers with side effects). -/
def State.readReg (i a : Nat) (s : State) : State × Word :=
  if isCtx a then (s, s.readCtx (chanOf a) (a % 0x1000 / 0x100) (a % 0x100 / 4))
  else if a = A.SURV_DATA then (s.survRead, s.rd a)
  else if 0x10100 ≤ a ∧ a < 0x10180 ∧ a % 8 = 0 ∧ i = (a - 0x10100) / 8 then (s.mbTake i, s.rd a)
  else if 0x10200 ≤ a ∧ a < 0x10240 then s.lockRead i ((a - 0x10200) / 4)
  else if 0x32000 ≤ a ∧ a < 0x33800 then (s, srcDesc ((a - 0x32000) / 4))
  else (s, s.rd a)

/-- The end of a named register-write row: the session must be open; the status is kept for the answer (13 R377). -/
def State.rowWrite (w : RegWr) (a : Nat) (v : Word) (s : State) : State :=
  if !s.sesOpen w.ses.val then s else
  let (s', st) := s.writeReg w.ses.val a v 0
  s.mbLate (s'.modHost fun h => { h with ans := st })

end Sys2Proof.Machine
end

