-- ==== Sys2Proof/Machine/Boot.lean ====
section
/-! DEFINITION. Image slots and boot selection, WAKE, STANDBY entry, restart, configuration save and restore, update,
attestation and signed bodies (17; 12 R357; 13 R394; 16 R450, R460). -/

namespace Sys2Proof.Machine

def State.modNv (f : NvSt → NvSt) (s : State) : State := { s with nv := f s.nv }
def State.modBoot (f : BootSt → BootSt) (s : State) : State := { s with boot := f s.boot }

/-! ### Image slots (R488–R490) -/

def eEMPTY : Nat := 0
def eVERIFIED : Nat := 2
def eCONFIRMED : Nat := 3
def eFAILED : Nat := 4

def State.slot (s : State) (k : Nat) : Slot := s.nv.slots[k]?.getD {}
def State.modSlot (k : Nat) (f : Slot → Slot) (s : State) : State :=
  s.modNv fun n => { n with slots := n.slots.setIfInBounds k (f (s.slot k)), bseq := n.bseq + 1 }

def Slot.word (l : Slot) (i : Nat) : Nat := ((lookupReg l.words i).getD 0#32).toNat
def Slot.version (l : Slot) : Nat := l.word 2
def Slot.arb (l : Slot) : Nat := l.word 3
/-- Words within the size. -/
def Slot.len (l : Slot) : Nat := (l.size + 3) / 4
def Slot.full (l : Slot) : Bool := (List.range l.len).all fun i => (lookupReg l.words i).isSome
/-- Bytes 0 to 63 + BODY_LEN, over which the digest is formed. -/
def Slot.signed (l : Slot) : List Byte := payBytes ((List.range l.len).map fun i => wd (l.word i)) (64 + l.word 5)

/-- R489 and R494: 0 valid, 1 format, 2 part, 3 signature, 4 ARB below the fuse count `f`; `sig`: SIG verifies. -/
def Slot.check (l : Slot) (f : Nat) (sig : Bool) : Nat :=
  if l.word 0 ≠ 0x4E56494D ∨ l.word 1 ≠ 1 ∨ l.size ≠ 64 + l.word 5 + 4627 ∨ 4194304 < l.size ∨ 64 < l.arb then 1
  else if l.word 4 ≠ 0x8128 then 2
  else if !sig then 3
  else if l.arb < f then 4 else 0

/-- SYS_SLOT, SYS_OTHER_VER and the trial count; `run`: the running slot. -/
def State.showSlots (run : Option Nat) (s : State) : State :=
  let ver (k : Nat) : Nat := let l := s.slot k; if l.st = eVERIFIED ∨ l.st = eCONFIRMED then l.version else 0
  let oth := match run with | some k => 1 - k | none => 1 - s.nv.active
  ((((s.put F.SYS_SLOT_STATE_A (s.slot 0).st).put F.SYS_SLOT_STATE_B (s.slot 1).st).put F.SYS_SLOT_ACTIVE s.nv.active).put
    F.SYS_OTHER_VER_VERSION (ver oth)).put F.SYS_BOOT_TRIAL s.nv.trial

def State.recovery (s : State) : Bool := s.flag F.SYS_BOOT_RECOVERY
/-- The running slot; none in recovery. -/
def State.runSlot (s : State) : Option Nat := if s.recovery then none else some (s.get F.SYS_BOOT_SLOT)

/-- The boot ROM selects the slot (R490). -/
def State.bootSelect (sigA sigB : Bool) (s : State) : State :=
  let ok (s : State) (k : Nat) : Bool := (s.slot k).check s.nv.fuses (if k = 0 then sigA else sigB) == 0
  let a := s.nv.active
  let s := if (s.slot a).st ≠ eVERIFIED then s
    else if s.nv.trial < 2 then s.modNv fun n => { n with trial := n.trial + 1, bseq := n.bseq + 1 }
    else (((s.modSlot a fun l => { l with st := eFAILED }).modNv fun n => { n with active := 1 - a })).raise F.SYS_BOOT_EVT_TRIAL_FAIL
  let a := s.nv.active
  let go (k : Nat) (s : State) : State := (s.put F.SYS_BOOT_SLOT k).put F.SYS_IMG_VER_VERSION (s.slot k).version
  let s := if ((s.slot a).st = eVERIFIED ∨ (s.slot a).st = eCONFIRMED) ∧ ok s a then go a s
    else if (s.slot (1 - a)).st = eCONFIRMED ∧ ok s (1 - a) then
      ((go (1 - a) (s.modNv fun n => { n with active := 1 - a, bseq := n.bseq + 1 })).putb F.SYS_BOOT_FALLBACK true).raise F.SYS_BOOT_EVT_FALLBACK_EVT
    else s.putb F.SYS_BOOT_RECOVERY true
  s.showSlots s.runSlot

/-- Every entry into STANDBY (R490, R491): a trial image is confirmed, and the fuses follow its ARB. -/
def State.standbyEntry (s : State) : State :=
  match s.runSlot with
  | none => s
  | some k =>
    let s := if (s.slot k).st = eVERIFIED then
        (((s.modSlot k fun l => { l with st := eCONFIRMED }).modNv fun n => { n with trial := 0 }).showSlots (some k)).raise F.SYS_BOOT_EVT_CONFIRMED
      else s
    if s.nv.fuses < (s.slot k).arb then
      ((s.modNv fun n => { n with fuses := (s.slot k).arb }).put F.SYS_BOOT_ARB_F (s.slot k).arb).raise F.SYS_BOOT_EVT_ARB_RAISED
    else s

/-! ### Configuration restore (R486) -/

/-- What follows from the restored words: carriers, forcing, inputs, alignment, ride bank, recorder, pulse outputs. -/
def State.settleConfig (s : State) : State :=
  let s := s.each chans fun c s =>
    let s := s.modCh c fun x => { x with
      car := s.rd (A.PWM_CAR c), carWait := false
      firstRun := wd ((s.lawSet c).foldl (fun m k => m + 2 ^ k) 0) }
    let s := (s.put (F.PWM_CAR_VP c) (if s.isDc c then s.get (F.DC_CFG_CAR c) else 0)).wr (A.CHOP_I2T c) (s.rd (A.CHOP_I2T_REL c))
    ((s.putb (F.FLT_VALID_MCLK_OK c) (s.flag (F.FLT_MCLK_OUT_EN c))).settleAll c).applyForce c
  let s := (s.syncSrcWritten).put F.SYS_RIDE_STAT_BANK_ACT (s.get F.SYS_RIDE_CFG_BANK)
  let s := (s.when (s.flag F.REC_CFG_EN) State.recFill).survKick
  let s := s.each [0, 1, 2, 3] fun j s => s.modEpul j fun e => { e with cfg := s.rd (A.EPUL_CFG j), k := s.rd (A.EPUL_K j) }
  s.installTable

/-- The stored configuration, or every register at its reset value. -/
def State.cfgRestore (bad : Bool) (s : State) : State :=
  let dflt (s : State) : State := ((s.settleConfig).putb F.SYS_BOOT_CFG_DEFAULT true).bare 7
  match s.nv.cfg with
  | none => dflt s
  | some l =>
    if bad then dflt s
    else
      let r := chans.foldl (fun r c => match lookupReg l (A.ROLE_SEL c) with
        | some v => if v = 0#32 then r else r.applyRole c v.toNat
        | none => r) s
      let r := l.foldl (fun r x => r.wr x.1 ((r.rd x.1 &&& ~~~(match rowAt x.1 with | some w => if isCtx x.1 then ~~~0#32 else rowWritable w | none => ~~~0#32)) ||| x.2)) r
      if r.tableFits then r.settleConfig else dflt s

/-- CFG_SAVE_DONE: the two-phase commit ends; the request that waited. -/
def State.cfgSaveDone (ok : Bool) (s : State) : State × Option Nat :=
  match s.boot.save with
  | none => (s, none)
  | some l =>
    let w := s.boot.saveWid
    let s := s.modBoot fun b => { b with save := none, saveWid := 0 }
    (if ok then (s.modNv fun n => { n with cfg := some l }).raise F.SYS_BOOT_EVT_CFG_SAVED else s, some w)

/-! ### WAKE (R484, R485; 12 R357; 16 R450) -/

/-- The head of the event log, imports and counters; the causes that a reset leaves (12 R359, R366, R368; 16 R474). -/
def State.wakeLog (s : State) : State :=
  let s := match s.log.ring.head? with
    | some r => (s.put64 A.HEALTH_LOG_SEQ_LO r.lseq).put F.HEALTH_LOG_WR_IDX (r.lseq % 65536)
    | none => s
  let s := ((s.put F.HEALTH_SRQ_CAUSE s.nv.causes).srqUpdate).kaImport
  let valid := s.flag F.KA_STAT_RET_VALID
  let s := s.logRestore valid
  let s := s.when (!valid) fun s => match lookupReg s.nv.port A.KA_CFG with
    | some v => (s.wr A.KA_CFG v).kaCfgWritten
    | none => s
  (s.putb F.KA_STAT_RET_VALID true).kaCfgWritten

/-- The engines that pass serve their channels; ENG8 serves the lowest other one, or is the spare (12 R357). -/
def State.assignEngines (pass : BitVec 9) (s : State) : State :=
  let ok (e : Nat) : Bool := pass.toNat.testBit e
  let bad := chans.filter fun c => !ok c
  let by8 : Option Nat := if ok 8 then bad.head? else none
  let spare := ok 8 && by8.isNone
  let s := s.each chans fun c s =>
    let s := ((s.putb (F.ENG_STAT_SPARE_AVAIL c) spare).putb (F.ENG_STAT_SERVED c) (by8 == some c)).putBit F.HEALTH_FO_OUT c (!ok c)
    if ok c || by8 == some c then s else (s.put (F.ROLE_STAT_CH_STATE c) sTAIL).putb (F.ENG_STAT_TAIL c) true
  ((s.put F.HEALTH_FO_CH (by8.getD 15)).putb F.HEALTH_FO_SPARE_OK spare).putBit F.HEALTH_FO_OUT 8 (!ok 8)

/-- Set or end a cause by what WAKE found. -/
def State.causeIs (b : Nat) (on : Bool) (s : State) : State := if on then s.cause b else s.uncause b

def State.wakeCauses (x : WakeIn) (s : State) : State :=
  let s := if x.engines = 0x1FF then s.uncause cFAILOVER else s
  let s := s.causeIs cTAIL (chans.any fun c => s.cst c == sTAIL)
  let s := s.causeIs cSPARE (!s.flag F.HEALTH_FO_SPARE_OK)
  let s := s.causeIs cCLOCK (!(s.flag F.CLK_STAT_LOCK_A && s.flag F.CLK_STAT_LOCK_B))
  let s := s.uncause cMONITOR
  s.causeIs cCOMP (chans.any fun c => s.get (F.GDI_STAT_CHK_HOLD c) != 0)

/-- Fill both band tables from the calibration data, whose values are the part's, and select the bands (16 R450, R451). -/
def State.fillBands (s : State) : State :=
  let s := (List.range 16).foldl (fun s i =>
    let (a, s) := s.fresh
    let (b, s) := s.fresh
    (s.wr (A.CLK_BAND_TBLA i) (wd a)).wr (A.CLK_BAND_TBLB i) (wd b)) s
  let pick (b : Bool) (w : Word) : Nat := ((List.range 16).find? fun i => s.bandOk b (setBits w 13 10 i)).getD 0
  let a := pick false (s.rd A.DIV_ACTIVEA)
  let b := pick true (s.rd A.DIV_ACTIVEB)
  (((s.put F.DIV_ACTIVEA_BAND a).put F.DIV_SHADOWA_BAND a).put F.DIV_ACTIVEB_BAND b).put F.DIV_SHADOWB_BAND b

/-- Port settings of the store come into force; the ring address strap (14 R419, R430). -/
def State.wakePorts (x : WakeIn) (s : State) : State :=
  let l := s.nv.port.filter fun p => p.1 != A.KA_CFG && p.1 != A.CLK_CFG
  let s := (l.foldl (fun s p => s.wr p.1 p.2) s).modHost fun h => { h with portCfg := l }
  let a := x.addr.toNat
  let s := (s.put F.HOST_RING_STAT_ADDR (if a = 63 then 0 else a)).putb F.HOST_RING_STAT_STRAPPED (decide (1 ≤ a ∧ a ≤ 62))
  let s := (s.when (a == 63) fun s => s.bare 6).putb F.HOST_RING_STAT_TL2_BYP (bit (s.rd A.HOST_RING_CFG) 1)
  let s := (s.putb F.HOST_ETH_STAT_IP4_UP (s.flag F.HOST_ETH_CFG_IP4_EN && s.rd A.HOST_IP4 != 0#32)).putb F.HOST_ETH_STAT_IP6_UP (s.flag F.HOST_ETH_CFG_IP6_EN)
  let s := s.put F.HOST_PTP_STAT_STATE (s.get F.HOST_PTP_CFG_EN)
  (s.put F.HEALTH_MGS_PROF x.prof.val).putb F.HEALTH_MGS_RUNNING (!s.recovery)

/-- The part of WAKE after the PLLs have locked. -/
def State.wakeRest (x : WakeIn) (s : State) : State :=
  let s := s.bootSelect x.sigA x.sigB
  let s := (s.assignEngines x.engines).each chans fun c s =>
    s.when (x.ctxBad.toNat.testBit c) fun s => (s.put (F.ROLE_STAT_CH_STATE c) sTAIL).putb (F.ENG_STAT_TAIL c) true
  let s := s.when x.sramBad fun s => (s.putb F.SYS_BOOT_BIST_FAIL true).modT fun t => { t with noRun := true }
  let s := x.comp.foldl (fun s p => (s.putBit (F.GDI_STAT_CHK_HOLD p.1.val) p.2.val true).raise (F.GDI_EVT_CHK_FAIL p.1.val)) s
  let s := (List.range 8).foldl (fun s k => s.when (x.pccBad.toNat.testBit k) fun s => State.raiseAt A.PCC_ADC_STAT (8 + k) s) s
  let s := s.when x.survBad fun s => s.raise F.SURV_STAT_SELF_FAIL
  let s := s.safeWake (if x.safeBad then {} else s.safe.nv) x.islandOk
  let s := s.each chans fun c s => s.modCh c fun y => { y with chkDone := true }
  let s := if s.recovery then
      -- no metering or energy commit in recovery: the books are stopped and their tail is complete (R492)
      (s.settleConfig).modEr fun e => { e with stopAt := some 0, tail := true }
    else
      let s := (s.when (!x.calBad) State.calRestore).cfgRestore x.cfgBad
      let s := s.modEr fun e => { e with
        ring := e.ring.filter fun r => !x.badSlots.contains r.1
        snaps := e.snaps.filter fun r => !x.badSlots.contains (0x8000 + r.1)
        ptrA := if x.badPtrA then none else e.ptrA
        ptrB := if x.badPtrB then none else e.ptrB }
      s.wakeRecords (s.flag F.KA_STAT_RTC_LOST)
  let s := s.when s.recovery fun s => s.modT fun t => { t with noRun := true }
  let s := (s.wakePorts x).wakeCauses x
  let tgt := if s.recovery || x.sramBad then mSERVICE else mSTANDBY
  let s := (s.put F.SYS_WAKE_T_T_US x.us.toNat).runUpdate
  s.modT fun t => { t with woke := true, toMode := some (tgt, s.get F.SYS_MODE_WHY) }

/-- PLLs at WAKE (16 R447, R450): with neither locked the device stays in WAKE and retries. -/
def State.wakeClocks (x : WakeIn) (s : State) : State :=
  let s := (((s.putb F.CLK_STAT_LOCK_A x.lockA).putb F.CLK_STAT_LOCK_B x.lockB).putb F.CLK_STAT_REF_A x.refA).putb F.CLK_STAT_REF_B x.refB
  let s := (s.putb F.CLK_STAT_LVDS_A x.lvdsA).putb F.CLK_STAT_LVDS_B x.lvdsB
  if !x.lockA && !x.lockB then s.bare 8
  else
    let pref := s.flag F.CLK_CFG_PREF
    let drv := if pref then x.lockB else !x.lockA
    (s.putb F.CLK_STAT_DRV drv).wakeRest x

/-- RESET_RELEASE (16 R460). -/
def State.wake (x : WakeIn) (s : State) : State :=
  if !s.t.held && s.t.woke then s else
  let again := s.t.restart
  let s := s.modT fun t => { t with held := false, woke := false, restart := false }
  let s := if again then s else ((s.put F.SYS_MODE_PREV mBRUMATE).put F.SYS_MODE_MODE mWAKE).put F.SYS_MODE_WHY 1
  let s := s.modNv fun n => { n with wakes := (n.wakes + 1) % 2 ^ 32 }
  let s := (s.put F.SYS_WAKES_WAKES s.nv.wakes).put F.SYS_BOOT_ARB_F s.nv.fuses
  let s := match lookupReg s.nv.port A.CLK_CFG with | some v => s.wr A.CLK_CFG v | none => s
  ((s.wakeLog).fillBands).wakeClocks x

/-- PLL_RETRY: every 100 ms while neither PLL has locked. -/
def State.pllRetry (x : WakeIn) (s : State) : State :=
  if s.t.held || s.t.woke || s.flag F.CLK_STAT_LOCK_A || s.flag F.CLK_STAT_LOCK_B || s.nv.wakes = 0 then s else s.wakeClocks x

/-! ### Restart and the trial watchdog (R483, R490) -/

/-- The restart at a tick boundary: tail, counters into retention, reset; WAKE follows. -/
def State.restartNow (s : State) : State :=
  let old := s.mode
  let s := s.modEr fun e => if e.stopAt.isNone then { e with stopNext := false, stopAt := some s.clk } else e
  let s := ((s.tailCommit).retain).devReset
  let s := s.modT fun t => { t with restart := true }
  ((s.put F.SYS_MODE_PREV old).put F.SYS_MODE_MODE mWAKE).put F.SYS_MODE_WHY 7

/-- TRIAL_WATCHDOG: a trial image has not reached STANDBY within 200 ms. -/
def State.trialWatchdog (s : State) : State :=
  match s.runSlot with
  | some k => if s.t.woke && s.mode == mWAKE && (s.slot k).st == eVERIFIED then s.devReset else s
  | none => s

/-! ### Update (R493–R495) -/

/-- The slot that an update writes and an activation names. -/
def State.updTarget (s : State) : Nat := match s.runSlot with | some k => 1 - k | none => 1 - s.nv.active

def State.imgBegin (i size : Nat) (s : State) : State × Nat :=
  if s.flag F.SYS_BOOT_UPD && s.get F.SYS_BOOT_UPD_SES != i then (s, OWNED)
  else if s.mode == mWAKE || 2 ≤ s.get F.HEALTH_THERM_STEP || s.boot.verWid.isSome then (s, NOT_IN_MODE)
  else if !within 4692 size 4194304 then (s, BAD_PARAM)
  else
    let s := s.modSlot s.updTarget fun _ => { st := eEMPTY, size := size }
    (((s.putb F.SYS_BOOT_UPD true).put F.SYS_BOOT_UPD_SES i).showSlots s.runSlot, OK)

def State.imgData (i off : Nat) (ws : List Word) (s : State) : State × Nat :=
  if !s.flag F.SYS_BOOT_UPD || s.get F.SYS_BOOT_UPD_SES != i then (s, OWNED)
  else if s.boot.verWid.isSome then (s, NOT_IN_MODE)
  else
    let k := s.updTarget
    if off % 4 ≠ 0 ∨ 4 * (s.slot k).len < off + 4 * ws.length then (s, BAD_PARAM)
    else
      let new := ws.mapIdx fun j w => (off / 4 + j, w)
      (s.modSlot k fun l => { l with words := new ++ l.words.filter fun x => !(decide (off / 4 ≤ x.1) && decide (x.1 < off / 4 + ws.length)) }, OK)

/-- IMG_VERIFY: the check runs until IMG_VERIFY_DONE. -/
def State.imgVerify (i wid : Nat) (s : State) : State × Nat :=
  if !s.flag F.SYS_BOOT_UPD || s.get F.SYS_BOOT_UPD_SES != i then (s, OWNED)
  else if s.boot.verWid.isSome then (s, NOT_IN_MODE)
  else if !(s.slot s.updTarget).full then (s, BAD_PARAM)
  else (s.modBoot fun b => { b with verWid := some wid }, ACCEPTED)

/-- IMG_VERIFY_DONE, `sig`: the signature verifies. The request, its status and detail. -/
def State.imgVerified (sig : Bool) (s : State) : State × Option (Nat × Nat × Nat) :=
  match s.boot.verWid with
  | none => (s, none)
  | some w =>
    let s := s.modBoot fun b => { b with verWid := none }
    let k := s.updTarget
    let code := (s.slot k).check s.nv.fuses sig
    if code = 0 then
      (((s.modSlot k fun l => { l with st := eVERIFIED }).putb F.SYS_BOOT_UPD false).showSlots s.runSlot, some (w, OK, (s.slot k).arb))
    else (s.raise F.SYS_BOOT_EVT_VERIFY_FAIL, some (w, REFUSED_SAFETY, code))

/-- IMG_ACTIVATE: the commit of ACTIVE, then a restart. -/
def State.imgActivate (s : State) : State × Nat :=
  let k := s.updTarget
  if s.mode ≠ mSTANDBY ∧ s.mode ≠ mSERVICE then (s, NOT_IN_MODE)
  else if (s.slot k).st ≠ eVERIFIED ∧ (s.slot k).st ≠ eCONFIRMED then (s, BAD_PARAM)
  else
    let s := s.modNv fun n => { n with active := k, trial := 0, bseq := n.bseq + 1 }
    ((s.showSlots s.runSlot).modT fun t => { t with restart := true }, OK)

/-- The session of an update ends: the target stays EMPTY (R493). -/
def State.updAbandon (i : Nat) (s : State) : State :=
  if s.flag F.SYS_BOOT_UPD && s.get F.SYS_BOOT_UPD_SES == i then
    (((s.modSlot s.updTarget fun l => { l with words := [] }).putb F.SYS_BOOT_UPD false).put F.SYS_BOOT_UPD_SES 0).modBoot fun b => { b with verWid := none }
  else s

/-! ### Signed bodies (R394, R497; 10 R319) -/

def byteFn (f : Nat → Byte) (n : Nat) : List Byte := (List.range n).map f
def digestOf (l : Slot) : List Byte := Crypto.sha3_512 l.signed

/-- A signature and the state with the free value taken. -/
def State.signature (msg : List Byte) (s : State) : List Byte × State :=
  (byteFn (Config.sign s.freeCtr msg) 4627, { s with freeCtr := s.freeCtr + 1 })

/-- The attestation body (R497). -/
def State.attBody (nonce : List Byte) (s : State) : List Byte :=
  let zero := List.replicate 64 0#8
  let img (k : Option Nat) : List Byte := match k with
    | some k => if (s.slot k).st = eVERIFIED ∨ (s.slot k).st = eCONFIRMED then digestOf (s.slot k) else zero
    | none => zero
  let oth : Option Nat := some (match s.runSlot with | some k => 1 - k | none => 1 - s.nv.active)
  let head := s.er.head
  le 4 0x4E564154 ++ le 4 1 ++ le 4 (s.rd A.SYS_SERIAL_LO).toNat ++ le 4 (s.rd A.SYS_SERIAL_HI).toNat ++ le 4 (s.get F.SYS_IMG_VER_VERSION) ++
    le 4 (s.rd A.SYS_BOOT).toNat ++ le 4 (s.get F.SYS_WAKES_WAKES) ++ le 8 s.devTime ++ img s.runSlot ++ img oth ++
    byteFn (Config.calDigest s.er.cal) 64 ++ (payBytes ((List.range 16).map fun i => s.rd (A.SAFE_DIG i)) 64) ++
    byteFn (Config.cfgDigest (s.nv.cfg.getD [])) 64 ++
    (match head with | some r => r.hash ++ le 8 r.seq ++ le 8 r.time | none => zero ++ le 8 0 ++ le 8 0) ++ nonce ++ byteFn Config.idPub 2592

/-- The message of an attested readout. -/
def readMsg (nonce : List Byte) (r : Rec) : List Byte := nonce ++ r.hash ++ le 8 r.seq ++ le 8 r.time

end Sys2Proof.Machine
end

