-- ==== Sys2Proof/Machine/Sessions.lean ====
section
/-! DEFINITION. Replies, tags and credits, sessions and their end, aborts, and streams (13 R376–R388, R396–R399, R402). -/

namespace Sys2Proof.Machine

/-! ### Replies (R376, R386) -/

def State.detail (s : State) (det : Nat) : Nat := det % 0x8000 + (if s.get F.HEALTH_SRQ_LEVEL ≠ 0 then 0x8000 else 0)

/-- Send a reply packet. -/
def State.reply (w : Work) (st det cred : Nat) (pay : List Word) (seg : Bool) (s : State) : State :=
  s.send ⟨w.port, w.peer, w.opc, if seg then 6 else 4, w.tag, w.ses, wd (st * 2 ^ 24 + cred * 2 ^ 16 + s.detail det), pay⟩

def State.modWork (f : List Work → List Work) (s : State) : State := s.modHost fun h => { h with work := f h.work }
def State.dropWork (wid : Nat) (s : State) : State := s.modWork fun l => l.filter fun x => x.wid != wid
def State.putWork (w : Work) (s : State) : State := s.modWork fun l => l.map fun x => if x.wid = w.wid then w else x

/-- The request of tag 255 is a register operation of H0 (14 R407). -/
def Work.isReg (w : Work) : Bool := w.tag == 255

/-- The tag range and the grant of an ended session are freed once every final reply was sent (R380). -/
def State.freeSession (i : Nat) (s : State) : State :=
  if !(s.sesOf i).ending || !(s.sesOf i).tags.isEmpty then s else
  let s := s.put F.HOST_POOL_FREE (s.get F.HOST_POOL_FREE + s.get (F.HOST_SES_CR_GRANT i))
  let s := s.put F.HOST_TAGS_ALLOC (s.get F.HOST_TAGS_ALLOC - s.get (F.HOST_SES_STAT_TCNT i))
  let s := ((s.put (F.HOST_SES_CR_GRANT i) 0).put (F.HOST_SES_STAT_TCNT i) 0).put (F.HOST_SES_STAT_TBASE i) 0
  s.modSes i fun x => { x with ending := false }

/-- A tag ends: its credits return. -/
def State.dropTag (i tag : Nat) (s : State) : State :=
  match (s.sesOf i).tags.find? fun t => t.1 == tag with
  | none => s
  | some t =>
    let s := s.modSes i fun x => { x with tags := x.tags.filter fun y => y.1 != tag }
    ((s.put (F.HOST_SES_CR_HELD i) (s.get (F.HOST_SES_CR_HELD i) - t.2)).put F.HOST_TAGS_IN_FLIGHT (s.get F.HOST_TAGS_IN_FLIGHT - 1)).freeSession i

/-- The end of a register operation of H0: status, words, and the data of a read (14 R407). -/
def State.regDone (st n : Nat) (pay : Option (List Word)) (s : State) : State :=
  let s := ((s.putb F.HOST_SPI_STAT_REG_BUSY false).putb F.HOST_SPI_STAT_REG_DONE true).put F.HOST_SPI_STAT_REG_STATUS st
  let s := s.put F.HOST_SPI_STAT_REG_N n
  match pay with
  | some l => s.modHost fun h => { h with spiData := l }
  | none => s

/-- The final reply of a request; the request leaves the queue. -/
def State.finish1 (w : Work) (st det : Nat) (pay : List Word) (s : State) : State :=
  let s := s.dropWork w.wid
  if w.isReg then s.regDone st (if w.opc = 0x80 then pay.length else det) (if w.opc = 0x80 then some pay else none)
  else
    let s := s.reply w st det w.cred pay false
    s.when (w.opc != 1) (State.dropTag w.ses w.tag)

/-- The final reply, then the ABORTs that waited for it, and the CLOSE when nothing else of the session is in flight. -/
def State.finish (w : Work) (st det : Nat) (pay : List Word) (s : State) : State :=
  let s := s.finish1 w st det pay
  let ab := s.host.work.filter fun x => x.ses == w.ses && x.phase == .abortWait w.tag && x.wid != w.wid
  let s := ab.foldl (fun s x => s.finish1 x (if st = ABORTED then OK else ABORT_TOO_LATE) 0 []) s
  match s.host.work.find? fun x => x.ses == w.ses && x.phase == .closing with
  | some x => s.when ((s.sesOf w.ses).tags.all fun t => t.1 == x.tag) fun s => s.finish1 x OK 0 []
  | none => s

/-- ACCEPTED, once. -/
def State.accepted (w : Work) (s : State) : State :=
  if w.acc || w.isReg then s else s.reply w ACCEPTED 0 0 [] false

/-! ### Streams (R396–R398) -/

def State.stream (s : State) (id : Nat) : Option Stream := (s.host.streams.find? fun x => x.1 == id).map Prod.snd
def State.setStream (id : Nat) (x : Stream) (s : State) : State :=
  s.modHost fun h => { h with streams := (id, x) :: h.streams.filter fun y => y.1 != id }

/-- A stream closes: packets are discarded and its units return. -/
def State.closeStream (id : Nat) (s : State) : State :=
  match s.stream id with
  | none => s
  | some x =>
    let n := 17 * x.win
    let s := s.modHost fun h => { h with streams := h.streams.filter fun y => y.1 != id }
    (s.put F.HOST_POOL_STREAM_RES (s.get F.HOST_POOL_STREAM_RES - n)).put F.HOST_POOL_FREE (s.get F.HOST_POOL_FREE + n)

/-- The payload of WINDOW_READ for its word 0 (R390, R393). -/
def State.windowPay (s : State) (w0 : Word) : List Word :=
  let p := bits w0 3 0
  let lv := bits w0 5 4
  let m := s.mtr p
  let v := (m.shown[lv]?).getD ({} : Ival)
  let cnt := if lv = 0 then s.get (F.METER_INTV_N1012 p) else if lv = 1 then m.n180 else if lv = 2 then s.get (F.METER_INTV_N10M p) else m.n2h
  let sig := bits w0 12 10
  [wd cnt, s.rd (A.METER_STAT p)] ++ (List.range 32).map (s.roWord p v) ++
    (if bit w0 8 then (List.range 229).map (s.harmWord p v sig (bits w0 14 13)) else []) ++
    (if bit w0 9 then (List.range 74).map (s.supraWord p v sig) else [])
def windowOk (w0 : Word) : Bool := w0 &&& ~~~0x7F3F#32 == 0#32 && bits w0 3 0 ≤ 8 && bits w0 14 13 ≤ 2

/-- Declared rate of SIGNAL in bits per second, with the header words of full packets (R402). -/
def State.signalRate (s : State) (par : List Word) : Nat :=
  let w1 := pw par 0
  let n := bits w1 20 16 + 2
  let m := 1022 / n
  32 * 800000000 * (n * m + 2) / (m * s.get F.SYS_TICK_TICK_DIV * (bits w1 15 0 + 1))

/-- Sustained payload capacity of the port of a peer in bits per second (R402). -/
def capacity (port : Port) (peer : Nat) : Nat :=
  match port with
  | .h0 => 180000000
  | .h1 => 900000000
  | .h2 => if peer < 64 then 16000000 else if peer < 128 then 320000000 else 2000000000

def Stream.rate (s : State) (x : Stream) : Nat := if x.typ = 3 then s.signalRate x.par else 0

/-- STREAM_OPEN: status and reply payload. -/
def State.streamOpen (w : Work) (s : State) : State × Nat × List Word :=
  let typ := pf w.pay 0 2 0
  let win := if pf w.pay 0 12 8 = 0 then 32 else pf w.pay 0 12 8
  let par := w.pay.drop 1
  let w1 := pw par 0
  let nsig := bits w1 20 16 + 1
  let shape : Bool := match typ with
    | 0 => par.isEmpty
    | 1 => par.isEmpty
    | 2 => par.length == 1 && windowOk w1
    | 3 => par.length == 1 + nsig && pok par 0 0x1FFFFF && (List.range nsig).all fun i =>
        pok par (i + 1) 0x7FF && (selOk (pf par (i + 1) 7 0) || within 0xA0 (pf par (i + 1) 7 0) 0xA8)
    | 4 => par.length == 2
    | _ => false
  let same := s.host.streams.any fun x => x.2.typ == typ && (typ == 0 || typ == 1 || (typ == 2 && x.2.par == par))
  let x : Stream := { ses := w.ses, typ := typ, win := win, par := par }
  let rate := Stream.rate s x
  let samePort (y : Stream) : Bool :=
    s.get (F.HOST_SES_STAT_PORT y.ses) == portNo w.port && capacity w.port (s.sesOf y.ses).peer == capacity w.port w.peer
  let used (f : Stream → Bool) : Nat := (s.host.streams.filter fun y => f y.2).foldl (fun n y => n + Stream.rate s y.2) 0
  let ids := (List.range 32).filter fun i => (s.stream i).isNone
  match ids.head? with
  | none => (s, NO_CREDIT, [])
  | some id =>
    if !pok w.pay 0 0x1F07 || !shape then (s, BAD_PARAM, [])
    else if s.get F.HOST_POOL_FREE < 17 * win then (s, NO_CREDIT, [])
    else if rate ≠ 0 ∧ (capacity w.port w.peer < used samePort + rate ∨ 3200000000 < used (fun _ => true) + rate) then (s, BUDGET_EXCEEDED, [])
    else if same then (s, OWNED, [])
    else if (typ = 1 ∧ s.recState ≠ 4) ∨ (typ = 2 ∧ s.mtype (bits w1 3 0) = 0) then (s, NOT_IN_MODE, [])
    else
      let pos := if typ = 0 then s.get F.SURV_BUF_RD_RD_IDX else if typ = 4 then (pw par 0).toNat * 2 ^ 32 + (pw par 1).toNat else 0
      let s := s.setStream id { x with pos := pos }
      let s := (s.put F.HOST_POOL_FREE (s.get F.HOST_POOL_FREE - 17 * win)).put F.HOST_POOL_STREAM_RES (s.get F.HOST_POOL_STREAM_RES + 17 * win)
      (s, OK, [wd id, wd (17 * win)])

/-- STREAM_ACK (R398). -/
def State.streamAck (i : Nat) (pay : List Word) (s : State) : State × Nat :=
  if !pok pay 0 0x1001F || !pok pay 1 0xFFFF then (s, BAD_PARAM) else
  let id := pf pay 0 4 0
  let q := pf pay 1 15 0
  match s.stream id with
  | none => (s, BAD_PARAM)
  | some x =>
    let back := (x.pseq + 65535 - q) % 65536
    if x.ses ≠ i then (s, OWNED)
    else if x.pseq ≤ back then (s, BAD_PARAM)
    else
      let last := x.pseq - 1 - back
      let s := match (x.unacked.filter fun u => u.1 ≤ last).getLast? with
        | some u => s.when (x.typ == 0) fun s => s.put F.SURV_BUF_RD_RD_IDX u.2.1
        | none => s
      let rest := x.unacked.filter fun u => last < u.1
      let s := s.setStream id { x with unacked := rest }
      (s.when (pf pay 0 16 16 == 1) fun s => rest.foldl (fun s u => s.send u.2.2) s, OK)

/-- Thermal step 3 drops alternate items (R397): keep this one? -/
def State.keepItem (s : State) (x : Stream) : Bool := !(s.get F.HEALTH_THERM_STEP == 3 && x.skip)

/-- An item of a METER or SIGNAL stream arises: it waits for a packet, or is lost and counted when a packet is full. -/
def State.feed (id room : Nat) (item : List Word) (s : State) : State :=
  match s.stream id with
  | none => s
  | some x =>
    let hot := s.get F.HEALTH_THERM_STEP == 3
    let y := { x with skip := hot && !x.skip }
    if !s.keepItem x then s.setStream id y
    else if x.q.length < room then s.setStream id { y with q := x.q ++ [item] }
    else s.setStream id { y with lost := x.lost + 1 }

/-- An interval of level `lv` of point `p` completes. -/
def State.feedMeter (p lv : Nat) (s : State) : State :=
  s.host.streams.foldl (fun s x =>
    if x.2.typ = 2 ∧ pf x.2.par 0 3 0 = p ∧ pf x.2.par 0 5 4 = lv then s.feed x.1 1 (s.windowPay (pw x.2.par 0)) else s) s

/-- A base tick of the SIGNAL streams. -/
def State.feedSignal (s : State) : State :=
  s.host.streams.foldl (fun s x =>
    if x.2.typ ≠ 3 then s
    else if x.2.pos ≠ 0 then s.setStream x.1 { x.2 with pos := x.2.pos - 1 }
    else
      let n := pf x.2.par 0 20 16 + 1
      let item := s.rd A.SYS_TICK_CNT_LO :: (List.range n).map fun i => s.recSel (pf x.2.par (i + 1) 7 0) (pf x.2.par (i + 1) 10 8)
      (s.setStream x.1 { x.2 with pos := pf x.2.par 0 15 0 }).feed x.1 (1022 / (n + 1)) item) s

/-- Every second element, from the first. -/
def alternate (l : List Nat) : List Nat := (l.zipIdx.filter fun x => x.2 % 2 = 0).map Prod.fst

/-- What the next packet of a stream carries: payload, position after it, END; none when there is nothing to send. -/
def State.streamNext (s : State) (x : Stream) : Option (List Word × Nat × Bool × Nat) :=
  let hot := s.get F.HEALTH_THERM_STEP == 3
  match x.typ with
  | 0 =>
    let n := min 255 ((s.get F.SURV_BUF_WR_WR_IDX + 8192 - x.pos) % 8192)
    if n = 0 then none else
    let ixs := (List.range n).map fun k => (x.pos + k) % 8192
    let ixs := if hot then alternate ixs else ixs
    let recW (k : Nat) : List Word := match s.surv.buf.find? fun r => r.1 == k with | some r => [r.2.1, r.2.2] | none => [0#32, 0#32]
    some (ixs.flatMap recW, (x.pos + n) % 8192, false, x.lost)
  | 1 =>
    let rs := s.ride.recs
    let sz := recSize (s.get F.REC_CFG_NSIG) / 4
    let n := min (1022 / sz) (rs.length - x.pos)
    if n = 0 ∨ s.recState ≠ 4 then none else
    some (wd x.pos :: ((rs.drop x.pos).take n).flatten, x.pos + n, decide (rs.length ≤ x.pos + n), x.lost)
  | 2 => match x.q with | [] => none | a :: _ => some (a, x.pos, false, x.lost)
  | 3 => if x.q.isEmpty then none else some (x.q.flatten, x.pos, false, x.lost)
  | _ =>
    let old := match s.log.ring.getLast? with | some r => r.lseq | none => 1
    let pos := max x.pos old
    let rs := ((s.log.ring.filter fun r => pos ≤ r.lseq).reverse).take 63
    if rs.isEmpty then none else some (rs.flatMap LogRec.words, pos + rs.length, false, x.lost + (pos - max 1 x.pos))

/-- STREAM_DATA (R397): the next packet, within the stream's window. -/
def State.streamData (id : Nat) (s : State) : State :=
  match s.stream id with
  | none => s
  | some x =>
    if x.win ≤ x.unacked.length then s else
    match s.streamNext x with
    | none => s
    | some (pay, pos, last, lost) =>
      let red := s.get F.HEALTH_THERM_STEP == 3
      let w1 := wd (id * 2 ^ 27 + b2n (lost != 0) * 2 ^ 26 + b2n last * 2 ^ 25 + b2n red * 2 ^ 24 + x.pseq % 65536)
      let p : OutPkt := ⟨portOf (s.get (F.HOST_SES_STAT_PORT x.ses)), (s.sesOf x.ses).peer, 0x7F, 5, 0, x.ses, w1, if lost != 0 then wd lost :: pay else pay⟩
      let q := if x.typ = 2 then x.q.drop 1 else []
      (s.setStream id { x with pseq := x.pseq + 1, unacked := x.unacked ++ [(x.pseq, pos, p)], lost := 0, pos := pos, q := q }).send p

/-! ### The end of a session (R380) and aborts (R388) -/

inductive AbortRes | aborted | waits | late
  deriving DecidableEq, Repr

/-- Words of a request that writes several words. -/
def Work.words (w : Work) : Nat :=
  match w.opc with
  | 0x18 => if bit (pw w.pay 0) 8 then 2 else 1
  | 0x31 => w.pay.length - 1
  | 0x32 => (w.pay.length - 1) / 2
  | 0x81 => w.pay.length - 1
  | 0x82 => w.pay.length / 2
  | _ => 1

/-- Stop a request that has not retired. -/
def State.abortWork (w : Work) (s : State) : State × AbortRes :=
  match w.phase with
  | .ready | .waitState _ | .waitMode _ | .timed _ => (s.finish1 w ABORTED w.ix [], .aborted)
  | .sign =>
    let s := s.modBoot fun b => { b with reads := b.reads.filter fun x => x.1 != w.wid, atts := b.atts.filter fun x => x.1 != w.wid }
    (s.finish1 w ABORTED w.ix [], .aborted)
  | .rebuild => (s.putWork { w with abort := decide (w.ix + 1 < w.words) }, .waits)
  | .ran | .commit => (s, .waits)
  | .abortWait _ | .closing => (s, .late)

/-- Requests in ascending tag order. -/
def insertTag (w : Work) : List Work → List Work
  | [] => [w]
  | x :: l => if w.tag ≤ x.tag then w :: x :: l else x :: insertTag w l

/-- End session `i`: CLOSE, its timeout, or the loss of its port. -/
def State.endSession (i : Nat) (s : State) : State :=
  if !s.sesOpen i then s else
  let ws := (s.host.work.filter fun w => w.ses == i && !w.isReg && w.opc != 1).foldr insertTag []
  let s := ws.foldl (fun s w => match s.host.work.find? fun x => x.wid == w.wid with
    | some x => if x.opc = 4 ∧ x.phase = .ready then s.finish1 x ABORTED 0 [] else (s.abortWork x).1
    | none => s) s
  let ids := (s.host.streams.filter fun x => x.2.ses == i).map Prod.fst
  let s := ids.foldl (fun s id => s.closeStream id) s
  let s := s.each chans fun c s => s.when (s.chOwner c == i + 1) fun s => s.setChOwner c 0
  let s := s.when (s.devOwner == i + 1) fun s => s.put F.HOST_CLAIM2_DEVICE 0
  let s := s.each ix16s fun k s => s.when (s.lockOwner k == i + 1) fun s => s.setLock k 0
  let s := s.when (s.safeOwner i) (State.safeLock i)
  let s := ((s.put (F.HOST_DB_PEND i) 0).put (F.HOST_MBT_TMO i) 0).wr (A.HOST_NSUB i) 0#32
  let s := (s.updAbandon i).putb (F.HOST_SES_STAT_OPEN i) false
  (s.modSes i fun x => { x with ending := true }).freeSession i

/-- SESSION_TIMEOUT: no request for the session's TIMEOUT. -/
def State.sessionTimeout (i : Nat) (s : State) : State :=
  let x := s.sesOf i
  if s.sesOpen i && x.timeout != 0 && x.lastReq + msClk x.timeout ≤ s.clk then s.endSession i else s

/-- The sessions bound to a lost port end (14 R403). -/
def State.portLost (l : LostLink) (s : State) : State :=
  let on (i : Nat) : Bool :=
    let port := s.get (F.HOST_SES_STAT_PORT i)
    let peer := (s.sesOf i).peer
    match l with
    | .h1 => port == 1
    | .tl2 => port == 2 && within 64 peer 127
    | .tl3 => port == 2 && 128 ≤ peer
  let gone : Bool := match l with
    | .h1 => !s.flag F.HOST_ETH_STAT_LINK
    | .tl2 => !s.flag F.HOST_RING_STAT_TL2_UP
    | .tl3 => !s.flag F.HOST_RING_STAT_TL3E_UP && !s.flag F.HOST_RING_STAT_TL3W_UP
  s.each ix16s fun i s => s.when (gone && on i) (State.endSession i)

end Sys2Proof.Machine
end

