-- ==== Sys2Proof/Machine/Requests.lean ====
section
/-! DEFINITION. Request packets: admission (13 R381), ordering and command slots (R383, R386–R388), and every opcode
(R390–R399; 14 R419, R420; 17 R478–R480, R492–R495). -/

namespace Sys2Proof.Machine

/-! ### Opcodes and their lengths (R390) -/

/-- LEN of a request of an assigned opcode; none for an opcode that no request has. -/
def opcLen (opc n : Nat) : Option Bool :=
  match opc with
  | 0x00 | 0x02 | 0x03 | 0x05 | 0x10 | 0x63 | 0x91 | 0x93 | 0x96 | 0xA2 | 0xB2 | 0xB3 | 0xC0 => some (n == 0)
  | 0x04 | 0x11 | 0x12 | 0x13 | 0x14 | 0x15 | 0x16 | 0x17 | 0x52 | 0x53 | 0x60 | 0x61 | 0x71 | 0xB0 | 0xC1 | 0xC2 => some (n == 1)
  | 0x01 | 0x30 | 0x33 | 0x51 | 0x62 | 0x72 | 0x80 | 0x95 | 0xA1 => some (n == 2)
  | 0x18 => some (within 2 n 3)
  | 0x19 => some (within 3 n 257 && n % 2 == 1)
  | 0x31 => some (within 2 n 65)
  | 0x32 => some (within 3 n 1023 && n % 2 == 1)
  | 0x50 => some (within 3 n 21 && n % 2 == 1)
  | 0x64 => some (n == 10)
  | 0x70 => some (within 1 n 34)
  | 0x81 | 0xB1 => some (within 2 n 1023)
  | 0x82 => some (within 2 n 1022 && n % 2 == 0)
  | 0x83 | 0xA0 => some (n == 3)
  | 0x90 | 0x94 => some (within 3 n 17)
  | 0x92 => some (n == 64)
  | 0xB4 => some (n == 8)
  | _ => none

/-- Opcodes served in recovery (17 R492). -/
def recoveryOpc (opc : Nat) (pay : List Word) : Bool :=
  let a := (pw pay 0).toNat
  let n := (pw pay 1).toNat
  let last := a + 4 * n - 4
  [0, 1, 2, 3, 4, 5, 0x10, 0x12, 0x13, 0xB0, 0xB1, 0xB2, 0xB3, 0xB4, 0xC0, 0xC1, 0xC2].contains opc ||
    (opc == 0x80 && (n == 0 || 1023 < n || decide (last ≤ 0xFC) || (decide (0x10000 ≤ a) && decide (last < 0x20000)))) ||
    (opc == 0x11 && pf pay 0 2 0 == 1)

/-- The Compatibility profile shows the register window to a request through TL1 or TL2 (15 R444). -/
def State.window (s : State) (port : Port) (peer : Nat) : Bool :=
  s.get F.HEALTH_MGS_PROF == 3 && port == .h2 && decide (peer < 128) && !s.recovery

/-! ### What a request touches (R383) -/

/-- Address and value of each word that a register write names, in payload order. -/
def Work.regPairs (w : Work) : List (Nat × Word) :=
  match w.opc with
  | 0x81 => (w.pay.drop 1).mapIdx fun i v => ((pw w.pay 0).toNat + 4 * i, v)
  | 0x82 => (List.range (w.pay.length / 2)).map fun i => ((pw w.pay (2 * i)).toNat, pw w.pay (2 * i + 1))
  | 0x83 => [((pw w.pay 0).toNat, 0#32)]
  | 0x80 => (List.range (min (pw w.pay 1).toNat 1024)).map fun i => ((pw w.pay 0).toNat + 4 * i, 0#32)
  | _ => []

/-- Word and value of each context word that a context write names, in the order of application (R391, R99). -/
def Work.ctxPairs (w : Work) : List (Nat × Word) :=
  match w.opc with
  | 0x18 => if bit (pw w.pay 0) 8 then [(5, pw w.pay 2), (4, pw w.pay 1)] else [(4, pw w.pay 1)]
  | 0x31 => (w.pay.drop 1).mapIdx fun i v => (pf w.pay 0 13 8 + i, v)
  | 0x32 => (List.range ((w.pay.length - 1) / 2)).map fun i => (pf w.pay (2 * i + 1) 5 0, pw w.pay (2 * i + 2))
  | _ => []

/-- The entries of SETPOINT_SET: channel, context, REF. -/
def Work.setEntries (w : Work) : List (Nat × Nat × Word) :=
  (List.range ((w.pay.length - 1) / 2)).map fun i => (pf w.pay (2 * i + 1) 2 0, pf w.pay (2 * i + 1) 7 4, pw w.pay (2 * i + 2))

def Work.ch (w : Work) : Nat := pf w.pay 0 2 0

/-- The tick's one write of a context (R27) is taken. -/
def ctxKey (a : Nat) : Nat := 16 * chanOf a + a % 0x1000 / 0x100

/-- Contexts 0–127, channel states 200–207, streams 300–331 and registers from 0x1000. -/
def keyOf (a : Nat) : List Nat :=
  if isCtx a then [ctxKey a]
  else if 0x100000 ≤ a ∧ (a % 0x10000 = 0xC000 ∨ a % 0x10000 = 0xC104 ∨ a % 0x10000 = 0x6004) then [0x1000 + a, 200 + chanOf a]
  else [0x1000 + a]

def State.keys (s : State) (w : Work) : List Nat :=
  let c := w.ch
  match w.opc with
  | 0x18 | 0x31 | 0x32 => [16 * c + pf w.pay 0 7 4]
  | 0x19 => w.setEntries.map fun e => 16 * e.1 + e.2.1
  | 0x30 => (maskList 16 (pf w.pay 1 15 0)).map (16 * c + ·)
  | 0x14 => (200 + c) :: (0x1000 + A.ROLE_SEL c) :: (List.range 16).map (16 * c + ·)
  | 0x15 | 0x16 => [200 + c]
  | 0x17 => [200 + c, 0x1000 + A.GRID_CTRL c]
  | 0x53 => [200 + c, 0x1000 + A.GDI_CTRL c]
  | 0x33 => [0x1000 + A.ENG_FREEZE c]
  | 0x51 => (maskList 8 (pf w.pay 0 7 0)).map fun c => 0x1000 + A.PWM_FORCE c
  | 0x50 => (maskList 10 (pf w.pay 0 25 16)).map fun h => 0x1000 + A.PWM_SHHI c h
  | 0x70 | 0x71 | 0x72 => [300 + pf w.pay 0 4 0]
  | 0x80 | 0x81 | 0x82 | 0x83 => w.regPairs.flatMap fun p => match resolve (s.window w.port w.peer) p.1 with | some a => keyOf a | none => []
  | _ => []

/-- The request has begun: something of it was applied. -/
def Work.begun (w : Work) : Bool := w.phase != .ready || w.ix != 0 || w.acc
/-- The request may still apply words or change what it touches. -/
def Work.applying (w : Work) : Bool :=
  match w.phase with
  | .ready | .rebuild | .timed _ => true
  | _ => false

/-- Requests of one session begin in SEQ order, and after earlier ones that touch the same things (R383). -/
def State.blocked (w : Work) (s : State) : Bool :=
  let before := (s.host.work.takeWhile fun x => x.wid != w.wid).filter fun x => x.ses == w.ses && x.isReg == w.isReg && x.opc != 4
  let ks := s.keys w
  (!w.begun && before.any fun x => !x.begun) ||
    before.any fun x => x.applying && (s.keys x).any ks.contains

/-! ### Context and register writes (R387, R391, R395; 03 R99–R101) -/

/-- Detail and payload of the final reply OK of a request that wrote its last word. -/
def Work.okDet (w : Work) : Nat := if [0x18, 0x31, 0x32, 0x81, 0x82].contains w.opc then w.ix else 0
def Work.okPay (w : Work) : List Word := if w.opc = 0x83 then [pw w.pay 3] else []

/-- The next word of a request was answered `st`: the request goes on, waits, or ends. A commit answers when it is done (09
R280, 17 R486). The reply of a context write
leaves in the slot after the law ran with its last word (03 R100). -/
def State.wordDone (w : Work) (st : Nat) (s : State) : State :=
  if st = OK then
    let w' := { w with ix := w.ix + 1, phase := .ready }
    if w'.ix < w.words then s.putWork w'
    else if [0x18, 0x31, 0x32].contains w.opc then s.putWork { w' with phase := .ran }
    else s.finish w' OK w'.okDet w'.okPay
  else if st = ACCEPTED then
    if s.t.rebuilds.any fun r => r.wid == w.wid then (s.accepted w).putWork { w with acc := true, phase := .rebuild }
    else s.putWork { w with phase := .commit }
  else s.finish w st w.ix []

def State.work (s : State) (wid : Nat) : Option Work := if wid = 0 then none else s.host.work.find? fun x => x.wid == wid

/-- The tick table with a request's word takes effect, or the commit that its word began succeeds. -/
def State.wordEffective (wid : Nat) (s : State) : State :=
  match s.work wid with
  | none => s
  | some w =>
    if w.abort then s.finish w ABORTED (w.ix + 1) []
    else
      let w' := { w with ix := w.ix + 1, phase := .ready }
      s.putWork (if w'.ix < w.words then w' else { w' with phase := .ran })

/-- The word that a request waits for ends it with `st`. -/
def State.wordFailed (wid st : Nat) (s : State) : State :=
  match s.work wid with
  | none => s
  | some w => s.finish w st w.ix []

/-- Final reply BAD_PARAM. -/
def State.bad (w : Work) (s : State) : State := s.finish w BAD_PARAM 0 []
/-- The request holds channel `c`; else OWNED. -/
def State.own (w : Work) (c : Nat) (s : State) (f : State → State) : State :=
  if s.holds w.ses (.chan c) then f s else s.finish w OWNED 0 []
def State.ownDev (w : Work) (s : State) (f : State → State) : State :=
  if s.holds w.ses .dev then f s else s.finish w OWNED 0 []

def Work.ctxShape (w : Work) : Bool :=
  let n := w.pay.length
  match w.opc with
  | 0x18 => pok w.pay 0 0x1F7 && n == 2 + pf w.pay 0 8 8
  | 0x31 => pok w.pay 0 0x1FFFF7 && pf w.pay 0 20 14 == n - 1 && decide (pf w.pay 0 13 8 + (n - 1) ≤ 64)
  | 0x32 => pok w.pay 0 0x3FFF7 && n == 1 + 2 * pf w.pay 0 17 8 && (List.range ((n - 1) / 2)).all fun i => pok w.pay (2 * i + 1) 0x3F
  | _ => false

/-- SETPOINT, CTX_WRITE, CTX_WRITE_LIST: the next word. -/
def State.doCtxWrite (w : Work) (s : State) : State :=
  if !w.ctxShape then s.bad w else
  let c := w.ch
  let k := pf w.pay 0 7 4
  if s.t.written.contains (16 * c + k) then s else
  match w.ctxPairs[w.ix]? with
  | none => s.bad w
  | some (i, v) => let (s, st) := s.writeReg w.ses (ctxAddr c k i) v w.wid; s.wordDone w st

/-- REG_WRITE, REG_WRITE_LIST: the next word; every address is checked before any (15 R432). -/
def State.doRegWrite (w : Work) (s : State) : State :=
  let res (a : Nat) := resolve (s.window w.port w.peer) a
  let ps := w.regPairs
  if !ps.all fun p => (res p.1).isSome then s.bad w else
  match ps[w.ix]? with
  | none => s.bad w
  | some (a, v) =>
    let a := (res a).getD 0
    if isCtx a && s.t.written.contains (ctxKey a) then s
    else let (s', st) := s.writeReg w.ses a v w.wid; s.mbLate (s'.wordDone w st)

/-- REG_RMW: read and write in one slot. -/
def State.doRmw (w : Work) (s : State) : State :=
  match resolve (s.window w.port w.peer) (pw w.pay 0).toNat with
  | none => s.bad w
  | some a =>
    if isCtx a && s.t.written.contains (ctxKey a) then s
    else
      let m := pw w.pay 1
      let (s', old) := s.readReg w.ses a
      let (s', st) := s'.writeReg w.ses a ((old &&& ~~~m) ||| (pw w.pay 2 &&& m)) w.wid
      let w' := { w with pay := w.pay.take 3 ++ [old] }
      s.mbLate ((s'.putWork w').wordDone w' st)

/-- REG_READ: every word in one slot. -/
def State.doRegRead (w : Work) (s : State) : State :=
  let res (a : Nat) := resolve (s.window w.port w.peer) a
  if !within 1 (pw w.pay 1).toNat 1023 || !(w.regPairs.all fun p => (res p.1).isSome) then s.bad w else
  let (s, out) := w.regPairs.foldl (fun (x : State × List Word) p =>
    let (s, v) := x.1.readReg w.ses ((res p.1).getD 0); (s, v :: x.2)) (s, [])
  s.finish w OK 0 out.reverse

/-- CTX_READ. -/
def State.doCtxRead (w : Work) (s : State) : State :=
  let first := pf w.pay 0 13 8
  let n := pf w.pay 0 20 14
  let ks := maskList 16 (pf w.pay 1 15 0)
  if !pok w.pay 0 0x1FFF07 || !pok w.pay 1 0xFFFF || !within 1 n 64 || 64 < first + n || 1023 < n * ks.length then s.bad w
  else s.finish w OK 0 (ks.flatMap fun k => (List.range n).map fun i => s.readCtx w.ch k (first + i))

/-- SETPOINT_SET: every entry is checked, then every REF written, or none (R391). -/
def State.doSetpointSet (w : Work) (s : State) : State :=
  let es := w.setEntries
  let ks := es.map fun e => 16 * e.1 + e.2.1
  let n := (pw w.pay 0).toNat
  if !within 1 n 128 || w.pay.length ≠ 1 + 2 * n || !(List.range n).all (fun i => pok w.pay (2 * i + 1) 0xF7) then s.bad w
  else if ks.eraseDups.length ≠ ks.length then s.finish w BAD_PARAM (((List.range n).find? fun i => (ks.take i).contains (ks[i]?.getD 0)).getD 0) []
  else if ks.any s.t.written.contains then s
  else
    let wr1 (s : State) (e : Nat × Nat × Word) : State × Nat := s.writeReg w.ses (ctxAddr e.1 e.2.1 4) e.2.2 w.wid
    match es.zipIdx.find? fun e => (wr1 s e.1).2 ≠ OK with
    | some (e, i) => let (s, st) := wr1 s e; s.finish w st i []
    | none => (es.foldl (fun s e => (wr1 s e).1) s).finish w OK n []

/-! ### Session and flow control -/

/-- The lowest tag range of `n` free tags (R378). -/
def State.tagBase (s : State) (n : Nat) : Option Nat :=
  (List.range 128).find? fun b => decide (b + n ≤ 128) && ix16s.all fun i =>
    let t := s.get (F.HOST_SES_STAT_TCNT i)
    let x := s.get (F.HOST_SES_STAT_TBASE i)
    t == 0 || decide (b + n ≤ x) || decide (x + t ≤ b)

/-- A session opens. -/
def State.openGrant (w : Work) (s : State) : State :=
  let i := w.ses
  let g := pf w.pay 0 10 0
  let n := pf w.pay 0 18 11
  let free := s.get F.HOST_POOL_FREE
  match s.tagBase n with
  | none => s.finish w NO_CREDIT (min free 0x7FFF) []
  | some b =>
    if free < g then s.finish w NO_CREDIT (min free 0x7FFF) [] else
    let s := (s.put F.HOST_POOL_FREE (free - g)).put F.HOST_TAGS_ALLOC (s.get F.HOST_TAGS_ALLOC + n)
    let s := s.wr (A.HOST_SES_STAT i) (wd (1 + 2 * portNo w.port + 8 * b + 1024 * n))
    let s := (s.wr (A.HOST_SES_CR i) (wd g)).wr (A.HOST_SES_SEQ i) (w.seq + 1)
    let s := s.modSes i fun _ => { peer := w.peer, timeout := (pw w.pay 1).toNat, lastReq := s.clk }
    s.finish w OK 0 [wd (g + 65536 * b + 16777216 * n), wd (s.get F.HEALTH_MGS_PROF + 4 * portNo w.port + 16 * s.get F.HOST_RING_STAT_ADDR)]

/-- OPEN (R378). An OPEN of a session that is ending waits for its final replies. -/
def State.doOpen (w : Work) (s : State) : State :=
  let i := w.ses
  let tmo := (pw w.pay 1).toNat
  if w.pay.length ≠ 2 || !pok w.pay 0 0xFFFFF || !within 17 (pf w.pay 0 10 0) 1024 || !within 1 (pf w.pay 0 18 11) 128 ||
      !(tmo == 0 || within 100 tmo 600000) then s.bad w
  else if (s.sesOf i).ending then s
  else if s.sesOpen i then
    if bit (pw w.pay 0) 19 && s.get (F.HOST_SES_STAT_PORT i) == portNo w.port && (s.sesOf i).peer == w.peer then
      let s := s.endSession i
      if (s.sesOf i).ending then s else s.openGrant w
    else s.finish w OWNED 0 []
  else s.openGrant w

/-- CLOSE: its final reply follows every other of the session. -/
def State.doClose (w : Work) (s : State) : State :=
  let w' := { w with phase := .closing }
  let s := (s.putWork w').endSession w.ses
  s.when ((s.sesOf w.ses).tags.all fun t => t.1 == w.tag) fun s => s.finish1 w' OK 0 []

/-- The tags of `l` that lie in word `j` of an in-flight bitmap (13 R390). -/
def tagMap (l : List Nat) (j : Nat) : Word := (List.range 32).foldl (fun w k => setBits w k k (b2n (l.contains (32 * j + k)))) 0#32

/-- AUDIT (R385). -/
def State.doAudit (w : Work) (s : State) : State :=
  let s := s.poolAudit
  let i := w.ses
  let ts := (s.sesOf i).tags.map Prod.fst
  let grants := ix16s.foldl (fun n i => n + s.get (F.HOST_SES_CR_GRANT i)) 0
  s.finish w OK 0 ([wd (s.get (F.HOST_SES_CR_GRANT i)), wd (s.get (F.HOST_SES_CR_HELD i)), wd ts.length] ++ (List.range 4).map (tagMap ts) ++
    [4096#32, wd (s.get F.HOST_POOL_FREE), wd grants, wd (s.get F.HOST_POOL_STREAM_RES), wd (s.get F.HOST_TAGS_IN_FLIGHT)])

/-- ABORT at the beginning of a slot (R388). -/
def State.doAbort (w : Work) (s : State) : State :=
  let t := pf w.pay 0 6 0
  match s.host.work.find? fun x => x.ses == w.ses && x.tag == t && x.wid != w.wid with
  | some x =>
    if !pok w.pay 0 0x7F || x.opc = 4 || x.opc = 2 then s.bad w
    else match s.abortWork x with
      | (s, .aborted) => s.finish w OK 0 []
      | (s, .waits) => s.putWork { w with phase := .abortWait t }
      | (s, .late) => s.finish w ABORT_TOO_LATE 0 []
  | none => if !pok w.pay 0 0x7F || t = w.tag then s.bad w else s.finish w ABORT_TOO_LATE 0 []

/-- SESSIONS. -/
def State.doSessions (w : Work) (s : State) : State :=
  s.finish w OK 0 (ix16s.map fun i =>
    let own := chans.foldl (fun m c => if s.chOwner c = i + 1 then m + 2 ^ c else m) 0
    wd ((s.rd (A.HOST_SES_STAT i)).toNat % 2 ^ 18 + 2 ^ 18 * own + 2 ^ 26 * b2n (s.devOwner == i + 1)))

/-! ### Modes, claims, channel state -/

/-- STATUS. -/
def State.doStatus (w : Work) (s : State) : State :=
  s.finish w OK 0 (s.rd A.SYS_MODE :: chans.map fun c =>
    wd (s.role c + 16 * s.cst c + 256 * s.sub c + 4096 * s.get (F.GDI_STAT_TRIPPED c) + 8192 * s.get (F.ENG_STAT_SERVED c) + 65536 * s.refuseCode c))

/-- MODE_SET (17 R480): judged at the next tick boundary. -/
def State.doModeSet (w : Work) (s : State) : State :=
  let m := pf w.pay 0 2 0
  if !pok w.pay 0 7 then s.bad w else
  s.ownDev w fun s =>
    if m = 0 ∨ m = 4 ∨ m = 6 ∨ m = 7 then s.bad w
    else (s.accepted w).putWork { w with acc := true, phase := .waitMode m }

/-- The reply byte of CLAIM for an item with owner + 1 `o`. -/
def claimByte (i o : Nat) (asked : Bool) : Nat := if !asked then 0xFF else if o = i + 1 then 0 else o

/-- CLAIM (R389). -/
def State.doClaim (w : Work) (s : State) : State :=
  if !pok w.pay 0 0x101FF then s.bad w else
  let i := w.ses
  let asked (c : Nat) : Bool := bit (pw w.pay 0) c
  let can (o : Nat) : Bool := o == 0 || o == i + 1
  let all := (chans.all fun c => !asked c || can (s.chOwner c)) && (!asked 8 || can s.devOwner)
  let s := if bit (pw w.pay 0) 16 && !all then s else
    let s := s.each chans fun c s => s.when (asked c && can (s.chOwner c)) fun s => s.setChOwner c (i + 1)
    s.when (asked 8 && can s.devOwner) fun s => s.put F.HOST_CLAIM2_DEVICE (i + 1)
  let b (c : Nat) : Nat := claimByte i (s.chOwner c) (asked c)
  s.finish w OK 0 [wd (b 0 + 256 * b 1 + 65536 * b 2 + 16777216 * b 3), wd (b 4 + 256 * b 5 + 65536 * b 6 + 16777216 * b 7),
    wd (claimByte i s.devOwner (asked 8))]

/-- RELEASE. -/
def State.doRelease (w : Work) (s : State) : State :=
  if !pok w.pay 0 0x1FF then s.bad w else
  let i := w.ses
  let cs := chans.filter fun c => bit (pw w.pay 0) c && s.chOwner c == i + 1
  let d := bit (pw w.pay 0) 8 && s.devOwner == i + 1
  let s := (s.each cs fun c s => s.setChOwner c 0).when d fun s => s.put F.HOST_CLAIM2_DEVICE 0
  s.finish w OK 0 [wd (cs.foldl (fun m c => m + 2 ^ c) (256 * b2n d))]

/-- ROLE_SET (04 R107). -/
def State.doRoleSet (w : Work) (s : State) : State :=
  if !pok w.pay 0 0x707 then s.bad w else
  let (s, st) := s.writeReg w.ses (A.ROLE_SEL w.ch) (wd (pf w.pay 0 10 8)) w.wid
  s.wordDone w st

/-- START. -/
def State.doStart (w : Work) (s : State) : State :=
  let c := w.ch
  if !pok w.pay 0 0x107 then s.bad w else
  s.own w c fun s =>
    if s.cst c ≠ sOFF then s.finish w NOT_IN_MODE (s.refuseCode c) []
    else
      let (s, k) := s.startCh c
      if k ≠ 0 then s.finish w NOT_IN_MODE k []
      else if bit (pw w.pay 0) 8 then (s.accepted w).putWork { w with acc := true, phase := .waitState c }
      else s.finish w OK 0 []

/-- STOP. -/
def State.doStop (w : Work) (s : State) : State :=
  let c := w.ch
  if !pok w.pay 0 0x107 then s.bad w else
  s.own w c fun s =>
    let s := s.stopCh c
    if bit (pw w.pay 0) 8 && s.cst c != sOFF then (s.accepted w).putWork { w with acc := true, phase := .waitState c }
    else s.finish w OK 0 []

/-- START and STOP with WAIT: the awaited state. -/
def State.doWait (w : Work) (c : Nat) (s : State) : State :=
  if s.cst c = sTAIL then s.finish w INTERNAL_FAULT 0 []
  else if w.opc = 0x15 then
    if s.cst c = sACTIVE then s.finish w OK 0 []
    else if s.cst c = sOFF ∧ !(s.chn c).startNext then s.finish w NOT_IN_MODE (s.refuseCode c) [] else s
  else if s.cst c = sOFF then s.finish w OK 0 [] else s

/-- SUBMODE: the SUB and RECONN bits of GRID_CTRL (04 R138). -/
def State.doSubmode (w : Work) (s : State) : State :=
  let c := w.ch
  if !pok w.pay 0 0x307 then s.bad w else
  s.own w c fun s =>
    if s.role c ≠ rGRID then s.bad w
    else
      let v := setBits (wd (pf w.pay 0 8 8)) 10 10 (pf w.pay 0 9 9)
      let (s, st) := s.writeReg w.ses (A.GRID_CTRL c) v w.wid
      s.finish w st (s.get (F.GRID_STAT_PEND c)) []

/-- FREEZE (03 R102). -/
def State.doFreeze (w : Work) (s : State) : State :=
  let a := A.ENG_FREEZE w.ch
  let m := wd (pf w.pay 1 15 0)
  if !pok w.pay 0 7 then s.bad w else
  let (s, st) := s.writeReg w.ses a ((s.rd a &&& ~~~m) ||| (wd (pf w.pay 1 31 16) &&& m)) w.wid
  s.finish w st 0 []

/-! ### PWM and protection (R392) -/

/-- SHADOW_SET. -/
def State.doShadowSet (w : Work) (s : State) : State :=
  let c := w.ch
  let hs := maskList 10 (pf w.pay 0 25 16)
  let ok (p : Nat × Nat) : Bool :=
    let lo := pw w.pay (2 * p.2 + 1)
    let hi := pw w.pay (2 * p.2 + 2)
    s.shadowOk c p.1 && !(s.vpCarrier c && hi != 0#32) && lo &&& ~~~(implMask (A.PWM_SHLO c p.1)) == 0#32 && hi &&& ~~~(implMask (A.PWM_SHHI c p.1)) == 0#32
  if !pok w.pay 0 0x3FF0007 || w.pay.length ≠ 1 + 2 * hs.length then s.bad w else
  s.own w c fun s =>
    if !hs.zipIdx.all ok then s.bad w
    else (hs.zipIdx.foldl (fun s p => s.writeShadow c p.1 (pw w.pay (2 * p.2 + 1)) (pw w.pay (2 * p.2 + 2))) s).finish w OK 0 []

/-- FORCE_OFF: every named channel must be owned. -/
def State.doForceOff (w : Work) (s : State) : State :=
  let cs := maskList 8 (pf w.pay 0 7 0)
  let m := wd (pf w.pay 1 9 0)
  if !pok w.pay 0 0xFF || !pok w.pay 1 0x103FF then s.bad w
  else if !cs.all fun c => s.holds w.ses (.chan c) then s.finish w OWNED 0 []
  else
    let s := s.each cs fun c s =>
      let a := A.PWM_FORCE c
      (s.writeReg w.ses a (if bit (pw w.pay 1) 16 then s.rd a ||| m else s.rd a &&& ~~~m) w.wid).1
    s.finish w OK 0 []

/-- TRIP_READ. -/
def State.doTripRead (w : Work) (s : State) : State :=
  let c := w.ch
  if !pok w.pay 0 7 then s.bad w else
  s.finish w OK 0 ([s.rd (A.GDI_STAT c), s.rd (A.GDI_SRC c), s.rd (A.GDI_IN c), s.rd (A.GDI_TRQ_N c)] ++
    (List.range 8).flatMap fun k => [s.rd (A.GDI_TRQ_A c k), s.rd (A.GDI_TRQ_B c k)])

def State.setSwEn (c : Nat) (b : Bool) (off : Nat) (s : State) : State × Nat :=
  if s.flag (F.GDI_CTRL_SW_EN c) == b then (s, OK) else (s.putb (F.GDI_CTRL_SW_EN c) b).swEnChanged c b off

/-- TRIP_CLEAR: SW_EN := 0 now, SW_EN := 1 in the first slot at least 11 µs later. -/
def State.doTripClear (w : Work) (s : State) : State :=
  let c := w.ch
  if !pok w.pay 0 7 then s.bad w else
  s.own w c fun s =>
    let (off, s) := s.slotOff
    ((s.setSwEn c false off).1).putWork { w with phase := .timed (s.clk + usClk 11), pay := w.pay.take 1 ++ [wd off] }
def State.doTripSet (w : Work) (s : State) : State :=
  let c := w.ch
  s.own w c fun s =>
    let (s, st) := s.setSwEn c true (pw w.pay 1).toNat
    s.finish w st (b2n (!s.flag (F.GDI_STAT_ENA_PIN c)) + 2 * s.get (F.GDI_STAT_IN_ACTIVE c)) []

/-! ### Metrology and records (R393, R394) -/

/-- ACC_READ. -/
def State.doAccRead (w : Work) (s : State) : State :=
  let p := pf w.pay 0 3 0
  if !pok w.pay 0 0xFFFF000F || 8 < p then s.bad w else
  s.finish w OK 0 ((maskList 16 (pf w.pay 0 31 16)).flatMap fun a =>
    let r := s.rd (A.METER_WRAP p (a / 2))
    [s.rd (A.METER_ACC_LO p a), s.rd (A.METER_ACC_HI p a), if a % 2 = 0 then wd (bits r 15 0) else wd (bits r 31 16)])

/-- WINDOW_READ. -/
def State.doWindowRead (w : Work) (s : State) : State :=
  if !windowOk (pw w.pay 0) then s.bad w else s.finish w OK 0 (s.windowPay (pw w.pay 0))

/-- The record that a request names. -/
def State.recNamed (kind n : Nat) (s : State) : Option Rec :=
  match kind with
  | 0 => s.er.head
  | 1 => (s.er.at (0x8000 + n % 400)).filter fun r => dayOf r.time == n
  | _ => s.er.at n

/-- RECORD_READ. -/
def State.doRecordRead (w : Work) (s : State) : State :=
  let k := pf w.pay 0 1 0
  let n := (pw w.pay 1).toNat
  if !pok w.pay 0 3 || k = 3 || (k == 2 && 20 ≤ n) then s.bad w else
  match s.recNamed k n with
  | some r => s.finish w OK 0 (bytesToWords r.bytes)
  | none => s.finish w REFUSED_ENERGY 0 []

/-- SNAP_LIST. -/
def State.doSnapList (w : Work) (s : State) : State :=
  s.finish w OK 0 ((List.range 400).map fun i => match s.er.at (0x8000 + i) with
    | some r => wd (dayOf r.time)
    | none => 0xFFFFFFFF#32)

/-- ATTEST_READ: the record is copied and signed (10 R319). -/
def State.doAttestRead (w : Work) (s : State) : State :=
  let k := pf w.pay 0 1 0
  if !pok w.pay 0 3 || 1 < k then s.bad w else
  match s.recNamed k (pw w.pay 1).toNat with
  | none => s.finish w REFUSED_ENERGY 0 []
  | some r =>
    let msg := readMsg (payBytes (w.pay.drop 2) 32) r
    ((s.accepted w).modBoot fun b => { b with reads := b.reads ++ [(w.wid, msg, bytesToWords r.bytes)] }).putWork { w with acc := true, phase := .sign }

/-- ATTEST (17 R497). -/
def State.doAttest (w : Work) (s : State) : State :=
  let body := s.attBody (payBytes w.pay 32)
  ((s.accepted w).modBoot fun b => { b with atts := b.atts ++ [(w.wid, body, bytesToWords body)] }).putWork { w with acc := true, phase := .sign }

/-- A body in segments of at most 1,023 words. -/
def segments : Nat → List Word → List (List Word)
  | 0, _ => []
  | _, [] => []
  | n + 1, l => l.take 1023 :: segments n (l.drop 1023)

/-- The signed reply (R394). -/
def State.signedReply (wid : Nat) (msg : List Byte) (body : List Word) (s : State) : State :=
  match s.work wid with
  | none => s
  | some w =>
    let (sig, s) := s.signature msg
    let s := (segments body.length body).foldl (fun s g => s.reply w OK 0 0 g true) s
    let s := s.reply w OK 0 0 (bytesToWords (sig.take 3072)) true
    s.finish w OK 0 (bytesToWords (sig.drop 3072))

/-- ATTESTED_READOUT_SIGNED, ATTEST_SIGNED: the oldest readout, the oldest attestation. -/
def State.readSigned (s : State) : State :=
  match s.boot.reads with
  | [] => s
  | x :: l => (s.modBoot fun b => { b with reads := l }).signedReply x.1 x.2.1 x.2.2
def State.attSigned (s : State) : State :=
  match s.boot.atts with
  | [] => s
  | x :: l => (s.modBoot fun b => { b with atts := l }).signedReply x.1 x.2.1 x.2.2

/-! ### Streams -/

def State.doStreamOpen (w : Work) (s : State) : State := let (s, st, pay) := s.streamOpen w; s.finish w st 0 pay
/-- STREAM_CLOSE: only the session that opened the stream. -/
def State.doStreamClose (w : Work) (s : State) : State :=
  let id := pf w.pay 0 4 0
  if !pok w.pay 0 0x1F then s.bad w else
  match s.stream id with
  | none => s.bad w
  | some x => if x.ses = w.ses then (s.closeStream id).finish w OK 0 [] else s.finish w OWNED 0 []
def State.doStreamAck (w : Work) (s : State) : State := let (s, st) := s.streamAck w.ses w.pay; s.finish w st 0 []

/-! ### Safety, health and log -/

def State.doSafeUnlock (w : Work) (s : State) : State :=
  let (s, st, det) := s.safeUnlock w.ses (portNo w.port) w.pay
  s.finish w st det []
def State.doSafeLock (w : Work) (s : State) : State := (s.safeLock w.ses).finish w OK 0 []
def State.doSafeStage (w : Work) (s : State) : State := let (s, st) := s.safeStage w.ses w.pay; s.finish w st 0 []
/-- SAFE_COMMIT: ACCEPTED, then the outcome of the commit. -/
def State.doSafeCommit (w : Work) (s : State) : State :=
  let s := s.accepted w
  let (s, st) := s.safeCommit w.ses (portNo w.port)
  let w := { w with acc := true }
  if st = ACCEPTED then s.putWork { w with phase := .commit } else s.finish w st 0 []
def State.doSafeSetPw (w : Work) (s : State) : State := let (s, st) := s.safeSetPw w.ses (portNo w.port) w.pay; s.finish w st 0 []
def State.doSafeLogRead (w : Work) (s : State) : State :=
  if !within 1 (pw w.pay 1).toNat 25 then s.bad w else
  let (l, lost) := s.safeLogRead (pw w.pay 0).toNat (pw w.pay 1).toNat
  s.finish w OK (b2n lost) l
def State.doSgiReq (w : Work) (s : State) : State := (s.sgiReq).finish w OK 0 []

/-- LOG_READ. -/
def State.doLogRead (w : Work) (s : State) : State :=
  let n := (pw w.pay 2).toNat
  if !within 1 n 63 then s.bad w else
  let q := (pw w.pay 0).toNat * 2 ^ 32 + (pw w.pay 1).toNat
  let old := match s.log.ring.getLast? with | some r => r.lseq | none => 1
  let rs := ((s.log.ring.filter fun r => max q old ≤ r.lseq).reverse).take n
  s.finish w OK (b2n (decide (max q 1 < old))) (rs.flatMap LogRec.words)

/-- COUNTERS. -/
def State.doCounters (w : Work) (s : State) : State :=
  let a := (pw w.pay 0).toNat
  let n := (pw w.pay 1).toNat
  if !within 1 n 1023 || 1536 < a + n then s.bad w
  else s.finish w OK 0 ((List.range n).map fun i => s.rd (A.HEALTH_EVCNT (a + i)))

/-- HEALTH_GET. -/
def State.doHealthGet (w : Work) (s : State) : State :=
  s.finish w OK 0 ([A.HEALTH_SRQ, A.HEALTH_THERM, A.HEALTH_FO, A.HEALTH_AGE, A.HEALTH_MGS].map s.rd ++ ix16s.map fun i => s.rd (A.HEALTH_TEMP i))

/-! ### Update -/

def State.doImgBegin (w : Work) (s : State) : State :=
  s.ownDev w fun s => let (s, st) := s.imgBegin w.ses (pw w.pay 0).toNat; s.finish w st 0 []
def State.doImgData (w : Work) (s : State) : State :=
  let (s, st) := s.imgData w.ses (pw w.pay 0).toNat (w.pay.drop 1)
  s.finish w st 0 []
def State.doImgVerify (w : Work) (s : State) : State :=
  let (s, st) := s.imgVerify w.ses w.wid
  if st = ACCEPTED then (s.accepted w).putWork { w with acc := true, phase := .commit } else s.finish w st 0 []
/-- IMG_VERIFY_DONE. -/
def State.imgVerifyDone (sig : Bool) (s : State) : State :=
  match s.imgVerified sig with
  | (s, none) => s
  | (s, some (wid, st, det)) => match s.work wid with | some w => s.finish w st det [] | none => s
/-- IMG_ACTIVATE: ACCEPTED, OK, and the restart at the next tick boundary. -/
def State.doImgActivate (w : Work) (s : State) : State :=
  s.ownDev w fun s =>
    let (s, st) := s.imgActivate
    if st = OK then ((s.accepted w)).finish { w with acc := true } OK 0 [] else s.finish w st 0 []

/-! ### Ring and addressing (14 R419–R421) -/

/-- ANNOUNCE on the rings whose link is up (R421). -/
def State.announce (s : State) : State :=
  let tl3 := s.flag F.HOST_RING_STAT_TL3E_UP || s.flag F.HOST_RING_STAT_TL3W_UP
  let dests := (if s.flag F.HOST_RING_STAT_TL2_UP then [64 + 63] else []) ++ (if tl3 then [128 + 63] else [])
  if dests.isEmpty then s else
  let s := s.modHost fun h => { h with annCnt := (h.annCnt + 1) % 65536 }
  let pay := [wd (s.get F.HOST_RING_STAT_ADDR + 64 * s.get F.HOST_RING_STAT_STRAPPED + 256 * s.get F.HEALTH_MGS_PROF),
    s.rd A.SYS_SERIAL_LO, s.rd A.SYS_SERIAL_HI, s.rd A.SYS_IMG_VER]
  dests.foldl (fun s d => s.send ⟨.h2, d, 0xC3, 5, 0, 0, wd s.host.annCnt, pay⟩) s

/-- RING_STATUS: the bits for the generation of each ring port have no stated coding. -/
def State.doRingStatus (w : Work) (s : State) : State :=
  let (g, s) := s.fresh
  s.finish w OK 0 (wd (s.get F.HOST_RING_STAT_ADDR + 64 * s.get F.HOST_RING_STAT_STRAPPED + 256 * (g % 4)) ::
    (List.range 4).map fun i => s.rd (A.HOST_RING_ERR i))

/-- ENUMERATE through a session. -/
def State.doEnumerate (w : Work) (s : State) : State := if !pok w.pay 0 0x3F then s.bad w else s.finish w NOT_IN_MODE 0 []

/-- ADDR_SET. -/
def State.doAddrSet (w : Work) (s : State) : State :=
  let a := pf w.pay 0 5 0
  if !pok w.pay 0 0x3F then s.bad w else
  s.ownDev w fun s =>
    if s.flag F.HOST_RING_STAT_STRAPPED then s.finish w OWNED 0 []
    else if !within 1 a 62 then s.bad w
    else ((s.put F.HOST_RING_STAT_ADDR a).finish w OK 0 []).announce

/-! ### Command slots (R383, R387) -/

/-- Serve a request that is ready: what its opcode does. -/
def State.serveReady (w : Work) (s : State) : State :=
  match w.opc with
  | 0x00 => s.finish w OK 0 []
  | 0x01 => s.doOpen w
  | 0x02 => s.doClose w
  | 0x03 => s.doAudit w
  | 0x05 => s.doSessions w
  | 0x10 => s.doStatus w
  | 0x11 => s.doModeSet w
  | 0x12 => s.doClaim w
  | 0x13 => s.doRelease w
  | 0x14 => s.doRoleSet w
  | 0x15 => s.doStart w
  | 0x16 => s.doStop w
  | 0x17 => s.doSubmode w
  | 0x19 => s.doSetpointSet w
  | 0x18 | 0x31 | 0x32 => s.doCtxWrite w
  | 0x30 => s.doCtxRead w
  | 0x33 => s.doFreeze w
  | 0x50 => s.doShadowSet w
  | 0x51 => s.doForceOff w
  | 0x52 => s.doTripRead w
  | 0x53 => s.doTripClear w
  | 0x60 => s.doAccRead w
  | 0x61 => s.doWindowRead w
  | 0x62 => s.doRecordRead w
  | 0x63 => s.doSnapList w
  | 0x64 => s.doAttestRead w
  | 0x70 => s.doStreamOpen w
  | 0x71 => s.doStreamClose w
  | 0x72 => s.doStreamAck w
  | 0x80 => s.doRegRead w
  | 0x81 | 0x82 => s.doRegWrite w
  | 0x83 => s.doRmw w
  | 0x90 => s.doSafeUnlock w
  | 0x91 => s.doSafeLock w
  | 0x92 => s.doSafeStage w
  | 0x93 => s.doSafeCommit w
  | 0x94 => s.doSafeSetPw w
  | 0x95 => s.doSafeLogRead w
  | 0x96 => s.doSgiReq w
  | 0xA0 => s.doLogRead w
  | 0xA1 => s.doCounters w
  | 0xA2 => s.doHealthGet w
  | 0xB0 => s.doImgBegin w
  | 0xB1 => s.doImgData w
  | 0xB2 => s.doImgVerify w
  | 0xB3 => s.doImgActivate w
  | 0xB4 => s.doAttest w
  | 0xC0 => s.doRingStatus w
  | 0xC1 => s.doEnumerate w
  | 0xC2 => s.doAddrSet w
  | _ => s.bad w

/-- Serve request `wid` in a command slot. -/
def State.serve (wid : Nat) (s : State) : State :=
  match s.work wid with
  | none => s
  | some w =>
    let s := s.modHost fun h => { h with actor := if w.ses < 16 then w.ses else 255 }
    let s := match w.phase with
      | .ready => if w.opc = 4 || s.blocked w then s else s.serveReady w
      | .ran => s.finish w OK w.okDet w.okPay
      | .waitState c => s.doWait w c
      | .timed t => if t ≤ s.clk then s.doTripSet w else s
      | _ => s
    s.modHost fun h => { h with actor := 255 }

/-- The command slots of a tick: mailbox timeouts, ABORTs, then the requests in order of acceptance. -/
def State.commandSlots (s : State) : State :=
  let s := s.each ix16s fun m s =>
    s.when (s.flag (F.HOST_MBS_FULL m) && decide ((s.host.mbAt[m]?.getD 0) + usClk (s.get F.HOST_MB_TO_TO) ≤ s.clk)) (State.mbTimeout m)
  let aborts := (s.host.work.filter fun w => w.opc == 4 && w.phase == .ready).map Work.wid
  let s := aborts.foldl (fun s i => match s.work i with | some w => s.doAbort w | none => s) s
  (s.host.work.map Work.wid).foldl (fun s i => s.serve i) s

/-! ### Admission (R381, R382) -/

/-- A discarded packet, counted by its port. -/
def State.dropped (port : Port) (peer : Nat) (s : State) : State :=
  match port with
  | .h0 => s.inc F.HOST_SPI_CNT_DISCARD
  | .h1 => s.inc F.HOST_ETH_DROP_V
  | .h2 => s.inc (F.HOST_RING_ERR_V (if peer < 64 then 0 else if peer < 128 then 1 else 2))

/-- The one reply of a refused packet. -/
def State.refused (opc : Nat) (p : Pkt) (st det : Nat) (s : State) : State :=
  (s.inc (F.HOST_SES_CNT_REJ p.ses.val)).send ⟨p.port, p.peer, opc, 4, p.tag.val, p.ses.val, wd (st * 2 ^ 24 + s.detail det), []⟩

/-- The ports are served from the end of WAKE (14 R423). -/
def State.serving (s : State) : Bool := !s.t.held && s.t.clkStop.isNone && s.mode != mWAKE && s.mode != mBRUMATE

/-- The session is open from this peer on this port. -/
def State.bound (s : State) (p : Pkt) : Bool :=
  s.sesOpen p.ses.val && s.get (F.HOST_SES_STAT_PORT p.ses.val) == portNo p.port && (s.sesOf p.ses.val).peer == p.peer

/-- Put an accepted request into the queue, and serve it while phase 6 is open. -/
def State.accept (opc cred : Nat) (p : Pkt) (s : State) : State :=
  let wid := s.host.lastWid + 1
  let w : Work := { wid := wid, port := p.port, peer := p.peer, ses := p.ses.val, tag := p.tag.val, opc := opc, cred := cred, pay := p.pay, seq := p.seq }
  let s := s.modHost fun h => { h with work := h.work ++ [w], lastWid := wid }
  s.when s.t.open6 (State.serve wid)

/-- ENUMERATE of an unassigned device, outside sessions (14 R420). -/
def State.enumerate (p : Pkt) (s : State) : State :=
  let a := pf p.pay 0 5 0
  let ans (st det : Nat) (pay : List Word) (s : State) : State :=
    s.send ⟨p.port, p.peer, 0xC1, 4, p.tag.val, p.ses.val, wd (st * 2 ^ 24 + s.detail det), pay⟩
  if p.flg.val ≠ 0 then ans BAD_PARAM (3 * 4096) [] s
  else if p.pay.length ≠ 1 then ans BAD_LENGTH 0 [] s
  else if !pok p.pay 0 0x3F || !within 1 a 62 then ans BAD_PARAM 0 [] s
  else (ans OK 0 [wd a] (s.put F.HOST_RING_STAT_ADDR a)).announce

/-- A request packet arrives (R381). `bcast`: a broadcast frame, discarded when it fails check 1, 2 or 3 (14 R416). -/
def State.submit (opc : Nat) (p : Pkt) (frameOk bcast : Bool) (s : State) : State :=
  let i := p.ses.val
  if !s.serving || !frameOk || bit (wd p.flg.val) 2 then s.dropped p.port p.peer
  else if p.port = .h1 ∧ s.get F.HEALTH_MGS_PROF = 1 ∧ !s.flag F.HEALTH_MGS_RUNNING ∧ !s.recovery then s.dropped p.port p.peer
  else if opc = 0xC1 ∧ p.port = .h2 ∧ s.get F.HOST_RING_STAT_ADDR = 0 ∧ !bcast then (if p.peer < 64 then s else s.enumerate p)
  else match opcLen opc p.pay.length with
  | none => if bcast then s else s.refused opc p BAD_OPCODE 0
  | some lenOk =>
    if s.recovery && !recoveryOpc opc p.pay then (if bcast then s else s.refused opc p BAD_OPCODE 0)
    else if opc = 1 then
      if p.flg.val ≠ 0 then s.refused opc p BAD_PARAM (3 * 4096) else s.accept opc 0 p
    else if !s.bound p then (if bcast then s else s.refused opc p BAD_PARAM 4096)
    else
      let s := s.modSes i fun x => { x with lastReq := s.clk }
      let exp := s.rd (A.HOST_SES_SEQ i)
      let ahead := (p.seq - exp).toNat
      let cred := (p.pay.length + 2 + 63) / 64
      let b := s.get (F.HOST_SES_STAT_TBASE i)
      if 2 ^ 31 ≤ ahead then s.inc (F.HOST_SES_CNT_DUP i)
      else if ahead ≠ 0 then s.refused opc p BAD_PARAM (2 * 4096 + exp.toNat % 4096)
      else if p.flg.val ≠ 0 then s.refused opc p BAD_PARAM (3 * 4096)
      else if !lenOk then s.refused opc p BAD_LENGTH 0
      else if p.tag.val < b ∨ b + s.get (F.HOST_SES_STAT_TCNT i) ≤ p.tag.val then s.refused opc p BAD_PARAM (4 * 4096)
      else if (s.sesOf i).tags.any fun t => t.1 == p.tag.val then s.refused opc p TAG_IN_USE 0
      else if s.get (F.HOST_SES_CR_GRANT i) < s.get (F.HOST_SES_CR_HELD i) + cred then s.refused opc p NO_CREDIT 0
      else
        let s := s.modSes i fun x => { x with tags := (p.tag.val, cred) :: x.tags }
        let s := (s.put (F.HOST_SES_CR_HELD i) (s.get (F.HOST_SES_CR_HELD i) + cred)).put F.HOST_TAGS_IN_FLIGHT (s.get F.HOST_TAGS_IN_FLIGHT + 1)
        (s.wr (A.HOST_SES_SEQ i) (exp + 1)).accept opc cred p

end Sys2Proof.Machine
end

