-- ==== Sys2Proof/Machine/Ports.lean ====
section
/-! DEFINITION. Host ports: SPI transactions, Ethernet and PTP, the Tugarlink ring, mailboxes and locks (14). -/

namespace Sys2Proof.Machine

/-- Words returned to the outside. -/
def State.setOut (l : List Word) (s : State) : State := s.modHost fun h => { h with out := l }

/-- A port register as it is in force since WAKE (14 R430). -/
def State.inForce (s : State) (a : Nat) : Word := (lookupReg s.host.portCfg a).getD (resetWord a)

/-! ### H0 (R404–R407) -/

def wordBytes (w : Word) : List Byte := [w.extractLsb' 24 8, w.extractLsb' 16 8, w.extractLsb' 8 8, w.extractLsb' 0 8]

/-- A packet as words, with its trailer (13 R373, R374, R376). -/
def OutPkt.words (p : OutPkt) : List Word :=
  let w0 := wd (p.opc * 2 ^ 24 + p.tag * 2 ^ 17 + p.ses * 2 ^ 13 + p.flg * 2 ^ 10 + p.pay.length % 1024)
  let l := w0 :: p.w1 :: p.pay
  l ++ [Crypto.crc32c (l.flatMap wordBytes)]

/-- PKT_WR. -/
def State.pktWr (x : SpiPkt) (s : State) : State :=
  if s.get F.HOST_SPI_STAT_RX_ROOM < x.words then s.dropped .h0 0
  else s.submit x.opc.toNat { x.p with port := .h0, peer := 0 } x.frameOk false

/-- PKT_RD: the status word, then the oldest packet, removed only when its last bit was clocked out. -/
def State.pktRd (whole : Bool) (s : State) : State :=
  if s.t.held then s else
  let st := s.rd A.HOST_SPI_STAT
  match s.host.tx0 with
  | [] => s.setOut [st]
  | p :: l =>
    let s := s.setOut (st :: p.words)
    if whole then (s.modHost fun h => { h with tx0 := l }).putb F.HOST_SPI_STAT_PKT_PEND (!l.isEmpty) else s

/-- STAT. -/
def State.spiStat (s : State) : State := if s.t.held then s else s.setOut [s.rd A.HOST_SPI_STAT]

/-- The Managed profile refuses register mode (12 R371). -/
def State.managed (s : State) : Bool := s.get F.HEALTH_MGS_PROF == 1 && !s.recovery
def State.regRefused (s : State) : State := (s.putb F.HOST_SPI_STAT_REG_REFUSED true).inc F.HOST_SPI_CNT_REG_REF

/-- A register operation: as a request of session RSES where that is open on H0. -/
def State.regOp (opc : Nat) (pay : List Word) (s : State) : State :=
  if !s.serving then s.dropped .h0 0
  else if s.managed then s.regRefused
  else if s.flag F.HOST_SPI_STAT_REG_BUSY then s.put F.HOST_SPI_STAT_REG_STATUS TAG_IN_USE
  else if !within 2 pay.length 256 || (opc == 0x80 && !within 1 (pw pay 1).toNat 255) then s.regDone BAD_PARAM 0 none
  else if s.recovery && !recoveryOpc opc pay then s.regDone BAD_OPCODE 0 none
  else
    let r := s.get F.HOST_SPI_CFG_RSES
    let ses := if s.sesOpen r && s.get (F.HOST_SES_STAT_PORT r) == 0 then r else 16
    let wid := s.host.lastWid + 1
    let w : Work := { wid := wid, port := .h0, peer := 0, ses := ses, tag := 255, opc := opc, cred := 0, pay := pay }
    let s := (s.modHost fun h => { h with work := h.work ++ [w], lastWid := wid }).putb F.HOST_SPI_STAT_REG_BUSY true
    s.when s.t.open6 (State.serve wid)

/-- REG_FETCH. -/
def State.regFetch (s : State) : State :=
  if !s.serving then s.dropped .h0 0
  else if s.managed then s.regRefused
  else (s.setOut (s.rd A.HOST_SPI_STAT :: s.host.spiData)).putb F.HOST_SPI_STAT_REG_DONE false

/-- SPI_INVALID_COMMAND. -/
def State.spiInvalid (s : State) : State := s.inc F.HOST_SPI_CNT_DISCARD

/-- Ball CROAKc is asserted (R425). -/
def State.croakBall (s : State) (c : Nat) : Bool :=
  (s.flag (F.HOST_CROAK_SPI c) && !s.host.tx0.isEmpty) || ix16s.any fun i => s.bitOf (F.HOST_CROAK_SES c) i && s.flag (F.HOST_DB_PEND i)

/-! ### H1 (R408–R413) -/

/-- AUTO_NEGOTIATION_COMPLETE. -/
def State.autoNeg (full : Bool) (s : State) : State :=
  ((s.putb F.HOST_ETH_STAT_AN_DONE true).putb F.HOST_ETH_STAT_LINK full).putb F.HOST_ETH_STAT_DUPLEX_FAIL (!full)

/-- H1_LINK_LOSS. -/
def State.h1LinkLoss (s : State) : State := (s.putb F.HOST_ETH_STAT_LINK false).putb F.HOST_ETH_STAT_AN_DONE false

/-- An address request or an echo request for an address of the device; the IPv6 link-local address is always enabled. -/
def State.ethAnswer (v6 ours : Bool) (a4 a6 : EthAns) (s : State) : State :=
  if !s.flag F.HOST_ETH_STAT_LINK || !ours then s
  else if v6 then s.modHost fun h => { h with eth := h.eth ++ [a6] }
  else if s.flag F.HOST_ETH_STAT_IP4_UP then s.modHost fun h => { h with eth := h.eth ++ [a4] } else s

/-- FRAGMENT_REASSEMBLY_TIMEOUT: the incomplete datagram is discarded. -/
def State.fragTimeout (s : State) : State := s.inc F.HOST_ETH_DROP_V

/-- The PTP servo runs. -/
def State.ptpRuns (s : State) : Bool := bit (s.inForce A.HOST_PTP_CFG) 0 && s.flag F.HOST_ETH_STAT_LINK

/-- PTP_EVENT_MESSAGE: the time the servo gives; a Sync also brings its offset (R412, R413). -/
def State.ptpMessage (x : PtpMsg) (s : State) : State :=
  if !s.ptpRuns then s else
  let s := s.modHost fun h => { h with ptpNs := x.timeNs, ptpAt := s.clk }
  if !x.sync then s else
  let n := x.ofs.natAbs
  let s := s.modHost fun h => { h with ptpGood := if n ≤ 100 then h.ptpGood + 1 else 0, ptpBad := if 1000 < n then h.ptpBad + 1 else 0 }
  let s := (s.put F.HOST_PTP_OFS_V (twos 32 (max (-(2 ^ 31 : Int)) (min (2 ^ 31 - 1 : Int) x.ofs)))).putb F.HOST_PTP_STAT_TWO_STEP x.twoStep
  if s.get F.HOST_PTP_STAT_STATE ≤ 1 then s.put F.HOST_PTP_STAT_STATE 2 else s

/-- PTP_LOCK_LOSS: Syncs missing or the offset too large; the alignment holds over (01 R45). -/
def State.ptpLoss (s : State) : State :=
  if s.get F.HOST_PTP_STAT_STATE ≠ 3 then s else
  let s := (s.put F.HOST_PTP_STAT_STATE 4).modHost fun h => { h with ptpGood := 0, ptpBad := 0 }
  s.when (s.get F.SYS_SYNC_SRC == 2) State.syncHoldover

/-- PTP_LOCK_REGAIN: 16 consecutive Syncs within 100 ns. -/
def State.ptpRegain (s : State) : State :=
  let st := s.get F.HOST_PTP_STAT_STATE
  if (st ≠ 2 ∧ st ≠ 4) ∨ s.host.ptpGood < 16 then s else
  let s := s.put F.HOST_PTP_STAT_STATE 3
  if s.get F.SYS_SYNC_SRC = 2 ∧ s.syncSt = yHOLDOVER then (s.setSync yACQUIRE).bare 4 else s

/-! ### H2 (R414–R423) -/

def linkUp (l : RingLink) : Fld :=
  match l with
  | .tl2 => F.HOST_RING_STAT_TL2_UP
  | .tl3e => F.HOST_RING_STAT_TL3E_UP
  | .tl3w => F.HOST_RING_STAT_TL3W_UP
def linkErr (l : RingLink) : Fld :=
  match l with
  | .tl2 => F.HOST_RING_ERR_V 1
  | .tl3e => F.HOST_RING_ERR_V 2
  | .tl3w => F.HOST_RING_ERR_V 3
/-- The wrap of a TL3 link; TL2 has none. -/
def linkWrap (l : RingLink) : Option Fld :=
  match l with
  | .tl2 => none
  | .tl3e => some F.HOST_RING_STAT_WRAP_E
  | .tl3w => some F.HOST_RING_STAT_WRAP_W
/-- The generation of a link is enabled since WAKE. -/
def State.linkOn (s : State) (l : RingLink) : Bool := bit (s.inForce A.HOST_RING_CFG) (if l = .tl2 then 1 else 2)

/-- RING_LINK_UP; an assigned device announces itself (R421). -/
def State.ringUp (l : RingLink) (s : State) : State :=
  if !s.serving || !s.linkOn l || s.flag (linkUp l) then s else
  let s := s.putb (linkUp l) true
  s.when (s.get F.HOST_RING_STAT_ADDR != 0) State.announce

/-- RING_LINK_DOWN: a TL3 device wraps (R422). -/
def State.ringDown (l : RingLink) (s : State) : State :=
  if !s.flag (linkUp l) then s else
  let s := s.putb (linkUp l) false
  match linkWrap l with
  | some f => if s.flag f then s else (s.putb f true).raise F.HOST_RING_STAT_WRAP_EVT
  | none => s

/-- RING_UNWRAP: the link has been up for 100 ms. -/
def State.ringUnwrap (l : RingLink) (s : State) : State :=
  match linkWrap l with
  | some f => if s.flag f && s.flag (linkUp l) then (s.putb f false).raise F.HOST_RING_STAT_WRAP_EVT else s
  | none => s

/-- ANNOUNCE of an unassigned device, every 100 ms. -/
def State.announceDue (s : State) : State := if s.serving && s.get F.HOST_RING_STAT_ADDR == 0 then s.announce else s

/-- ANNOUNCE_RECEIVED (R419). -/
def State.announceSeen (a : Nat) (s : State) : State :=
  if a ≠ 0 ∧ a = s.get F.HOST_RING_STAT_ADDR then (s.putb F.HOST_RING_STAT_DUP_ADDR true).raise F.HOST_RING_STAT_DUP_EVT else s

def ringHeader (dst src ttl : Nat) (wrapped : Bool) : Word := wd (dst * 2 ^ 26 + src * 2 ^ 20 + ttl * 2 ^ 14 + b2n wrapped * 2 ^ 13)

/-- A frame is forwarded, or dropped when its TTL would be 0 (R415). -/
def State.forward (l : RingLink) (x : RingFrame) (s : State) : State :=
  if x.ttl.toNat ≤ 1 then s.inc (linkErr l) else
  let turned (f : Fld) (go back : Nat) : Nat × Bool := if s.flag f then (back, true) else (go, false)
  let (o, w) := match l with
    | .tl2 => (1, false)
    | .tl3e => turned F.HOST_RING_STAT_WRAP_W 3 2
    | .tl3w => turned F.HOST_RING_STAT_WRAP_E 2 3
  s.modHost fun h => { h with fwd := h.fwd ++ [(o, ringHeader x.dst.toNat x.src.toNat (x.ttl.toNat - 1) (x.wrapped || w), x.crcOk)] }

/-- A frame for this device: a request packet, or an announcement. -/
def State.consume (gen : Nat) (bcast : Bool) (x : RingFrame) (s : State) : State :=
  if x.opc = 0xC3 ∧ x.crcOk then s.announceSeen (pf x.p.pay 0 5 0)
  else s.submit x.opc.toNat { x.p with port := .h2, peer := gen + x.src.toNat } x.crcOk bcast

/-- RING_FRAME_ARRIVAL (R415–R417, R420). -/
def State.ringFrame (x : RingFrame) (s : State) : State :=
  let own := s.get F.HOST_RING_STAT_ADDR
  let dst := x.dst.toNat
  if !s.serving then s else
  match x.link with
  | none =>
    if !bit (s.inForce A.HOST_RING_CFG) 0 || own = 0 || !(dst == own || dst == 63) then s
    else (s.consume 0 (dst == 63) x).modHost fun h => { h with tl1Due := h.tl1Due || (dst == own && x.crcOk) }
  | some l =>
    let gen := if l = .tl2 then 64 else 128
    if !s.linkOn l || !s.flag (linkUp l) then s
    else if x.src.toNat = own ∧ own ≠ 0 then s
    else if dst = 63 then (s.consume gen true x).forward l x
    else if dst = 0 then
      if x.opc ≠ 0xC1 then s
      else if own = 0 ∧ x.crcOk then s.submit 0xC1 { x.p with port := .h2, peer := gen + x.src.toNat } true false
      else s.forward l x
    else if dst = own then s.consume gen false x
    else s.forward l x

/-- TL1_BURST_TRANSMIT: at most four packets, replies before ASYNC packets (R417). -/
def State.tl1Burst (s : State) : State :=
  if !s.host.tl1Due then s else
  let async (p : OutPkt) : Bool := p.flg % 2 == 1
  let l := s.host.tl1.filter (fun p => !async p) ++ s.host.tl1.filter async
  s.modHost fun h => { h with tl1Due := false, tx2 := h.tx2 ++ l.take 4, tl1 := l.drop 4 }

/-! ### Registers of 14 read or written by rows of their own, and the survey result (02 R74) -/

/-- A read of one register by session `i`: the word goes out. -/
def State.rowRead (i a : Nat) (s : State) : State :=
  if !s.sesOpen i then s else
  let (s, v) := s.readReg i a
  s.setOut [v]

/-- MAILBOX_TIMEOUT: the word has been held for HOST_MB_TO. -/
def State.mbExpire (m : Nat) (s : State) : State :=
  if (s.host.mbAt[m]?.getD 0) + usClk (s.get F.HOST_MB_TO_TO) ≤ s.clk then s.mbTimeout m else s

end Sys2Proof.Machine
end

