-- ==== Sys2Proof/Machine/Tick.lean ====
section
/-! DEFINITION. The tick: mode changes at its boundary, role boundaries, sample latch, law execution with the role blocks,
metrology, the cross-check and the command slots (01 R27, R90; 03 R87, R98, R102; 12 R350; 17 R478, R479). -/

namespace Sys2Proof.Machine

/-! ### Modes at a tick boundary (17 R478–R480) -/

/-- The mode changes; an entry into STANDBY confirms a trial image (17 R490, R491). -/
def State.goMode (m why : Nat) (s : State) : State := (s.setMode m why).when (m == mSTANDBY) State.standbyEntry

/-- The forced transition that waits, and whether one was made. -/
def State.forcedMode (s : State) : State × Bool :=
  match s.t.toMode with
  | none => (s, false)
  | some (m, why) =>
    let s := s.modT fun t => { t with toMode := none }
    let may := s.mode == mWAKE || (m == mSTANDBY && (s.mode == mRUN || s.mode == mRIDE || s.mode == mSERVICE))
    if may then (s.goMode m why, true) else (s, false)

/-- Judge a MODE_SET that waits (R479); `forced`: a forced transition was made at this boundary. -/
def State.judgeMode (forced : Bool) (w : Work) (s : State) : State :=
  match w.phase with
  | .waitMode m =>
    let cur := s.mode
    let svc := cur == mSERVICE
    if m = cur ∨ (m = mRUN ∧ cur = mRIDE) then s.finish w OK 0 []
    else if m = mRUN ∧ cur = mSTANDBY ∧ !s.runBlocked then (s.setMode mRUN 0).finish w OK 0 []
    else if m = mSTANDBY ∧ (cur = mRUN ∨ cur = mRIDE ∨ svc) then (s.goMode mSTANDBY 0).finish w OK 0 []
    else if m = mSERVICE ∧ cur = mSTANDBY ∧ !forced ∧ !s.flag F.PWR_STAT_PF then (s.setMode mSERVICE 0).finish w OK 0 []
    else if m = mWAKE ∧ (cur = mSTANDBY ∨ svc) then (s.finish w OK 0 []).modT fun t => { t with restart := true }
    else s.finish w NOT_IN_MODE 0 []
  | _ => s

def State.modeBoundary (s : State) : State :=
  let (s, forced) := s.forcedMode
  (s.host.work.map Work.wid).foldl (fun s i => match s.work i with | some w => s.judgeMode forced w | none => s) s

/-- A power failure or a double clock fault refuses a MODE_SET 5 that waits (R479). -/
def State.refuseService (s : State) : State :=
  s.host.work.foldl (fun s w => if w.phase = .waitMode mSERVICE then s.finish w NOT_IN_MODE 0 [] else s) s

/-! ### Channels at a tick boundary -/

def State.startCode (s : State) (c : Nat) : Nat :=
  let r := s.role c
  if r = rGRID then s.gridStartCode c else if r = rDCB ∨ r = rDCP then s.dcStartCode c else if r = rMACH then s.machStartCode c else kMODE

/-- An accepted START: PRECHARGE, unless a start condition no longer holds (02 R57, 11 R328). -/
def State.startBoundary (c : Nat) (s : State) : State :=
  if !(s.chn c).startNext || s.cst c != sOFF then s else
  let s := s.modCh c fun x => { x with startNext := false }
  let k := s.startCode c
  if k ≠ 0 then s.refuse c k else ((s.put (F.ROLE_STAT_CH_STATE c) sPRECHARGE).restart (.entered c)).applyForce c

def State.roleBoundary (c : Nat) (s : State) : State :=
  let r := s.role c
  let s := if s.cst c = sTAIL then s
    else if r = rGRID then s.gridBoundary c else if r = rDCB ∨ r = rDCP then s.dcBoundary c else if r = rMACH then s.machBoundary c else s
  s.startBoundary c

/-- Contexts frozen in the coming tick, and their FROZEN flags (03 R102). -/
def State.freezeBoundary (c : Nat) (s : State) : State :=
  let m := s.get (F.ENG_FREEZE_FREEZE c)
  let s := s.modCh c fun x => { x with frz := wd m, undo := [], undoSh := [], cutAt := 16 }
  s.each ix16s fun k s =>
    let w := s.cx c k 3
    if bit w 5 == m.testBit k then s else s.setCx c k 3 (setBits w 5 5 (b2n (m.testBit k)))

/-- RIDE_BANK_SWITCH (05 R159). -/
def State.bankBoundary (s : State) : State :=
  if s.flag F.SYS_RIDE_STAT_BANK_PEND && s.mode != mRIDE then
    (s.put F.SYS_RIDE_STAT_BANK_ACT (s.get F.SYS_RIDE_CFG_BANK)).putb F.SYS_RIDE_STAT_BANK_PEND false
  else s

/-- Everything that takes effect at the boundary, before the samples latch. -/
def State.boundaryEffects (s : State) : State :=
  let s := (((s.sgiChannelsOff).takeover).bankBoundary).islandAction
  let s := s.each chans State.roleBoundary
  let s := ((s.meterBoundary).epulBoundary).when (!s.recovery) State.resumeBoundary
  (s.clkBoundary).each chans State.freezeBoundary

/-! ### Law execution (03 R87) -/

/-- The base-tick instants of a burst (R90): the first, third, fifth and seventh burst tick of a frame. -/
def State.baseInstant (s : State) : Bool := !s.burstOn || s.t.inFrame % 2 == 1

/-- Context `k` makes a catch-up run; GMEAS and MMEAS also when the output that they advance missed a tick (12 R350). -/
def State.catchesUp (s : State) (c k : Nat) : Bool :=
  match (s.chn c).catchUp with
  | none => false
  | some j => j ≤ k || (s.role c == rGRID && k == 1 && j ≤ 8) || (s.role c == rMACH && k == 0 && !s.posSensor c && j ≤ 6)

/-- A run at twice the tick period. -/
def State.atTwice (two : Bool) (f : State → State) (s : State) : State :=
  if two then
    let len := s.t.len
    (f (s.modT fun t => { t with len := 2 * len })).modT fun t => { t with len := len }
  else f s

/-- The role block in context `k` (04 R113, 06 R186, R199). -/
def State.roleBlock (c k : Nat) (s : State) : State :=
  let r := s.role c
  if r = rGRID then (if k = 1 then s.gmeas c else if k = 2 then s.gref c else if k = 5 then s.gmod c else s)
  else if r = rMACH then (if k = 0 then s.mmeas c else if k = 3 then s.mmod c else if k = 6 then s.mobs c else s)
  else if k = 5 then s.mppt c else if k = 6 then s.dcmeas c else s

/-- A context of a role that is no role block. -/
def State.roleLaw (c k : Nat) (s : State) : State :=
  let r := s.role c
  let ts := s.ts
  if r = rGRID then s.runCtx c k ts { holdI := k == 0 && (s.chn c).grid.pllHold }
  else if s.isDc c ∧ k < 4 then s.runCtx c k ts (s.dcLegAdj c k)
  else if r = rMACH ∧ k = 4 then s.speedRun c
  else if r = rMACH ∧ k = 5 then (((s.keepCtx5 c).runCtx c 5 ts {}).plateau c)
  else if r = rMACH ∧ (k = 1 ∨ k = 2) then (s.when (k == 2) fun s => s.putb (F.MACH_STAT_I_LIM c) (s.qClamps c)).runCtx c k ts (s.machAdj c k)
  else s.runCtx c k ts {}

/-- One context of a tick: not when disabled, frozen or behind a failure; BIQ and OBS only at base-tick instants. -/
def State.execCtx (c k : Nat) (s : State) : State :=
  let cfg := s.cx c k 0
  let law := bits cfg 4 1
  if !bit cfg 0 || bit (s.chn c).frz k || (s.chn c).cutAt ≤ k || ((law == 4 || law == 10) && !s.baseInstant) then s
  else s.atTwice (s.catchesUp c k) (if law = 12 then State.roleBlock c k else State.roleLaw c k)

/-- The hold of CTX0 during RIDE (05 R153). -/
def State.pllHold (c : Nat) (s : State) : State :=
  let vd := s.y c 0 2
  s.modGrid c fun g => { g with pllHold := s.mode == mRIDE && (fLt vd (c32 1 10) || (g.pllHold && fLt vd (c32 15 100))) }

/-- The laws of channel `c` in one tick, and what the role forms around them. -/
def State.channelLaws (c : Nat) (s : State) : State :=
  if s.cst c = sTAIL then s else
  let r := s.role c
  let s := if r = rGRID then s.pllHold c else if s.isDc c then s.atTwice (s.catchesUp c 0) (State.dcBefore c) else s
  let s := s.each [0, 1, 2, 3, 4, 5, 6, 7, 8, 9] (State.execCtx c)
  let s := s.when (r == rGRID && 9 < (s.chn c).cutAt) (State.gridTrack c)
  let s := s.each [10, 11, 12, 13, 14, 15] (State.execCtx c)
  let s := s.when (r == rMACH) (State.openLoop c)
  s.modCh c fun x => { x with catchUp := if x.foNext then x.catchUp else none }

/-- Conditions that the role times after its laws. -/
def State.roleConditions (c : Nat) (s : State) : State :=
  let r := s.role c
  if s.cst c = sTAIL then s
  else if r = rGRID then s.gridConditions c else if s.isDc c then s.dcConditions c else if r = rMACH then s.machConditions c else s

/-! ### TICK_BOUNDARY -/

/-- Phase 1 (02 R59, R64, R65; 05 R157; 06 R207). `prev`, `len`: start and length of the last tick. -/
def State.sampleLatch (x : TickIn) (prev len : Nat) (s : State) : State :=
  let s := s.each chans fun c s => s.chopModel c prev len
  let s := ((s.takeFast x.fast).latchMd).latchPcc x.pcc
  let s := x.shunt.foldl (fun s y => s.takeShunt y) s
  if s.t.pccChk then
    ((List.range 8).foldl (fun s k => s.when (x.pccFail.toNat.testBit k) fun s => State.raiseAt A.PCC_ADC_STAT (8 + k) s) s).modT fun t => { t with pccChk := false }
  else s

/-- Phase 2. An uncorrectable context-store error stops its channel at its context (01 R22). -/
def State.lawPhase (x : TickIn) (s : State) : State :=
  let s := x.ecc.foldl (fun s e => s.when e.uncorr fun s => s.modCh e.c.val fun y => { y with cutAt := min y.cutAt e.k.val }) s
  let s := s.each chans State.channelLaws
  let s := x.ecc.foldl (fun s e => s.eccErr e) s
  (s.engineTests x.spareOk x.outPass).each chans State.roleConditions

/-- The next tick starts: its length, its index in the frame, the tick count (01 R44). -/
def State.nextTick (s : State) : State :=
  let div := s.get F.SYS_TICK_TICK_DIV
  let (len, s) := s.tickLen (if s.burstOn then div / 2 else div)
  let s := s.modT fun t => { t with start := t.start + t.len, len := len, inFrame := t.inFrame + 1, written := [], open6 := false }
  s.put64 A.SYS_TICK_CNT_LO (s.tickCnt + 1)

/-- The six phases of a tick (01 R27). -/
def State.phases (x : TickIn) (prev len : Nat) (s : State) : State :=
  let s := s.sampleLatch x prev len
  let s := ((s.pccMonitor).rideConditions).probeTick
  let s := s.lawPhase x
  let s := s.phase4 x.parts x.metLate
  let s := (s.islandView x.isl).crossCheck x.hand x.xchk
  let s := s.when s.baseInstant fun s => (s.recTick).feedSignal
  (s.modT fun t => { t with open6 := true }).commandSlots

/-- TICK_BOUNDARY (R27). A restart that waits acts in place of the tick. -/
def State.tickBoundary (x : TickIn) (s : State) : State :=
  if s.t.held || !s.t.woke || s.t.clkStop.isSome then s else
  let prev := s.t.start
  let len := s.t.len
  let s := (s.nextTick).modeBoundary
  if s.t.restart then s.restartNow else
  (s.boundaryEffects).phases x prev len

/-- FRAME_BOUNDARY (R35): four base ticks or eight burst ticks after the last. -/
def State.frameRow (err : Option Int) (s : State) : State :=
  if s.t.held || !s.t.woke || s.t.clkStop.isSome || s.t.inFrame < (if s.burstOn then 8 else 4) then s else
  let (s, ids) := s.frameBoundary err
  ids.foldl (fun s i => s.wordEffective i) s

/-- TICK_TABLE_REBUILD (R30): a refused change ends its request. -/
def State.rebuildRow (s : State) : State :=
  match s.rebuildCheck with
  | (s, some wid) => s.wordFailed wid BUDGET_EXCEEDED
  | (s, none) => s

/-- CAL_SAVE_DONE, CFG_SAVE_DONE, SAFE_COMMIT_DONE: the request that waited. -/
def State.saveEnded (wid : Nat) (ok : Bool) (s : State) : State :=
  if wid = 0 then s else if ok then s.wordEffective wid else s.wordFailed wid INTERNAL_FAULT
def State.calSaveRow (ok : Bool) (s : State) : State :=
  let w := s.er.calWid
  (s.calDone ok).saveEnded w ok
def State.cfgSaveRow (ok : Bool) (s : State) : State :=
  match s.cfgSaveDone ok with
  | (s, some w) => s.saveEnded w ok
  | (s, none) => s
def State.safeCommitRow (ok : Bool) (s : State) : State :=
  match s.safeCommitDone ok with
  | (s, some st) => match s.host.work.find? fun w => w.opc == 0x93 && w.phase == .commit with
    | some w => s.finish w st 0 []
    | none => s
  | (s, none) => s

end Sys2Proof.Machine
end

