-- ==== Sys2Proof/Machine/Rows.lean ====
section
/-! DEFINITION. When a row acts, and the rows that stand for one register write, one command bit or one read of a session. -/

namespace Sys2Proof.Machine

/-! ### When a row acts -/

/-- A row of the A-die, the supplies or the clock monitor: not while the device is held in reset (16 R460). -/
def State.live (f : State → State) (s : State) : Host.Outcome State Fault Refusal := complete s (if s.t.held then s else f s)

/-- The C-die runs: no reset, and an engine clock (16 R458). -/
def State.runs (s : State) : Bool := !s.t.held && s.t.clkStop.isNone

/-- A row of the C-die: not in reset, and not while the engine clock stands. -/
def State.clocked (f : State → State) (s : State) : Host.Outcome State Fault Refusal := complete s (if s.runs then f s else s)

/-- Sessions are served: after WAKE and, for registers, not in recovery (14 R423, 17 R492). -/
def State.hosted (s : State) : Bool := s.serving && !s.recovery

/-- A row of a session's register access. -/
def State.byHost (f : State → State) (s : State) : Host.Outcome State Fault Refusal := complete s (if s.hosted then f s else s)

/-! ### Writes of a session -/

/-- A write of a named register (15 R516). -/
def State.regRow (w : RegWr) (a : Nat) (s : State) : Host.Outcome State Fault Refusal := State.byHost (State.rowWrite w a w.val) s

/-- The write of 1 to command bit `b` of the register at `a`, its other writable bits as they stand. -/
def State.bitRow (ses : Ix16) (a b : Nat) (s : State) : Host.Outcome State Fault Refusal :=
  State.byHost (fun s =>
    let rw := match rowAt a with | some r => rowWritable r | none => 0#32
    State.rowWrite ⟨ses, 0#32⟩ a (setBits (s.rd a &&& rw) b b 1) s) s

/-- A write at an address as a host gives it (15 R432–R436): outside every block, or off a word, BAD_PARAM. -/
def State.addrRow (w : RegWr) (addr : Nat) (s : State) : Host.Outcome State Fault Refusal :=
  State.byHost (fun s =>
    match resolve false addr with
    | some a => State.rowWrite w a w.val s
    | none => s.when (s.sesOpen w.ses.val) fun s => s.modHost fun h => { h with ans := BAD_PARAM }) s

/-! ### Command bits of the role registers -/

/-- A command of session `ses` for channel `c`: OWNED without the claim (13 R389); the status is kept for the answer. -/
def State.chanCmd (ses c : Nat) (f : State → State × Nat) (s : State) : State :=
  if !s.sesOpen ses then s
  else if !s.holds ses (.chan c) then s.modHost fun h => { h with ans := OWNED }
  else
    let was := s.host.actor
    let (s, st) := f (s.modHost fun h => { h with actor := ses })
    s.modHost fun h => { h with actor := was, ans := st }

/-- START: the channel in its role and in OFF; refused with NOT_IN_MODE, the code in REFUSE (04 R121, 06 R183). -/
def State.startCmd (c : Nat) (right : State → Bool) (s : State) : State × Nat :=
  if right s && s.cst c == sOFF then
    let (s, k) := s.startCh c
    (s, if k = 0 then OK else NOT_IN_MODE)
  else (s, NOT_IN_MODE)

/-- STOP: no effect in another role (04 R124, 06 R192, R205). -/
def State.stopCmd (c : Nat) (right : State → Bool) (s : State) : State × Nat := (if right s then s.stopCh c else s, OK)

/-- RECONN: a GRID channel in ISLAND and ACTIVE returns to FORM at the next boundary (04 R133). -/
def State.reconnCmd (c : Nat) (s : State) : State × Nat :=
  if s.role c ≠ rGRID then (s, NOT_IN_MODE)
  else (s.when (s.sub c == mISLAND && s.cst c == sACTIVE) fun s => s.modGrid c fun g => { g with reconn := true }, OK)

/-- SCAN: a DCP channel (06 R194). -/
def State.scanCmd (c : Nat) (s : State) : State × Nat :=
  if s.role c ≠ rDCP then (s, NOT_IN_MODE) else (s.dcScan c, OK)

def State.cmdRow (ses : Ix16) (c : Nat) (f : State → State × Nat) (s : State) : Host.Outcome State Fault Refusal :=
  State.byHost (State.chanCmd ses.val c f) s

/-! ### Requests -/

/-- A request packet with opcode `opc` and a good frame (13 R381). -/
def State.packet (opc : Nat) (p : Pkt) (s : State) : Host.Outcome State Fault Refusal :=
  State.clocked (State.submit opc p true false) s

/-- A read of one register by a session (15 R437). -/
def State.readRow (ses a : Nat) (s : State) : Host.Outcome State Fault Refusal :=
  State.clocked (fun s => if s.serving then s.rowRead ses a else s) s

/-! ### Rows that also feed streams -/

/-- HARMONIC_WINDOW_END: METER streams of the levels that completed (09 R285, 13 R397). -/
def State.windowRow (p : Nat) (x : WindowIn) (s : State) : State :=
  let t := s.windowEnd p x
  if s.mtype p = 0 then t else
  (t.feedMeter p 0).when ((t.mtr p).n180 != (s.mtr p).n180) (State.feedMeter p 1)

/-- TEN_MIN_BOUNDARY. -/
def State.tenMinRow (xs : List (Point × WindowIn)) (s : State) : State :=
  let t := s.tenMin xs
  t.each pts fun p u => u.when (s.mtype p != 0) fun u => (u.feedMeter p 2).when ((t.mtr p).n2h != (s.mtr p).n2h) (State.feedMeter p 3)

/-- SURV_DATA_READ: the word goes out and counts as read (02 R74). -/
def State.survRow (s : State) : State :=
  let w := s.rd A.SURV_DATA
  (s.survRead).setOut [w]

/-- SYNC_OUT returns low (01 R46). -/
def State.syncOutEnd (s : State) : State := s.modT fun t => { t with syncOut := false }

end Sys2Proof.Machine
end

