-- ==== Sys2Proof/Machine/ExecBooks.lean ====
section
/-! DEFINITION. The meanings of the commands: Metrology and energy records (09, 10). -/

namespace Sys2Proof.Machine

/-- A write of METER_CFG (09 R273). -/
def execMeterCfgWrite (p : Point) (w : RegWr) (s : State) : Host.Outcome State Fault Refusal :=
  State.regRow w (A.METER_CFG p.val) s

/-- A calibration write at a byte offset of the sets of a point (09 R280). -/
def execCalWrite (p : Point) (off : Fin 128) (w : RegWr) (s : State) : Host.Outcome State Fault Refusal :=
  State.addrRow w (A.CAL_VGAIN p.val 0 + off.val) s

/-- METER_CTRL.CAL_SAVE (09 R280). -/
def execCalSave (p : Point) (ses : Ix16) (s : State) : Host.Outcome State Fault Refusal :=
  State.bitRow ses (A.METER_CTRL p.val) 0 s

/-- The calibration commit ends (09 R280). -/
def execCalSaveDone (ok : Bool) (s : State) : Host.Outcome State Fault Refusal :=
  State.clocked (State.calSaveRow ok) s

/-- A 10/12-cycle window ends (09 R281, R285). -/
def execHarmonicWindowEnd (p : Point) (x : WindowIn) (s : State) : Host.Outcome State Fault Refusal :=
  State.clocked (State.windowRow p.val x) s

/-- A whole 10 min of device time (09 R285). -/
def execTenMinBoundary (xs : List (Point × WindowIn)) (s : State) : Host.Outcome State Fault Refusal :=
  State.clocked (State.tenMinRow xs) s

/-- A 10-s interval of device time ends (09 R286). -/
def execFreq10sEnd (p : Point) (f : Word) (s : State) : Host.Outcome State Fault Refusal :=
  State.clocked (State.freq10s p.val f) s

/-- A write of EPUL_CFG or EPUL_K (09 R292). -/
def execEpulCfgWrite (j : Fin 4) (k : Bool) (w : RegWr) (s : State) : Host.Outcome State Fault Refusal :=
  State.regRow w (if k then A.EPUL_K j.val else A.EPUL_CFG j.val) s

/-- A scheduled pulse is emitted (09 R294). -/
def execPulseEmission (j : Fin 4) (s : State) : Host.Outcome State Fault Refusal :=
  State.clocked (State.pulseEmission j.val) s

/-- A pulse ends after WIDTH (09 R292). -/
def execPulseEnd (j : Fin 4) (s : State) : Host.Outcome State Fault Refusal :=
  State.clocked (State.pulseEnd j.val) s

/-- SAVE_MS after the last commit (10 R303). -/
def execPeriodicCommit (s : State) : Host.Outcome State Fault Refusal :=
  State.clocked State.periodicCommit s

/-- A pending set and no commit running (10 R304). -/
def execWriteThroughCommit (s : State) : Host.Outcome State Fault Refusal :=
  State.clocked State.writeThroughCommit s

/-- A record write and its readback end (10 R306). -/
def execRecordWriteComplete (ok : Bool) (s : State) : Host.Outcome State Fault Refusal :=
  State.clocked (State.recordWrite ok) s

/-- The pointer block names the new head (10 R305). -/
def execPointerFlipComplete (s : State) : Host.Outcome State Fault Refusal :=
  State.clocked State.pointerFlip s

/-- The TAIL record is committed (10 R310). -/
def execTailCommit (s : State) : Host.Outcome State Fault Refusal :=
  State.clocked State.tailCommit s

/-- Detection has ended for 10 ms without reset (10 R311). -/
def execPowerFailResume (s : State) : Host.Outcome State Fault Refusal :=
  State.live State.powerResume s

/-- The signature over a copied record completes (10 R319). -/
def execAttestedReadoutSigned (s : State) : Host.Outcome State Fault Refusal :=
  State.clocked State.readSigned s

end Sys2Proof.Machine
end

