-- ==== Sys2Proof/Machine/ExecClocks.lean ====
section
/-! DEFINITION. The meanings of the commands: Clocks, supplies, the brumation domain and configuration (16, 17). -/

namespace Sys2Proof.Machine

/-- A reference without edges for 200 ns (16 R454). -/
def execReferenceLoss (b : Bool) (s : State) : Host.Outcome State Fault Refusal :=
  State.live (State.referenceLoss b) s

/-- A PLL loses lock (16 R454). -/
def execLossOfLock (b : Bool) (s : State) : Host.Outcome State Fault Refusal :=
  State.live (State.lossOfLock b) s

/-- A gated PLL has held lock for 10 ms (16 R454). -/
def execPllRelock (b : Bool) (s : State) : Host.Outcome State Fault Refusal :=
  State.live (State.pllRelock b) s

/-- CLK_CFG.SWITCH (16 R455). -/
def execClkCfgSwitch (ses : Ix16) (s : State) : Host.Outcome State Fault Refusal :=
  State.bitRow ses A.CLK_CFG 1 s

/-- DIV_COMMIT (16 R452). -/
def execDivCommit (ses : Ix16) (s : State) : Host.Outcome State Fault Refusal :=
  State.bitRow ses A.DIV_COMMIT 0 s

/-- No lock within 1 ms of a commit (16 R453). -/
def execCommitRelockTimeout (b : Bool) (s : State) : Host.Outcome State Fault Refusal :=
  State.live (State.commitTimeout b) s

/-- The A-die misses the engine clock for 100 ns (16 R458). -/
def execEngineClockAbsent (s : State) : Host.Outcome State Fault Refusal :=
  State.live State.engineAbsent s

/-- A PLL relocks after a double fault (16 R458, 17 R479). -/
def execDoubleFaultRecovery (b : Bool) (s : State) : Host.Outcome State Fault Refusal :=
  State.live (fun s => (s.doubleRecovery b).when s.t.clkStop.isSome State.refuseService) s

/-- A PLL has not locked within 10 ms (16 R450). -/
def execPllLockTimeout (b : Bool) (s : State) : Host.Outcome State Fault Refusal :=
  State.live (State.pllLockTimeout b) s

/-- The retry of WAKE without a locked PLL (16 R450). -/
def execPllRetry (x : WakeIn) (s : State) : Host.Outcome State Fault Refusal :=
  State.live (State.pllRetry x) s

/-- The rails have been good for 10 ms: WAKE (16 R460, 17 R484). -/
def execResetRelease (x : WakeIn) (s : State) : Host.Outcome State Fault Refusal :=
  complete s (State.wake x s)

/-- A rail below its reset threshold (16 R460). -/
def execRailBelowReset (s : State) : Host.Outcome State Fault Refusal :=
  complete s (State.railReset s)

/-- PWRFAIL is asserted (16 R461, 17 R479). -/
def execPwrfailAssert (s : State) : Host.Outcome State Fault Refusal :=
  State.live (fun s => (s.pwrfail).refuseService) s

/-- A rail below warning for 2 µs (16 R461). -/
def execRailWarning (r : Fin 6) (s : State) : Host.Outcome State Fault Refusal :=
  State.live (fun s => (s.railWarning r.val).refuseService) s

/-- A rail above over-voltage for 10 µs (16 R461). -/
def execRailOverVoltage (r : Fin 6) (s : State) : Host.Outcome State Fault Refusal :=
  State.live (fun s => (s.railOver r.val).refuseService) s

/-- The brumation domain starts (16 R465). -/
def execDomainStart (s : State) : Host.Outcome State Fault Refusal :=
  complete s (State.domainStart s)

/-- The brumation domain resets (16 R465). -/
def execDomainReset (s : State) : Host.Outcome State Fault Refusal :=
  complete s (State.domainReset s)

/-- A keep-alive tick (16 R467). -/
def execKeepAliveTick (x : KaIn) (s : State) : Host.Outcome State Fault Refusal :=
  complete s (State.keepAlive x s)

/-- A piezo peak above the threshold (16 R470). -/
def execShockTrip (mv : Nat) (s : State) : Host.Outcome State Fault Refusal :=
  complete s (State.shockTrip mv s)

/-- The real-time clock is set from PTP (16 R468). -/
def execRtcPtpSet (s : State) : Host.Outcome State Fault Refusal :=
  State.clocked State.rtcPtp s

/-- A write of KA_RTC_HI (16 R468). -/
def execKaRtcHiWrite (w : RegWr) (s : State) : Host.Outcome State Fault Refusal :=
  State.regRow w A.KA_RTC_HI s

/-- A write of KA_CFG (16 R472). -/
def execKaCfgWrite (w : RegWr) (s : State) : Host.Outcome State Fault Refusal :=
  State.regRow w A.KA_CFG s

/-- A trial image has not reached STANDBY within 200 ms (17 R490). -/
def execTrialWatchdog (s : State) : Host.Outcome State Fault Refusal :=
  State.live State.trialWatchdog s

/-- SYS_CFG_CTRL.SAVE (17 R486). -/
def execSysCfgSave (ses : Ix16) (s : State) : Host.Outcome State Fault Refusal :=
  State.bitRow ses A.SYS_CFG_CTRL 0 s

/-- The configuration commit ends (17 R486). -/
def execCfgSaveDone (ok : Bool) (s : State) : Host.Outcome State Fault Refusal :=
  State.clocked (State.cfgSaveRow ok) s

/-- A PLL regains lock after a commit (16 R453). -/
def execPllCommitRelock (b : Bool) (s : State) : Host.Outcome State Fault Refusal :=
  State.live (State.commitRelock b) s

end Sys2Proof.Machine
end

