-- ==== Sys2Proof/Machine/ExecDc.lean ====
section
/-! DEFINITION. The meanings of the commands: DC and machine roles (06). -/

namespace Sys2Proof.Machine

/-- DC_CTRL.START (06 R183). -/
def execDcStart (c : Chan) (ses : Ix16) (s : State) : Host.Outcome State Fault Refusal :=
  State.cmdRow ses c.val (State.startCmd c.val (fun s => s.isDc c.val)) s

/-- DC_CTRL.STOP (06 R192). -/
def execDcStop (c : Chan) (ses : Ix16) (s : State) : Host.Outcome State Fault Refusal :=
  State.cmdRow ses c.val (State.stopCmd c.val (fun s => s.isDc c.val)) s

/-- DC_CTRL.SCAN (06 R194). -/
def execDcScan (c : Chan) (ses : Ix16) (s : State) : Host.Outcome State Fault Refusal :=
  State.cmdRow ses c.val (State.scanCmd c.val) s

/-- A write of DC_CFG (06 R187). -/
def execDcCfgLegsWrite (c : Chan) (w : RegWr) (s : State) : Host.Outcome State Fault Refusal :=
  State.regRow w (A.DC_CFG c.val) s

/-- The DC link has been at or above DC_VLINK_MIN for 20 ms (06 R182). -/
def execDcPrechargeComplete (c : Chan) (s : State) : Host.Outcome State Fault Refusal :=
  State.clocked (State.dcPrechargeDone c.val) s

/-- Precharge took too long (06 R182). -/
def execDcPcTimeout (c : Chan) (s : State) : Host.Outcome State Fault Refusal :=
  State.clocked (State.dcPcTimeout c.val) s

/-- Every DC check has held for DC_T_QUAL (06 R191). -/
def execDcQualified (c : Chan) (s : State) : Host.Outcome State Fault Refusal :=
  State.clocked (State.dcQualified c.val) s

/-- Qualification took longer than DC_T_SYNC (06 R191). -/
def execDcSyncTimeout (c : Chan) (s : State) : Host.Outcome State Fault Refusal :=
  State.clocked (State.dcSyncTimeout c.val) s

/-- 20 ms of RATIO failure (06 R191). -/
def execDcRatioRefusal (c : Chan) (s : State) : Host.Outcome State Fault Refusal :=
  State.clocked (State.dcRatioRefusal c.val) s

/-- The closure condition has held for 5 ms (06 R191). -/
def execDcClosureConfirmed (c : Chan) (s : State) : Host.Outcome State Fault Refusal :=
  State.clocked (State.dcClosure c.val) s

/-- Closure is not confirmed within DC_T_KM (06 R191). -/
def execDcKmFail (c : Chan) (s : State) : Host.Outcome State Fault Refusal :=
  State.clocked (State.dcKmFail c.val) s

/-- The STOP ramp ends (06 R192). -/
def execDcStopRampEnd (c : Chan) (s : State) : Host.Outcome State Fault Refusal :=
  State.clocked (State.dcStopRampEnd c.val) s

/-- The charge limit has stood below DC_I_END for DC_T_END (06 R190). -/
def execDcFull (c : Chan) (s : State) : Host.Outcome State Fault Refusal :=
  State.clocked (State.dcFull c.val) s

/-- The discharge limit has stood below DC_I_END for DC_T_END (06 R190). -/
def execDcEmpty (c : Chan) (s : State) : Host.Outcome State Fault Refusal :=
  State.clocked (State.dcEmpty c.val) s

/-- An MPPT period ends (06 R193). -/
def execMpptPeriodEnd (c : Chan) (s : State) : Host.Outcome State Fault Refusal :=
  State.clocked (State.mpptPeriodEnd c.val) s

/-- A global scan becomes due (06 R194). -/
def execScanDue (c : Chan) (s : State) : Host.Outcome State Fault Refusal :=
  State.clocked (State.scanDueNow c.val) s

/-- The dwell of a scan point ends (06 R194). -/
def execScanPointEnd (c : Chan) (s : State) : Host.Outcome State Fault Refusal :=
  State.clocked (State.scanPointEnd c.val) s

/-- A leg current crosses DC_ZC_TH (06 R197). -/
def execCotCrossing (c : Chan) (h : HbIx) (off : Nat) (mean : Word) (s : State) : Host.Outcome State Fault Refusal :=
  State.clocked (State.cotCrossing c.val h.val off mean) s

/-- No crossing by DC_VP_TMAX (06 R197). -/
def execVpTmaxClamp (c : Chan) (h : HbIx) (off : Nat) (mean : Word) (s : State) : Host.Outcome State Fault Refusal :=
  State.clocked (State.vpTmax c.val h.val off mean) s

/-- DC_VP_TMIN after an early crossing (06 R197). -/
def execVpTminEnd (c : Chan) (h : HbIx) (off : Nat) (mean : Word) (s : State) : Host.Outcome State Fault Refusal :=
  State.clocked (State.vpTmin c.val h.val off mean) s

/-- MACH_CTRL.START (06 R183). -/
def execMachStart (c : Chan) (ses : Ix16) (s : State) : Host.Outcome State Fault Refusal :=
  State.cmdRow ses c.val (State.startCmd c.val (fun s => s.role c.val == rMACH)) s

/-- MACH_CTRL.STOP (06 R205). -/
def execMachStop (c : Chan) (ses : Ix16) (s : State) : Host.Outcome State Fault Refusal :=
  State.cmdRow ses c.val (State.stopCmd c.val (fun s => s.role c.val == rMACH)) s

/-- MD5 has been at or above MACH_VLINK_MIN for 20 ms (06 R182). -/
def execMachPrechargeComplete (c : Chan) (s : State) : Host.Outcome State Fault Refusal :=
  State.clocked (State.machPrechargeDone c.val) s

/-- A plausible position signal for 20 ms (06 R203). -/
def execMachPositionSync (c : Chan) (s : State) : Host.Outcome State Fault Refusal :=
  State.clocked (State.machPosSync c.val) s

/-- No plausible position signal within 1 s (06 R203). -/
def execMachPositionTimeout (c : Chan) (s : State) : Host.Outcome State Fault Refusal :=
  State.clocked (State.machPosTimeout c.val) s

/-- The alignment of an open-loop start ends (06 R204). -/
def execMachAlignEnd (c : Chan) (s : State) : Host.Outcome State Fault Refusal :=
  State.clocked (State.machAlignEnd c.val) s

/-- Observer and open-loop angle have agreed for 20 ms (06 R204). -/
def execMachHandover (c : Chan) (s : State) : Host.Outcome State Fault Refusal :=
  State.clocked (State.machHandover c.val) s

/-- Handover is not achieved within MACH_T_HO (06 R204). -/
def execMachHandoverTimeout (c : Chan) (s : State) : Host.Outcome State Fault Refusal :=
  State.clocked (State.machHoTimeout c.val) s

end Sys2Proof.Machine
end

