-- ==== Sys2Proof/Machine/ExecGate.lean ====
section
/-! DEFINITION. The meanings of the commands: PWM and the gate drive (07, 08). -/

namespace Sys2Proof.Machine

/-- A carrier period starts (07 R216). -/
def execCarrierPeriodStart (c : Chan) (h : HbIx) (off : Nat) (s : State) : Host.Outcome State Fault Refusal :=
  State.clocked (State.periodRow c.val h.val off) s

/-- A reload instant (07 R229). -/
def execReload (c : Chan) (h : HbIx) (peak : Bool) (w : ReloadWhen) (s : State) : Host.Outcome State Fault Refusal :=
  State.clocked (State.reloadRow c.val h.val peak w) s

/-- An edge of P (07 R223). -/
def execPulseEdge (c : Chan) (h : HbIx) (rise : Bool) (off : Nat) (s : State) : Host.Outcome State Fault Refusal :=
  State.clocked (State.pulseEdge c.val h.val rise off) s

/-- The dead time after an edge of P ends (07 R227). -/
def execDeadTimeEnd (c : Chan) (h : HbIx) (off : Nat) (s : State) : Host.Outcome State Fault Refusal :=
  State.clocked (State.deadEnd c.val h.val off) s

/-- The replica line is measured (07 R226). -/
def execDelayLineCalibration (c : Chan) (taps : Option (Fin 128)) (s : State) : Host.Outcome State Fault Refusal :=
  State.clocked (State.delayCal c.val taps) s

/-- A write of PWM_SHHIh (07 R222). -/
def execPwmShhiWrite (c : Chan) (h : HbIx) (w : RegWr) (s : State) : Host.Outcome State Fault Refusal :=
  State.regRow w (A.PWM_SHHI c.val h.val) s

/-- A write of PWM_CAR (07 R219). -/
def execPwmCarWrite (c : Chan) (w : RegWr) (s : State) : Host.Outcome State Fault Refusal :=
  State.regRow w (A.PWM_CAR c.val) s

/-- A write of PWM_FORCE (07 R233). -/
def execPwmForceWrite (c : Chan) (w : RegWr) (s : State) : Host.Outcome State Fault Refusal :=
  State.regRow w (A.PWM_FORCE c.val) s

/-- True and complement lines agree for 2.5 ns (08 R245). -/
def execLinkCheckFault (c : Chan) (h : HbIx) (s : State) : Host.Outcome State Fault Refusal :=
  State.live (State.linkFault c.val h.val) s

/-- Both pairs have been right for 10 ns (08 R245). -/
def execLinkFaultEnd (c : Chan) (h : HbIx) (s : State) : Host.Outcome State Fault Refusal :=
  State.live (State.linkEnd c.val h.val) s

/-- A line-pair fault has lasted 1 µs (08 R245). -/
def execLinkTrip (c : Chan) (h : HbIx) (off : Nat) (s : State) : Host.Outcome State Fault Refusal :=
  State.live (State.linkTrip c.val h.val off) s

/-- HI and LO commanded on together (08 R246). -/
def execShootThroughBlock (c : Chan) (h : HbIx) (s : State) : Host.Outcome State Fault Refusal :=
  State.live (State.shootBlock c.val h.val) s

/-- A phase-group rule acts (08 R248). -/
def execPhaseGroupInterlock (c : Chan) (g : Fin 3) (v : PgViol) (s : State) : Host.Outcome State Fault Refusal :=
  State.live (State.phaseGroup c.val g.val v) s

/-- An L2 comparator output rises (08 R250). -/
def execL2Crossing (c : Chan) (h : HbIx) (off : Nat) (s : State) : Host.Outcome State Fault Refusal :=
  State.live (State.l2Crossing c.val h.val off) s

/-- An L1 comparator output rises (08 R251). -/
def execL1Crossing (c : Chan) (h : HbIx) (off : Nat) (s : State) : Host.Outcome State Fault Refusal :=
  State.live (State.l1Crossing c.val h.val off) s

/-- Blanking of L1 ends (08 R251). -/
def execL1BlankingEnd (c : Chan) (h : HbIx) (off : Nat) (s : State) : Host.Outcome State Fault Refusal :=
  State.live (State.l1BlankingEnd c.val h.val off) s

/-- 40 ns of off-drive end (08 R256). -/
def execOffDriveEnd (c : Chan) (s : State) : Host.Outcome State Fault Refusal :=
  State.live (State.offDriveEnd c.val) s

/-- GDI_CTRL.SW_TRIP (08 R255). -/
def execSwTrip (c : Chan) (ses : Ix16) (s : State) : Host.Outcome State Fault Refusal :=
  State.bitRow ses (A.GDI_CTRL c.val) 8 s

/-- CHn_ENA falls (08 R259). -/
def execChnEnaFall (c : Chan) (off : Nat) (s : State) : Host.Outcome State Fault Refusal :=
  State.live (State.enaFall c.val off) s

/-- CHn_ENA rises, `off` clocks into the tick (08 R260). -/
def execEnableRisingEdge (c : Chan) (off : Nat) (s : State) : Host.Outcome State Fault Refusal :=
  State.live (State.enaRise c.val off) s

/-- A write of GDI_CTRL.SW_EN (08 R261). -/
def execGdiSwEnWrite (c : Chan) (w : RegWr) (s : State) : Host.Outcome State Fault Refusal :=
  State.regRow w (A.GDI_CTRL c.val) s

/-- A comparator self-check begins (08 R263). -/
def execComparatorSelfCheck (c : Chan) (h : HbIx) (s : State) : Host.Outcome State Fault Refusal :=
  State.live (State.chkStart c.val h.val) s

/-- A comparator self-check ends (08 R263). -/
def execSelfCheckEnd (c : Chan) (h : HbIx) (pass : Bool) (s : State) : Host.Outcome State Fault Refusal :=
  State.live (State.chkEnd c.val h.val pass) s

/-- A comparator output falls (08 R249). -/
def execComparatorOutputFall (c : Chan) (h : HbIx) (l2 : Bool) (off : Nat) (s : State) : Host.Outcome State Fault Refusal :=
  State.live (State.comparatorFall c.val h.val l2 off) s

end Sys2Proof.Machine
end

