-- ==== Sys2Proof/Machine/ExecGrid.lean ====
section
/-! DEFINITION. The meanings of the commands: Roles and the grid converter (03, 04). -/

namespace Sys2Proof.Machine

/-- A write of ROLE_SEL (03 R107). -/
def execRoleSelWrite (c : Chan) (w : RegWr) (s : State) : Host.Outcome State Fault Refusal :=
  State.regRow w (A.ROLE_SEL c.val) s

/-- GRID_CTRL.START (04 R121). -/
def execGridStart (c : Chan) (ses : Ix16) (s : State) : Host.Outcome State Fault Refusal :=
  State.cmdRow ses c.val (State.startCmd c.val (fun s => s.role c.val == rGRID)) s

/-- GRID_CTRL.STOP (04 R124). -/
def execGridStop (c : Chan) (ses : Ix16) (s : State) : Host.Outcome State Fault Refusal :=
  State.cmdRow ses c.val (State.stopCmd c.val (fun s => s.role c.val == rGRID)) s

/-- GRID_CTRL.RECONN (04 R133). -/
def execGridReconn (c : Chan) (ses : Ix16) (s : State) : Host.Outcome State Fault Refusal :=
  State.cmdRow ses c.val (State.reconnCmd c.val) s

/-- A write of GRID_CTRL.SUB (04 R138). -/
def execGridSubWrite (c : Chan) (w : RegWr) (s : State) : Host.Outcome State Fault Refusal :=
  State.regRow w (A.GRID_CTRL c.val) s

/-- A write of GRID_FNOM (04 R141). -/
def execGridFnomWrite (c : Chan) (w : RegWr) (s : State) : Host.Outcome State Fault Refusal :=
  State.regRow w (A.GRID_FNOM c.val) s

/-- The DC link has been at or above its minimum for 20 ms (04 R120). -/
def execPrechargeComplete (c : Chan) (s : State) : Host.Outcome State Fault Refusal :=
  State.clocked (State.prechargeDone c.val) s

/-- Precharge took longer than GRID_T_PC (04 R120). -/
def execPcTimeout (c : Chan) (s : State) : Host.Outcome State Fault Refusal :=
  State.clocked (State.pcTimeout c.val) s

/-- Every connection check has held for GRID_T_QUAL (04 R120). -/
def execSyncQualified (c : Chan) (s : State) : Host.Outcome State Fault Refusal :=
  State.clocked (State.syncQualified c.val) s

/-- Qualification took longer than GRID_T_SYNC (04 R120). -/
def execSyncTimeout (c : Chan) (s : State) : Host.Outcome State Fault Refusal :=
  State.clocked (State.syncTimeout c.val) s

/-- SEQ, NEUTRAL or PCC_DEAD refuses the connection at once (04 R122). -/
def execSyncImmediateRefusal (c : Chan) (s : State) : Host.Outcome State Fault Refusal :=
  State.clocked (State.syncRefusal c.val) s

/-- The closure check has held for 5 ms (04 R123). -/
def execClosureConfirmed (c : Chan) (s : State) : Host.Outcome State Fault Refusal :=
  State.clocked (State.closureConfirmed c.val) s

/-- Closure is not confirmed within GRID_T_KM (04 R123). -/
def execKmFail (c : Chan) (s : State) : Host.Outcome State Fault Refusal :=
  State.clocked (State.kmFail c.val) s

/-- The STOP ramp ends (04 R124). -/
def execStopRampEnd (c : Chan) (s : State) : Host.Outcome State Fault Refusal :=
  State.clocked (State.stopRampEnd c.val) s

/-- Black start: the contactor without the checks (04 R125). -/
def execBlackStart (c : Chan) (s : State) : Host.Outcome State Fault Refusal :=
  State.clocked (State.blackStart c.val) s

/-- GRID_T_KM after the contactor command of a black start (04 R125). -/
def execBlackStartActive (c : Chan) (s : State) : Host.Outcome State Fault Refusal :=
  State.clocked (State.blackStartActive c.val) s

/-- PLL_OK changes (04 R118). -/
def execPllOkChange (c : Chan) (ok : Bool) (s : State) : Host.Outcome State Fault Refusal :=
  State.clocked (State.pllOkChange c.val ok) s

/-- FORM_CL returns to FORM (04 R132). -/
def execFormClExit (c : Chan) (s : State) : Host.Outcome State Fault Refusal :=
  State.clocked (State.formClExit c.val) s

end Sys2Proof.Machine
end

