-- ==== Sys2Proof/Machine/ExecHost.lean ====
section
/-! DEFINITION. The meanings of the commands: Requests, sessions, ports and registers (13, 14, 15). -/

namespace Sys2Proof.Machine

/-- A session without a request for its TIMEOUT ends (13 R380). -/
def execSessionTimeout (i : Ix16) (s : State) : Host.Outcome State Fault Refusal :=
  State.clocked (State.sessionTimeout i.val) s

/-- A port without link for 1 s is lost (14 R403). -/
def execPortLost (l : LostLink) (s : State) : Host.Outcome State Fault Refusal :=
  State.clocked (State.portLost l) s

/-- The request NOP, opcode 0x00 (13 R390; R390). -/
def execNop (p : Pkt) (s : State) : Host.Outcome State Fault Refusal :=
  State.packet 0x00 p s

/-- The request OPEN, opcode 0x01 (13 R390; R378). -/
def execOpenSes (p : Pkt) (s : State) : Host.Outcome State Fault Refusal :=
  State.packet 0x01 p s

/-- The request CLOSE, opcode 0x02 (13 R390; R380). -/
def execClose (p : Pkt) (s : State) : Host.Outcome State Fault Refusal :=
  State.packet 0x02 p s

/-- The request AUDIT, opcode 0x03 (13 R390; R385). -/
def execAudit (p : Pkt) (s : State) : Host.Outcome State Fault Refusal :=
  State.packet 0x03 p s

/-- The request ABORT, opcode 0x04 (13 R390; R388). -/
def execAbortTag (p : Pkt) (s : State) : Host.Outcome State Fault Refusal :=
  State.packet 0x04 p s

/-- The request SESSIONS, opcode 0x05 (13 R390; R390). -/
def execSessions (p : Pkt) (s : State) : Host.Outcome State Fault Refusal :=
  State.packet 0x05 p s

/-- The request STATUS, opcode 0x10 (13 R390; R390). -/
def execStatus (p : Pkt) (s : State) : Host.Outcome State Fault Refusal :=
  State.packet 0x10 p s

/-- The request MODE_SET, opcode 0x11 (13 R390; R479). -/
def execModeSet (p : Pkt) (s : State) : Host.Outcome State Fault Refusal :=
  State.packet 0x11 p s

/-- The request CLAIM, opcode 0x12 (13 R390; R389). -/
def execClaim (p : Pkt) (s : State) : Host.Outcome State Fault Refusal :=
  State.packet 0x12 p s

/-- The request RELEASE, opcode 0x13 (13 R390; R390). -/
def execRelease (p : Pkt) (s : State) : Host.Outcome State Fault Refusal :=
  State.packet 0x13 p s

/-- The request ROLE_SET, opcode 0x14 (13 R390; R107). -/
def execRoleSet (p : Pkt) (s : State) : Host.Outcome State Fault Refusal :=
  State.packet 0x14 p s

/-- The request START, opcode 0x15 (13 R390; R121). -/
def execStartCh (p : Pkt) (s : State) : Host.Outcome State Fault Refusal :=
  State.packet 0x15 p s

/-- The request STOP, opcode 0x16 (13 R390; R124). -/
def execStopCh (p : Pkt) (s : State) : Host.Outcome State Fault Refusal :=
  State.packet 0x16 p s

/-- The request SUBMODE, opcode 0x17 (13 R390; R138). -/
def execSubmode (p : Pkt) (s : State) : Host.Outcome State Fault Refusal :=
  State.packet 0x17 p s

/-- The request SETPOINT, opcode 0x18 (13 R390; R391). -/
def execSetpoint (p : Pkt) (s : State) : Host.Outcome State Fault Refusal :=
  State.packet 0x18 p s

/-- The request SETPOINT_SET, opcode 0x19 (13 R390; R391). -/
def execSetpointSet (p : Pkt) (s : State) : Host.Outcome State Fault Refusal :=
  State.packet 0x19 p s

/-- The request CTX_READ, opcode 0x30 (13 R390; R106). -/
def execCtxRead (p : Pkt) (s : State) : Host.Outcome State Fault Refusal :=
  State.packet 0x30 p s

/-- The request CTX_WRITE, opcode 0x31 (13 R390; R100). -/
def execCtxWrite (p : Pkt) (s : State) : Host.Outcome State Fault Refusal :=
  State.packet 0x31 p s

/-- The request CTX_WRITE_LIST, opcode 0x32 (13 R390; R100). -/
def execCtxWriteList (p : Pkt) (s : State) : Host.Outcome State Fault Refusal :=
  State.packet 0x32 p s

/-- The request FREEZE, opcode 0x33 (13 R390; R102). -/
def execFreeze (p : Pkt) (s : State) : Host.Outcome State Fault Refusal :=
  State.packet 0x33 p s

/-- The request SHADOW_SET, opcode 0x50 (13 R390; R392). -/
def execShadowSet (p : Pkt) (s : State) : Host.Outcome State Fault Refusal :=
  State.packet 0x50 p s

/-- The request FORCE_OFF, opcode 0x51 (13 R390; R392). -/
def execForceOff (p : Pkt) (s : State) : Host.Outcome State Fault Refusal :=
  State.packet 0x51 p s

/-- The request TRIP_READ, opcode 0x52 (13 R390; R390). -/
def execTripRead (p : Pkt) (s : State) : Host.Outcome State Fault Refusal :=
  State.packet 0x52 p s

/-- The request TRIP_CLEAR, opcode 0x53 (13 R390; R392). -/
def execTripClear (p : Pkt) (s : State) : Host.Outcome State Fault Refusal :=
  State.packet 0x53 p s

/-- The request ACC_READ, opcode 0x60 (13 R390; R390). -/
def execAccRead (p : Pkt) (s : State) : Host.Outcome State Fault Refusal :=
  State.packet 0x60 p s

/-- The request WINDOW_READ, opcode 0x61 (13 R390; R393). -/
def execWindowRead (p : Pkt) (s : State) : Host.Outcome State Fault Refusal :=
  State.packet 0x61 p s

/-- The request RECORD_READ, opcode 0x62 (13 R390; R393). -/
def execRecordRead (p : Pkt) (s : State) : Host.Outcome State Fault Refusal :=
  State.packet 0x62 p s

/-- The request SNAP_LIST, opcode 0x63 (13 R390; R390). -/
def execSnapList (p : Pkt) (s : State) : Host.Outcome State Fault Refusal :=
  State.packet 0x63 p s

/-- The request ATTEST_READ, opcode 0x64 (13 R390; R319). -/
def execAttestRead (p : Pkt) (s : State) : Host.Outcome State Fault Refusal :=
  State.packet 0x64 p s

/-- The request REG_READ, opcode 0x80 (13 R390; R395). -/
def execRegRead (p : Pkt) (s : State) : Host.Outcome State Fault Refusal :=
  State.packet 0x80 p s

/-- The request REG_WRITE, opcode 0x81 (13 R390; R395). -/
def execRegWrite (p : Pkt) (s : State) : Host.Outcome State Fault Refusal :=
  State.packet 0x81 p s

/-- The request REG_WRITE_LIST, opcode 0x82 (13 R390; R395). -/
def execRegWriteList (p : Pkt) (s : State) : Host.Outcome State Fault Refusal :=
  State.packet 0x82 p s

/-- The request REG_RMW, opcode 0x83 (13 R390; R395). -/
def execRegRmw (p : Pkt) (s : State) : Host.Outcome State Fault Refusal :=
  State.packet 0x83 p s

/-- The request SAFE_UNLOCK, opcode 0x90 (13 R390; R342). -/
def execSafeUnlock (p : Pkt) (s : State) : Host.Outcome State Fault Refusal :=
  State.packet 0x90 p s

/-- The request SAFE_LOCK, opcode 0x91 (13 R390; R342). -/
def execSafeLock (p : Pkt) (s : State) : Host.Outcome State Fault Refusal :=
  State.packet 0x91 p s

/-- The request SAFE_STAGE, opcode 0x92 (13 R390; R342). -/
def execSafeStage (p : Pkt) (s : State) : Host.Outcome State Fault Refusal :=
  State.packet 0x92 p s

/-- The request SAFE_COMMIT, opcode 0x93 (13 R390; R342). -/
def execSafeCommit (p : Pkt) (s : State) : Host.Outcome State Fault Refusal :=
  State.packet 0x93 p s

/-- The request SAFE_SET_PW, opcode 0x94 (13 R390; R343). -/
def execSafeSetPw (p : Pkt) (s : State) : Host.Outcome State Fault Refusal :=
  State.packet 0x94 p s

/-- The request SAFE_LOG_READ, opcode 0x95 (13 R390; R344). -/
def execSafeLogRead (p : Pkt) (s : State) : Host.Outcome State Fault Refusal :=
  State.packet 0x95 p s

/-- The request SGI_REQ, opcode 0x96 (13 R390; R329). -/
def execSgiReq (p : Pkt) (s : State) : Host.Outcome State Fault Refusal :=
  State.packet 0x96 p s

/-- The request LOG_READ, opcode 0xA0 (13 R390; R390). -/
def execLogRead (p : Pkt) (s : State) : Host.Outcome State Fault Refusal :=
  State.packet 0xA0 p s

/-- The request COUNTERS, opcode 0xA1 (13 R390; R365). -/
def execCounters (p : Pkt) (s : State) : Host.Outcome State Fault Refusal :=
  State.packet 0xA1 p s

/-- The request HEALTH_GET, opcode 0xA2 (13 R390; R390). -/
def execHealthGet (p : Pkt) (s : State) : Host.Outcome State Fault Refusal :=
  State.packet 0xA2 p s

/-- The request IMG_BEGIN, opcode 0xB0 (13 R390; R493). -/
def execImgBegin (p : Pkt) (s : State) : Host.Outcome State Fault Refusal :=
  State.packet 0xB0 p s

/-- The request IMG_DATA, opcode 0xB1 (13 R390; R493). -/
def execImgData (p : Pkt) (s : State) : Host.Outcome State Fault Refusal :=
  State.packet 0xB1 p s

/-- The request IMG_VERIFY, opcode 0xB2 (13 R390; R494). -/
def execImgVerify (p : Pkt) (s : State) : Host.Outcome State Fault Refusal :=
  State.packet 0xB2 p s

/-- Verification of the target image completes (17 R494). -/
def execImgVerifyDone (ok : Bool) (s : State) : Host.Outcome State Fault Refusal :=
  State.clocked (State.imgVerifyDone ok) s

/-- The request IMG_ACTIVATE, opcode 0xB3 (13 R390; R495). -/
def execImgActivate (p : Pkt) (s : State) : Host.Outcome State Fault Refusal :=
  State.packet 0xB3 p s

/-- The request ATTEST, opcode 0xB4 (13 R390; R497). -/
def execAttest (p : Pkt) (s : State) : Host.Outcome State Fault Refusal :=
  State.packet 0xB4 p s

/-- The attestation signature completes (17 R497). -/
def execAttestSigned (s : State) : Host.Outcome State Fault Refusal :=
  State.clocked State.attSigned s

/-- The request RING_STATUS, opcode 0xC0 (13 R390; R390). -/
def execRingStatus (p : Pkt) (s : State) : Host.Outcome State Fault Refusal :=
  State.packet 0xC0 p s

/-- The request ENUMERATE, opcode 0xC1 (13 R390; R420). -/
def execEnumerate (p : Pkt) (s : State) : Host.Outcome State Fault Refusal :=
  State.packet 0xC1 p s

/-- The request ADDR_SET, opcode 0xC2 (13 R390; R419). -/
def execAddrSet (p : Pkt) (s : State) : Host.Outcome State Fault Refusal :=
  State.packet 0xC2 p s

/-- The request STREAM_OPEN, opcode 0x70 (13 R390; R396). -/
def execStreamOpen (p : Pkt) (s : State) : Host.Outcome State Fault Refusal :=
  State.packet 0x70 p s

/-- The request STREAM_CLOSE, opcode 0x71 (13 R390; R398). -/
def execStreamClose (p : Pkt) (s : State) : Host.Outcome State Fault Refusal :=
  State.packet 0x71 p s

/-- The request STREAM_ACK, opcode 0x72 (13 R390; R398). -/
def execStreamAck (p : Pkt) (s : State) : Host.Outcome State Fault Refusal :=
  State.packet 0x72 p s

/-- A stream sends a packet (13 R397). -/
def execStreamData (i : Fin 32) (s : State) : Host.Outcome State Fault Refusal :=
  State.clocked (State.streamData i.val) s

/-- An unassigned device announces itself (14 R421). -/
def execAnnounce (s : State) : Host.Outcome State Fault Refusal :=
  State.clocked State.announceDue s

/-- An ANNOUNCE with an address (14 R419). -/
def execAnnounceReceived (addr : BitVec 6) (s : State) : Host.Outcome State Fault Refusal :=
  State.clocked (State.announceSeen addr.toNat) s

/-- SPI PKT_WR (14 R406). -/
def execPktWr (x : SpiPkt) (s : State) : Host.Outcome State Fault Refusal :=
  State.clocked (State.pktWr x) s

/-- SPI PKT_RD; `whole`: the last bit was clocked out (14 R406). -/
def execPktRd (whole : Bool) (s : State) : Host.Outcome State Fault Refusal :=
  State.clocked (State.pktRd whole) s

/-- SPI STAT (14 R405). -/
def execStat (s : State) : Host.Outcome State Fault Refusal :=
  State.clocked State.spiStat s

/-- SPI REG_RD (14 R407). -/
def execRegRd (addr : Word) (n : BitVec 8) (s : State) : Host.Outcome State Fault Refusal :=
  State.clocked (State.regOp 0x80 [addr, wd n.toNat]) s

/-- SPI REG_WR (14 R407). -/
def execRegWr (addr : Word) (ws : List Word) (s : State) : Host.Outcome State Fault Refusal :=
  State.clocked (State.regOp 0x81 (addr :: ws)) s

/-- SPI REG_FETCH (14 R407). -/
def execRegFetch (s : State) : Host.Outcome State Fault Refusal :=
  State.clocked State.regFetch s

/-- An SPI transaction with an unknown command (14 R405). -/
def execSpiInvalidCommand (s : State) : Host.Outcome State Fault Refusal :=
  State.clocked State.spiInvalid s

/-- Auto-negotiation completes (14 R408). -/
def execAutoNegotiationComplete (fullDuplex : Bool) (s : State) : Host.Outcome State Fault Refusal :=
  State.clocked (State.autoNeg fullDuplex) s

/-- An ARP or Neighbour Discovery request (14 R409). -/
def execArpNeighbourRequest (v6 : Bool) (ours : Bool) (s : State) : Host.Outcome State Fault Refusal :=
  State.clocked (State.ethAnswer v6 ours .arp .neighbour) s

/-- An echo request (14 R409). -/
def execIcmpEchoRequest (v6 : Bool) (ours : Bool) (s : State) : Host.Outcome State Fault Refusal :=
  State.clocked (State.ethAnswer v6 ours .echo4 .echo6) s

/-- An incomplete datagram after 100 ms (14 R410). -/
def execFragmentReassemblyTimeout (s : State) : Host.Outcome State Fault Refusal :=
  State.clocked State.fragTimeout s

/-- A PTP event message (14 R412). -/
def execPtpEventMessage (x : PtpMsg) (s : State) : Host.Outcome State Fault Refusal :=
  State.clocked (State.ptpMessage x) s

/-- PTP loses lock (14 R413). -/
def execPtpLockLoss (s : State) : Host.Outcome State Fault Refusal :=
  State.clocked State.ptpLoss s

/-- PTP regains lock (14 R413). -/
def execPtpLockRegain (s : State) : Host.Outcome State Fault Refusal :=
  State.clocked State.ptpRegain s

/-- A frame arrives on the ring (14 R415). -/
def execRingFrameArrival (x : RingFrame) (s : State) : Host.Outcome State Fault Refusal :=
  State.clocked (State.ringFrame x) s

/-- A TL1 device sends its burst (14 R417). -/
def execTl1BurstTransmit (s : State) : Host.Outcome State Fault Refusal :=
  State.clocked State.tl1Burst s

/-- A ring link comes up (14 R418). -/
def execRingLinkUp (l : RingLink) (s : State) : Host.Outcome State Fault Refusal :=
  State.clocked (State.ringUp l) s

/-- A ring link goes down (14 R418). -/
def execRingLinkDown (l : RingLink) (s : State) : Host.Outcome State Fault Refusal :=
  State.clocked (State.ringDown l) s

/-- A link up for 100 ms unwraps the ring (14 R422). -/
def execRingUnwrap (l : RingLink) (s : State) : Host.Outcome State Fault Refusal :=
  State.clocked (State.ringUnwrap l) s

/-- A write of HOST_MBDm (14 R426). -/
def execHostMbdWrite (m : Ix16) (w : RegWr) (s : State) : Host.Outcome State Fault Refusal :=
  State.regRow w (A.HOST_MBD m.val) s

/-- A read of HOST_MBSm (14 R427). -/
def execHostMbsRead (m : Ix16) (ses : Ix16) (s : State) : Host.Outcome State Fault Refusal :=
  State.readRow ses.val (A.HOST_MBS m.val) s

/-- A word was held beyond HOST_MB_TO (14 R428). -/
def execMailboxTimeout (m : Ix16) (s : State) : Host.Outcome State Fault Refusal :=
  State.clocked (State.mbExpire m.val) s

/-- A read of HOST_MBLOCKk (14 R429). -/
def execHostMblockRead (k : Ix16) (ses : Ix16) (s : State) : Host.Outcome State Fault Refusal :=
  State.readRow ses.val (A.HOST_MBLOCK k.val) s

/-- A write of HOST_MBLOCKk (14 R429). -/
def execHostMblockWrite (k : Ix16) (w : RegWr) (s : State) : Host.Outcome State Fault Refusal :=
  State.regRow w (A.HOST_MBLOCK k.val) s

/-- A sequence-clear write (15 R439). -/
def execSequenceClearWrite (addr : Word) (w : RegWr) (s : State) : Host.Outcome State Fault Refusal :=
  State.addrRow w addr.toNat s

/-- A write of any register or context word (15 R516). -/
def execRegisterWrite (addr : Word) (w : RegWr) (s : State) : Host.Outcome State Fault Refusal :=
  State.addrRow w addr.toNat s

/-- The H1 PCS loses its link (14 R403). -/
def execH1LinkLoss (s : State) : Host.Outcome State Fault Refusal :=
  State.clocked State.h1LinkLoss s

/-- A packet without a request opcode, or a bad frame (13 R381). -/
def execBadOpcodePacket (p : Pkt) (opc : Byte) (frameOk : Bool) (s : State) : Host.Outcome State Fault Refusal :=
  State.clocked (State.submit opc.toNat p frameOk false) s

end Sys2Proof.Machine
end

