-- ==== Sys2Proof/Machine/ExecRide.lean ====
section
/-! DEFINITION. The meanings of the commands: Ride-through, chopper, recorder and islanding (05). -/

namespace Sys2Proof.Machine

/-- The RIDE detector arms (05 R144). -/
def execRideDetectorArm (s : State) : Host.Outcome State Fault Refusal :=
  State.clocked State.rideArm s

/-- A qualifying condition has held for its time (05 R145). -/
def execRideEntry (s : State) : Host.Outcome State Fault Refusal :=
  State.clocked State.rideEntry s

/-- RIDE ends (05 R147). -/
def execRideExit (s : State) : Host.Outcome State Fault Refusal :=
  State.clocked State.rideExit s

/-- A trip condition of the ride-through bank (05 R148). -/
def execProtectiveTrip (s : State) : Host.Outcome State Fault Refusal :=
  State.clocked State.protectiveTrip s

/-- GRIDPROT becomes inactive (05 R149). -/
def execGridprotRelease (s : State) : Host.Outcome State Fault Refusal :=
  State.clocked State.gridprotRelease s

/-- A write of SYS_RIDE_CFG.BANK (05 R159). -/
def execSysRideBankWrite (w : RegWr) (s : State) : Host.Outcome State Fault Refusal :=
  State.regRow w A.SYS_RIDE_CFG s

/-- A fast output at or above CHOP_VON (05 R156). -/
def execChopperOn (c : Chan) (off : Nat) (s : State) : Host.Outcome State Fault Refusal :=
  State.clocked (State.chopperOn c.val off) s

/-- A fast output at or below CHOP_VOFF (05 R156). -/
def execChopperOff (c : Chan) (off : Nat) (s : State) : Host.Outcome State Fault Refusal :=
  State.clocked (State.chopperOff c.val off) s

/-- REC_CFG.RELEASE frees a held capture (05 R163). -/
def execRecCfgRelease (ses : Ix16) (s : State) : Host.Outcome State Fault Refusal :=
  State.bitRow ses A.REC_CFG 2 s

/-- A write of REC_CFG (05 R162). -/
def execRecCfgEnWrite (w : RegWr) (s : State) : Host.Outcome State Fault Refusal :=
  State.regRow w A.REC_CFG s

/-- A probe window ends with its voltage and current (05 R168). -/
def execProbeWindowEnd (vp : Word) (ip : Word) (s : State) : Host.Outcome State Fault Refusal :=
  State.clocked (State.probeWindow vp ip) s

/-- A passive islanding detector fires (05 R169). -/
def execPassiveDetectorFire (d : Fin 4) (s : State) : Host.Outcome State Fault Refusal :=
  State.clocked (State.passiveFire d.val) s

/-- A candidate expires (05 R169). -/
def execCandidateExpiry (s : State) : Host.Outcome State Fault Refusal :=
  State.clocked State.candExpiry s

/-- ISLANDED clears (05 R173). -/
def execIslandedClear (s : State) : Host.Outcome State Fault Refusal :=
  State.clocked State.islandedClear s

end Sys2Proof.Machine
end

