-- ==== Sys2Proof/Machine/ExecSafety.lean ====
section
/-! DEFINITION. The meanings of the commands: The safety island and health (11, 12). -/

namespace Sys2Proof.Machine

/-- A low on SAFE_IN_A, or B, for TP_MAX (11 R330). -/
def execSafeInDemand (b : Bool) (s : State) : Host.Outcome State Fault Refusal :=
  State.live (State.safeDemand b) s

/-- The inputs have differed for T_DISC (11 R330). -/
def execSafeInDiscrepancy (s : State) : Host.Outcome State Fault Refusal :=
  State.live State.safeDisc s

/-- Both inputs low together, then high together (11 R330). -/
def execDiscRelease (s : State) : Host.Outcome State Fault Refusal :=
  State.live State.discRelease s

/-- Current beyond SLC_LIM for T_SLC (11 R335). -/
def execSlcViolation (c : Chan) (s : State) : Host.Outcome State Fault Refusal :=
  State.live (State.slcViolation c.val) s

/-- Power in the forbidden direction for T_SLD (11 R336). -/
def execSldViolation (c : Chan) (s : State) : Host.Outcome State Fault Refusal :=
  State.live (State.sldViolation c.val) s

/-- Frequency above S_LIM for T_SLS (11 R337). -/
def execSlsViolation (c : Chan) (s : State) : Host.Outcome State Fault Refusal :=
  State.live (State.slsViolation c.val) s

/-- An implausible amplitude for 1 ms (11 R337). -/
def execSlsSigFault (c : Chan) (s : State) : Host.Outcome State Fault Refusal :=
  State.live (State.slsSigFault c.val) s

/-- A monitored bitstream unchanged (11 R324). -/
def execIslandInputStuck (c : Chan) (m : MdIx) (s : State) : Host.Outcome State Fault Refusal :=
  State.live (State.islandInputStuck c.val m.val) s

/-- No MCLK edge for 2 µs (11 R324). -/
def execIslandMclkFault (c : Chan) (s : State) : Host.Outcome State Fault Refusal :=
  State.live (State.islandMclk c.val) s

/-- No valid cross-check within 1.5 × Tbase (11 R325). -/
def execCrossCheckMissed (s : State) : Host.Outcome State Fault Refusal :=
  State.live State.xMissed s

/-- A clock outside ±5 % or a stopped demand line (11 R326). -/
def execOscFault (s : State) : Host.Outcome State Fault Refusal :=
  State.live State.oscFault s

/-- A feedback differs from its output (11 R333). -/
def execFbFault (b : Bool) (s : State) : Host.Outcome State Fault Refusal :=
  State.live (State.fbFault b) s

/-- An off-pulse test begins (11 R332). -/
def execOffPulseTest (b : Bool) (s : State) : Host.Outcome State Fault Refusal :=
  State.live (State.offPulse b) s

/-- An off-pulse test ends (11 R332). -/
def execOffPulseRestore (b : Bool) (ok : Bool) (s : State) : Host.Outcome State Fault Refusal :=
  State.live (State.offPulseRestore b ok) s

/-- A SAFE_RST pulse is judged (11 R338). -/
def execSafeRstFallingEdge (us : Nat) (x : IslandIn) (s : State) : Host.Outcome State Fault Refusal :=
  State.live (State.safeRstFall us x) s

/-- SAFE_RST high for longer than 5 s (11 R338). -/
def execSafeRstStuck (s : State) : Host.Outcome State Fault Refusal :=
  State.live State.safeRstStuck s

/-- The feedbacks after an accepted reset (11 R339). -/
def execResetFeedbackCheck (fbA : Bool) (fbB : Bool) (s : State) : Host.Outcome State Fault Refusal :=
  State.live (State.resetFeedback fbA fbB) s

/-- A write of SAFE_CTRL.SGI_REQ (11 R348). -/
def execSafeCtrlSgiReq (w : RegWr) (s : State) : Host.Outcome State Fault Refusal :=
  State.regRow w A.SAFE_CTRL s

/-- 10 min without a safety operation (11 R342). -/
def execSafeUnlockExpiry (s : State) : Host.Outcome State Fault Refusal :=
  State.clocked State.unlockExpiry s

/-- The block after three wrong passwords ends (11 R342). -/
def execUnlockBlockEnd (s : State) : Host.Outcome State Fault Refusal :=
  State.clocked State.blockEnd s

/-- The safety image commit ends (11 R342). -/
def execSafeCommitDone (ok : Bool) (s : State) : Host.Outcome State Fault Refusal :=
  State.clocked (State.safeCommitRow ok) s

/-- The MGS reads the temperature sensors and the supply monitors (12 R360, R361). -/
def execTemperatureRead (t : List Int) (v : List Word) (s : State) : Host.Outcome State Fault Refusal :=
  State.clocked (State.temperatureRead t v) s

/-- A sensor off its die median for 1 s (12 R360). -/
def execSensorExclusion (i : Ix16) (s : State) : Host.Outcome State Fault Refusal :=
  State.clocked (State.sensorExclude i.val) s

/-- An excluded sensor near the median for 60 s (12 R360). -/
def execSensorReadmission (i : Ix16) (s : State) : Host.Outcome State Fault Refusal :=
  State.clocked (State.sensorReadmit i.val) s

/-- The hourly ageing measurement (12 R362). -/
def execAgeingMeasurement (ro : List Int) (days : BitVec 16) (s : State) : Host.Outcome State Fault Refusal :=
  State.clocked (State.ageing ro days.toNat) s

/-- The oldest queued record is written to the log ring (12 R367). -/
def execLogRecordWrite (s : State) : Host.Outcome State Fault Refusal :=
  State.clocked State.logWrite s

/-- The watchdog restarts the MGS (12 R370). -/
def execMgsWatchdogRestart (s : State) : Host.Outcome State Fault Refusal :=
  State.clocked State.mgsRestart s

/-- The buffer-pool accounting is checked (13 R385). -/
def execPoolAuditCheck (s : State) : Host.Outcome State Fault Refusal :=
  State.clocked State.poolAudit s

/-- The restarted MGS runs again (12 R370). -/
def execMgsRestartComplete (s : State) : Host.Outcome State Fault Refusal :=
  State.clocked State.mgsComplete s

end Sys2Proof.Machine
end

