-- ==== Sys2Proof/Machine/ExecSense.lean ====
section
/-! DEFINITION. The meanings of the commands: Sensing and the survey converter (02). -/

namespace Sys2Proof.Machine

/-- A write of FLT_MCLK (02 R48). -/
def execFltMclkWrite (c : Chan) (w : RegWr) (s : State) : Host.Outcome State Fault Refusal :=
  State.regRow w (A.FLT_MCLK c.val) s

/-- A write of FLT_CFG (02 R57). -/
def execFltCfgWrite (c : Chan) (w : RegWr) (s : State) : Host.Outcome State Fault Refusal :=
  State.regRow w (A.FLT_CFG c.val) s

/-- An enabled input held one value for STUCK_LEN (02 R53). -/
def execInputStuck (c : Chan) (m : MdIx) (s : State) : Host.Outcome State Fault Refusal :=
  State.clocked (State.inputStuck c.val m.val) s

/-- Four consecutive MCLK edges missed at the ball (02 R54). -/
def execMclkLoss (c : Chan) (s : State) : Host.Outcome State Fault Refusal :=
  State.clocked (State.mclkLoss c.val) s

/-- An input becomes valid again (02 R56). -/
def execInputValidAgain (c : Chan) (m : MdIx) (s : State) : Host.Outcome State Fault Refusal :=
  State.clocked (State.inputValid c.val m.val) s

/-- The fine filter has settled (02 R57). -/
def execFilterSettled (c : Chan) (m : MdIx) (s : State) : Host.Outcome State Fault Refusal :=
  State.clocked (State.filterSettled c.val m.val) s

/-- A fast output beyond FLT_LIM (02 R61). -/
def execDigitalLimitExcursion (c : Chan) (m : MdIx) (x : Word) (s : State) : Host.Outcome State Fault Refusal :=
  State.clocked (State.limitExcursion c.val m.val x) s

/-- A PCC converter input beyond ±1.2 V (02 R65). -/
def execPccOverrange (k : Fin 8) (s : State) : Host.Outcome State Fault Refusal :=
  State.clocked (State.pccOver k.val) s

/-- A source event of a survey trigger (02 R70). -/
def execSurveySourceEvent (inj : Bool) (s : State) : Host.Outcome State Fault Refusal :=
  State.clocked (State.survSource inj) s

/-- The end of the trigger delay (02 R71). -/
def execSurveyTriggerInstant (inj : Bool) (s : State) : Host.Outcome State Fault Refusal :=
  State.clocked (State.survInstant inj) s

/-- A survey conversion ends (02 R74). -/
def execSurveyConversionEnd (code : BitVec 20) (s : State) : Host.Outcome State Fault Refusal :=
  State.clocked (State.survEnd code.toNat) s

/-- SURV_CTRL.SW_REG: a regular trigger instant at once (02 R70). -/
def execSwReg (ses : Ix16) (s : State) : Host.Outcome State Fault Refusal :=
  State.bitRow ses A.SURV_CTRL 11 s

/-- SURV_CTRL.SW_INJ: an injected trigger instant at once (02 R70). -/
def execSwInj (ses : Ix16) (s : State) : Host.Outcome State Fault Refusal :=
  State.bitRow ses A.SURV_CTRL 12 s

/-- A write of SURV_CTRL (02 R72). -/
def execSurvCtrlEnWrite (w : RegWr) (s : State) : Host.Outcome State Fault Refusal :=
  State.regRow w A.SURV_CTRL s

/-- A read of SURV_DATA (02 R74). -/
def execSurvDataRead (s : State) : Host.Outcome State Fault Refusal :=
  State.byHost State.survRow s

/-- A write of SURV_BUF_RD (02 R77). -/
def execSurvBufRdWrite (w : RegWr) (s : State) : Host.Outcome State Fault Refusal :=
  State.regRow w A.SURV_BUF_RD s

/-- The fast output is back within the limit (02 R61). -/
def execLimitExcursionEnd (c : Chan) (m : MdIx) (s : State) : Host.Outcome State Fault Refusal :=
  State.clocked (State.limitEnd c.val m.val) s

/-- A PCC converter input back inside ±1.2 V (02 R65). -/
def execPccOverrangeEnd (k : Fin 8) (s : State) : Host.Outcome State Fault Refusal :=
  State.clocked (State.pccOverEnd k.val) s

end Sys2Proof.Machine
end

