-- ==== Sys2Proof/Machine/ExecTick.lean ====
section
/-! DEFINITION. The meanings of the commands: The tick, alignment, bursts and the control engine (01, 03). -/

namespace Sys2Proof.Machine

/-- A tick boundary opens a tick of six phases (01 R27). -/
def execTickBoundary (x : TickIn) (s : State) : Host.Outcome State Fault Refusal :=
  State.clocked (State.tickBoundary x) s

/-- The guard point: phase 6 closes and unfinished law execution is detected (01 R32). -/
def execGuardPoint (late : List (Chan × Ix16)) (s : State) : Host.Outcome State Fault Refusal :=
  State.clocked (State.guardPoint late) s

/-- Eight metrology overruns in a row are reported (01 R32). -/
def execMetrologyEngineFault (s : State) : Host.Outcome State Fault Refusal :=
  State.clocked State.metFault s

/-- The oldest unchecked rebuild of the tick table is judged (01 R30). -/
def execTickTableRebuild (s : State) : Host.Outcome State Fault Refusal :=
  State.clocked State.rebuildRow s

/-- A frame boundary: changed tables, bursts, alignment and carriers take effect (01 R35, R36, R44; 07 R219). -/
def execFrameBoundary (err : Option Int) (s : State) : Host.Outcome State Fault Refusal :=
  State.clocked (State.frameRow err) s

/-- The burst budget advances one bin (01 R37). -/
def execBurstBudgetBinRoll (s : State) : Host.Outcome State Fault Refusal :=
  State.clocked State.binRoll s

/-- A reference frame boundary on SYNC_IN (01 R45). -/
def execSyncInEdge (err : Int) (s : State) : Host.Outcome State Fault Refusal :=
  State.clocked (State.syncEdge err) s

/-- No accepted edge for 10 ms (01 R45). -/
def execSyncHoldover (s : State) : Host.Outcome State Fault Refusal :=
  State.clocked State.syncHoldover s

/-- A write of SYS_TICK (01 R26). -/
def execSysTickWrite (w : RegWr) (s : State) : Host.Outcome State Fault Refusal :=
  State.regRow w A.SYS_TICK s

/-- A write of SYS_BURST (01 R36). -/
def execSysBurstWrite (w : RegWr) (s : State) : Host.Outcome State Fault Refusal :=
  State.regRow w A.SYS_BURST s

/-- A write of SYS_SYNC (01 R43). -/
def execSysSyncWrite (w : RegWr) (s : State) : Host.Outcome State Fault Refusal :=
  State.regRow w A.SYS_SYNC s

/-- A lockstep mismatch of engine e in context k (03 R82, 12 R349). -/
def execLockstepMismatch (e : Fin 9) (k : Ix16) (s : State) : Host.Outcome State Fault Refusal :=
  State.clocked (State.lockstep e.val k.val) s

/-- A write of CTX_CFG (03 R88). -/
def execCtxCfgWrite (c : Chan) (k : Ix16) (w : RegWr) (s : State) : Host.Outcome State Fault Refusal :=
  State.regRow w (ctxAddr c.val k.val 0) s

/-- A write of ENG_FREEZE (03 R102). -/
def execEngFreezeWrite (c : Chan) (w : RegWr) (s : State) : Host.Outcome State Fault Refusal :=
  State.regRow w (A.ENG_FREEZE c.val) s

/-- SYNC_OUT returns low 200 ns after the local frame boundary (01 R46). -/
def execSyncOutPulseEnd (s : State) : Host.Outcome State Fault Refusal :=
  State.clocked State.syncOutEnd s

end Sys2Proof.Machine
end

