-- ==== Sys2Proof/Machine/Dispatch.lean ====
section
/-! DEFINITION. The dispatch of the commands to their meanings: one arm per constructor. -/

namespace Sys2Proof.Machine

def exec (i : Instr) (s : State) : Host.Outcome State Fault Refusal :=
  match i with
  | .tickBoundary x => Sys2Proof.Machine.execTickBoundary x s
  | .guardPoint late => Sys2Proof.Machine.execGuardPoint late s
  | .metrologyEngineFault => Sys2Proof.Machine.execMetrologyEngineFault s
  | .tickTableRebuild => Sys2Proof.Machine.execTickTableRebuild s
  | .frameBoundary err => Sys2Proof.Machine.execFrameBoundary err s
  | .burstBudgetBinRoll => Sys2Proof.Machine.execBurstBudgetBinRoll s
  | .syncInEdge err => Sys2Proof.Machine.execSyncInEdge err s
  | .syncHoldover => Sys2Proof.Machine.execSyncHoldover s
  | .sysTickWrite w => Sys2Proof.Machine.execSysTickWrite w s
  | .sysBurstWrite w => Sys2Proof.Machine.execSysBurstWrite w s
  | .sysSyncWrite w => Sys2Proof.Machine.execSysSyncWrite w s
  | .lockstepMismatch e k => Sys2Proof.Machine.execLockstepMismatch e k s
  | .ctxCfgWrite c k w => Sys2Proof.Machine.execCtxCfgWrite c k w s
  | .engFreezeWrite c w => Sys2Proof.Machine.execEngFreezeWrite c w s
  | .fltMclkWrite c w => Sys2Proof.Machine.execFltMclkWrite c w s
  | .fltCfgWrite c w => Sys2Proof.Machine.execFltCfgWrite c w s
  | .inputStuck c m => Sys2Proof.Machine.execInputStuck c m s
  | .mclkLoss c => Sys2Proof.Machine.execMclkLoss c s
  | .inputValidAgain c m => Sys2Proof.Machine.execInputValidAgain c m s
  | .filterSettled c m => Sys2Proof.Machine.execFilterSettled c m s
  | .digitalLimitExcursion c m x => Sys2Proof.Machine.execDigitalLimitExcursion c m x s
  | .pccOverrange k => Sys2Proof.Machine.execPccOverrange k s
  | .surveySourceEvent inj => Sys2Proof.Machine.execSurveySourceEvent inj s
  | .surveyTriggerInstant inj => Sys2Proof.Machine.execSurveyTriggerInstant inj s
  | .surveyConversionEnd code => Sys2Proof.Machine.execSurveyConversionEnd code s
  | .swReg ses => Sys2Proof.Machine.execSwReg ses s
  | .swInj ses => Sys2Proof.Machine.execSwInj ses s
  | .survCtrlEnWrite w => Sys2Proof.Machine.execSurvCtrlEnWrite w s
  | .survDataRead => Sys2Proof.Machine.execSurvDataRead s
  | .survBufRdWrite w => Sys2Proof.Machine.execSurvBufRdWrite w s
  | .roleSelWrite c w => Sys2Proof.Machine.execRoleSelWrite c w s
  | .gridStart c ses => Sys2Proof.Machine.execGridStart c ses s
  | .gridStop c ses => Sys2Proof.Machine.execGridStop c ses s
  | .gridReconn c ses => Sys2Proof.Machine.execGridReconn c ses s
  | .gridSubWrite c w => Sys2Proof.Machine.execGridSubWrite c w s
  | .gridFnomWrite c w => Sys2Proof.Machine.execGridFnomWrite c w s
  | .prechargeComplete c => Sys2Proof.Machine.execPrechargeComplete c s
  | .pcTimeout c => Sys2Proof.Machine.execPcTimeout c s
  | .syncQualified c => Sys2Proof.Machine.execSyncQualified c s
  | .syncTimeout c => Sys2Proof.Machine.execSyncTimeout c s
  | .syncImmediateRefusal c => Sys2Proof.Machine.execSyncImmediateRefusal c s
  | .closureConfirmed c => Sys2Proof.Machine.execClosureConfirmed c s
  | .kmFail c => Sys2Proof.Machine.execKmFail c s
  | .stopRampEnd c => Sys2Proof.Machine.execStopRampEnd c s
  | .blackStart c => Sys2Proof.Machine.execBlackStart c s
  | .blackStartActive c => Sys2Proof.Machine.execBlackStartActive c s
  | .pllOkChange c ok => Sys2Proof.Machine.execPllOkChange c ok s
  | .formClExit c => Sys2Proof.Machine.execFormClExit c s
  | .rideDetectorArm => Sys2Proof.Machine.execRideDetectorArm s
  | .rideEntry => Sys2Proof.Machine.execRideEntry s
  | .rideExit => Sys2Proof.Machine.execRideExit s
  | .protectiveTrip => Sys2Proof.Machine.execProtectiveTrip s
  | .gridprotRelease => Sys2Proof.Machine.execGridprotRelease s
  | .sysRideBankWrite w => Sys2Proof.Machine.execSysRideBankWrite w s
  | .chopperOn c off => Sys2Proof.Machine.execChopperOn c off s
  | .chopperOff c off => Sys2Proof.Machine.execChopperOff c off s
  | .recCfgRelease ses => Sys2Proof.Machine.execRecCfgRelease ses s
  | .recCfgEnWrite w => Sys2Proof.Machine.execRecCfgEnWrite w s
  | .probeWindowEnd vp ip => Sys2Proof.Machine.execProbeWindowEnd vp ip s
  | .passiveDetectorFire d => Sys2Proof.Machine.execPassiveDetectorFire d s
  | .candidateExpiry => Sys2Proof.Machine.execCandidateExpiry s
  | .islandedClear => Sys2Proof.Machine.execIslandedClear s
  | .dcStart c ses => Sys2Proof.Machine.execDcStart c ses s
  | .dcStop c ses => Sys2Proof.Machine.execDcStop c ses s
  | .dcScan c ses => Sys2Proof.Machine.execDcScan c ses s
  | .dcCfgLegsWrite c w => Sys2Proof.Machine.execDcCfgLegsWrite c w s
  | .dcPrechargeComplete c => Sys2Proof.Machine.execDcPrechargeComplete c s
  | .dcPcTimeout c => Sys2Proof.Machine.execDcPcTimeout c s
  | .dcQualified c => Sys2Proof.Machine.execDcQualified c s
  | .dcSyncTimeout c => Sys2Proof.Machine.execDcSyncTimeout c s
  | .dcRatioRefusal c => Sys2Proof.Machine.execDcRatioRefusal c s
  | .dcClosureConfirmed c => Sys2Proof.Machine.execDcClosureConfirmed c s
  | .dcKmFail c => Sys2Proof.Machine.execDcKmFail c s
  | .dcStopRampEnd c => Sys2Proof.Machine.execDcStopRampEnd c s
  | .dcFull c => Sys2Proof.Machine.execDcFull c s
  | .dcEmpty c => Sys2Proof.Machine.execDcEmpty c s
  | .mpptPeriodEnd c => Sys2Proof.Machine.execMpptPeriodEnd c s
  | .scanDue c => Sys2Proof.Machine.execScanDue c s
  | .scanPointEnd c => Sys2Proof.Machine.execScanPointEnd c s
  | .cotCrossing c h off mean => Sys2Proof.Machine.execCotCrossing c h off mean s
  | .vpTmaxClamp c h off mean => Sys2Proof.Machine.execVpTmaxClamp c h off mean s
  | .vpTminEnd c h off mean => Sys2Proof.Machine.execVpTminEnd c h off mean s
  | .machStart c ses => Sys2Proof.Machine.execMachStart c ses s
  | .machStop c ses => Sys2Proof.Machine.execMachStop c ses s
  | .machPrechargeComplete c => Sys2Proof.Machine.execMachPrechargeComplete c s
  | .machPositionSync c => Sys2Proof.Machine.execMachPositionSync c s
  | .machPositionTimeout c => Sys2Proof.Machine.execMachPositionTimeout c s
  | .machAlignEnd c => Sys2Proof.Machine.execMachAlignEnd c s
  | .machHandover c => Sys2Proof.Machine.execMachHandover c s
  | .machHandoverTimeout c => Sys2Proof.Machine.execMachHandoverTimeout c s
  | .carrierPeriodStart c h off => Sys2Proof.Machine.execCarrierPeriodStart c h off s
  | .reload c h peak w => Sys2Proof.Machine.execReload c h peak w s
  | .pulseEdge c h rise off => Sys2Proof.Machine.execPulseEdge c h rise off s
  | .deadTimeEnd c h off => Sys2Proof.Machine.execDeadTimeEnd c h off s
  | .delayLineCalibration c taps => Sys2Proof.Machine.execDelayLineCalibration c taps s
  | .pwmShhiWrite c h w => Sys2Proof.Machine.execPwmShhiWrite c h w s
  | .pwmCarWrite c w => Sys2Proof.Machine.execPwmCarWrite c w s
  | .pwmForceWrite c w => Sys2Proof.Machine.execPwmForceWrite c w s
  | .linkCheckFault c h => Sys2Proof.Machine.execLinkCheckFault c h s
  | .linkFaultEnd c h => Sys2Proof.Machine.execLinkFaultEnd c h s
  | .linkTrip c h off => Sys2Proof.Machine.execLinkTrip c h off s
  | .shootThroughBlock c h => Sys2Proof.Machine.execShootThroughBlock c h s
  | .phaseGroupInterlock c g v => Sys2Proof.Machine.execPhaseGroupInterlock c g v s
  | .l2Crossing c h off => Sys2Proof.Machine.execL2Crossing c h off s
  | .l1Crossing c h off => Sys2Proof.Machine.execL1Crossing c h off s
  | .l1BlankingEnd c h off => Sys2Proof.Machine.execL1BlankingEnd c h off s
  | .offDriveEnd c => Sys2Proof.Machine.execOffDriveEnd c s
  | .swTrip c ses => Sys2Proof.Machine.execSwTrip c ses s
  | .chnEnaFall c off => Sys2Proof.Machine.execChnEnaFall c off s
  | .enableRisingEdge c off => Sys2Proof.Machine.execEnableRisingEdge c off s
  | .gdiSwEnWrite c w => Sys2Proof.Machine.execGdiSwEnWrite c w s
  | .comparatorSelfCheck c h => Sys2Proof.Machine.execComparatorSelfCheck c h s
  | .selfCheckEnd c h pass => Sys2Proof.Machine.execSelfCheckEnd c h pass s
  | .meterCfgWrite p w => Sys2Proof.Machine.execMeterCfgWrite p w s
  | .calWrite p off w => Sys2Proof.Machine.execCalWrite p off w s
  | .calSave p ses => Sys2Proof.Machine.execCalSave p ses s
  | .calSaveDone ok => Sys2Proof.Machine.execCalSaveDone ok s
  | .harmonicWindowEnd p x => Sys2Proof.Machine.execHarmonicWindowEnd p x s
  | .tenMinBoundary xs => Sys2Proof.Machine.execTenMinBoundary xs s
  | .freq10sEnd p f => Sys2Proof.Machine.execFreq10sEnd p f s
  | .epulCfgWrite j k w => Sys2Proof.Machine.execEpulCfgWrite j k w s
  | .pulseEmission j => Sys2Proof.Machine.execPulseEmission j s
  | .pulseEnd j => Sys2Proof.Machine.execPulseEnd j s
  | .periodicCommit => Sys2Proof.Machine.execPeriodicCommit s
  | .writeThroughCommit => Sys2Proof.Machine.execWriteThroughCommit s
  | .recordWriteComplete ok => Sys2Proof.Machine.execRecordWriteComplete ok s
  | .pointerFlipComplete => Sys2Proof.Machine.execPointerFlipComplete s
  | .tailCommit => Sys2Proof.Machine.execTailCommit s
  | .powerFailResume => Sys2Proof.Machine.execPowerFailResume s
  | .attestedReadoutSigned => Sys2Proof.Machine.execAttestedReadoutSigned s
  | .safeInDemand b => Sys2Proof.Machine.execSafeInDemand b s
  | .safeInDiscrepancy => Sys2Proof.Machine.execSafeInDiscrepancy s
  | .discRelease => Sys2Proof.Machine.execDiscRelease s
  | .slcViolation c => Sys2Proof.Machine.execSlcViolation c s
  | .sldViolation c => Sys2Proof.Machine.execSldViolation c s
  | .slsViolation c => Sys2Proof.Machine.execSlsViolation c s
  | .slsSigFault c => Sys2Proof.Machine.execSlsSigFault c s
  | .islandInputStuck c m => Sys2Proof.Machine.execIslandInputStuck c m s
  | .islandMclkFault c => Sys2Proof.Machine.execIslandMclkFault c s
  | .crossCheckMissed => Sys2Proof.Machine.execCrossCheckMissed s
  | .oscFault => Sys2Proof.Machine.execOscFault s
  | .fbFault b => Sys2Proof.Machine.execFbFault b s
  | .offPulseTest b => Sys2Proof.Machine.execOffPulseTest b s
  | .offPulseRestore b ok => Sys2Proof.Machine.execOffPulseRestore b ok s
  | .safeRstFallingEdge us x => Sys2Proof.Machine.execSafeRstFallingEdge us x s
  | .safeRstStuck => Sys2Proof.Machine.execSafeRstStuck s
  | .resetFeedbackCheck fbA fbB => Sys2Proof.Machine.execResetFeedbackCheck fbA fbB s
  | .safeCtrlSgiReq w => Sys2Proof.Machine.execSafeCtrlSgiReq w s
  | .safeUnlockExpiry => Sys2Proof.Machine.execSafeUnlockExpiry s
  | .unlockBlockEnd => Sys2Proof.Machine.execUnlockBlockEnd s
  | .safeCommitDone ok => Sys2Proof.Machine.execSafeCommitDone ok s
  | .temperatureRead t v => Sys2Proof.Machine.execTemperatureRead t v s
  | .sensorExclusion n => Sys2Proof.Machine.execSensorExclusion n s
  | .sensorReadmission n => Sys2Proof.Machine.execSensorReadmission n s
  | .ageingMeasurement ro days => Sys2Proof.Machine.execAgeingMeasurement ro days s
  | .logRecordWrite => Sys2Proof.Machine.execLogRecordWrite s
  | .mgsWatchdogRestart => Sys2Proof.Machine.execMgsWatchdogRestart s
  | .poolAuditCheck => Sys2Proof.Machine.execPoolAuditCheck s
  | .sessionTimeout n => Sys2Proof.Machine.execSessionTimeout n s
  | .portLost l => Sys2Proof.Machine.execPortLost l s
  | .nop p => Sys2Proof.Machine.execNop p s
  | .openSes p => Sys2Proof.Machine.execOpenSes p s
  | .close p => Sys2Proof.Machine.execClose p s
  | .audit p => Sys2Proof.Machine.execAudit p s
  | .abortTag p => Sys2Proof.Machine.execAbortTag p s
  | .sessions p => Sys2Proof.Machine.execSessions p s
  | .status p => Sys2Proof.Machine.execStatus p s
  | .modeSet p => Sys2Proof.Machine.execModeSet p s
  | .claim p => Sys2Proof.Machine.execClaim p s
  | .release p => Sys2Proof.Machine.execRelease p s
  | .roleSet p => Sys2Proof.Machine.execRoleSet p s
  | .startCh p => Sys2Proof.Machine.execStartCh p s
  | .stopCh p => Sys2Proof.Machine.execStopCh p s
  | .submode p => Sys2Proof.Machine.execSubmode p s
  | .setpoint p => Sys2Proof.Machine.execSetpoint p s
  | .setpointSet p => Sys2Proof.Machine.execSetpointSet p s
  | .ctxRead p => Sys2Proof.Machine.execCtxRead p s
  | .ctxWrite p => Sys2Proof.Machine.execCtxWrite p s
  | .ctxWriteList p => Sys2Proof.Machine.execCtxWriteList p s
  | .freeze p => Sys2Proof.Machine.execFreeze p s
  | .shadowSet p => Sys2Proof.Machine.execShadowSet p s
  | .forceOff p => Sys2Proof.Machine.execForceOff p s
  | .tripRead p => Sys2Proof.Machine.execTripRead p s
  | .tripClear p => Sys2Proof.Machine.execTripClear p s
  | .accRead p => Sys2Proof.Machine.execAccRead p s
  | .windowRead p => Sys2Proof.Machine.execWindowRead p s
  | .recordRead p => Sys2Proof.Machine.execRecordRead p s
  | .snapList p => Sys2Proof.Machine.execSnapList p s
  | .attestRead p => Sys2Proof.Machine.execAttestRead p s
  | .regRead p => Sys2Proof.Machine.execRegRead p s
  | .regWrite p => Sys2Proof.Machine.execRegWrite p s
  | .regWriteList p => Sys2Proof.Machine.execRegWriteList p s
  | .regRmw p => Sys2Proof.Machine.execRegRmw p s
  | .safeUnlock p => Sys2Proof.Machine.execSafeUnlock p s
  | .safeLock p => Sys2Proof.Machine.execSafeLock p s
  | .safeStage p => Sys2Proof.Machine.execSafeStage p s
  | .safeCommit p => Sys2Proof.Machine.execSafeCommit p s
  | .safeSetPw p => Sys2Proof.Machine.execSafeSetPw p s
  | .safeLogRead p => Sys2Proof.Machine.execSafeLogRead p s
  | .sgiReq p => Sys2Proof.Machine.execSgiReq p s
  | .logRead p => Sys2Proof.Machine.execLogRead p s
  | .counters p => Sys2Proof.Machine.execCounters p s
  | .healthGet p => Sys2Proof.Machine.execHealthGet p s
  | .imgBegin p => Sys2Proof.Machine.execImgBegin p s
  | .imgData p => Sys2Proof.Machine.execImgData p s
  | .imgVerify p => Sys2Proof.Machine.execImgVerify p s
  | .imgVerifyDone ok => Sys2Proof.Machine.execImgVerifyDone ok s
  | .imgActivate p => Sys2Proof.Machine.execImgActivate p s
  | .attest p => Sys2Proof.Machine.execAttest p s
  | .attestSigned => Sys2Proof.Machine.execAttestSigned s
  | .ringStatus p => Sys2Proof.Machine.execRingStatus p s
  | .enumerate p => Sys2Proof.Machine.execEnumerate p s
  | .addrSet p => Sys2Proof.Machine.execAddrSet p s
  | .streamOpen p => Sys2Proof.Machine.execStreamOpen p s
  | .streamClose p => Sys2Proof.Machine.execStreamClose p s
  | .streamAck p => Sys2Proof.Machine.execStreamAck p s
  | .streamData n => Sys2Proof.Machine.execStreamData n s
  | .announce => Sys2Proof.Machine.execAnnounce s
  | .announceReceived addr => Sys2Proof.Machine.execAnnounceReceived addr s
  | .pktWr x => Sys2Proof.Machine.execPktWr x s
  | .pktRd whole => Sys2Proof.Machine.execPktRd whole s
  | .stat => Sys2Proof.Machine.execStat s
  | .regRd addr n => Sys2Proof.Machine.execRegRd addr n s
  | .regWr addr ws => Sys2Proof.Machine.execRegWr addr ws s
  | .regFetch => Sys2Proof.Machine.execRegFetch s
  | .spiInvalidCommand => Sys2Proof.Machine.execSpiInvalidCommand s
  | .autoNegotiationComplete fullDuplex => Sys2Proof.Machine.execAutoNegotiationComplete fullDuplex s
  | .arpNeighbourRequest v6 ours => Sys2Proof.Machine.execArpNeighbourRequest v6 ours s
  | .icmpEchoRequest v6 ours => Sys2Proof.Machine.execIcmpEchoRequest v6 ours s
  | .fragmentReassemblyTimeout => Sys2Proof.Machine.execFragmentReassemblyTimeout s
  | .ptpEventMessage x => Sys2Proof.Machine.execPtpEventMessage x s
  | .ptpLockLoss => Sys2Proof.Machine.execPtpLockLoss s
  | .ptpLockRegain => Sys2Proof.Machine.execPtpLockRegain s
  | .ringFrameArrival x => Sys2Proof.Machine.execRingFrameArrival x s
  | .tl1BurstTransmit => Sys2Proof.Machine.execTl1BurstTransmit s
  | .ringLinkUp l => Sys2Proof.Machine.execRingLinkUp l s
  | .ringLinkDown l => Sys2Proof.Machine.execRingLinkDown l s
  | .ringUnwrap l => Sys2Proof.Machine.execRingUnwrap l s
  | .hostMbdWrite m w => Sys2Proof.Machine.execHostMbdWrite m w s
  | .hostMbsRead m ses => Sys2Proof.Machine.execHostMbsRead m ses s
  | .mailboxTimeout m => Sys2Proof.Machine.execMailboxTimeout m s
  | .hostMblockRead k ses => Sys2Proof.Machine.execHostMblockRead k ses s
  | .hostMblockWrite k w => Sys2Proof.Machine.execHostMblockWrite k w s
  | .sequenceClearWrite addr w => Sys2Proof.Machine.execSequenceClearWrite addr w s
  | .registerWrite addr w => Sys2Proof.Machine.execRegisterWrite addr w s
  | .referenceLoss b => Sys2Proof.Machine.execReferenceLoss b s
  | .lossOfLock b => Sys2Proof.Machine.execLossOfLock b s
  | .pllRelock b => Sys2Proof.Machine.execPllRelock b s
  | .clkCfgSwitch ses => Sys2Proof.Machine.execClkCfgSwitch ses s
  | .divCommit ses => Sys2Proof.Machine.execDivCommit ses s
  | .commitRelockTimeout b => Sys2Proof.Machine.execCommitRelockTimeout b s
  | .engineClockAbsent => Sys2Proof.Machine.execEngineClockAbsent s
  | .doubleFaultRecovery b => Sys2Proof.Machine.execDoubleFaultRecovery b s
  | .pllLockTimeout b => Sys2Proof.Machine.execPllLockTimeout b s
  | .pllRetry x => Sys2Proof.Machine.execPllRetry x s
  | .resetRelease x => Sys2Proof.Machine.execResetRelease x s
  | .railBelowReset => Sys2Proof.Machine.execRailBelowReset s
  | .pwrfailAssert => Sys2Proof.Machine.execPwrfailAssert s
  | .railWarning r => Sys2Proof.Machine.execRailWarning r s
  | .railOverVoltage r => Sys2Proof.Machine.execRailOverVoltage r s
  | .domainStart => Sys2Proof.Machine.execDomainStart s
  | .domainReset => Sys2Proof.Machine.execDomainReset s
  | .keepAliveTick x => Sys2Proof.Machine.execKeepAliveTick x s
  | .shockTrip mv => Sys2Proof.Machine.execShockTrip mv s
  | .rtcPtpSet => Sys2Proof.Machine.execRtcPtpSet s
  | .kaRtcHiWrite w => Sys2Proof.Machine.execKaRtcHiWrite w s
  | .kaCfgWrite w => Sys2Proof.Machine.execKaCfgWrite w s
  | .trialWatchdog => Sys2Proof.Machine.execTrialWatchdog s
  | .sysCfgSave ses => Sys2Proof.Machine.execSysCfgSave ses s
  | .cfgSaveDone ok => Sys2Proof.Machine.execCfgSaveDone ok s
  | .h1LinkLoss => Sys2Proof.Machine.execH1LinkLoss s
  | .badOpcodePacket p opc frameOk => Sys2Proof.Machine.execBadOpcodePacket p opc frameOk s
  | .comparatorOutputFall c h l2 off => Sys2Proof.Machine.execComparatorOutputFall c h l2 off s
  | .limitExcursionEnd c m => Sys2Proof.Machine.execLimitExcursionEnd c m s
  | .pccOverrangeEnd k => Sys2Proof.Machine.execPccOverrangeEnd k s
  | .pllCommitRelock b => Sys2Proof.Machine.execPllCommitRelock b s
  | .mgsRestartComplete => Sys2Proof.Machine.execMgsRestartComplete s
  | .syncOutPulseEnd => Sys2Proof.Machine.execSyncOutPulseEnd s

end Sys2Proof.Machine
end

