-- ==== Sys2Proof/Safety.lean ====
section
/-! DEFINITION. What the claims speak of: the words that keep account of events, and the invariant of the register file. -/

namespace Sys2Proof.Machine

/-- Words that the account of an event may change, whatever the event (12 R365–R367, 14 R424): the event counters, the
counter of coalesced occurrences, the log's queue depth, the doorbells and the packet flag of H0. -/
def bookAddr (a : Nat) : Bool :=
  (decide (0x30800 ≤ a) && decide (a < 0x32000)) || a == A.HEALTH_LOG_COAL || a == A.HEALTH_LOG_WR ||
    (decide (0x10300 ≤ a) && decide (a < 0x10340)) || a == A.HOST_SPI_STAT

/-- The host side without what the account of events changes: packets on their way out, and the notification counts of the
sessions (14 R424). -/
def quiet (h : HostSt) : HostSt := { h with ses := Vector.replicate 16 {}, tx0 := [], tx1 := [], tx2 := [], tl1 := [], held := [] }

/-- The parts of the state beside the register file, the log and the queue. -/
inductive Part
  | t | chan (c : Nat) | host | ride | surv | meter (p : Nat) | epul (j : Nat) | er | safe | ka | nv | boot | timers | free
  deriving DecidableEq, Repr

/-- A part is the same in both states; `ev`: apart from what the account of events changes. -/
def Part.same (ev : Bool) (s u : State) : Part → Prop
  | .t => u.t = s.t
  | .chan c => u.chn c = s.chn c
  | .host => if ev then quiet u.host = quiet s.host else u.host = s.host
  | .ride => u.ride = s.ride
  | .surv => u.surv = s.surv
  | .meter p => u.mtr p = s.mtr p
  | .epul j => u.epl j = s.epl j
  | .er => u.er = s.er
  | .safe => u.safe = s.safe
  | .ka => u.ka = s.ka
  | .nv => u.nv = s.nv
  | .boot => u.boot = s.boot
  | .timers => u.timers = s.timers
  | .free => u.freeCtr = s.freeCtr

/-- What stays from `s` to `u`: every word outside `W`, every part outside `ps`, and, where no event is accounted for (`ev`
false), the words and the log that keep that account. -/
structure Frame (ev : Bool) (ps : List Part) (W : Nat → Prop) (s u : State) : Prop where
  words : ∀ a, ¬ W a → (ev = true → bookAddr a = false) → u.rd a = s.rd a
  parts : ∀ p, p ∉ ps → p.same ev s u
  log : ev = false → u.log = s.log

/-- Words that a move of channel `c` into OFF may change (04 R120, R126; 06 R182). -/
def offWords (c : Nat) : List Nat :=
  [A.PWM_FSTAT c, A.ROLE_STAT c, A.GRID_STAT c, A.GRID_EVT c, A.DC_STAT c, A.DC_EVT c, A.MACH_STAT c, A.MACH_EVT c, A.RIDE_CH_STAT c]

/-- Channel `c` stands in OFF with the code recorded and its contactor commanded off. -/
abbrev MovedOff (c k : Nat) (t : State) : Prop := t.cst c = sOFF ∧ t.refuseCode c = k ∧ t.kmCmd c = false

/-- Words that the trip of channel `c` may change (08 R255–R258, 04 R126, 06 R182, 07 R233). -/
def tripWords (c a : Nat) : Prop :=
  a ∈ [A.GDI_STAT c, A.GDI_SRC c, A.GDI_TRQ_N c, A.GDI_CNT c, A.GDI_EVT c, A.PWM_FORCE c, A.PWM_FSTAT c, A.ROLE_STAT c,
    A.GRID_STAT c, A.GRID_EVT c, A.DC_STAT c, A.DC_EVT c, A.MACH_STAT c, A.MACH_EVT c, A.RIDE_CH_STAT c] ∨
  ∃ k, k < 8 ∧ (a = A.GDI_TRQ_A c k ∨ a = A.GDI_TRQ_B c k)

/-- The word of a status register after its bit `b` was set and SEQ counted (15 R439). -/
def raised (w : Word) (b : Nat) : Word := setBits (setBits w b b 1) 31 24 (bits w 31 24 + 1)

/-- The event of status bit `f` is recorded: the bit is set, SEQ counts, the word's other bits stay (15 R439). -/
abbrev Raised (f : Fld) (s u : State) : Prop := u.rd f.addr = raised (s.rd f.addr) f.lo &&& implMask f.addr

/-- Word `a` has the fields of `es` set in turn, its other bits as they were. -/
abbrev Edited (a : Nat) (es : List (Fld × Nat)) (s u : State) : Prop :=
  u.rd a = es.foldl (fun w e => setBits w e.1.hi e.1.lo e.2) (s.rd a) &&& implMask a

/-- Counter `f` has counted one up, modulo its width. -/
abbrev Counted (f : Fld) (s u : State) : Prop := u.get f = (s.get f + 1) % 2 ^ (f.hi + 1 - f.lo)

/-- The trip latch of channel `c`, clear before, has set by source `code` at clock `off` of the tick (08 R255–R258): the record
holds this source alone, TRIP_CNT counts, the off-drive begins, a running channel is in OFF with code TRIP and IDLE has its
USE bits clear. -/
abbrev Latched (c code inp off : Nat) (s u : State) : Prop :=
  u.flag (F.GDI_STAT_TRIPPED c) = true ∧ u.rd (A.GDI_SRC c) = setBits 0#32 (srcBit code) (srcBit code) 1 &&& implMask (A.GDI_SRC c) ∧
  u.get (F.GDI_TRQ_N_N c) = 1 ∧ u.get (F.GDI_TRQ_N_OVF c) = 0 ∧
  u.rd (A.GDI_TRQ_A c 0) = setBits (setBits (setBits 0#32 7 0 code) 11 8 inp) 28 12 off &&& implMask (A.GDI_TRQ_A c 0) ∧
  u.rd (A.GDI_TRQ_B c 0) = s.rd A.SYS_TICK_CNT_LO &&& implMask (A.GDI_TRQ_B c 0) ∧
  Counted (F.GDI_CNT_TRIP_CNT c) s u ∧ u.flag (F.GDI_EVT_TRIP c) = true ∧ (u.chn c).offDrive = true ∧
  (s.cst c = sPRECHARGE ∨ s.cst c = sSYNC ∨ s.cst c = sACTIVE → u.cst c = sOFF) ∧
  (s.role c = rIDLE → u.get (F.PWM_FORCE_USE c) = 0)

/-- The latch of channel `c`, set before, has recorded a further source: its bit in GDI_SRC, and the next entry or an overflow
(08 R258). -/
abbrev Entered (c code inp off : Nat) (s u : State) : Prop :=
  Edited (A.GDI_SRC c) [(⟨A.GDI_SRC c, srcBit code, srcBit code⟩, 1)] s u ∧
  (s.get (F.GDI_TRQ_N_N c) < 8 → u.get (F.GDI_TRQ_N_N c) = s.get (F.GDI_TRQ_N_N c) + 1 ∧
    u.rd (A.GDI_TRQ_A c (s.get (F.GDI_TRQ_N_N c))) = setBits (setBits (setBits 0#32 7 0 code) 11 8 inp) 28 12 off &&& implMask (A.GDI_TRQ_A c 0) ∧
    u.rd (A.GDI_TRQ_B c (s.get (F.GDI_TRQ_N_N c))) = s.rd A.SYS_TICK_CNT_LO &&& implMask (A.GDI_TRQ_B c 0)) ∧
  (8 ≤ s.get (F.GDI_TRQ_N_N c) → u.get (F.GDI_TRQ_N_OVF c) = min (s.get (F.GDI_TRQ_N_OVF c) + 1) 65535) ∧
  u.flag (F.GDI_STAT_TRIPPED c) = true ∧ u.cst c = s.cst c

/-- Words that a source of Safe Gate Inhibit may change (11 R329, R331). -/
def sgiWords : List Nat := [A.SAFE_STAT, A.SAFE_CAUSE, A.SAFE_IO, A.SAFE_CNT, A.SAFE_EVT]

/-- Every channel. -/
def chanParts : List Part := (List.range 8).map .chan

/-- A source of Safe Gate Inhibit with its code, channel and class D has acted (11 R327, R329): SGI is active with both safety
outputs low or, where it was active, stays active with its cause; an entry records the cause, counts, and begins the off-drive
of every channel, which go to OFF in the next tick. -/
abbrev Inhibited (code ch : Nat) (d : Bool) (s u : State) : Prop :=
  u.flag F.SAFE_STAT_SGI = true ∧ (d = true → u.flag F.SAFE_STAT_DFAULT = true) ∧
  (s.flag F.SAFE_STAT_SGI = false → u.get F.SAFE_CAUSE_CODE = code ∧ u.get F.SAFE_CAUSE_CH = ch ∧ u.flag F.SAFE_CAUSE_DCLASS = d ∧
    u.flag F.SAFE_IO_OUT_A = false ∧ u.flag F.SAFE_IO_OUT_B = false ∧ Counted F.SAFE_CNT_SGI_CNT s u ∧
    u.flag F.SAFE_EVT_SGI_ENTER = true ∧ u.safe.chOff = true ∧ ∀ c : Chan, (u.chn c.val).offDrive = true) ∧
  (s.flag F.SAFE_STAT_SGI = true → u.rd A.SAFE_CAUSE = s.rd A.SAFE_CAUSE ∧ u.rd A.SAFE_CNT = s.rd A.SAFE_CNT ∧ u.safe.rst = false ∧
    (s.safe.rst = true → u.flag F.SAFE_IO_OUT_A = false ∧ u.flag F.SAFE_IO_OUT_B = false) ∧
    ∀ c : Chan, u.chn c.val = s.chn c.val)

/-- A write of `v` by session `i` to the register at canonical address `a` passes the checks of R516: the session is open and
served and holds what R389 asks, the register exists, `v` sets no reserved bit, and every field that the write changes (R519)
may be written now and takes its value, and so does the register as a whole. -/
def State.passes (s : State) (i a : Nat) (v : Word) : Bool :=
  s.hosted && s.sesOpen i && s.claimOk i a v &&
  match rowAt a with
  | none => false
  | some r =>
    let fs := r.fields.filter fun f => fieldWritten r.act f (s.rd a) v
    v &&& ~~~(rowMask r) == 0#32 && (fs.all fun f => s.condOk a f.cond && s.valStatus a f v == OK) &&
      ((fs.isEmpty && !actAlways r.act) || s.wholeStatus a r.act v == OK)

/-- The word at `a` with its writable fields as in `v`. -/
def State.merged (s : State) (a : Nat) (v : Word) : Word :=
  match rowAt a with
  | none => s.rd a
  | some r => (s.rd a &&& ~~~(rowWritable r)) ||| (v &&& rowWritable r)

/-- The register at `a` holds the writable fields of `v`, its other fields as they were. -/
abbrev Stored (a : Nat) (v : Word) (s u : State) : Prop := u.rd a = s.merged a v &&& implMask a

/-- A register write was answered `k`; the host side is otherwise as it was. -/
abbrev Answered (k : Nat) (s u : State) : Prop := u.host = { s.host with ans := k }

/-- A register write was answered `k` and changed nothing. -/
abbrev OnlyAnswered (k : Nat) (s u : State) : Prop := Answered k s u ∧ Frame false [.host] (fun _ => False) s u

/-- The words of the writable command bit `b` of the register at `a`, its other writable fields as they stand. -/
def State.withBit (s : State) (a b : Nat) : Word :=
  setBits (s.rd a &&& (match rowAt a with | none => 0#32 | some r => rowWritable r)) b b 1

/-- The queue that a packet for this port and peer joins: H0 until read, H1, the burst of TL1, the other rings; or the packets
that a restarting MGS holds (12 R370; 14 R402, R417). -/
def State.outbox (s : State) (port : Port) (peer : Nat) : List OutPkt :=
  if port == .h1 && s.get F.HEALTH_MGS_PROF == 1 && !s.flag F.HEALTH_MGS_RUNNING && !s.flag F.SYS_BOOT_RECOVERY then s.host.held
  else match port with
  | .h0 => s.host.tx0
  | .h1 => s.host.tx1
  | .h2 => if peer < 64 then s.host.tl1 else s.host.tx2

/-- The request rows with their opcodes (13 R390). -/
def requests (p : Pkt) : List (Nat × Instr) :=
  [(0x00, .nop p), (0x01, .openSes p), (0x02, .close p), (0x03, .audit p), (0x04, .abortTag p), (0x05, .sessions p),
   (0x10, .status p), (0x11, .modeSet p), (0x12, .claim p), (0x13, .release p), (0x14, .roleSet p), (0x15, .startCh p),
   (0x16, .stopCh p), (0x17, .submode p), (0x18, .setpoint p), (0x19, .setpointSet p), (0x30, .ctxRead p), (0x31, .ctxWrite p),
   (0x32, .ctxWriteList p), (0x33, .freeze p), (0x50, .shadowSet p), (0x51, .forceOff p), (0x52, .tripRead p), (0x53, .tripClear p),
   (0x60, .accRead p), (0x61, .windowRead p), (0x62, .recordRead p), (0x63, .snapList p), (0x64, .attestRead p),
   (0x70, .streamOpen p), (0x71, .streamClose p), (0x72, .streamAck p), (0x80, .regRead p), (0x81, .regWrite p),
   (0x82, .regWriteList p), (0x83, .regRmw p), (0x90, .safeUnlock p), (0x91, .safeLock p), (0x92, .safeStage p),
   (0x93, .safeCommit p), (0x94, .safeSetPw p), (0x95, .safeLogRead p), (0x96, .sgiReq p), (0xA0, .logRead p), (0xA1, .counters p),
   (0xA2, .healthGet p), (0xB0, .imgBegin p), (0xB1, .imgData p), (0xB2, .imgVerify p), (0xB3, .imgActivate p), (0xB4, .attest p),
   (0xC0, .ringStatus p), (0xC1, .enumerate p), (0xC2, .addrSet p)]

/-- Credits of a request (13 R384). -/
def credits (p : Pkt) : Nat := (p.pay.length + 2 + 63) / 64

/-- Packets are taken at this port, and the opcode is served in recovery where the device is in it (13 R381 checks 1 and 2). -/
def State.takes (s : State) (opc : Nat) (p : Pkt) : Bool :=
  s.serving && (!s.recovery || recoveryOpc opc p.pay) &&
    !(p.port == .h1 && s.get F.HEALTH_MGS_PROF == 1 && !s.flag F.HEALTH_MGS_RUNNING && !s.recovery) &&
    !(opc == 0xC1 && p.port == .h2 && s.get F.HOST_RING_STAT_ADDR == 0)

/-- A request passes every check of admission (13 R381). -/
def State.admits (s : State) (opc : Nat) (p : Pkt) : Bool :=
  let i := p.ses.val
  let b := s.get (F.HOST_SES_STAT_TBASE i)
  s.takes opc p && opcLen opc p.pay.length == some true && s.bound p && p.seq == s.rd (A.HOST_SES_SEQ i) && p.flg == 0 &&
    decide (b ≤ p.tag.val) && decide (p.tag.val < b + s.get (F.HOST_SES_STAT_TCNT i)) &&
    !((s.sesOf i).tags.any fun t => t.1 == p.tag.val) &&
    decide (s.get (F.HOST_SES_CR_HELD i) + credits p ≤ s.get (F.HOST_SES_CR_GRANT i))

/-- The work item of a request. -/
def State.workOf (s : State) (opc : Nat) (p : Pkt) : Work :=
  { wid := s.host.lastWid + 1, port := p.port, peer := p.peer, ses := p.ses.val, tag := p.tag.val, opc := opc, cred := credits p,
    pay := p.pay, seq := p.seq }

/-- The state in the instant of acceptance (13 R382): tag in flight, credits held, the expected SEQ moved on, the request in
the queue. -/
def State.admitted (s : State) (opc : Nat) (p : Pkt) : State :=
  let i := p.ses.val
  let s1 := s.modSes i fun x => { x with lastReq := s.clk, tags := (p.tag.val, credits p) :: x.tags }
  let s2 := (s1.put (F.HOST_SES_CR_HELD i) (s.get (F.HOST_SES_CR_HELD i) + credits p)).inc F.HOST_TAGS_IN_FLIGHT
  (s2.wr (A.HOST_SES_SEQ i) (s.rd (A.HOST_SES_SEQ i) + 1#32)).modHost fun h =>
    { h with work := h.work ++ [s.workOf opc p], lastWid := h.lastWid + 1 }

/-- A request is admitted while phase 6 is open and nothing else waits: it is served at once. -/
def State.ready (s : State) (opc : Nat) (p : Pkt) : Bool :=
  s.admits opc p && s.t.open6 && s.host.work.isEmpty && !(s.sesOf p.ses.val).ending

/-- An OPEN passes admission, which skips the checks of session, sequence, length, tag and credit, while phase 6 is open and
nothing else waits (13 R378, R381). -/
def State.opens (s : State) (p : Pkt) : Bool := s.takes 1 p && p.flg == 0 && s.t.open6 && s.host.work.isEmpty

/-- The announcements of the device on the rings whose link is up (14 R421). -/
def State.anns (s : State) : List OutPkt :=
  ((if s.flag F.HOST_RING_STAT_TL2_UP then [127] else []) ++
    (if s.flag F.HOST_RING_STAT_TL3E_UP || s.flag F.HOST_RING_STAT_TL3W_UP then [191] else [])).map fun d =>
      ⟨.h2, d, 0xC3, 5, 0, 0, wd s.host.annCnt, [wd (s.get F.HOST_RING_STAT_ADDR + 64 * s.get F.HOST_RING_STAT_STRAPPED +
        256 * s.get F.HEALTH_MGS_PROF), s.rd A.SYS_SERIAL_LO, s.rd A.SYS_SERIAL_HI, s.rd A.SYS_IMG_VER]⟩

/-- A reply packet to request `p` (13 R376). -/
def replyTo (opc st det cred : Nat) (pay : List Word) (p : Pkt) (t : State) : OutPkt :=
  ⟨p.port, p.peer, opc, 4, p.tag.val, p.ses.val, wd (st * 2 ^ 24 + cred * 2 ^ 16 + t.detail det), pay⟩

/-- A reply packet to the waiting request `w`; `seg`: another segment follows (13 R376). -/
def Work.packet (w : Work) (st det cred : Nat) (pay : List Word) (seg : Bool) (t : State) : OutPkt :=
  ⟨w.port, w.peer, w.opc, if seg then 6 else 4, w.tag, w.ses, wd (st * 2 ^ 24 + cred * 2 ^ 16 + t.detail det), pay⟩

/-- Words that the account of a request and its reply changes: SEQ, HELD, the tags in flight and the packet flag of H0. -/
def reqWords (i a : Nat) : Prop := a ∈ [A.HOST_SES_SEQ i, A.HOST_SES_CR i, A.HOST_TAGS, A.HOST_SPI_STAT]

/-- A reply has joined the queue of the port from which `p` came, behind what was there. -/
abbrev Replied (opc st det cred : Nat) (pay : List Word) (p : Pkt) (s t : State) : Prop :=
  t.outbox p.port p.peer = s.outbox p.port p.peer ++ [replyTo opc st det cred pay p t]

/-- Request `p` is over: it has left the queue, its tag and its credits are free again, and SEQ has moved on. -/
abbrev Settled (p : Pkt) (s t : State) : Prop :=
  t.host.work = [] ∧ t.rd (A.HOST_SES_SEQ p.ses.val) = s.rd (A.HOST_SES_SEQ p.ses.val) + 1#32 ∧
  (t.sesOf p.ses.val).tags = (s.sesOf p.ses.val).tags ∧ t.get (F.HOST_SES_CR_HELD p.ses.val) = s.get (F.HOST_SES_CR_HELD p.ses.val)

/-- Request `p` has had its one, final reply, and is over. -/
abbrev Final (opc st det : Nat) (pay : List Word) (p : Pkt) (s t : State) : Prop :=
  Replied opc st det (credits p) pay p s t ∧ Settled p s t

/-- The same where the account of an event may have put notifications before the reply: the reply is the newest packet. -/
abbrev Ended (opc st det : Nat) (pay : List Word) (p : Pkt) (s t : State) : Prop :=
  (t.outbox p.port p.peer).getLast? = some (replyTo opc st det (credits p) pay p t) ∧ Settled p s t

/-- The final reply was given, and nothing else has changed. -/
abbrev OnlyFinal (opc st det : Nat) (pay : List Word) (p : Pkt) (s t : State) : Prop :=
  Final opc st det pay p s t ∧ Frame false [.host] (reqWords p.ses.val) s t

/-- ACCEPTED was sent, and the request waits in this phase. -/
abbrev Waits (opc : Nat) (ph : WPhase) (p : Pkt) (s t : State) : Prop :=
  Replied opc ACCEPTED 0 0 [] p s t ∧
  t.host.work = [{ s.workOf opc p with acc := true, phase := ph }] ∧
  (t.sesOf p.ses.val).tags = (p.tag.val, credits p) :: (s.sesOf p.ses.val).tags

/-- A host's read of the word at `a` is without effect: neither the survey result nor a mailbox or a lock (15 R437). -/
def plainRead (a : Nat) : Bool :=
  a != A.SURV_DATA && !(decide (0x10100 ≤ a) && decide (a < 0x10180)) && !(decide (0x10200 ≤ a) && decide (a < 0x10240))

/-- The word that such a read returns: a word that no law uses, and the description of an event source, are not stored ones
(03 R85, 12 R365). -/
def State.word (s : State) (a : Nat) : Word :=
  if isCtx a then s.readCtx (chanOf a) (a % 0x1000 / 0x100) (a % 0x100 / 4)
  else if 0x32000 ≤ a ∧ a < 0x33800 then srcDesc ((a - 0x32000) / 4) else s.rd a

/-- Session `i` is over (13 R380): closed, its tag range and grant back, and nothing of it held, subscribed or pending. -/
abbrev SessionEnded (i : Nat) (s t : State) : Prop :=
  t.sesOpen i = false ∧ (t.sesOf i).ending = false ∧ (t.sesOf i).tags = [] ∧ (∀ x ∈ t.host.streams, x.2.ses ≠ i) ∧
  ((∀ x ∈ s.host.streams, x.2.ses ≠ i) → t.host.streams = s.host.streams ∧
    t.get F.HOST_POOL_FREE = (s.get F.HOST_POOL_FREE + s.get (F.HOST_SES_CR_GRANT i)) % 2 ^ 13) ∧ t.get (F.HOST_SES_CR_GRANT i) = 0 ∧ t.get (F.HOST_SES_STAT_TCNT i) = 0 ∧
  t.get F.HOST_TAGS_ALLOC = s.get F.HOST_TAGS_ALLOC - s.get (F.HOST_SES_STAT_TCNT i) ∧
  (∀ c : Chan, t.chOwner c.val = if s.chOwner c.val = i + 1 then 0 else s.chOwner c.val) ∧
  t.devOwner = (if s.devOwner = i + 1 then 0 else s.devOwner) ∧ (∀ k : Ix16, t.lockOwner k.val ≠ i + 1) ∧ t.safeOwner i = false ∧
  t.flag (F.HOST_DB_PEND i) = false ∧ t.get (F.HOST_MBT_TMO i) = 0 ∧ t.rd (A.HOST_NSUB i) = 0#32 ∧
  (∀ j : Ix16, j.val ≠ i → t.sesOpen j.val = s.sesOpen j.val)

/-- Words that the end of session `i` may change. -/
def endWords (i a : Nat) : Prop :=
  a ∈ [A.HOST_POOL, A.HOST_TAGS, A.HOST_SES_CR i, A.HOST_SES_STAT i, A.HOST_CLAIM0, A.HOST_CLAIM1, A.HOST_CLAIM2, A.HOST_DB i,
    A.HOST_MBT i, A.HOST_NSUB i, A.SAFE_STAT, A.SYS_BOOT] ∨ (A.HOST_LOCKOWN 0 ≤ a ∧ a ≤ A.HOST_LOCKOWN 3)

/-- The packet was refused with one reply of CREDIT 0, and counted; it holds no tag, no credit and no SEQ (13 R381). -/
abbrev RefusedWith (opc st det : Nat) (p : Pkt) (s t : State) : Prop :=
  Replied opc st det 0 [] p s t ∧ Counted (F.HOST_SES_CNT_REJ p.ses.val) s t ∧ t.host.work = s.host.work ∧
  (t.sesOf p.ses.val).tags = (s.sesOf p.ses.val).tags ∧
  Frame false [.host] (· ∈ [A.HOST_SES_CNT p.ses.val, A.HOST_SPI_STAT]) s t

/-- The counter of discarded packets of a port (13 R381; 14 R405, R408, R418). -/
def dropCnt (port : Port) (peer : Nat) : Fld :=
  match port with
  | .h0 => F.HOST_SPI_CNT_DISCARD
  | .h1 => F.HOST_ETH_DROP_V
  | .h2 => F.HOST_RING_ERR_V (if peer < 64 then 0 else if peer < 128 then 1 else 2)

/-- The packet was discarded without reply, and counted by its port. -/
abbrev Dropped (port : Port) (peer : Nat) (s t : State) : Prop :=
  Counted (dropCnt port peer) s t ∧ t.host = s.host ∧ Frame false [] (· = (dropCnt port peer).addr) s t

/-- The one waiting request `w` has had its signed reply (13 R394): the body in segments, then the signature `sig` in two, the
last being final; it has left the queue. -/
abbrev Signed (w : Work) (body : List Word) (sig : List Byte) (s t : State) : Prop :=
  t.outbox w.port w.peer = s.outbox w.port w.peer ++ (segments body.length body).map (fun g => w.packet OK 0 0 g true t) ++
    [w.packet OK 0 0 (bytesToWords (sig.take 3072)) true t, w.packet OK 0 w.cred (bytesToWords (sig.drop 3072)) false t] ∧
  t.host.work = []

/-- Request `p` has applied `n` words and stands in the queue in phase `ph`; nothing was answered. -/
abbrev Begun (opc n : Nat) (ph : WPhase) (p : Pkt) (s t : State) : Prop :=
  t.host.work = [{ s.workOf opc p with ix := n, phase := ph }] ∧ t.outbox p.port p.peer = s.outbox p.port p.peer ∧
  (t.sesOf p.ses.val).tags = (p.tag.val, credits p) :: (s.sesOf p.ses.val).tags

/-- The stop ramp of channel `c` has begun (04 R124; 06 R192, R205). -/
def State.stops (s : State) (c : Nat) : Bool :=
  if s.role c = rGRID then (s.chn c).grid.stopAt.isSome else if s.isDc c then (s.chn c).dc.stopAt.isSome else (s.chn c).mach.stopping

/-- The clock at which a waiting request goes on. -/
def Work.timedAt (w : Work) : Option Nat :=
  match w.phase with
  | .timed t => some t
  | _ => none

/-- The answer to a new REF for context `e.2.1` of channel `e.1` by session `i` (13 R391). -/
def State.refStatus (s : State) (i : Nat) (e : Nat × Nat × Word) : Nat :=
  if !s.holds i (.chan e.1) then OWNED else if e.2.2 = s.cx e.1 e.2.1 4 then OK else s.ctxRule e.1 e.2.1 4 e.2.2

/-- The command answers a next state, and that state has `P`. -/
def completes (i : Instr) (s : State) (P : State → Prop) : Prop := ∃ t, exec i s = .next t ∧ P t

/-- Rows of the A-die, the supplies, the clock monitor and the brumation domain: they act without an engine clock (16 R458). -/
def actsUnclocked : Instr → Bool
  | .linkCheckFault .. | .linkFaultEnd .. | .linkTrip .. | .shootThroughBlock .. | .phaseGroupInterlock .. | .l2Crossing ..
  | .l1Crossing .. | .l1BlankingEnd .. | .comparatorOutputFall .. | .offDriveEnd .. | .chnEnaFall .. | .enableRisingEdge ..
  | .comparatorSelfCheck .. | .selfCheckEnd .. | .powerFailResume .. | .safeInDemand .. | .safeInDiscrepancy .. | .discRelease ..
  | .slcViolation .. | .sldViolation .. | .slsViolation .. | .slsSigFault .. | .islandInputStuck .. | .islandMclkFault ..
  | .crossCheckMissed .. | .oscFault .. | .fbFault .. | .offPulseTest .. | .offPulseRestore .. | .safeRstFallingEdge ..
  | .safeRstStuck .. | .resetFeedbackCheck .. | .referenceLoss .. | .lossOfLock .. | .pllRelock .. | .pllCommitRelock ..
  | .commitRelockTimeout .. | .engineClockAbsent .. | .doubleFaultRecovery .. | .pllLockTimeout .. | .pllRetry .. | .resetRelease ..
  | .railBelowReset .. | .pwrfailAssert .. | .railWarning .. | .railOverVoltage .. | .domainStart .. | .domainReset ..
  | .keepAliveTick .. | .shockTrip .. | .trialWatchdog .. => true
  | _ => false

/-- Rows that act on a device held in reset: its release, and the brumation domain (16 R460, R464). -/
def actsInReset : Instr → Bool
  | .resetRelease .. | .domainStart .. | .domainReset .. | .keepAliveTick .. | .shockTrip .. => true
  | _ => false

end Sys2Proof.Machine
end

