-- ==== Sys2Proof/Certificates/Slice0/Obligations.lean ====
section
/-! DEFINITION. The statements about the block, for the provers. -/

open Sys2Proof Sys2Proof.Machine

/-- A step runs the command at the front of the queue on the state with the rest of the queue: For every state, a step with command c in front of queue q answers what c does to the state whose queue is q. On an empty queue the step answers the state itself: that clause is the model's own choice (log entry 1). (95 what each step holds; 01 R27) -/
def Obligations.StepRunsTheFrontCommand : Prop :=
  (∀ (c : Instr) (q : List Instr) (s : State), s.pending = c :: q → step s = exec c { s with pending := q }) ∧
  (∀ s : State, s.pending = [] → step s = .next s)

/-- Reset leaves registers at the values of the field tables and nothing commanded: After reset the register file is canonical with nothing listed, the queue is empty, and registers whose reset value the field tables give read that value: TICK_DIV 20,000, the takeover channel 15 (none), every credit in the pool (4,096), SAVE_MS 1,000, every channel IDLE and OFF with its effective enable low and its trip latch clear, every session closed. (01 R47; 13 R399; 15 R446; 17 R478; 11 R346) -/
def Obligations.ResetLeavesTheStatedValues : Prop :=
  State.reset.regsWf = true ∧ State.reset.pending = [] ∧
  State.reset.get F.SYS_TICK_TICK_DIV = 20000 ∧ State.reset.get F.HEALTH_FO_CH = 15 ∧
  State.reset.get F.HOST_POOL_FREE = 4096 ∧ State.reset.get F.ER_CFG_SAVE_MS = 1000 ∧
  (∀ c : Fin 8, State.reset.role c.val = rIDLE ∧ State.reset.cst c.val = sOFF ∧ State.reset.effEn c.val = false ∧
    State.reset.flag (F.GDI_STAT_TRIPPED c.val) = false) ∧
  ∀ i : Fin 16, State.reset.sesOpen i.val = false

/-- Every step keeps the register file in its canonical form: For every state whose register file is canonical (addresses strictly rising, no word equal to its reset value), every state that a step answers has a canonical register file, whatever command was in front and whatever it did. The canonical form is the model's own (one list of words for each contents). (15 R431; 15 R436) -/
def Obligations.StepKeepsTheRegisterFileCanonical : Prop :=
  ∀ s t : State, s.regsWf = true → step s = .next t → t.regsWf = true

/-- No command stops the block: each answers a next state with the queue as it was, and steps take the queue in order: Every command, in every state, answers a next state; that state has the queue that the command was given and a canonical register file, even where the state before had none. After any number n of steps from any state the block has not stopped, and its queue is the queue at the start without its first n commands: none is lost, repeated or overtaken. (95 what each step holds; 15 R516) -/
def Obligations.EveryCommandAnswersANextState : Prop :=
  (∀ (i : Instr) (s : State), completes i s fun t => t.pending = s.pending ∧ t.regsWf = true) ∧
  ∀ (n : Nat) (s : State), ∃ t, Sys2Proof.core.run n s = .next t ∧ t.pending = s.pending.drop n

/-- In reset only the release and the brumation domain act; without an engine clock no command of the C-die does: In a device held in reset, every command but RESET_RELEASE and the rows of the brumation domain (DOMAIN_START, DOMAIN_RESET, KEEP_ALIVE_TICK, SHOCK_TRIP) leaves every word, the event log and every other part of the state as they were. While the engine clock is stopped after a double clock fault, every command but those of the A-die, the safety island, the clock monitor, the supplies and the brumation domain does the same: C-die state and SRAM stay. (16 R458; 16 R460; 16 R464) -/
def Obligations.HeldAndStoppedDevicesKeepTheirState : Prop :=
  ∀ (i : Instr) (s : State), (s.t.held = true ∧ actsInReset i = false) ∨ (s.t.clkStop.isSome = true ∧ actsUnclocked i = false) →
    completes i s fun t => t.log = s.log ∧ t.t = s.t ∧ t.host = s.host ∧ Frame false [] (fun _ => False) s t

/-- TICK_BOUNDARY opens a tick: the count rises, the mode is judged, boundary effects and the six phases follow in order: For a running device, TICK_BOUNDARY first starts the next tick: the 64-bit tick count rises by one, wrapping; the tick starts where the last one ended; no context counts as written; phase 6 is closed. Then mode transitions are judged. When a restart is due it takes the place of the tick; otherwise the effects of the boundary act and then the phases run in the fixed order: sample latch with the PCC monitor, laws with the release of duties, metrology, cross-check, command slots. (01 R27; 01 R44; 17 R478; 17 R483) -/
def Obligations.TickBoundaryRunsTheSixPhases : Prop :=
  ∀ (x : TickIn) (s : State), s.runs = true → s.t.woke = true →
    s.nextTick.tickCnt = (s.tickCnt + 1) % 2 ^ 64 ∧ s.nextTick.t.start = s.t.start + s.t.len ∧ s.nextTick.t.written = [] ∧
    s.nextTick.t.open6 = false ∧
    (s.nextTick.modeBoundary.t.restart = true →
      exec (.tickBoundary x) s = complete s s.nextTick.modeBoundary.restartNow) ∧
    (s.nextTick.modeBoundary.t.restart = false →
      completes (.tickBoundary x) s fun t => ∃ u v w : State,
        u = ((s.nextTick.modeBoundary.boundaryEffects.sampleLatch x s.t.start s.t.len).pccMonitor.rideConditions).probeTick ∧
        v = ((u.lawPhase x).phase4 x.parts x.metLate) ∧
        w = (v.islandView x.isl).crossCheck x.hand x.xchk ∧
        ∀ a, t.rd a = (((if w.baseInstant then w.recTick.feedSignal else w).modT fun y => { y with open6 := true }).commandSlots).rd a)

/-- The guard point, frame boundaries, the burst bins, rebuild checks and the alignment rows do what chapter 01 gives them: For a running device: GUARD_POINT with no unfinished law closes phase 6 and changes nothing else. METROLOGY_ENGINE_FAULT after eight overruns in a row is reported. TICK_TABLE_REBUILD accepts the oldest unchecked change when the table with it fits, and drops it otherwise. A frame boundary with no accepted change starts the count of ticks in the frame afresh, raises SYNC_OUT where it is enabled, and puts waiting carrier settings in force. BURST_BUDGET_BIN_ROLL opens a new one-second bin and shows the budget left. SYNC_IN_EDGE counts a rejected edge in LOCKED beyond 1 µs and re-acquires from HOLDOVER. SYNC_HOLDOVER holds over from ACQUIRE and LOCKED. SYNC_OUT returns low. Each leaves the rest as its frame says. (01 R32; 01 R37; 01 R45; 01 R46; 01 R30; 01 R35) -/
def Obligations.TickRowsActOnTheTickGenerator : Prop :=
  ∀ s : State, s.runs = true →
    (completes (.guardPoint []) s fun t => t.t.open6 = false ∧ Frame false [.t] (fun _ => False) s t) ∧
    (8 ≤ s.t.metLate → completes .metrologyEngineFault s fun t => t.t.metFault = true ∧ Frame false [.t] (fun _ => False) s t) ∧
    (∀ (r : Rebuild) (l : List Rebuild), s.t.rebuilds = r :: l → r.ok = false → (s.applyChange r.chg).tableFits = true →
      completes .tickTableRebuild s fun t => t.t.rebuilds = { r with ok := true } :: l ∧ Frame false [.t] (· = A.SYS_TT_STAT) s t) ∧
    (∀ (r : Rebuild) (l : List Rebuild), s.t.rebuilds = r :: l → r.ok = false → r.wid = 0 → (s.applyChange r.chg).tableFits = false →
      completes .tickTableRebuild s fun t => t.t.rebuilds = l ∧ Frame false [.t] (· = A.SYS_TT_STAT) s t) ∧
    (∀ err : Option Int, s.t.woke = true → (if s.burstOn then 8 else 4) ≤ s.t.inFrame → s.t.rebuilds = [] →
      completes (.frameBoundary err) s fun t => t.t.inFrame = 0 ∧ t.t.syncOut = (s.t.syncOut || s.flag F.SYS_SYNC_OUT_EN) ∧
        (∀ c : Fin 8, (s.chn c.val).carWait = true → (t.chn c.val).car = s.rd (A.PWM_CAR c.val) ∧ (t.chn c.val).carWait = false) ∧
        Frame true (.t :: (List.range 8).map .chan)
          (· ∈ [A.SYS_BURST_BUD, A.SYS_BURST, A.SYS_BURST_STAT, A.SYS_SYNC_STAT]) s t) ∧
    (completes .burstBudgetBinRoll s fun t =>
      t.t.bins = (0 :: (match s.t.bins with
        | [] => [if s.burstOn then s.clk - s.t.burstAt else 0]
        | b :: l => (b + if s.burstOn then s.clk - s.t.burstAt else 0) :: l)).take 61 ∧
      t.get F.SYS_BURST_BUD_REMAIN_US = (1600000000 - t.t.bins.foldl (· + ·) 0) / 800 % 2 ^ 21 ∧
      Frame false [.t] (· = A.SYS_BURST_BUD) s t) ∧
    (∀ err : Int, s.get F.SYS_SYNC_SRC = 1 → s.syncSt = yLOCKED → 800 < err.natAbs →
      completes (.syncInEdge err) s fun t => t.get F.SYS_SYNC_STAT_REJECT = (s.get F.SYS_SYNC_STAT_REJECT + 1) % 256 ∧
        t.syncSt = yLOCKED ∧ Frame false [] (· = A.SYS_SYNC_STAT) s t) ∧
    (∀ err : Int, s.get F.SYS_SYNC_SRC = 1 → s.syncSt = yHOLDOVER →
      completes (.syncInEdge err) s fun t => t.syncSt = yACQUIRE ∧ t.t.stepped = false ∧ Frame true [.t] (· = A.SYS_SYNC_STAT) s t) ∧
    (s.syncSt = yACQUIRE ∨ s.syncSt = yLOCKED →
      completes .syncHoldover s fun t => t.syncSt = yHOLDOVER ∧ Frame true [.t] (· = A.SYS_SYNC_STAT) s t) ∧
    (completes .syncOutPulseEnd s fun t => t.t.syncOut = false ∧ Frame false [.t] (fun _ => False) s t)

/-- Stuck inputs, a lost modulator clock, settling, digital limits and PCC over-range do what chapter 02 gives them: For a running device and an input m of channel c. INPUT_STUCK on an enabled input with its clock out records bit m of FLT_STAT, makes the input invalid, and with FAULT_ACT 0 shows INVALID in GDI_IN and trips the channel. MCLK_LOSS records MCLK_LOSS, clears MCLK_OK and makes every enabled input invalid. INPUT_VALID_AGAIN sets MCLK_OK and, once the filter has settled, the valid bit. FILTER_SETTLED sets the valid bit of an input that no fault holds. DIGITAL_LIMIT_EXCURSION beyond HI (first output beyond it) records bit m of FLT_LIMSTAT, beyond LO bit 12 + m, and trips with LIM_TRIP. LIMIT_EXCURSION_END ends the excursion. PCC_OVERRANGE marks the converter and records its bit of PCC_ADC_STAT when it is enabled and the input was inside; PCC_OVERRANGE_END ends it. An input that is not enabled, or has no clock, is not checked. Each leaves the rest as its frame says. (02 R53; 02 R54; 02 R55; 02 R56; 02 R57; 02 R61; 02 R65) -/
def Obligations.SensingFaultsActOnTheirInput : Prop :=
  ∀ (s : State) (c : Chan) (m : MdIx), s.runs = true →
    (s.mdOn c.val m.val = true → s.flag (F.FLT_MCLK_OUT_EN c.val) = true →
      completes (.inputStuck c m) s fun t => Raised ⟨A.FLT_STAT c.val, m.val, m.val⟩ s t ∧
        t.bitOf (F.FLT_VALID_VALID c.val) m.val = false ∧ (t.mdi c.val m.val).stuck = true ∧
        (s.get (F.FLT_IN_CFG_FAULT_ACT c.val m.val) = 0 →
          bit (t.rd (A.GDI_IN c.val)) (srcBit 0x21) = true ∧ t.flag (F.GDI_STAT_TRIPPED c.val) = true) ∧
        Frame true [.chan c.val] (fun a => a ∈ [A.FLT_STAT c.val, A.FLT_VALID c.val, A.GDI_IN c.val, A.GDI_STAT c.val] ∨
          (s.get (F.FLT_IN_CFG_FAULT_ACT c.val m.val) = 0 ∧ tripWords c.val a)) s t) ∧
    ((s.mdOn c.val m.val && s.flag (F.FLT_MCLK_OUT_EN c.val)) = false →
      completes (.inputStuck c m) s fun t => Frame false [] (fun _ => False) s t) ∧
    (s.flag (F.FLT_MCLK_OUT_EN c.val) = true →
      completes (.mclkLoss c) s fun t => Raised (F.FLT_STAT_MCLK_LOSS c.val) s t ∧ t.flag (F.FLT_VALID_MCLK_OK c.val) = false ∧
        (s.mdOn c.val m.val = true → t.bitOf (F.FLT_VALID_VALID c.val) m.val = false ∧ (t.mdi c.val m.val).stuck = true) ∧
        (s.mdOn c.val m.val = true → s.get (F.FLT_IN_CFG_FAULT_ACT c.val m.val) = 0 → t.flag (F.GDI_STAT_TRIPPED c.val) = true) ∧
        Frame true [.chan c.val] (fun a => a ∈ [A.FLT_STAT c.val, A.FLT_VALID c.val, A.GDI_IN c.val] ∨ tripWords c.val a) s t) ∧
    (s.mdOn c.val m.val = true → s.flag (F.FLT_MCLK_OUT_EN c.val) = true → (s.mdi c.val m.val).stuck = true →
      completes (.inputValidAgain c m) s fun t => t.flag (F.FLT_VALID_MCLK_OK c.val) = true ∧ (t.mdi c.val m.val).stuck = false ∧
        ((s.mdi c.val m.val).settling = false → t.bitOf (F.FLT_VALID_VALID c.val) m.val = true) ∧
        t.flag (F.GDI_STAT_TRIPPED c.val) = s.flag (F.GDI_STAT_TRIPPED c.val) ∧
        Frame false [.chan c.val] (· ∈ [A.FLT_VALID c.val, A.GDI_IN c.val, A.GDI_STAT c.val]) s t) ∧
    (s.mdOn c.val m.val = true → s.flag (F.FLT_MCLK_OUT_EN c.val) = true → (s.mdi c.val m.val).settling = true →
      completes (.filterSettled c m) s fun t => (t.mdi c.val m.val).settling = false ∧
        ((s.mdi c.val m.val).stuck = false → t.bitOf (F.FLT_VALID_VALID c.val) m.val = true) ∧
        Frame false [.chan c.val] (· = A.FLT_VALID c.val) s t) ∧
    (∀ x : Word, s.flag (F.FLT_IN_CFG_LIM_EN c.val m.val) = true → s.flag (F.FLT_MCLK_OUT_EN c.val) = true →
      (fLt (limVal (s.get (F.FLT_LIM_HI c.val m.val))) x = true → (s.mdi c.val m.val).above = false →
        fLt x (limVal (s.get (F.FLT_LIM_LO c.val m.val))) = false →
        completes (.digitalLimitExcursion c m x) s fun t => Raised ⟨A.FLT_LIMSTAT c.val, m.val, m.val⟩ s t ∧
          (t.mdi c.val m.val).above = true ∧
          (s.flag (F.FLT_IN_CFG_LIM_TRIP c.val m.val) = true → t.flag (F.GDI_STAT_TRIPPED c.val) = true) ∧
          Frame true [.chan c.val] (fun a => a ∈ [A.FLT_LIMSTAT c.val, A.GDI_IN c.val, A.GDI_STAT c.val] ∨
            (s.flag (F.FLT_IN_CFG_LIM_TRIP c.val m.val) = true ∧ tripWords c.val a)) s t) ∧
      (fLt x (limVal (s.get (F.FLT_LIM_LO c.val m.val))) = true → (s.mdi c.val m.val).below = false →
        fLt (limVal (s.get (F.FLT_LIM_HI c.val m.val))) x = false →
        completes (.digitalLimitExcursion c m x) s fun t => Raised ⟨A.FLT_LIMSTAT c.val, 12 + m.val, 12 + m.val⟩ s t ∧
          (t.mdi c.val m.val).below = true ∧
          (s.flag (F.FLT_IN_CFG_LIM_TRIP c.val m.val) = true → t.flag (F.GDI_STAT_TRIPPED c.val) = true) ∧
          Frame true [.chan c.val] (fun a => a ∈ [A.FLT_LIMSTAT c.val, A.GDI_IN c.val, A.GDI_STAT c.val] ∨
            (s.flag (F.FLT_IN_CFG_LIM_TRIP c.val m.val) = true ∧ tripWords c.val a)) s t)) ∧
    (completes (.limitExcursionEnd c m) s fun t => (t.mdi c.val m.val).above = false ∧ (t.mdi c.val m.val).below = false ∧
      Frame false [.chan c.val] (· ∈ [A.GDI_IN c.val, A.GDI_STAT c.val]) s t) ∧
    (∀ k : Fin 8, (s.t.pccOver.toNat.testBit k.val = false → s.bitOf F.PCC_ADC_CFG_EN k.val = true →
        completes (.pccOverrange k) s fun t => t.t.pccOver.toNat.testBit k.val = true ∧ Raised ⟨A.PCC_ADC_STAT, k.val, k.val⟩ s t ∧
          Frame true [.t] (· = A.PCC_ADC_STAT) s t) ∧
      (s.t.pccOver.toNat.testBit k.val = true →
        completes (.pccOverrange k) s fun t => Frame false [] (fun _ => False) s t) ∧
      (completes (.pccOverrangeEnd k) s fun t => t.t.pccOver.toNat.testBit k.val = false ∧
        Frame false [.t] (fun _ => False) s t))

/-- Survey triggers count, start, wait or are lost, and the end of a conversion publishes its result: For a running device. SURVEY_SOURCE_EVENT of an enabled sequence of length above 0 with a tick or PWM source counts towards the divider, and on the last count starts the delay. SURVEY_TRIGGER_INSTANT at the end of the delay starts entry 0 on a copy of the sequence (at once when idle, and for the injected sequence also over a running regular one), is lost and counted when its own sequence runs, and is held pending by a regular trigger under a running injected sequence. SURVEY_CONVERSION_END puts code, entry, INJ, VALID, WIN and DATA_OVR into SURV_DATA; with BUF_EN it writes the record into the buffer, or drops and counts it when the buffer is full; it goes on to the next entry, or stands idle after the last one of a regular sequence that is not continuous. SURV_DATA_READ gives the word and marks it read. Each leaves the rest as its frame says. (02 R68; 02 R69; 02 R70; 02 R71; 02 R72; 02 R74; 02 R75; 02 R76; 02 R67) -/
def Obligations.SurveyRunsItsSequences : Prop :=
  ∀ (s : State) (inj : Bool), s.runs = true →
    (s.flag F.SURV_CTRL_EN = true → s.seqLen inj ≠ 0 → (s.seqSrc inj = 1 ∨ s.seqSrc inj = 2) →
      completes (.surveySourceEvent inj) s fun t =>
        (if (s.seqOf inj).cnt < (if inj then s.get F.SURV_DLY_INJ_DIV else s.get F.SURV_DLY_REG_DIV)
          then (t.seqOf inj).cnt = (s.seqOf inj).cnt + 1 ∧ (t.seqOf inj).dly = (s.seqOf inj).dly
          else (t.seqOf inj).cnt = 0 ∧ (t.seqOf inj).dly = true) ∧
        t.seqOf (!inj) = s.seqOf (!inj) ∧ t.surv.conv = s.surv.conv ∧ Frame false [.surv] (fun _ => False) s t) ∧
    (s.flag F.SURV_CTRL_EN = true → s.seqLen inj ≠ 0 → (s.seqOf inj).dly = true →
      ((s.seqOf inj).run = false → (inj = true ∨ s.surv.inj.run = false) →
        completes (.surveyTriggerInstant inj) s fun t => (t.seqOf inj).run = true ∧ (t.seqOf inj).ix = 0 ∧ (t.seqOf inj).dly = false ∧
          (t.seqOf inj).ents = (List.range (s.seqLen inj)).map (fun j => s.rd (if inj then A.SURV_INJ j else A.SURV_REG j)) ∧
          (t.seqOf inj).wins = (List.range (s.seqLen inj)).map (fun j => s.rd (if inj then A.SURV_WIN_INJ j else A.SURV_WIN_REG j)) ∧
          t.surv.conv = some inj ∧ t.surv.convTick = s.rd A.SYS_TICK_CNT_LO ∧ t.seqOf (!inj) = s.seqOf (!inj) ∧
          Frame false [.surv] (fun _ => False) s t) ∧
      ((s.seqOf inj).run = true →
        completes (.surveyTriggerInstant inj) s fun t => (t.seqOf inj) = { s.seqOf inj with dly := false } ∧ t.surv.conv = s.surv.conv ∧
          Raised (if inj then F.SURV_STAT_INJ_LOST else F.SURV_STAT_REG_LOST) s t ∧
          t.get (if inj then F.SURV_LOST_INJ_LOST_CNT else F.SURV_LOST_REG_LOST_CNT) =
            (s.get (if inj then F.SURV_LOST_INJ_LOST_CNT else F.SURV_LOST_REG_LOST_CNT) + 1) % 65536 ∧
          Frame true [.surv] (· ∈ [A.SURV_LOST, A.SURV_STAT]) s t)) ∧
    (s.flag F.SURV_CTRL_EN = true → s.seqLen false ≠ 0 → s.surv.reg.dly = true → s.surv.reg.run = false → s.surv.inj.run = true →
      s.surv.reg.pend = false →
      completes (.surveyTriggerInstant false) s fun t => t.surv.reg = { s.surv.reg with dly := false, pend := true } ∧
        t.surv.inj = s.surv.inj ∧ t.surv.conv = s.surv.conv ∧ Frame false [.surv] (fun _ => False) s t) ∧
    (∀ code : BitVec 20, s.surv.conv = some inj → (s.seqOf inj).ix < (s.seqOf inj).ents.length → (s.seqOf inj).ents.length ≤ 32 →
      completes (.surveyConversionEnd code) s fun t =>
        t.get F.SURV_DATA_CODE = code.toNat ∧ t.get F.SURV_DATA_ENTRY = (s.seqOf inj).ix ∧ t.flag F.SURV_DATA_INJ = inj ∧
        t.flag F.SURV_DATA_VALID = true ∧
        (t.flag F.SURV_DATA_WIN = true ↔
          (bits ((s.seqOf inj).ents[(s.seqOf inj).ix]?.getD 0#32) 11 10 = 1 ∧
            (code.toNat / 16 < bits ((s.seqOf inj).wins[(s.seqOf inj).ix]?.getD 0#32) 15 0 ∨
              bits ((s.seqOf inj).wins[(s.seqOf inj).ix]?.getD 0#32) 31 16 < code.toNat / 16)) ∨
          (bits ((s.seqOf inj).ents[(s.seqOf inj).ix]?.getD 0#32) 11 10 = 2 ∧
            code.toNat / 16 < bits ((s.seqOf inj).wins[(s.seqOf inj).ix]?.getD 0#32) 15 0)) ∧
        t.flag F.SURV_DATA_DATA_OVR = (s.flag F.SURV_DATA_VALID && !s.flag F.SURV_CTRL_BUF_EN) ∧
        (t.flag F.SURV_DATA_DATA_OVR = true → t.flag F.SURV_STAT_DATA_OVR = true) ∧
        (t.flag F.SURV_DATA_WIN = true → t.flag F.SURV_STAT_WIN = true) ∧
        (s.flag F.SURV_CTRL_BUF_EN = false → t.surv.buf = s.surv.buf) ∧
        (s.flag F.SURV_CTRL_BUF_EN = true → s.bufRoom ≠ 0 → s.surv.gap = 0 →
          t.get F.SURV_BUF_WR_WR_IDX = (s.get F.SURV_BUF_WR_WR_IDX + 1) % 8192 ∧
          t.surv.buf = (s.get F.SURV_BUF_WR_WR_IDX, t.rd A.SURV_DATA, s.surv.convTick) ::
            s.surv.buf.filter (fun x => x.1 != s.get F.SURV_BUF_WR_WR_IDX)) ∧
        (s.flag F.SURV_CTRL_BUF_EN = true → s.bufRoom = 0 →
          t.surv.buf = s.surv.buf ∧ t.get F.SURV_BUF_DROP_DROP = (s.get F.SURV_BUF_DROP_DROP + 1) % 2 ^ 32 ∧ t.flag F.SURV_STAT_BUF_DROP = true) ∧
        ((s.seqOf inj).ix + 1 < (s.seqOf inj).ents.length → (t.seqOf inj).ix = (s.seqOf inj).ix + 1 ∧ t.surv.conv = some inj) ∧
        (inj = false → (s.seqOf inj).ix + 1 = (s.seqOf inj).ents.length → s.get F.SURV_TRG_REG_SRC ≠ 3 →
          t.surv.reg.run = false ∧ t.surv.conv = none) ∧
        Frame true [.surv, .chan (bits ((s.seqOf inj).ents[(s.seqOf inj).ix]?.getD 0#32) 14 12)] (fun a =>
          a ∈ [A.SURV_DATA, A.SURV_STAT, A.SURV_BUF_WR, A.SURV_BUF_DROP] ∨
          (bits ((s.seqOf inj).ents[(s.seqOf inj).ix]?.getD 0#32) 11 10 = 2 ∧
            a ∈ (let c := bits ((s.seqOf inj).ents[(s.seqOf inj).ix]?.getD 0#32) 14 12; [A.BOOT_STAT c, A.BOOT_CNT c, A.BOOT_EVT c]))) s t) ∧
    (s.hosted = true → completes .survDataRead s fun t => t.host.out = [s.rd A.SURV_DATA] ∧
      Edited A.SURV_DATA [(F.SURV_DATA_VALID, 0)] s t ∧ Frame false [.host] (· = A.SURV_DATA) s t)

/-- GRID_CTRL.START, STOP and RECONN act for the session that holds the channel: For an open session that holds the claim of channel c. START of a GRID channel in OFF whose start conditions hold is answered OK and takes the channel to PRECHARGE at the next boundary; with a failing condition it is answered NOT_IN_MODE and the condition's code stands in REFUSE. START in another state or role is answered NOT_IN_MODE and changes nothing. STOP takes PRECHARGE and SYNC to OFF with code STOP, starts the ramp in ACTIVE, and is answered OK. RECONN of a GRID channel in ISLAND and ACTIVE returns it to FORM at the next boundary. Without the claim each is answered OWNED and changes nothing else. (04 R121; 04 R122; 04 R124; 04 R133; 13 R389) -/
def Obligations.GridCommandsStartStopAndReconnect : Prop :=
  ∀ (s : State) (i : Ix16) (c : Chan), s.hosted = true → s.sesOpen i.val = true →
    (s.holds i.val (.chan c.val) = true → s.host.actor = 255 → s.role c.val = rGRID →
      (s.cst c.val = sOFF → s.gridStartCode c.val = 0 →
        completes (.gridStart c i) s fun t => (t.chn c.val).startNext = true ∧ t.host = { s.host with ans := OK } ∧
          Frame false [.host, .chan c.val] (fun _ => False) s t) ∧
      (s.cst c.val = sOFF → s.gridStartCode c.val ≠ 0 →
        completes (.gridStart c i) s fun t => t.get (F.GRID_STAT_REFUSE c.val) = s.gridStartCode c.val ∧
          Raised (F.GRID_EVT_REFUSED c.val) s t ∧ t.host.ans = NOT_IN_MODE ∧ t.cst c.val = sOFF ∧
          Frame true [.host] (· ∈ [A.GRID_STAT c.val, A.GRID_EVT c.val]) s t) ∧
      (s.cst c.val ≠ sOFF →
        completes (.gridStart c i) s fun t => t.host = { s.host with ans := NOT_IN_MODE } ∧ Frame false [.host] (fun _ => False) s t) ∧
      (s.cst c.val = sPRECHARGE ∨ s.cst c.val = sSYNC →
        completes (.gridStop c i) s fun t => MovedOff c.val kSTOP t ∧ t.host.ans = OK ∧
          Frame true [.host, .chan c.val] (· ∈ offWords c.val) s t) ∧
      (s.cst c.val = sACTIVE → (s.chn c.val).grid.stopAt = none →
        completes (.gridStop c i) s fun t => (t.chn c.val).grid = { (s.chn c.val).grid with
            stopAt := some s.clk, stopD := (s.chn c.val).grid.refD, stopQ := (s.chn c.val).grid.refQ } ∧ t.host.ans = OK ∧
          Frame false [.host, .chan c.val] (fun _ => False) s t) ∧
      (s.cst c.val = sACTIVE → s.sub c.val = mISLAND →
        completes (.gridReconn c i) s fun t => (t.chn c.val).grid.reconn = true ∧ t.host.ans = OK ∧
          Frame false [.host, .chan c.val] (fun _ => False) s t)) ∧
    (s.holds i.val (.chan c.val) = false → ∀ x ∈ [Instr.gridStart c i, .gridStop c i, .gridReconn c i],
      completes x s fun t => t.host = { s.host with ans := OWNED } ∧ Frame false [.host] (fun _ => False) s t)

/-- The connection of a GRID channel goes through precharge, checks, contactor and closure, and fails with the code of the rule: For a running device and a GRID channel c. In PRECHARGE, 20 ms of DC link at its minimum bring SYNC, and GRID_T_PC brings OFF with code PC_TIMEOUT. In SYNC, the checks held for GRID_T_QUAL command the contactor; GRID_T_SYNC without it brings OFF with the code of the first failing check; SEQ, NEUTRAL or PCC_DEAD bring OFF at once; the closure held for 5 ms brings ACTIVE at the next boundary; GRID_T_KM without it records KM_FAIL and brings OFF with that code. A permitted black start commands the contactor without the checks, and GRID_T_KM later brings ACTIVE. The end of the STOP ramp forces the half-bridges off and brings OFF at the next boundary. PLL_OK follows its condition. FORM_CL returns to FORM when its condition has held for GRID_T_RET. Each leaves the rest as its frame says. (04 R118; 04 R120; 04 R122; 04 R123; 04 R124; 04 R125; 04 R126; 04 R132) -/
def Obligations.GridConnectsByItsChecks : Prop :=
  ∀ (s : State) (c : Chan), s.runs = true → s.role c.val = rGRID →
    (s.cst c.val = sPRECHARGE →
      (s.held (.vdc c.val) (msClk 20) = true → completes (.prechargeComplete c) s fun t => t.cst c.val = sSYNC ∧
        t.held (.entered c.val) 0 = true ∧ Frame false [.timers] (· = A.ROLE_STAT c.val) s t) ∧
      (s.held (.entered c.val) (secClk (s.rd (A.GRID_T_PC c.val))) = true → completes (.pcTimeout c) s fun t =>
        MovedOff c.val kPC_TIMEOUT t ∧ Frame true [.chan c.val] (· ∈ offWords c.val) s t)) ∧
    (s.cst c.val = sSYNC →
      (s.flag (F.GRID_STAT_KM_CMD c.val) = false →
        (s.held (.qual c.val) (secClk (s.rd (A.GRID_T_QUAL c.val))) = true → completes (.syncQualified c) s fun t =>
          Edited (A.GRID_STAT c.val) [(F.GRID_STAT_KM_CMD c.val, 1)] s t ∧ t.held (.km c.val) 0 = true ∧
          Frame false [.timers] (· = A.GRID_STAT c.val) s t) ∧
        (s.held (.entered c.val) (secClk (s.rd (A.GRID_T_SYNC c.val))) = true → completes (.syncTimeout c) s fun t =>
          MovedOff c.val (firstFail (s.gridChecks c.val)) t ∧ Frame true [.chan c.val] (· ∈ offWords c.val) s t) ∧
        (s.mode ≠ mRIDE → s.blackOk c.val = true → fLe (s.rd (A.GRID_VDC_MIN c.val)) (s.lat c.val 6) = true →
          completes (.blackStart c) s fun t => Edited (A.GRID_STAT c.val) [(F.GRID_STAT_KM_CMD c.val, 1)] s t ∧
            (t.chn c.val).grid = { (s.chn c.val).grid with black := true } ∧ t.held (.km c.val) 0 = true ∧
            Frame false [.timers, .chan c.val] (· = A.GRID_STAT c.val) s t)) ∧
      ((s.chn c.val).grid.black = false →
        (s.immediateCode c.val ≠ 0 → completes (.syncImmediateRefusal c) s fun t =>
          MovedOff c.val (s.immediateCode c.val) t ∧ Frame true [.chan c.val] (· ∈ offWords c.val) s t) ∧
        (s.held (.close c.val) (msClk 5) = true → completes (.closureConfirmed c) s fun t =>
          (t.chn c.val).grid = { (s.chn c.val).grid with actNext := true } ∧ Frame false [.chan c.val] (fun _ => False) s t) ∧
        ((s.chn c.val).grid.actNext = false → s.flag (F.GRID_STAT_KM_CMD c.val) = true →
          s.held (.km c.val) (secClk (s.rd (A.GRID_T_KM c.val))) = true → completes (.kmFail c) s fun t =>
          MovedOff c.val kKM_FAIL t ∧ t.flag (F.GRID_EVT_KM_FAIL c.val) = true ∧ Frame true [.chan c.val] (· ∈ offWords c.val) s t)) ∧
      ((s.chn c.val).grid.black = true → s.held (.km c.val) (secClk (s.rd (A.GRID_T_KM c.val))) = true →
        completes (.blackStartActive c) s fun t => (t.chn c.val).grid = { (s.chn c.val).grid with actNext := true } ∧
          Frame false [.chan c.val] (fun _ => False) s t)) ∧
    (∀ t0 : Nat, s.cst c.val = sACTIVE → (s.chn c.val).grid.stopAt = some t0 → t0 + secClk (s.rd (A.GRID_T_STOP c.val)) ≤ s.clk →
      completes (.stopRampEnd c) s fun t => (t.chn c.val).grid.offNext = true ∧ t.cst c.val = sACTIVE ∧
        (∀ h : Fin 6, t.bitOf (F.PWM_FSTAT_OFF_EFF c.val) h.val = true) ∧ Frame false [.chan c.val] (· = A.PWM_FSTAT c.val) s t) ∧
    (∀ ok : Bool, s.held (.pll c.val) (msClk 20) = ok → completes (.pllOkChange c ok) s fun t =>
      Edited (A.GRID_STAT c.val) [(F.GRID_STAT_PLL_OK c.val, b2n ok)] s t ∧ Frame false [] (· = A.GRID_STAT c.val) s t) ∧
    (s.cst c.val = sACTIVE → s.sub c.val = mFORM_CL → (s.chn c.val).grid.stopAt = none → s.mode ≠ mRIDE →
      s.held (.ret c.val) (secClk (s.rd (A.GRID_T_RET c.val))) = true → completes (.formClExit c) s fun t =>
        t.sub c.val = mFORM ∧ t.flag (F.GRID_EVT_CL_EXIT c.val) = true ∧ t.flag (F.GRID_EVT_XFER c.val) = true ∧
        t.get (F.GRID_XCNT_XFER_CNT c.val) = (s.get (F.GRID_XCNT_XFER_CNT c.val) + 1) % 65536 ∧ (t.chn c.val).grid.guard = 9 ∧
        Frame true [.chan c.val] (· ∈ [A.GRID_STAT c.val, A.GRID_EVT c.val, A.GRID_XCNT c.val, A.RIDE_CH_STAT c.val,
          ctxAddr c.val 3 41, ctxAddr c.val 4 41]) s t)

/-- RIDE arms, begins, trips, releases and ends by the rules of chapter 05: For a running device. RIDE_DETECTOR_ARM sets ARMED after PCC-normal for T_EXIT in RUN or RIDE. RIDE_ENTRY with a qualifying cause and an ACTIVE GRID channel makes the mode RIDE with that cause, counts and records ENTER, and puts each ACTIVE GRID channel's snapshot in force; without such a channel it records EXCURSION once. PROTECTIVE_TRIP in RIDE records its causes, trips every ACTIVE GRID channel by GRIDPROT and counts. GRIDPROT_RELEASE after PCC-normal for T_RECON ends GRIDPROT as a trip input and leaves the latches. RIDE_EXIT makes the mode RUN, records which ground ended RIDE, and disarms the detector unless the PCC is normal; which ground counts when several hold together is the model's choice (log entry 70). Each leaves the rest as its frame says. (05 R144; 05 R145; 05 R146; 05 R147; 05 R148; 05 R149; 05 R150; 05 R154; 05 R164) -/
def Obligations.RideEntersActsAndEnds : Prop :=
  ∀ s : State, s.runs = true →
    (s.flag F.SYS_RIDE_CFG_EN = true → (s.mode = mRUN ∨ s.mode = mRIDE) → s.held .normal (secClk (s.rd (A.RB_T_EXIT s.bank))) = true →
      completes .rideDetectorArm s fun t => Edited A.SYS_RIDE_STAT [(F.SYS_RIDE_STAT_ARMED, 1)] s t ∧
        Frame false [] (· = A.SYS_RIDE_STAT) s t) ∧
    (s.rideCause ≠ 0 → s.anyGridActive = true →
      completes .rideEntry s fun t => t.mode = mRIDE ∧ t.get F.SYS_MODE_PREV = mRUN ∧ t.flag F.SYS_RIDE_STAT_RIDE = true ∧
        t.get F.SYS_RIDE_STAT_CAUSE = s.rideCause ∧ t.flag F.SYS_RIDE_STAT_ENTER = true ∧
        t.get F.SYS_RIDE_CNT_ENT_CNT = (s.get F.SYS_RIDE_CNT_ENT_CNT + 1) % 65536 ∧
        (∀ c : Fin 8, (t.chn c.val).grid.riding = (s.gridActive c.val || (s.chn c.val).grid.riding)) ∧
        (∀ c : Fin 8, s.gridActive c.val = true → t.cst c.val = sACTIVE ∧ (t.chn c.val).grid.snap.take 7 =
          [s.rd (A.RIDE_K1 c.val), s.rd (A.RIDE_K2 c.val), s.rd (A.RIDE_PHI2 c.val), s.rd (A.RIDE_DB c.val), s.rd (A.RIDE_IMAX c.val),
            s.rd (A.RIDE_W c.val), s.rd (A.RIDE_CH_CFG c.val)]) ∧
        Frame true (.t :: .ride :: .timers :: (List.range 8).map .chan)
          (fun a => a ∈ [A.SYS_MODE, A.SYS_RIDE_STAT, A.SYS_RIDE_CNT, A.ER_STAT, A.REC_STAT, A.REC_CNT, A.REC_LEN] ∨
            ∃ c, c < 8 ∧ a ∈ [A.PWM_FSTAT c, A.RIDE_CH_STAT c]) s t) ∧
    (s.rideCause ≠ 0 → s.anyGridActive = false → s.ride.excDone = false →
      completes .rideEntry s fun t => Raised F.SYS_RIDE_STAT_EXCURSION s t ∧ t.ride = { s.ride with excDone := true } ∧
        Frame true [.ride] (· = A.SYS_RIDE_STAT) s t) ∧
    (s.mode = mRIDE → (s.protCauses.1 || s.protCauses.2.1 || s.protCauses.2.2) = true → s.anyGridActive = true →
      completes .protectiveTrip s fun t => t.flag F.SYS_RIDE_STAT_PROT = true ∧
        (s.protCauses.1 = true → t.flag F.SYS_RIDE_STAT_LV_TRIP = true) ∧ (s.protCauses.2.1 = true → t.flag F.SYS_RIDE_STAT_HV_TRIP = true) ∧
        (s.protCauses.2.2 = true → t.flag F.SYS_RIDE_STAT_F_TRIP = true) ∧
        t.get F.SYS_RIDE_CNT_PROT_CNT = (s.get F.SYS_RIDE_CNT_PROT_CNT + 1) % 65536 ∧
        (∀ c : Fin 8, s.gridActive c.val = true → t.flag (F.GDI_STAT_TRIPPED c.val) = true ∧
          bit (t.rd (A.GDI_IN c.val)) (srcBit 0x22) = true ∧ t.flag (F.RIDE_CH_STAT_PROT_TRIP c.val) = true) ∧
        Frame true ((List.range 8).map .chan) (fun a => a ∈ [A.SYS_RIDE_STAT, A.SYS_RIDE_CNT] ∨
          ∃ c, c < 8 ∧ s.gridActive c = true ∧ (tripWords c a ∨ a = A.GDI_IN c)) s t) ∧
    (s.flag F.SYS_RIDE_STAT_PROT = true → s.held .normal (secClk (s.rd (A.RB_T_RECON s.bank))) = true →
      completes .gridprotRelease s fun t => t.flag F.SYS_RIDE_STAT_PROT = false ∧
        (∀ c : Fin 8, bit (t.rd (A.GDI_IN c.val)) (srcBit 0x22) = false ∧
          t.flag (F.GDI_STAT_TRIPPED c.val) = s.flag (F.GDI_STAT_TRIPPED c.val)) ∧
        Frame false ((List.range 8).map .chan) (fun a => a = A.SYS_RIDE_STAT ∨ ∃ c, c < 8 ∧ a ∈ [A.GDI_IN c, A.GDI_STAT c]) s t) ∧
    (s.rideEndCode ≠ 0 →
      completes .rideExit s fun t => t.mode = mRUN ∧ t.get F.SYS_MODE_PREV = mRIDE ∧ t.flag F.SYS_RIDE_STAT_RIDE = false ∧
        t.flag (if s.rideEndCode = 1 then F.SYS_RIDE_STAT_EXIT_NORMAL else if s.rideEndCode = 2 then F.SYS_RIDE_STAT_EXIT_TIMEOUT
          else F.SYS_RIDE_STAT_EXIT_LAST) = true ∧
        t.flag F.SYS_RIDE_STAT_ARMED = (s.flag F.SYS_RIDE_STAT_ARMED && s.rideEndCode == 1) ∧
        (∀ c : Fin 8, (t.chn c.val).grid.riding = false ∧ t.flag (F.RIDE_CH_STAT_RIDE_REF c.val) = false) ∧
        (∀ c : Fin 8, s.gridActive c.val = true → (s.chn c.val).grid.riding = true → s.sub c.val = mFOLLOW →
          t.flag (F.RIDE_CH_STAT_RECOV c.val) = true ∧ (t.chn c.val).grid.recD = (s.chn c.val).grid.refD) ∧
        Frame true (.timers :: (List.range 8).map .chan) (fun a => a ∈ [A.SYS_MODE, A.SYS_RIDE_STAT, A.ER_STAT] ∨
          ∃ c, c < 8 ∧ a ∈ [A.PWM_FSTAT c, A.RIDE_CH_STAT c]) s t)

/-- Probe windows and passive detectors declare an island, candidates expire, and ISLANDED clears by its rule: For a running device. PROBE_WINDOW_END while the probe is on shows the impedance |V| / |I| of the window. Once two windows are complete and the injected current is not too small, a window above the threshold counts, and the N-th in a row (the second after a candidate) declares an island, which sets ISLANDED, DET and PROBE_DET and notes the tick; a window at or below it starts the count afresh. A passive detector that may fire declares an island when it is decisive and else marks a candidate, which expires after 1 s. ISLANDED clears when no channel is in ISLAND and the probe, or else the normal PCC, has shown the grid again. Each leaves the rest as its frame says. That a window counts from the second complete one on, and that a candidate is judged at window ends, is the model's reading (log entries 71, 72). (05 R168; 05 R169; 05 R170; 05 R173) -/
def Obligations.IslandsAreDetectedAndCleared : Prop :=
  ∀ s : State, s.runs = true →
    (∀ vp ip : Word, s.flag F.ISL_STAT_PROBE_ON = true →
      completes (.probeWindowEnd vp ip) s fun t => t.rd A.PCCM_ZP = fDiv vp ip ∧ t.ride.fresh = min 2 (s.ride.fresh + 1) ∧
        (1 ≤ s.ride.fresh → fLt ip (fMul (c32 1 4) (s.rd A.ISL_PROBE_A)) = false →
          (fLt (s.rd A.ISL_Z_TH) (fDiv vp ip) = true → t.ride.exceed = s.ride.exceed + 1 ∧ t.ride.below = 0 ∧
            ((if s.flag F.ISL_STAT_CAND then 2 else s.get F.ISL_CFG_N) ≤ s.ride.exceed + 1 → s.flag F.ISL_STAT_ISLANDED = false →
              t.flag F.ISL_STAT_ISLANDED = true ∧ t.flag F.ISL_STAT_DET = true ∧ t.flag F.ISL_STAT_PROBE_DET = true ∧ t.ride.act = true ∧
              t.rd A.ISL_DET_LO = s.rd A.SYS_TICK_CNT_LO) ∧
            (s.ride.exceed + 1 < (if s.flag F.ISL_STAT_CAND then 2 else s.get F.ISL_CFG_N) →
              t.flag F.ISL_STAT_ISLANDED = s.flag F.ISL_STAT_ISLANDED)) ∧
          (fLt (s.rd A.ISL_Z_TH) (fDiv vp ip) = false → t.ride.exceed = 0 ∧ t.ride.below = s.ride.below + 1)) ∧
        Frame true [.ride] (· ∈ [A.PCCM_ZP, A.ISL_STAT, A.ISL_DET_LO, A.ISL_DET_LO + 4, A.REC_STAT, A.REC_CNT, A.REC_LEN]) s t) ∧
    (∀ d : Fin 4, s.passiveMay d.val = true →
      (s.bitOf F.ISL_CFG_DECISIVE d.val = true → s.flag F.ISL_STAT_ISLANDED = false →
        completes (.passiveDetectorFire d) s fun t => t.flag F.ISL_STAT_ISLANDED = true ∧ t.flag F.ISL_STAT_DET = true ∧
          t.flag F.ISL_STAT_PASSIVE_DET = true ∧ t.ride.act = true ∧
          Frame true [.ride] (· ∈ [A.ISL_STAT, A.ISL_DET_LO, A.ISL_DET_LO + 4, A.REC_STAT, A.REC_CNT, A.REC_LEN]) s t) ∧
      (s.bitOf F.ISL_CFG_DECISIVE d.val = false →
        completes (.passiveDetectorFire d) s fun t => Edited A.ISL_STAT [(F.ISL_STAT_CAND, 1)] s t ∧ t.held .cand 0 = true ∧
          Frame false [.timers] (· = A.ISL_STAT) s t)) ∧
    (s.held .cand (msClk 1000) = true →
      completes .candidateExpiry s fun t => Edited A.ISL_STAT [(F.ISL_STAT_CAND, 0)] s t ∧ t.held .cand 0 = false ∧
        Frame false [.timers] (· = A.ISL_STAT) s t) ∧
    (s.flag F.ISL_STAT_ISLANDED = true → (∀ c : Fin 8, (s.gridActive c.val && s.sub c.val == mISLAND) = false) →
      (if s.flag F.ISL_STAT_PROBE_ON then s.get F.ISL_CFG_N ≤ s.ride.below
        else s.held .normal (secClk (s.rd (A.RB_T_RECON s.bank))) = true) →
      completes .islandedClear s fun t => Edited A.ISL_STAT [(F.ISL_STAT_ISLANDED, 0)] s t ∧ Frame false [] (· = A.ISL_STAT) s t)

/-- CHOPPER_ON and CHOPPER_OFF switch the chopper where its mode, thresholds, lockout and minimum times allow it: For a running device: CHOPPER_ON turns on a chopper that is off, permitted by its MODE, not held off, not locked out and off for CHOP_TMIN: ON is set, ENGAGED is recorded, and the switching instant is noted. CHOPPER_OFF turns off a chopper that has been on for CHOP_TMIN. Each leaves the rest as its frame says. (05 R155; 05 R156) -/
def Obligations.ChopperSwitchesByItsThresholds : Prop :=
  ∀ (s : State) (c : Chan) (off : Nat), s.runs = true →
    (s.chopPermits c.val = true → s.chopHeldOff c.val = false → s.flag (F.CHOP_STAT_LOCKOUT c.val) = false →
      s.flag (F.CHOP_STAT_ON c.val) = false → (s.chn c.val).chopAt + secClk (s.rd (A.CHOP_TMIN c.val)) ≤ s.clk off →
      completes (.chopperOn c off) s fun t => t.flag (F.CHOP_STAT_ON c.val) = true ∧ t.flag (F.CHOP_STAT_ENGAGED c.val) = true ∧
        (t.chn c.val).chopAt = s.clk off ∧ Frame true [.chan c.val] (· = A.CHOP_STAT c.val) s t) ∧
    (s.flag (F.CHOP_STAT_ON c.val) = true → (s.chn c.val).chopAt + secClk (s.rd (A.CHOP_TMIN c.val)) ≤ s.clk off →
      completes (.chopperOff c off) s fun t => Edited (A.CHOP_STAT c.val) [(F.CHOP_STAT_ON c.val, 0)] s t ∧
        (t.chn c.val).chopAt = s.clk off ∧ Frame false [.chan c.val] (· = A.CHOP_STAT c.val) s t)

/-- START, STOP and SCAN of the DC and machine roles act for the session that holds the channel: For an open session that holds the claim of channel c. START of a DCB, DCP or MACH channel in OFF whose conditions hold is answered OK and takes the channel to PRECHARGE at the next boundary; with a failing condition it is answered NOT_IN_MODE and that condition's code stands in REFUSE with its event. START in another state is answered NOT_IN_MODE and changes nothing. STOP takes PRECHARGE and SYNC to OFF with code STOP; in ACTIVE it starts the ramp of a DC channel, and drives the speed target of a machine to zero. SCAN makes a scan due outside a scan and is ignored during one. Without the claim each is answered OWNED and changes nothing else. (06 R183; 06 R192; 06 R194; 06 R195; 06 R205; 13 R389) -/
def Obligations.DcAndMachCommandsActForTheHolder : Prop :=
  ∀ (s : State) (i : Ix16) (c : Chan), s.hosted = true → s.sesOpen i.val = true →
    (s.holds i.val (.chan c.val) = true →
      (s.isDc c.val = true → s.cst c.val = sOFF → s.dcStartCode c.val = 0 →
        completes (.dcStart c i) s fun t => (t.chn c.val).startNext = true ∧ t.host = { s.host with ans := OK } ∧
          Frame false [.host, .chan c.val] (fun _ => False) s t) ∧
      (s.isDc c.val = true → s.cst c.val = sOFF → s.dcStartCode c.val ≠ 0 →
        completes (.dcStart c i) s fun t => t.get (F.DC_STAT_REFUSE c.val) = s.dcStartCode c.val ∧
          Raised (F.DC_EVT_REFUSED c.val) s t ∧ t.host.ans = NOT_IN_MODE ∧ t.cst c.val = sOFF ∧
          Frame true [.host] (· ∈ [A.DC_STAT c.val, A.DC_EVT c.val]) s t) ∧
      (s.role c.val = rMACH → s.cst c.val = sOFF → s.machStartCode c.val = 0 →
        completes (.machStart c i) s fun t => (t.chn c.val).startNext = true ∧ t.host = { s.host with ans := OK } ∧
          Frame false [.host, .chan c.val] (fun _ => False) s t) ∧
      (s.role c.val = rMACH → s.cst c.val = sOFF → s.machStartCode c.val ≠ 0 →
        completes (.machStart c i) s fun t => t.get (F.MACH_STAT_REFUSE c.val) = s.machStartCode c.val ∧
          Raised (F.MACH_EVT_REFUSED c.val) s t ∧ t.host.ans = NOT_IN_MODE ∧ t.cst c.val = sOFF ∧
          Frame true [.host] (· ∈ [A.MACH_STAT c.val, A.MACH_EVT c.val]) s t) ∧
      (s.cst c.val ≠ sOFF → ∀ x ∈ [Instr.dcStart c i, .machStart c i],
        completes x s fun t => t.host = { s.host with ans := NOT_IN_MODE } ∧ Frame false [.host] (fun _ => False) s t) ∧
      (s.isDc c.val = true → s.cst c.val = sPRECHARGE ∨ s.cst c.val = sSYNC →
        completes (.dcStop c i) s fun t => MovedOff c.val kSTOP t ∧ t.host.ans = OK ∧
          Frame true [.host, .chan c.val] (· ∈ offWords c.val) s t) ∧
      (s.role c.val = rMACH → s.cst c.val = sPRECHARGE ∨ s.cst c.val = sSYNC →
        completes (.machStop c i) s fun t => t.cst c.val = sOFF ∧ t.get (F.MACH_STAT_REFUSE c.val) = kSTOP ∧ t.host.ans = OK ∧
          Frame true [.host, .chan c.val] (· ∈ offWords c.val) s t) ∧
      (s.isDc c.val = true → s.cst c.val = sACTIVE → (s.chn c.val).dc.stopAt = none →
        completes (.dcStop c i) s fun t => (t.chn c.val).dc = { (s.chn c.val).dc with
            stopAt := some s.clk, stopR := (s.chn c.val).dc.rEff } ∧ t.host.ans = OK ∧
          Frame false [.host, .chan c.val] (fun _ => False) s t) ∧
      (s.role c.val = rMACH → s.cst c.val = sACTIVE →
        completes (.machStop c i) s fun t => (t.chn c.val).mach = { (s.chn c.val).mach with stopping := true } ∧ t.host.ans = OK ∧
          Frame false [.host, .chan c.val] (fun _ => False) s t) ∧
      (s.role c.val = rDCP →
        completes (.dcScan c i) s fun t => (t.chn c.val).dc = { (s.chn c.val).dc with
            scanDue := (s.chn c.val).dc.scanDue || !s.flag (F.DC_STAT_SCANNING c.val) } ∧ t.host.ans = OK ∧
          Frame false [.host, .chan c.val] (fun _ => False) s t)) ∧
    (s.holds i.val (.chan c.val) = false → ∀ x ∈ [Instr.dcStart c i, .dcStop c i, .dcScan c i, .machStart c i, .machStop c i],
      completes x s fun t => t.host = { s.host with ans := OWNED } ∧ Frame false [.host] (fun _ => False) s t)

/-- The connection of a DC port goes through precharge, checks, contactor and closure, and fails with the code of the rule: For a running device and a DCB or DCP channel c. In PRECHARGE, 20 ms of DC link at its minimum bring SYNC, and DC_T_PC brings OFF with PC_TIMEOUT. In SYNC, the checks held for DC_T_QUAL command the contactor; DC_T_SYNC without it brings OFF with the code of the first failing check; 20 ms of RATIO failure bring OFF with RATIO; the closure held for 5 ms brings ACTIVE at the next boundary; DC_T_KM without it records KM_FAIL and brings OFF with that code. The end of the STOP ramp forces the legs off and brings OFF at the next boundary. In DCB, the upper and lower bound that have limited below DC_I_END for DC_T_END set FULL and EMPTY with their events. Each leaves the rest as its frame says. (06 R182; 06 R184; 06 R190; 06 R191; 06 R192) -/
def Obligations.DcPortsConnectByTheirChecks : Prop :=
  ∀ (s : State) (c : Chan), s.runs = true → s.isDc c.val = true →
    (s.cst c.val = sPRECHARGE →
      (s.held (.vdc c.val) (msClk 20) = true → completes (.dcPrechargeComplete c) s fun t => t.cst c.val = sSYNC ∧
        t.held (.entered c.val) 0 = true ∧ Frame false [.timers] (· = A.ROLE_STAT c.val) s t) ∧
      (s.held (.entered c.val) (secClk (s.rd (A.DC_T_PC c.val))) = true → completes (.dcPcTimeout c) s fun t =>
        MovedOff c.val kPC_TIMEOUT t ∧ Frame true [.chan c.val] (· ∈ offWords c.val) s t)) ∧
    (s.cst c.val = sSYNC →
      (s.flag (F.DC_STAT_KM_CMD c.val) = false →
        (s.held (.qual c.val) (secClk (s.rd (A.DC_T_QUAL c.val))) = true → completes (.dcQualified c) s fun t =>
          Edited (A.DC_STAT c.val) [(F.DC_STAT_KM_CMD c.val, 1)] s t ∧ t.held (.km c.val) 0 = true ∧
          Frame false [.timers] (· = A.DC_STAT c.val) s t) ∧
        (s.held (.entered c.val) (secClk (s.rd (A.DC_T_SYNC c.val))) = true → completes (.dcSyncTimeout c) s fun t =>
          MovedOff c.val (firstFail (s.dcChecks c.val)) t ∧ Frame true [.chan c.val] (· ∈ offWords c.val) s t)) ∧
      (s.held (.ratio c.val) (msClk 20) = true → completes (.dcRatioRefusal c) s fun t =>
        MovedOff c.val 1 t ∧ Frame true [.chan c.val] (· ∈ offWords c.val) s t) ∧
      (s.held (.close c.val) (msClk 5) = true → completes (.dcClosureConfirmed c) s fun t =>
        (t.chn c.val).dc = { (s.chn c.val).dc with actNext := true } ∧ Frame false [.chan c.val] (fun _ => False) s t) ∧
      ((s.chn c.val).dc.actNext = false → s.flag (F.DC_STAT_KM_CMD c.val) = true →
        s.held (.km c.val) (secClk (s.rd (A.DC_T_KM c.val))) = true → completes (.dcKmFail c) s fun t =>
        MovedOff c.val kKM_FAIL t ∧ t.flag (F.DC_EVT_KM_FAIL c.val) = true ∧ Frame true [.chan c.val] (· ∈ offWords c.val) s t)) ∧
    (∀ t0 : Nat, s.cst c.val = sACTIVE → (s.chn c.val).dc.stopAt = some t0 → t0 + secClk (s.rd (A.DC_T_STOP c.val)) ≤ s.clk →
      completes (.dcStopRampEnd c) s fun t => (t.chn c.val).dc.offNext = true ∧ t.cst c.val = sACTIVE ∧
        (∀ h : Fin 4, h.val < s.legs c.val → t.bitOf (F.PWM_FSTAT_OFF_EFF c.val) h.val = true) ∧
        Frame false [.chan c.val] (· = A.PWM_FSTAT c.val) s t) ∧
    (s.role c.val = rDCB →
      (s.flag (F.DC_STAT_FULL c.val) = false → s.held (.full c.val) (secClk (s.rd (A.DC_T_END c.val))) = true →
        completes (.dcFull c) s fun t => Edited (A.DC_STAT c.val) [(F.DC_STAT_FULL c.val, 1)] s t ∧
          Raised (F.DC_EVT_FULL_EVT c.val) s t ∧ Frame true [] (· ∈ [A.DC_STAT c.val, A.DC_EVT c.val]) s t) ∧
      (s.flag (F.DC_STAT_EMPTY c.val) = false → s.held (.empty c.val) (secClk (s.rd (A.DC_T_END c.val))) = true →
        completes (.dcEmpty c) s fun t => Edited (A.DC_STAT c.val) [(F.DC_STAT_EMPTY c.val, 1)] s t ∧
          Raised (F.DC_EVT_EMPTY_EVT c.val) s t ∧ Frame true [] (· ∈ [A.DC_STAT c.val, A.DC_EVT c.val]) s t))

/-- MPPT perturbs and observes at each period end, and a scan steps through its points: For a running device and a DCP channel c in ACTIVE. Outside a scan, the end of an MPPT period takes the means Pk and Vk of the period; the first period only keeps them; a later one sets direction, CURTAIL and Vref by the rule with the previous means, and keeps Pk and Vk as previous; with a scan due and no CURTAIL it starts the scan at DC_V_MPP_HI. DC_SCAN_T other than 0.0 makes a scan due that many minutes after the last. At a scan point whose mean power exceeds a non-zero DC_P_MAX the scan aborts, Vref is what it was before the scan, and SCAN_ABORT is set. Otherwise the best point is kept; before the last point Vref goes to the next voltage; after it Vref, DC_SCAN_V and Pprev are those of the best point, SCANNING is 0 and SCAN_DONE is set. (06 R193; 06 R194; 06 R195) -/
def Obligations.MpptTracksAndScans : Prop :=
  ∀ (s : State) (c : Chan), s.runs = true → s.role c.val = rDCP → s.cst c.val = sACTIVE →
    (∀ d, (s.chn c.val).dc = d →
    (s.flag (F.DC_STAT_SCANNING c.val) = false →
      (secClk (s.rd (A.DC_MPPT_T c.val)) ≤ d.sumT → d.first = true → d.scanDue = false →
        completes (.mpptPeriodEnd c) s fun t =>
          (t.chn c.val).dc = { d.clear with pPrev := d.means.1, vPrev := d.means.2, first := false } ∧
          Frame false [.chan c.val] (fun _ => False) s t) ∧
      (secClk (s.rd (A.DC_MPPT_T c.val)) ≤ d.sumT → d.first = false → ∀ m, d.means = m → ∀ p, s.perturb c.val m.1 m.2 = p →
        (d.scanDue = false ∨ p.2.1 = true → completes (.mpptPeriodEnd c) s fun t =>
          (t.chn c.val).dc = { d.clear with up := p.1, vref := p.2.2, pPrev := m.1, vPrev := m.2 } ∧
          Edited (A.DC_STAT c.val) [(F.DC_STAT_CURTAIL c.val, b2n p.2.1)] s t ∧ t.rd (A.DC_MPPT_V c.val) = p.2.2 ∧
          Frame false [.chan c.val] (· ∈ [A.DC_STAT c.val, A.DC_MPPT_V c.val]) s t) ∧
        (d.scanDue = true → p.2.1 = false → completes (.mpptPeriodEnd c) s fun t =>
          (t.chn c.val).dc.vref = s.scanV c.val 0 ∧ (t.chn c.val).dc.scanIx = 0 ∧ (t.chn c.val).dc.vBefore = p.2.2 ∧
          (t.chn c.val).dc.scanDue = false ∧ t.flag (F.DC_STAT_SCANNING c.val) = true ∧
          t.rd (A.DC_MPPT_V c.val) = s.scanV c.val 0 ∧
          Frame false [.chan c.val] (· ∈ [A.DC_STAT c.val, A.DC_MPPT_V c.val]) s t)) ∧
      (fEq (s.rd (A.DC_SCAN_T c.val)) fZero = false → s.held (.scan c.val) (60 * secClk (s.rd (A.DC_SCAN_T c.val))) = true →
        completes (.scanDue c) s fun t => (t.chn c.val).dc = { d with scanDue := true } ∧
          Frame false [.chan c.val] (fun _ => False) s t)) ∧
    (s.flag (F.DC_STAT_SCANNING c.val) = true → secClk (s.rd (A.DC_SCAN_DWELL c.val)) ≤ d.dwell →
      ((fLt fZero (s.rd (A.DC_P_MAX c.val)) && fLt (s.rd (A.DC_P_MAX c.val)) d.means.1) = true →
        completes (.scanPointEnd c) s fun t => (t.chn c.val).dc = { d.clear with vref := d.vBefore } ∧
          t.rd (A.DC_MPPT_V c.val) = d.vBefore ∧ t.flag (F.DC_STAT_SCANNING c.val) = false ∧ t.held (.scan c.val) 0 = true ∧
          Raised (F.DC_EVT_SCAN_ABORT c.val) s t ∧
          Frame true [.chan c.val, .timers] (· ∈ [A.DC_STAT c.val, A.DC_MPPT_V c.val, A.DC_EVT c.val]) s t) ∧
      ((fLt fZero (s.rd (A.DC_P_MAX c.val)) && fLt (s.rd (A.DC_P_MAX c.val)) d.means.1) = false →
        ∀ b, (if d.scanIx == 0 || fLt d.bestP d.means.1 then (d.means.1, d.vref) else (d.bestP, d.bestV)) = b →
        (d.scanIx + 1 < s.get (F.DC_CFG_SCAN_N c.val) → completes (.scanPointEnd c) s fun t =>
          (t.chn c.val).dc = { d.clear with bestP := b.1, bestV := b.2, scanIx := d.scanIx + 1, vref := s.scanV c.val (d.scanIx + 1) } ∧
          t.rd (A.DC_MPPT_V c.val) = s.scanV c.val (d.scanIx + 1) ∧
          Frame false [.chan c.val] (· = A.DC_MPPT_V c.val) s t) ∧
        (s.get (F.DC_CFG_SCAN_N c.val) ≤ d.scanIx + 1 → completes (.scanPointEnd c) s fun t =>
          (t.chn c.val).dc = { d.clear with bestP := b.1, bestV := b.2, pPrev := b.1, vref := b.2 } ∧
          t.rd (A.DC_MPPT_V c.val) = b.2 ∧ t.rd (A.DC_SCAN_V c.val) = b.2 ∧ t.flag (F.DC_STAT_SCANNING c.val) = false ∧
          t.held (.scan c.val) 0 = true ∧ Raised (F.DC_EVT_SCAN_DONE c.val) s t ∧
          Frame true [.chan c.val, .timers]
            (· ∈ [A.DC_STAT c.val, A.DC_MPPT_V c.val, A.DC_SCAN_V c.val, A.DC_EVT c.val]) s t))))

/-- A variable period ends at its crossing, waits for DC_VP_TMIN after an early one, and is clamped at DC_VP_TMAX: For a running device and a leg h that runs on a variable-period carrier. A crossing in the conducting interval takes E to 0 and P to the controlled side; before DC_VP_TMIN from the period start both sides stay off until then. DC_VP_TMAX without a crossing does the same, with CCM set and DC_CCM_CNT counted. The end of the dead time returns E to 1 and starts the next period: its start is now and the leg mean is that of the period that ended. While a leg waits for DC_VP_TMIN the end of the dead time is only kept; the end of DC_VP_TMIN then starts the period in the same way. CARRIER_PERIOD_START has no effect on such a leg, whose periods start by these rules. (06 R196; 06 R197; 06 R198; 07 R231) -/
def Obligations.VariablePeriodsEndByCrossingOrClamp : Prop :=
  ∀ (s : State) (c : Chan) (h : HbIx) (off : Nat) (mean : Word), s.runs = true → s.vpRuns c.val h.val = true →
    ∀ x, s.hb c.val h.val = x →
    (x.e = true → x.p = (s.get (F.DC_CFG_CAR c.val) != 1) → x.vpNext = false →
      completes (.cotCrossing c h off mean) s fun t =>
        t.hb c.val h.val = { x with
          p := s.get (F.DC_CFG_CAR c.val) == 1, e := false, vpNext := true, vpMean := some mean, vpOver := false,
          vpWait := decide (s.clk off < x.vpAt + secClk (s.rd (A.DC_VP_TMIN c.val))) } ∧
        (t.gate c.val h.val).hi = (t.gateCmd c.val h.val).1 ∧ (t.gate c.val h.val).lo = (t.gateCmd c.val h.val).2 ∧
        Frame false [.chan c.val] (fun _ => False) s t) ∧
    (x.vpNext = false → x.vpAt + secClk (s.rd (A.DC_VP_TMAX c.val)) ≤ s.clk off →
      completes (.vpTmaxClamp c h off mean) s fun t =>
        t.hb c.val h.val = { x with p := s.get (F.DC_CFG_CAR c.val) == 1, e := false, vpNext := true, vpMean := some mean } ∧
        Raised (F.DC_EVT_CCM c.val) s t ∧
        t.get (F.DC_CCM_CNT_CNT c.val) = (s.get (F.DC_CCM_CNT_CNT c.val) + 1) % 2 ^ 32 ∧
        Frame true [.chan c.val] (· ∈ [A.DC_CCM_CNT c.val, A.DC_EVT c.val]) s t) ∧
    (∀ m : Word, x.e = false → x.vpNext = true → x.vpMean = some m → x.vpWait = false →
      completes (.deadTimeEnd c h off) s fun t =>
        t.hb c.val h.val = { x with e := true, vpAt := s.clk off, vpNext := false, vpMean := none } ∧
        (t.chn c.val).dc = { (s.chn c.val).dc with legMean := (s.chn c.val).dc.legMean.set h.val m }) ∧
    (x.e = false → x.vpWait = true → completes (.deadTimeEnd c h off) s fun t =>
        t.hb c.val h.val = { x with vpOver := true } ∧ Frame false [.chan c.val] (fun _ => False) s t) ∧
    (x.vpWait = true → x.vpNext = true → x.vpAt + secClk (s.rd (A.DC_VP_TMIN c.val)) ≤ s.clk off →
      (x.vpOver = true → completes (.vpTminEnd c h off mean) s fun t =>
        t.hb c.val h.val = { x with e := true, vpAt := s.clk off, vpWait := false, vpNext := false, vpMean := none } ∧
        (t.chn c.val).dc = { (s.chn c.val).dc with legMean := (s.chn c.val).dc.legMean.set h.val mean }) ∧
      (x.vpOver = false → completes (.vpTminEnd c h off mean) s fun t =>
        t.hb c.val h.val = { x with vpWait := false, vpMean := some mean } ∧ Frame false [.chan c.val] (fun _ => False) s t)) ∧
    (completes (.carrierPeriodStart c h off) s fun t => Frame false [] (fun _ => False) s t)

/-- A machine starts by its position signal or by the open-loop sequence, and fails with the code of the rule: For a running device and a MACH channel c. 20 ms of MD5 at its minimum in PRECHARGE bring SYNC; without a sensor the open-loop start then aligns, START_PH is 1 and HB0 to HB2 are released; 5 s of PRECHARGE bring OFF with PC_TIMEOUT. In SYNC with a sensor, 20 ms of plausible signal bring ACTIVE at the next boundary and 1 s without brings OFF with POS. Without a sensor, MACH_T_ALIGN ends the alignment, 20 ms of agreement bring ACTIVE at the next boundary, and MACH_T_HO without handover brings OFF with HO_FAIL. Each leaves the rest as its frame says. (06 R182; 06 R203; 06 R204) -/
def Obligations.MachinesStartByPositionOrOpenLoop : Prop :=
  ∀ (s : State) (c : Chan), s.runs = true → s.role c.val = rMACH →
    (s.cst c.val = sPRECHARGE →
      (s.held (.vdc c.val) (msClk 20) = true → s.posSensor c.val = true → completes (.machPrechargeComplete c) s fun t =>
        t.cst c.val = sSYNC ∧ t.held (.entered c.val) 0 = true ∧ Frame false [.timers] (· = A.ROLE_STAT c.val) s t) ∧
      (s.held (.vdc c.val) (msClk 20) = true → s.posSensor c.val = false → completes (.machPrechargeComplete c) s fun t =>
        t.cst c.val = sSYNC ∧ t.held (.entered c.val) 0 = true ∧ t.held (.align c.val) 0 = true ∧
        (t.chn c.val).mach = { (s.chn c.val).mach with start := 1, th := fZero, w := fZero } ∧
        t.flag (F.MACH_STAT_START_PH c.val) = true ∧
        (∀ h : Fin 3, s.modeHolds c.val = false → s.bitOf (F.PWM_FORCE_OFF c.val) h.val = false →
          s.get (F.PWM_CAR_SHAPE c.val) ≠ 0 → t.bitOf (F.PWM_FSTAT_OFF_EFF c.val) h.val = false) ∧
        Frame false [.timers, .chan c.val] (· ∈ [A.ROLE_STAT c.val, A.MACH_STAT c.val, A.PWM_FSTAT c.val]) s t) ∧
      (s.held (.entered c.val) (msClk 5000) = true → completes (.dcPcTimeout c) s fun t =>
        t.cst c.val = sOFF ∧ t.refuseCode c.val = kPC_TIMEOUT ∧ Frame true [.chan c.val] (· ∈ offWords c.val) s t)) ∧
    (s.cst c.val = sSYNC →
      (s.posSensor c.val = true → s.held (.pos c.val) (msClk 20) = true → completes (.machPositionSync c) s fun t =>
        (t.chn c.val).mach = { (s.chn c.val).mach with actNext := true } ∧ Frame false [.chan c.val] (fun _ => False) s t) ∧
      (s.posSensor c.val = true → (s.chn c.val).mach.actNext = false → s.held (.entered c.val) (msClk 1000) = true →
        completes (.machPositionTimeout c) s fun t => t.cst c.val = sOFF ∧ t.refuseCode c.val = 6 ∧
          Frame true [.chan c.val] (· ∈ offWords c.val) s t) ∧
      ((s.chn c.val).mach.start = 1 → s.held (.align c.val) (secClk (s.rd (A.MACH_T_ALIGN c.val))) = true →
        completes (.machAlignEnd c) s fun t => (t.chn c.val).mach = { (s.chn c.val).mach with start := 2 } ∧
          Frame false [.chan c.val] (fun _ => False) s t) ∧
      ((s.chn c.val).mach.start = 2 → s.held (.ho c.val) (msClk 20) = true →
        completes (.machHandover c) s fun t => (t.chn c.val).mach = { (s.chn c.val).mach with actNext := true } ∧
          Frame false [.chan c.val] (fun _ => False) s t) ∧
      ((s.chn c.val).mach.start ≠ 0 → (s.chn c.val).mach.actNext = false →
        s.held (.entered c.val) (secClk (s.rd (A.MACH_T_HO c.val))) = true →
        completes (.machHandoverTimeout c) s fun t => t.cst c.val = sOFF ∧ t.refuseCode c.val = 5 ∧
          Frame true [.chan c.val] (· ∈ offWords c.val) s t))

/-- A carrier period start ends or renews the cycle-by-cycle hold and runs the bootstrap rules: For a running device and a half-bridge on a fixed carrier. A period start ends the cycle-by-cycle hold, forgets interlock actions, and ends the count of periods with a hold where the last period had none; an L1 that stands unblanked at 1 in cycle-by-cycle mode holds the half-bridge again. Without the bootstrap bit there is no refresh. With it and the half-bridge not forced off, a refresh that is due is inserted, or counted as blocked where the interlocks forbid it. A bootstrap hold ends with an above signal, and else refreshes only with RECHG. The commands of HI and LO are formed afresh, and PWM_CNT of HB0 starts at 0. (07 R216; 08 R251; 08 R253; 06 R208; 06 R209; 08 R248) -/
def Obligations.CarrierPeriodsStartWithTheirHolds : Prop :=
  ∀ (s : State) (c : Chan) (h : HbIx) (off : Nat), s.runs = true → s.vpRuns c.val h.val = false →
    ((s.get (F.GDI_SNS_L1_MODE c.val h.val) ≠ 1 ∨ (s.gate c.val h.val).l1 = false ∨ (s.gate c.val h.val).blanked = true) →
      completes (.carrierPeriodStart c h off) s fun t =>
        t.bitOf (F.GDI_STAT_CBC_HOLD c.val) h.val = false ∧ t.flag (F.GDI_STAT_TRIPPED c.val) = s.flag (F.GDI_STAT_TRIPPED c.val) ∧
        (t.gate c.val h.val).cbcNow = false ∧
        (t.gate c.val h.val).cbcRun = (if (s.gate c.val h.val).cbcNow then (s.gate c.val h.val).cbcRun else 0) ∧
        (t.gate c.val h.val).hi = (t.gateCmd c.val h.val).1 ∧ (t.gate c.val h.val).lo = (t.gateCmd c.val h.val).2 ∧
        (h.val = 0 → t.get (F.PWM_CNT_CNT c.val) = 0) ∧
        (s.bitOf (F.BOOT_CFG_BOOT c.val) h.val = false → s.bitOf (F.BOOT_STAT_HOLD c.val) h.val = false →
          (t.gate c.val h.val).refresh = false) ∧
        (s.bitOf (F.BOOT_STAT_HOLD c.val) h.val = true →
          t.bitOf (F.BOOT_STAT_HOLD c.val) h.val = !(s.gate c.val h.val).above ∧
          (t.gate c.val h.val).refresh = (!(s.gate c.val h.val).above && s.flag (F.BOOT_CFG_RECHG c.val))) ∧
        (s.bitOf (F.BOOT_CFG_BOOT c.val) h.val = true → s.bitOf (F.PWM_FSTAT_OFF_EFF c.val) h.val = false →
          s.bitOf (F.BOOT_STAT_HOLD c.val) h.val = false → (s.gate c.val h.val).refreshDue = true →
          (s.refreshBlocked c.val h.val = false → (t.gate c.val h.val).refresh = true ∧ (t.gate c.val h.val).refreshDue = false) ∧
          (s.refreshBlocked c.val h.val = true → (t.gate c.val h.val).refresh = false ∧
            Counted (F.BOOT_CNT_BLOCKED_CNT c.val) s t ∧ Raised (F.BOOT_EVT_BLOCKED c.val) s t)) ∧
        Frame true [.chan c.val] (· ∈ [A.GDI_STAT c.val, A.PWM_CNT c.val, A.BOOT_STAT c.val, A.BOOT_CNT c.val, A.BOOT_EVT c.val]) s t) ∧
    (s.get (F.GDI_SNS_L1_MODE c.val h.val) = 1 → (s.gate c.val h.val).l1 = true → (s.gate c.val h.val).blanked = false →
      completes (.carrierPeriodStart c h off) s fun t => t.bitOf (F.GDI_STAT_CBC_HOLD c.val) h.val = true ∧
        Counted (F.GDI_CNT2_CBC_CNT c.val) s t ∧ t.flag (F.GDI_EVT_CBC c.val) = true ∧ (t.gate c.val h.val).cbcNow = true ∧
        (t.gate c.val h.val).cbcRun = (if (s.gate c.val h.val).cbcNow then (s.gate c.val h.val).cbcRun else 0) + 1)

/-- A reload copies the shadow word, or the one before a late write, or the extrapolated duty of a mismatch: For a running device and a half-bridge that is no static output, at a reload instant of its carrier. With no write since the last reload, or one completed before this one, the active word becomes the shadow word; with a write in the reload clock it becomes the word before it and LATE is recorded and counted; with a write still to come it becomes the word before it. A half-bridge fed by an enabled context that has not released since a mismatch takes the extrapolated duty with its phase, once, and counts it. Dead times and overrides written since take effect. A forcing that has ended is released with E at 0 and P at the level of the active word. Away from a reload instant the half-bridge keeps everything. At the reload of HB2 that begins a period of a running SHUNT machine with no phase held, a period shifted and each window without a sample are counted. (07 R228; 07 R229; 07 R230; 07 R232; 07 R233; 07 R236; 06 R206; 06 R207) -/
def Obligations.ReloadsTakeTheShadowWord : Prop :=
  ∀ (s : State) (c : Chan) (h : HbIx) (pk : Bool) (w : ReloadWhen), s.runs = true →
    ∀ x, s.hb c.val h.val = x →
    (s.reloads c.val pk = true → s.isStatic c.val h.val = false →
      ((x.extrap = false ∨ s.feeder c.val h.val = none ∨ s.vpCarrier c.val = true) →
        (x.fresh = false ∨ w = ReloadWhen.after → completes (.reload c h pk w) s fun t =>
          t.rd (A.PWM_ACTLO c.val h.val) = x.shLo &&& implMask (A.PWM_ACTLO c.val h.val) ∧
          t.rd (A.PWM_ACTHI c.val h.val) = x.shHi &&& implMask (A.PWM_ACTHI c.val h.val) ∧
          t.rd (A.PWM_LATE_CNT c.val) = s.rd (A.PWM_LATE_CNT c.val) ∧ (t.hb c.val h.val).fresh = false) ∧
        (x.fresh = true → w = ReloadWhen.inCycle → completes (.reload c h pk w) s fun t =>
          t.rd (A.PWM_ACTLO c.val h.val) = x.oldLo &&& implMask (A.PWM_ACTLO c.val h.val) ∧
          t.rd (A.PWM_ACTHI c.val h.val) = x.oldHi &&& implMask (A.PWM_ACTHI c.val h.val) ∧
          Counted (F.PWM_LATE_CNT_CNT c.val) s t ∧ Raised ⟨A.PWM_STAT c.val, h.val, h.val⟩ s t ∧ (t.hb c.val h.val).fresh = true ∧
          (t.hb c.val h.val).shLo = x.shLo ∧ (t.hb c.val h.val).shHi = x.shHi) ∧
        (x.fresh = true → w = ReloadWhen.before → completes (.reload c h pk w) s fun t =>
          t.rd (A.PWM_ACTLO c.val h.val) = x.oldLo &&& implMask (A.PWM_ACTLO c.val h.val) ∧
          t.rd (A.PWM_ACTHI c.val h.val) = x.oldHi &&& implMask (A.PWM_ACTHI c.val h.val) ∧
          t.rd (A.PWM_LATE_CNT c.val) = s.rd (A.PWM_LATE_CNT c.val) ∧ (t.hb c.val h.val).fresh = true)) ∧
      (x.extrap = true → s.feeder c.val h.val ≠ none → s.vpCarrier c.val = false → (x.fresh = false ∨ w ≠ ReloadWhen.after) →
        completes (.reload c h pk w) s fun t =>
          dutyOf (t.rd (A.PWM_ACTLO c.val h.val)) = extrapolate (dutyOf (s.rd (A.PWM_ACTLO c.val h.val)))
            (if x.nRel < 2 then dutyOf (s.rd (A.PWM_ACTLO c.val h.val)) else dutyOf x.prevLo) ∧
          t.rd (A.PWM_ACTHI c.val h.val) = s.rd (A.PWM_ACTHI c.val h.val) ∧ Counted (F.PWM_DROP_CNT_HOLD_CNT c.val) s t ∧
          t.flag (F.PWM_STAT_HOLD_EXT c.val) = true ∧ (t.hb c.val h.val).extrap = false) ∧
      (completes (.reload c h pk w) s fun t =>
        (t.hb c.val h.val).dtLH = s.get (F.PWM_DTLH_DT_LH c.val h.val) ∧ (t.hb c.val h.val).dtHL = s.get (F.PWM_DTHL_DT_HL c.val h.val) ∧
        (t.hb c.val h.val).swap = s.bitOf (F.PWM_OVR_SWAP c.val) (h.val / 2) ∧
        (t.hb c.val h.val).inv = s.bitOf (F.PWM_OVR_INV c.val) (h.val / 2) ∧
        (x.relWait = true → s.forced c.val h.val = false → (t.hb c.val h.val).relWait = false ∧
          (t.hb c.val h.val).e = false ∧ (t.hb c.val h.val).p = t.levelAt c.val h.val pk) ∧
        (x.relWait = false → (t.hb c.val h.val).p = x.p ∧ (t.hb c.val h.val).e = x.e) ∧
        Frame true [.chan c.val] (fun a => a ∈ [A.PWM_ACTLO c.val h.val, A.PWM_ACTHI c.val h.val, A.PWM_STAT c.val,
          A.PWM_DROP_CNT c.val, A.PWM_LATE_CNT c.val, A.HEALTH_FO_ERR] ∨
          (h.val = 2 ∧ s.role c.val = rMACH ∧ a ∈ [A.MACH_SHIFT_CNT c.val, A.MACH_EVT c.val])) s t)) ∧
    (h.val ≠ 2 → s.reloads c.val pk = false ∨ s.isStatic c.val h.val = true →
      completes (.reload c h pk w) s fun t => Frame false [] (fun _ => False) s t) ∧
    (h.val = 2 → pk = (bits (s.chn c.val).car 5 4 == 1) → s.role c.val = rMACH → s.flag (F.MACH_CFG_SHUNT c.val) = true →
      s.cst c.val = sACTIVE → (∀ k : Fin 3, s.bitOf (F.BOOT_STAT_HOLD c.val) k.val = false) →
      completes (.reload c h pk w) s fun t =>
        t.get (F.MACH_SHIFT_CNT_SHIFTED c.val) =
          (s.get (F.MACH_SHIFT_CNT_SHIFTED c.val) + b2n (t.shuntWindows c.val).2) % 65536 ∧
        t.get (F.MACH_SHIFT_CNT_FAIL c.val) = (s.get (F.MACH_SHIFT_CNT_FAIL c.val) + (t.shuntWindows c.val).1) % 65536)

/-- An edge of P is placed or removed with its interval, and conduction follows the dead time: For a running device and a half-bridge that switches on a fixed carrier. An edge of P whose interval is long enough takes P to its level and E to 0; a clipped one also sets PH_CLIP. An edge whose interval is too short leaves P and E, sets DROP and counts it. There is no edge at duty 0.0 or 1.0. The end of the dead time takes E to 1, and the commands of HI and LO follow. A delay-line measurement gives the tap count, lock and one more update, or ends the lock with CAL_FAIL. (07 R223; 07 R224; 07 R225; 07 R226; 07 R227) -/
def Obligations.EdgesOpenAndCloseWithDeadTime : Prop :=
  ∀ (s : State) (c : Chan) (h : HbIx) (rise : Bool) (off : Nat), s.runs = true →
    (s.switches c.val h.val = true → s.vpCarrier c.val = false →
      ((s.hb c.val h.val).p = (!rise) → (s.hb c.val h.val).vpNext = false →
        dutyOf (s.rd (A.PWM_ACTLO c.val h.val)) ≠ 0 → dutyOf (s.rd (A.PWM_ACTLO c.val h.val)) ≠ dutyOne →
        (s.pulseDrops c.val h.val rise = false → completes (.pulseEdge c h rise off) s fun t =>
          t.hb c.val h.val = { s.hb c.val h.val with p := rise, e := false } ∧
          (s.phaseClips c.val h.val rise = true → Raised (F.PWM_STAT_PH_CLIP c.val) s t) ∧
          (s.phaseClips c.val h.val rise = false → t.rd (A.PWM_STAT c.val) = s.rd (A.PWM_STAT c.val)) ∧
          (t.gate c.val h.val).hi = (t.gateCmd c.val h.val).1 ∧ (t.gate c.val h.val).lo = (t.gateCmd c.val h.val).2 ∧
          Frame true [.chan c.val] (· = A.PWM_STAT c.val) s t) ∧
        (s.pulseDrops c.val h.val rise = true → completes (.pulseEdge c h rise off) s fun t =>
          Counted (F.PWM_DROP_CNT_DROP c.val) s t ∧ t.flag (F.PWM_STAT_DROP c.val) = true ∧
          Frame true [] (· ∈ [A.PWM_STAT c.val, A.PWM_DROP_CNT c.val]) s t)) ∧
      (dutyOf (s.rd (A.PWM_ACTLO c.val h.val)) = 0 ∨ dutyOf (s.rd (A.PWM_ACTLO c.val h.val)) = dutyOne →
        completes (.pulseEdge c h rise off) s fun t => Frame false [] (fun _ => False) s t)) ∧
    (s.switches c.val h.val = true → (s.hb c.val h.val).e = false → (s.hb c.val h.val).vpWait = false →
      (s.hb c.val h.val).vpNext = false → completes (.deadTimeEnd c h off) s fun t =>
        t.hb c.val h.val = { s.hb c.val h.val with e := true } ∧
        (t.gate c.val h.val).hi = (t.gateCmd c.val h.val).1 ∧ (t.gate c.val h.val).lo = (t.gateCmd c.val h.val).2 ∧
        Frame false [.chan c.val] (fun _ => False) s t) ∧
    (∀ k : Fin 128, completes (.delayLineCalibration c (some k)) s fun t =>
      t.get (F.PWM_CAL_TAPS c.val) = k.val ∧ t.flag (F.PWM_CAL_LOCK c.val) = true ∧ Counted (F.PWM_CAL_UPD c.val) s t ∧
      Frame false [] (· = A.PWM_CAL c.val) s t) ∧
    (completes (.delayLineCalibration c none) s fun t => Edited (A.PWM_CAL c.val) [(F.PWM_CAL_LOCK c.val, 0)] s t ∧
      Raised (F.PWM_STAT_CAL_FAIL c.val) s t ∧ Frame true [] (· ∈ [A.PWM_CAL c.val, A.PWM_STAT c.val]) s t)

/-- L2 trips whatever masks L1; L1 acts by its mode when unblanked; both feed the trip inputs and the capture units: For a device not in reset. An enabled L2 crossing makes its trip input active and sets the latch, or enters a latch already set. An unblanked L1 crossing, and a blanking end with L1 at 1, trips in mode 2, holds both outputs low until the next period in mode 1 with the hold recorded and counted, trips too when CBC_N periods in a row have held, and in mode 0 does neither. A blanked L1 does nothing more. A fall ends the trip input and begins its qualification time. Each crossing and fall that a capture unit selects counts there and records CAP. (08 R249; 08 R250; 08 R251; 08 R252; 08 R253; 08 R255; 08 R256; 08 R258; 08 R260; 08 R267) -/
def Obligations.ComparatorsTripHoldAndCapture : Prop :=
  ∀ (s : State) (c : Chan) (h : HbIx) (off : Nat), s.t.held = false →
    (s.flag (F.GDI_SNS_L2_EN c.val h.val) = true → completes (.l2Crossing c h off) s fun t =>
      t.bitOf ⟨A.GDI_IN c.val, 31, 0⟩ h.val = true ∧ (t.gate c.val h.val).l2 = true ∧
      (s.flag (F.GDI_STAT_TRIPPED c.val) = false → Latched c.val h.val 0 off s t) ∧
      (s.flag (F.GDI_STAT_TRIPPED c.val) = true → Entered c.val h.val 0 off s t) ∧
      Frame true [.chan c.val] (fun a => tripWords c.val a ∨ a ∈ [A.GDI_IN c.val, A.GDI_CAP c.val 0, A.GDI_CAP c.val 1]) s t) ∧
    (∀ x ∈ [Instr.l1Crossing c h off, .l1BlankingEnd c h off],
      (x = .l1Crossing c h off → (s.gate c.val h.val).blanked = false) →
      (x = .l1BlankingEnd c h off → (s.gate c.val h.val).blanked = true ∧ (s.gate c.val h.val).l1 = true) →
      (s.get (F.GDI_SNS_L1_MODE c.val h.val) = 2 → completes x s fun t =>
        (s.flag (F.GDI_STAT_TRIPPED c.val) = false → Latched c.val (0x10 + h.val) 0 off s t) ∧
        (s.flag (F.GDI_STAT_TRIPPED c.val) = true → Entered c.val (0x10 + h.val) 0 off s t) ∧
        Frame true [.chan c.val] (fun a => tripWords c.val a ∨ a ∈ [A.GDI_IN c.val, A.GDI_CAP c.val 0, A.GDI_CAP c.val 1]) s t) ∧
      (s.get (F.GDI_SNS_L1_MODE c.val h.val) = 1 → completes x s fun t =>
        t.bitOf (F.GDI_STAT_CBC_HOLD c.val) h.val = true ∧ Counted (F.GDI_CNT2_CBC_CNT c.val) s t ∧
        t.flag (F.GDI_EVT_CBC c.val) = true ∧ (s.isStatic c.val h.val = false → (t.gate c.val h.val).hi = false ∧ (t.gate c.val h.val).lo = false) ∧
        (t.gate c.val h.val).cbcNow = true ∧
        (t.gate c.val h.val).cbcRun = (s.gate c.val h.val).cbcRun + b2n (!(s.gate c.val h.val).cbcNow) ∧
        (s.flag (F.GDI_STAT_TRIPPED c.val) = false → (s.get (F.GDI_SNS_CBC_N c.val h.val) ≠ 0 ∧
            s.get (F.GDI_SNS_CBC_N c.val h.val) ≤ (s.gate c.val h.val).cbcRun + b2n (!(s.gate c.val h.val).cbcNow) →
          Latched c.val (0x10 + h.val) 0 off s t) ∧
          (s.get (F.GDI_SNS_CBC_N c.val h.val) = 0 → t.flag (F.GDI_STAT_TRIPPED c.val) = false ∧ t.cst c.val = s.cst c.val))) ∧
      (s.get (F.GDI_SNS_L1_MODE c.val h.val) = 0 → completes x s fun t =>
        Frame true [.chan c.val] (· ∈ [A.GDI_IN c.val, A.GDI_STAT c.val, A.GDI_EVT c.val, A.GDI_CAP c.val 0, A.GDI_CAP c.val 1]) s t ∧
        t.flag (F.GDI_STAT_TRIPPED c.val) = s.flag (F.GDI_STAT_TRIPPED c.val))) ∧
    ((s.gate c.val h.val).blanked = true → completes (.l1Crossing c h off) s fun t => (t.gate c.val h.val).l1 = true ∧
      Frame true [.chan c.val] (· ∈ [A.GDI_IN c.val, A.GDI_STAT c.val, A.GDI_EVT c.val, A.GDI_CAP c.val 0, A.GDI_CAP c.val 1]) s t ∧
      t.flag (F.GDI_STAT_TRIPPED c.val) = s.flag (F.GDI_STAT_TRIPPED c.val)) ∧
    (∀ l2 : Bool, completes (.comparatorOutputFall c h l2 off) s fun t =>
      t.bitOf ⟨A.GDI_IN c.val, 31, 0⟩ (srcBit (if l2 then h.val else 0x10 + h.val)) = false ∧
      (s.bitOf ⟨A.GDI_IN c.val, 31, 0⟩ (srcBit (if l2 then h.val else 0x10 + h.val)) = true → (t.chn c.val).inClearAt = s.clk off) ∧
      (if l2 then (t.gate c.val h.val).l2 else (t.gate c.val h.val).l1) = false ∧
      Frame true [.chan c.val] (· ∈ [A.GDI_IN c.val, A.GDI_STAT c.val, A.GDI_EVT c.val, A.GDI_CAP c.val 0, A.GDI_CAP c.val 1]) s t) ∧
    (∀ (u : Fin 2), s.flag (F.GDI_CAPCFG_EN c.val u.val) = true → s.get (F.GDI_CAPCFG_HB c.val u.val) = h.val →
      (s.flag (F.GDI_CAPCFG_LVL c.val u.val) = true → s.flag (F.GDI_CAPCFG_EDGE c.val u.val) = false →
        completes (.l2Crossing c h off) s fun t => Counted (F.GDI_CAP_COUNT c.val u.val) s t ∧ t.flag (F.GDI_EVT_CAP c.val) = true) ∧
      (s.flag (F.GDI_CAPCFG_LVL c.val u.val) = false → s.flag (F.GDI_CAPCFG_EDGE c.val u.val) = false →
        completes (.l1Crossing c h off) s fun t => Counted (F.GDI_CAP_COUNT c.val u.val) s t ∧ t.flag (F.GDI_EVT_CAP c.val) = true) ∧
      (s.flag (F.GDI_CAPCFG_EDGE c.val u.val) = true →
        completes (.comparatorOutputFall c h (s.flag (F.GDI_CAPCFG_LVL c.val u.val)) off) s fun t =>
          Counted (F.GDI_CAP_COUNT c.val u.val) s t ∧ t.flag (F.GDI_EVT_CAP c.val) = true))

/-- A fall of the enable drives the channel off, and only a rise after both qualification times clears the latch: For a device not in reset. A fall of CHn_ENA with the effective enable high lowers it, starts the off-drive and takes a running channel to OFF. A rise with SW_EN at 0 changes only the pin. A rise with SW_EN at 1 raises the effective enable; with the latch set it clears it, with CLR_OK, when the enable was low for 10 microseconds and every trip input has been inactive for CLRQ; otherwise the latch stays set, CLR_SHORT or CLR_REFUSED or both are set, SEQ counting for each, and CLR_REF_CNT counts once. The end of the off-drive leaves the outputs in high impedance. (08 R256; 08 R259; 08 R260; 04 R126; 06 R182) -/
def Obligations.TripsClearOnlyByAGoodToggle : Prop :=
  ∀ (s : State) (c : Chan) (off : Nat), s.t.held = false →
    (s.effEn c.val = true → completes (.chnEnaFall c off) s fun t => t.effEn c.val = false ∧ t.flag (F.GDI_STAT_ENA_PIN c.val) = false ∧
      (t.chn c.val).offDrive = true ∧ (t.chn c.val).enaLowAt = s.clk off ∧
      (s.cst c.val = sPRECHARGE ∨ s.cst c.val = sSYNC ∨ s.cst c.val = sACTIVE →
        t.cst c.val = sOFF ∧ (s.role c.val = rGRID ∨ s.isDc c.val = true → t.refuseCode c.val = kTRIP)) ∧
      t.flag (F.GDI_STAT_TRIPPED c.val) = s.flag (F.GDI_STAT_TRIPPED c.val) ∧
      Frame true [.chan c.val] (fun a => a = A.GDI_STAT c.val ∨ a ∈ offWords c.val) s t) ∧
    (s.flag (F.GDI_STAT_ENA_PIN c.val) = false →
      (s.flag (F.GDI_CTRL_SW_EN c.val) = false → completes (.enableRisingEdge c off) s fun t =>
        Edited (A.GDI_STAT c.val) [(F.GDI_STAT_ENA_PIN c.val, 1)] s t ∧ Frame false [] (· = A.GDI_STAT c.val) s t) ∧
      (s.flag (F.GDI_CTRL_SW_EN c.val) = true →
        (s.flag (F.GDI_STAT_TRIPPED c.val) = false → completes (.enableRisingEdge c off) s fun t =>
          Edited (A.GDI_STAT c.val) [(F.GDI_STAT_ENA_PIN c.val, 1), (F.GDI_STAT_EFF_EN c.val, 1)] s t ∧
          Frame false [] (· = A.GDI_STAT c.val) s t) ∧
        (s.flag (F.GDI_STAT_TRIPPED c.val) = true →
          (∀ short refused : Bool, short = decide (s.clk off < (s.chn c.val).enaLowAt + usClk 10) →
            refused = (s.flag (F.GDI_STAT_IN_ACTIVE c.val) ||
              decide (s.clk off < (s.chn c.val).inClearAt + usClk (s.get (F.GDI_CLRQ_CLRQ c.val)))) →
            (short = false → refused = false → completes (.enableRisingEdge c off) s fun t =>
              t.flag (F.GDI_STAT_TRIPPED c.val) = false ∧ t.effEn c.val = true ∧ Raised (F.GDI_EVT_CLR_OK c.val) s t ∧
              t.rd (A.GDI_SRC c.val) = s.rd (A.GDI_SRC c.val) ∧ t.rd (A.GDI_CNT c.val) = s.rd (A.GDI_CNT c.val) ∧
              Frame true [] (· ∈ [A.GDI_STAT c.val, A.GDI_EVT c.val]) s t) ∧
            (short = true ∨ refused = true → completes (.enableRisingEdge c off) s fun t =>
              t.flag (F.GDI_STAT_TRIPPED c.val) = true ∧ t.effEn c.val = true ∧ Counted (F.GDI_CNT_CLR_REF_CNT c.val) s t ∧
              (short = true → t.flag (F.GDI_EVT_CLR_SHORT c.val) = true) ∧
              (refused = true → t.flag (F.GDI_EVT_CLR_REFUSED c.val) = true) ∧
              bits (t.rd (A.GDI_EVT c.val)) 31 24 = (bits (s.rd (A.GDI_EVT c.val)) 31 24 + b2n short + b2n refused) % 256 ∧
              Frame true [] (· ∈ [A.GDI_STAT c.val, A.GDI_EVT c.val, A.GDI_CNT c.val]) s t))))) ∧
    (completes (.offDriveEnd c) s fun t => (t.chn c.val).offDrive = false ∧
      (s.flag (F.GDI_STAT_TRIPPED c.val) = true ∨ s.effEn c.val = false → ∀ h : HbIx, t.gateBalls c.val h.val = (.z, .z)) ∧
      Frame false [.chan c.val] (fun _ => False) s t)

/-- Link faults, simultaneous commands and phase-group violations hold outputs low, are recorded and counted: For a device not in reset. A link fault drives both outputs of the half-bridge low, sets LINK_ERR and counts; its end lets them follow the commands again, and with no fault left the LINK trip input ends; a fault that lasts 1 microsecond makes the input active and enters the trip latch as LINK. Simultaneous commands keep both outputs low, set SHOOT and count. A phase-group rule that applies to the group's type holds the named switch low, sets PG_VIOL and counts; without a group no rule acts. (08 R245; 08 R246; 08 R248; 08 R255) -/
def Obligations.LinkFaultsAndInterlocksHoldOutputsLow : Prop :=
  ∀ (s : State) (c : Chan) (h : HbIx) (off : Nat), s.t.held = false →
    (completes (.linkCheckFault c h) s fun t => (t.gate c.val h.val).linkErr = true ∧ (t.gate c.val h.val).hi = false ∧
      (t.gate c.val h.val).lo = false ∧ Counted (F.GDI_CNT2_LINK_CNT c.val) s t ∧ Raised (F.GDI_EVT_LINK_ERR c.val) s t ∧
      Frame true [.chan c.val] (· ∈ [A.GDI_CNT2 c.val, A.GDI_EVT c.val]) s t) ∧
    (completes (.linkFaultEnd c h) s fun t => (t.gate c.val h.val).linkErr = false ∧
      (t.gate c.val h.val).hi = (t.gateCmd c.val h.val).1 ∧ (t.gate c.val h.val).lo = (t.gateCmd c.val h.val).2 ∧
      ((∀ k : HbIx, k ≠ h → (s.gate c.val k.val).linkErr = false) → t.bitOf ⟨A.GDI_IN c.val, 31, 0⟩ (srcBit 0x23) = false) ∧
      Frame false [.chan c.val] (· ∈ [A.GDI_IN c.val, A.GDI_STAT c.val]) s t) ∧
    ((s.gate c.val h.val).linkErr = true → completes (.linkTrip c h off) s fun t =>
      t.bitOf ⟨A.GDI_IN c.val, 31, 0⟩ (srcBit 0x23) = true ∧
      (s.flag (F.GDI_STAT_TRIPPED c.val) = false → Latched c.val 0x23 0 off s t) ∧
      (s.flag (F.GDI_STAT_TRIPPED c.val) = true → Entered c.val 0x23 0 off s t) ∧
      Frame true [.chan c.val] (fun a => tripWords c.val a ∨ a = A.GDI_IN c.val) s t) ∧
    (completes (.shootThroughBlock c h) s fun t => (t.gate c.val h.val).shoot = true ∧ (t.gate c.val h.val).hi = false ∧
      (t.gate c.val h.val).lo = false ∧ Counted (F.GDI_ICNT_SHOOT_CNT c.val) s t ∧ Raised (F.GDI_EVT_SHOOT c.val) s t ∧
      Frame true [.chan c.val] (· ∈ [A.GDI_ICNT c.val, A.GDI_EVT c.val]) s t) ∧
    (∀ (g : Fin 3) (v : PgViol),
      (s.pgType c.val g.val = (match v with | .t1 | .t4 | .t2Off | .t3Off => 1 | .t1t4 _ | .both => 2) →
        completes (.phaseGroupInterlock c g v) s fun t =>
          ((v = .t1 ∨ v = .t2Off ∨ v = .both ∨ v = .t1t4 false) →
            (t.gate c.val (2 * g.val)).pgHi = true ∧ (s.isStatic c.val (2 * g.val) = false → (t.gate c.val (2 * g.val)).hi = false)) ∧
          ((v = .t4 ∨ v = .t3Off ∨ v = .both ∨ v = .t1t4 true) →
            (t.gate c.val (2 * g.val + 1)).pgLo = true ∧ (s.isStatic c.val (2 * g.val + 1) = false → (t.gate c.val (2 * g.val + 1)).lo = false)) ∧
          Counted (F.GDI_ICNT_PG_CNT c.val) s t ∧ Raised (F.GDI_EVT_PG_VIOL c.val) s t ∧
          Frame true [.chan c.val] (· ∈ [A.GDI_ICNT c.val, A.GDI_EVT c.val]) s t) ∧
      (s.pgType c.val g.val = 0 → completes (.phaseGroupInterlock c g v) s fun t => Frame false [] (fun _ => False) s t))

/-- A comparator self-check runs where it may, a failure holds the half-bridge low, and three passes end the hold: For a device not in reset. A check of an eligible SNS begins; of one that is not eligible nothing begins. The end of a failed check sets CHK_HOLD of the half-bridge and CHK_FAIL, forgets its passes and raises the replacement cause COMP_CHK. The end of a passed check counts it; the third in a row of a held half-bridge ends the hold, and the cause with the last hold of the device. (08 R263; 08 R264; 08 R265; 08 R266; 12 R359) -/
def Obligations.SelfChecksHoldAndReleaseOutputs : Prop :=
  ∀ (s : State) (c : Chan) (h : HbIx), s.t.held = false →
    (s.chkEligible c.val h.val = true → completes (.comparatorSelfCheck c h) s fun t => (t.gate c.val h.val).checking = true ∧
      Frame false [.chan c.val] (fun _ => False) s t) ∧
    (s.chkEligible c.val h.val = false → completes (.comparatorSelfCheck c h) s fun t => Frame false [] (fun _ => False) s t) ∧
    ((s.gate c.val h.val).checking = true →
      (completes (.selfCheckEnd c h false) s fun t => t.bitOf (F.GDI_STAT_CHK_HOLD c.val) h.val = true ∧
        Raised (F.GDI_EVT_CHK_FAIL c.val) s t ∧ t.bitOf F.HEALTH_SRQ_CAUSE cCOMP = true ∧
        (t.gate c.val h.val).passes = 0 ∧ (t.gate c.val h.val).checking = false ∧
        Frame true [.chan c.val, .nv, .t] (· ∈ [A.GDI_STAT c.val, A.GDI_EVT c.val, A.HEALTH_SRQ, A.HEALTH_EVT]) s t) ∧
      (s.bitOf (F.GDI_STAT_CHK_HOLD c.val) h.val = true → 2 ≤ (s.gate c.val h.val).passes → completes (.selfCheckEnd c h true) s fun t =>
        t.bitOf (F.GDI_STAT_CHK_HOLD c.val) h.val = false ∧
        ((∀ k : Chan, t.get (F.GDI_STAT_CHK_HOLD k.val) = 0) → t.bitOf F.HEALTH_SRQ_CAUSE cCOMP = false) ∧
        Frame true [.chan c.val, .nv, .t] (· ∈ [A.GDI_STAT c.val, A.HEALTH_SRQ, A.HEALTH_EVT]) s t) ∧
      ((s.bitOf (F.GDI_STAT_CHK_HOLD c.val) h.val = false ∨ (s.gate c.val h.val).passes < 2) → completes (.selfCheckEnd c h true) s fun t =>
        (t.gate c.val h.val).passes = (s.gate c.val h.val).passes + 1 ∧ (t.gate c.val h.val).checking = false ∧
        Frame false [.chan c.val] (fun _ => False) s t))

/-- An increment of an accumulator is kept exactly in its fraction, its count and its wrap counter: For every point, accumulator and increment: the number that fraction, 64-bit count and 16-bit wrap counter form together rises by exactly the increment, modulo its whole width; the other accumulators keep theirs. The fraction of 32 bits and the unbounded increment of one call are the model's form of the addition in phase 4. (09 R274; 09 R277; 10 R302) -/
def Obligations.AccumulatorsLoseNothing : Prop :=
  ∀ (s : State) (p : Point) (a : Ix16) (n : Nat), ((s.mtr p.val).frac[a.val]?.getD 0) < 2 ^ 32 → ∀ t, s.accAdd p.val a.val n = t →
    ((t.mtr p.val).frac[a.val]?.getD 0) + 2 ^ 32 * (t.get64 (A.METER_ACC_LO p.val a.val) + 2 ^ 64 *
        (if a.val % 2 = 0 then t.get (F.METER_WRAP_WRAP_LO p.val (a.val / 2)) else t.get (F.METER_WRAP_WRAP_HI p.val (a.val / 2)))) =
      (((s.mtr p.val).frac[a.val]?.getD 0) + 2 ^ 32 * (s.get64 (A.METER_ACC_LO p.val a.val) + 2 ^ 64 *
        (if a.val % 2 = 0 then s.get (F.METER_WRAP_WRAP_LO p.val (a.val / 2)) else s.get (F.METER_WRAP_WRAP_HI p.val (a.val / 2)))) + n)
        % 2 ^ 112 ∧
    Frame false [.meter p.val] (· ∈ [A.METER_ACC_LO p.val a.val, A.METER_ACC_LO p.val a.val + 4, A.METER_WRAP p.val (a.val / 2)]) s t ∧
    ∀ b : Ix16, b ≠ a → (t.mtr p.val).frac[b.val]? = (s.mtr p.val).frac[b.val]?

/-- A completed window becomes the 10/12-cycle value, fifteen make the 150/180-cycle value, and the boundary closes 10 min: For a running device. A window of a point in use becomes its 10/12-cycle value, counts, and joins the sums of both longer intervals; the fifteenth gives the 150/180-cycle value and starts its sum afresh. The 10 min boundary gives the 10 min value of the sum, counts, and starts both sums afresh; a window in progress closes first and begins the new 10 min. TSRC tells whether the time is locked, and the readout words are those of the interval that AGG selects. The end of 10 s sets FREQ10S, 0.0 for a DC point. A point out of use stays as it is. (09 R273; 09 R285; 09 R286; 09 R287; 09 R288) -/
def Obligations.WindowsAggregateIntoIntervals : Prop :=
  ∀ (s : State) (p : Point) (x : WindowIn), s.runs = true →
    (s.mtype p.val ≠ 0 →
      (completes (.harmonicWindowEnd p x) s fun t => (t.mtr p.val).shown[0]? = some (Ival.ofWindow x) ∧
        Counted (F.METER_INTV_N1012 p.val) s t ∧ t.flag (F.METER_STAT_TSRC p.val) = (!s.ptpLocked) ∧
        (((s.mtr p.val).sums[0]?.getD ({} : Ival)).n < 14 → (t.mtr p.val).sums[0]? = some (((s.mtr p.val).sums[0]?.getD ({} : Ival)).add (Ival.ofWindow x)) ∧
          (t.mtr p.val).shown[1]? = (s.mtr p.val).shown[1]?) ∧
        (14 ≤ ((s.mtr p.val).sums[0]?.getD ({} : Ival)).n → (t.mtr p.val).sums[0]? = some ({} : Ival) ∧
          (t.mtr p.val).shown[1]? = some (((s.mtr p.val).sums[0]?.getD ({} : Ival)).add (Ival.ofWindow x)).out) ∧
        (t.mtr p.val).sums[1]? = some (((s.mtr p.val).sums[1]?.getD ({} : Ival)).add (Ival.ofWindow x)) ∧
        (∀ i : Fin 32, i.val ≠ 30 → t.rd (A.METER_WIN p.val i.val) =
          s.roWord p.val (((t.mtr p.val).shown[s.get (F.METER_CFG_AGG p.val)]?).getD ({} : Ival)) i.val &&& implMask (A.METER_WIN p.val i.val)) ∧
        Frame true [.meter p.val, .host] (fun a => a = A.METER_STAT p.val ∨ a = A.METER_EVT p.val ∨ a = A.METER_INTV p.val ∨
          (∃ i, i < 128 ∧ (a = A.METER_WIN p.val i ∨ a = A.HARM_DATA p.val i ∨ a = A.HARM_DATA_I p.val i ∨ a = A.SUPRA p.val i))) s t) ∧
      (completes (.tenMinBoundary []) s fun t => (t.mtr p.val).shown[2]? = some ((s.mtr p.val).sums[1]?.getD ({} : Ival)).out ∧
        (t.mtr p.val).sums[0]? = some ({} : Ival) ∧ (t.mtr p.val).sums[1]? = some ({} : Ival) ∧ Counted (F.METER_INTV_N10M p.val) s t ∧
        t.flag (F.METER_STAT_TSRC p.val) = !s.ptpLocked) ∧
      (completes (.tenMinBoundary [(p, x)]) s fun t => (t.mtr p.val).shown[0]? = some (Ival.ofWindow x) ∧
        (t.mtr p.val).shown[2]? = some (((s.mtr p.val).sums[1]?.getD ({} : Ival)).add (Ival.ofWindow x)).out ∧
        (t.mtr p.val).sums[1]? = some (Ival.add ({} : Ival) (Ival.ofWindow x)) ∧ Counted (F.METER_INTV_N1012 p.val) s t ∧
        Counted (F.METER_INTV_N10M p.val) s t) ∧
      (∀ f : Word, completes (.freq10sEnd p f) s fun t =>
        t.rd (A.METER_WIN p.val 30) = (if s.mtype p.val = 3 then fZero else f) &&& implMask (A.METER_WIN p.val 30) ∧
        Frame false [] (· = A.METER_WIN p.val 30) s t)) ∧
    (s.mtype p.val = 0 →
      (completes (.harmonicWindowEnd p x) s fun t => Frame false [] (fun _ => False) s t) ∧
      (∀ f : Word, completes (.freq10sEnd p f) s fun t => Frame false [] (fun _ => False) s t) ∧
      completes (.tenMinBoundary [(p, x)]) s fun t => t.mtr p.val = s.mtr p.val ∧ t.rd (A.METER_INTV p.val) = s.rd (A.METER_INTV p.val))

/-- A pulse of an energy output goes out once, in order, and not after a power failure: For a running device and pulse output j that is on, with no pulse under way and no power failure standing. The first scheduled pulse whose time, or 125 microseconds after the last emission if that is later, is not after the end of the tick goes out: it leaves the schedule, CNT counts and PEND falls by one. Pulses restored from a record go out before it. The end of a pulse lets the next go out. With the output off, a pulse under way, or a power failure standing, nothing goes out. (09 R292; 09 R294; 10 R309; 10 R313) -/
def Obligations.EnergyPulsesGoOutInOrder : Prop :=
  ∀ (s : State) (j : Fin 4), s.runs = true → ∀ e, s.epl j.val = e →
    (bit (s.epulCfg j.val) 0 = true → e.on = false → s.er.stopNext = false → s.er.stopAt = none →
      (∀ x : Nat × Bool, e.sched.head? = some x → e.old = 0 → e.lastEm = none → x.1 ≤ s.t.start + s.t.len →
        completes (.pulseEmission j) s fun t => (t.epl j.val).sched = e.sched.tail ∧ (t.epl j.val).on = true ∧ (t.epl j.val).lastEm = some x.1 ∧
          Counted (F.EPUL_CNT_CNT j.val) s t ∧ t.get (F.EPUL_PEND_PEND j.val) = s.get (F.EPUL_PEND_PEND j.val) - 1 ∧
          Frame false [.epul j.val] (· ∈ [A.EPUL_CNT j.val, A.EPUL_PEND j.val, A.EPUL_STAT j.val]) s t) ∧
      (∀ (x : Nat × Bool) (m : Nat), e.sched.head? = some x → e.old = 0 → e.lastEm = some m →
        (max x.1 (m + 100000) ≤ s.t.start + s.t.len →
          completes (.pulseEmission j) s fun t => (t.epl j.val).sched = e.sched.tail ∧ (t.epl j.val).lastEm = some (max x.1 (m + 100000)) ∧
            Counted (F.EPUL_CNT_CNT j.val) s t ∧ t.get (F.EPUL_PEND_PEND j.val) = s.get (F.EPUL_PEND_PEND j.val) - 1) ∧
        (s.t.start + s.t.len < max x.1 (m + 100000) → completes (.pulseEmission j) s fun t => Frame false [] (fun _ => False) s t)) ∧
      (e.old ≠ 0 → e.lastEm = none → s.t.start + s.t.len ≥ s.clk → completes (.pulseEmission j) s fun t =>
        (t.epl j.val).old = e.old - 1 ∧ (t.epl j.val).sched = e.sched ∧ Counted (F.EPUL_CNT_CNT j.val) s t)) ∧
    ((bit (s.epulCfg j.val) 0 = false ∨ e.on = true ∨ s.er.stopNext = true ∨ s.er.stopAt ≠ none) →
      completes (.pulseEmission j) s fun t => Frame false [] (fun _ => False) s t) ∧
    (completes (.pulseEnd j) s fun t => (t.epl j.val).on = false ∧ (t.epl j.val).sched = e.sched ∧
      Frame false [.epul j.val] (fun _ => False) s t)

/-- A record is written, read back and named by the pointer flip; only then is it the head: For a running device with open books. SAVE_MS after the last commit a PERIODIC commit begins in the next slot of the ring, or waits for the commit that runs; the first commit of a later day is a SNAPSHOT. In WAKE and SERVICE a pending set begins a WRITE commit. A readback that is good leaves the record in its slot and starts the flip; a bad one moves the record to the next slot, twice; the third ends the commit with COMMIT_FAIL and its count, and three failed commits in a row raise the cause RECORDS. The flip makes the record the head: ER_HSEQ, ER_HTIME and the pointer block name it, and its pending increments leave the pending set. With the books stopped by a power failure the TAIL record is committed at once and becomes the head. (10 R303; 10 R304; 10 R305; 10 R306; 10 R308; 10 R309; 10 R310; 10 R311; 10 R318) -/
def Obligations.RecordsAreCommittedByReadbackAndFlip : Prop :=
  ∀ s : State, s.runs = true →
    (s.booksOpen = true → s.er.lastAt + msClk (s.get F.ER_CFG_SAVE_MS) ≤ s.clk → s.writeThrough = false → s.mode ≠ mBRUMATE →
      (s.er.commit = none → ∀ snap : Bool, snap = (match s.er.lastSnap with | some r => decide (dayOf r.time < dayOf s.devTime) | none => true) →
        completes .periodicCommit s fun t =>
          t.er.commit = some ⟨s.formRec (if snap then tSNAP else tPERIODIC) 0 s.er.unmet noLoss,
            if snap then 0x8000 + dayOf s.devTime % 400 else s.er.next, 0, false, s.pendAll⟩ ∧
          t.er.lastAt = s.clk ∧ t.er.next = (if snap then s.er.next else (s.er.next + 1) % 20) ∧ t.er.head = s.er.head ∧
          t.flag F.ER_STAT_BUSY = true ∧ Frame false [.er] (· = A.ER_STAT) s t) ∧
      (s.er.commit ≠ none → completes .periodicCommit s fun t => t.er = { s.er with due := true } ∧
        Frame false [.er] (fun _ => False) s t)) ∧
    (s.booksOpen = true → s.writeThrough = true → s.er.commit = none → s.pendAll.any (· != 0) = true →
      completes .writeThroughCommit s fun t => (t.er.commit.map fun k => (k.tries, k.flip, k.incs)) = some (0, false, s.pendAll) ∧
        (t.er.commit.map fun k => k.r.typ) ∈ [some tWRITE, some tSNAP] ∧
        t.flag F.ER_STAT_BUSY = true ∧ Frame false [.er] (· = A.ER_STAT) s t) ∧
    (∀ k : Commit, s.er.commit = some k → k.flip = false →
      (completes (.recordWriteComplete true) s fun t => t.er.at k.slot = some k.r ∧ t.er.commit = some { k with flip := true } ∧
        t.er.head = s.er.head ∧ Frame false [.er] (fun _ => False) s t) ∧
      (k.tries < 2 → completes (.recordWriteComplete false) s fun t => t.er.at k.slot = none ∧
        t.er.commit = some { k with slot := s.er.next, tries := k.tries + 1 } ∧ t.er.next = (s.er.next + 1) % 20 ∧
        t.er.head = s.er.head ∧ Frame false [.er] (fun _ => False) s t) ∧
      (2 ≤ k.tries → s.er.due = false → completes (.recordWriteComplete false) s fun t => t.er.commit = none ∧
        t.er.fails = s.er.fails + 1 ∧ t.er.head = s.er.head ∧ Counted F.ER_CNT_FAIL_CNT s t ∧ t.flag F.ER_STAT_BUSY = false ∧
        Raised F.ER_EVT_COMMIT_FAIL s t ∧ (2 ≤ s.er.fails → t.bitOf F.HEALTH_SRQ_CAUSE cRECORDS = true) ∧
        Frame true [.er] (· ∈ [A.ER_STAT, A.ER_CNT, A.ER_EVT, A.HEALTH_SRQ, A.HEALTH_EVT]) s t)) ∧
    (∀ k : Commit, s.er.commit = some k → k.flip = true → s.er.due = false →
      completes .pointerFlipComplete s fun t => t.er.head = some k.r ∧ t.er.commit = none ∧ t.er.fails = 0 ∧
        t.er.unmet = s.er.unmet - k.r.unmet ∧ t.get64 A.ER_HSEQ_LO = k.r.seq % 2 ^ 64 ∧ t.get64 A.ER_HTIME_LO = k.r.time % 2 ^ 64 ∧
        t.get64 A.KA_LREC_LO = k.r.time % 2 ^ 64 ∧ t.flag F.ER_STAT_BUSY = false ∧
        (∀ q : Ptr, t.er.ptr = some q → s.er.ptr = none → q.slot = k.slot ∧ q.hash = k.r.hash)) ∧
    (s.er.stopAt ≠ none → s.er.tail = false → s.er.commit = none →
      completes .tailCommit s fun t => t.er.head = some (s.formRec tTAIL 0 s.er.unmet noLoss) ∧ t.er.tail = true ∧
        t.er.at s.er.next = some (s.formRec tTAIL 0 s.er.unmet noLoss) ∧ t.flag F.ER_EVT_TAIL_REC = true ∧ t.er.next = (s.er.next + 1) % 20)

/-- A power failure that ends resumes the books at a boundary, and a calibration commit keeps its sets or the old ones: For a device not in reset with a power failure standing, the end of the detection clears PF, the warnings and the pin, records PF_RESUME, and asks the books to resume at the next tick boundary; without one it changes nothing. A calibration commit that no request waits for ends with its sets stored, or with the stored sets as they were when it failed. (09 R280; 10 R311) -/
def Obligations.PowerFailuresEndAndCalibrationIsKept : Prop :=
  ∀ s : State, s.t.held = false →
    (s.flag F.PWR_STAT_PF = true → completes .powerFailResume s fun t => t.flag F.PWR_STAT_PF = false ∧ t.get F.PWR_STAT_WARN = 0 ∧
      t.get F.PWR_STAT_OV = 0 ∧ t.flag F.PWR_STAT_PF_PIN = false ∧ t.flag F.PWR_EVT_PF_RESUME = true ∧ t.er = { s.er with resume := true } ∧
      Frame true [.er] (· ∈ [A.PWR_STAT, A.PWR_EVT, A.SYS_MODE]) s t) ∧
    (s.flag F.PWR_STAT_PF = false → completes .powerFailResume s fun t => Frame false [] (fun _ => False) s t) ∧
    (s.runs = true → ∀ l, s.er.calBusy = some l → s.er.calWid = 0 → ∀ ok : Bool, completes (.calSaveDone ok) s fun t =>
      t.er = { s.er with calBusy := none, cal := if ok then l else s.er.cal } ∧ Frame false [.er] (fun _ => False) s t)

/-- Each source makes Safe Gate Inhibit active with its own code, and a later one keeps the first cause: For a device not in reset. A demand on an input, a discrepancy with a demand present, a violation of SLC, SLD or SLS or an implausible SLS signal of a slice whose function is enabled in the image in force, a stuck or clockless input that it monitors, the third missed cross-check in a row, the oscillator monitor and a feedback fault make SGI active with the code and class of R329; where SGI is active already the cause and its count stay, and a reset whose feedback check runs is abandoned. A missed cross-check counts, and the first and second make nothing active. Without an image in force no limited function acts. (11 R324; 11 R325; 11 R326; 11 R327; 11 R329; 11 R330; 11 R333; 11 R335; 11 R336; 11 R337) -/
def Obligations.SourcesMakeSafeGateInhibitActive : Prop :=
  ∀ s : State, s.t.held = false →
    (∀ b : Bool, completes (.safeInDemand b) s fun t => Inhibited 0x01 0 false s t ∧
      (if b then t.safe.demB else t.safe.demA) = true ∧ t.flag (if b then F.SAFE_IO_IN_B else F.SAFE_IO_IN_A) = false ∧
      Frame true (.safe :: chanParts) (· ∈ sgiWords) s t) ∧
    ((s.safe.demA || s.safe.demB) = true → s.flag F.SAFE_IO_IN_A ≠ s.flag F.SAFE_IO_IN_B → s.safe.disc = false →
      completes .safeInDiscrepancy s fun t => Inhibited 0x02 0 false s t ∧ t.safe.disc = true ∧
        Frame true (.safe :: chanParts) (· ∈ sgiWords) s t) ∧
    (s.safe.disc = true → completes .discRelease s fun t => t.safe.disc = false ∧ t.safe.demA = false ∧ t.safe.demB = false ∧
      t.flag F.SAFE_IO_IN_A = true ∧ t.flag F.SAFE_IO_IN_B = true ∧ Frame false [.safe] (· = A.SAFE_IO) s t) ∧
    (∀ (img : List Word) (c : Chan), s.safe.inForce = some img →
      (slcEn img c.val = true → completes (.slcViolation c) s fun t => Inhibited 0x10 c.val false s t ∧
        t.flag (F.SAFE_SL_STAT_SLC_VIOL c.val) = true ∧ Frame true (.safe :: chanParts) (· ∈ A.SAFE_SL_STAT c.val :: sgiWords) s t) ∧
      (sldEn img c.val = true → completes (.sldViolation c) s fun t => Inhibited 0x11 c.val false s t ∧
        t.flag (F.SAFE_SL_STAT_SLD_VIOL c.val) = true ∧ Frame true (.safe :: chanParts) (· ∈ A.SAFE_SL_STAT c.val :: sgiWords) s t) ∧
      (slsEn img c.val = true →
        (completes (.slsViolation c) s fun t => Inhibited 0x12 c.val false s t ∧
          t.flag (F.SAFE_SL_STAT_SLS_VIOL c.val) = true ∧ Frame true (.safe :: chanParts) (· ∈ A.SAFE_SL_STAT c.val :: sgiWords) s t) ∧
        (completes (.slsSigFault c) s fun t => Inhibited 0x13 c.val false s t ∧
          t.flag (F.SAFE_SL_STAT_SLS_SIG c.val) = true ∧ Frame true (.safe :: chanParts) (· ∈ A.SAFE_SL_STAT c.val :: sgiWords) s t)) ∧
      (∀ m : MdIx, (monMask img c.val).testBit m.val = true →
        (completes (.islandInputStuck c m) s fun t => Inhibited 0x20 c.val false s t ∧
          t.flag (F.SAFE_SL_STAT_IN_FAULT c.val) = true ∧ Frame true (.safe :: chanParts) (· ∈ A.SAFE_SL_STAT c.val :: sgiWords) s t) ∧
        (completes (.islandMclkFault c) s fun t => Inhibited 0x21 c.val false s t ∧
          t.flag (F.SAFE_SL_STAT_IN_FAULT c.val) = true ∧ Frame true (.safe :: chanParts) (· ∈ A.SAFE_SL_STAT c.val :: sgiWords) s t))) ∧
    (s.safe.inForce = none → ∀ (c : Chan) (m : MdIx), ∀ x ∈ [Instr.slcViolation c, .sldViolation c, .slsViolation c, .slsSigFault c,
      .islandInputStuck c m, .islandMclkFault c], completes x s fun t => Frame false [] (fun _ => False) s t) ∧
    (s.safe.xmiss = 2 → completes .crossCheckMissed s fun t => Inhibited 0x23 0 false s t ∧ t.safe.xmiss = 3 ∧
      Counted F.SAFE_CNT2_XMISS_CNT s t ∧ t.flag F.SAFE_EVT_XCHK_FAIL = true ∧
      Frame true (.safe :: chanParts) (· ∈ A.SAFE_CNT2 :: sgiWords) s t) ∧
    (s.safe.xmiss ≠ 2 → completes .crossCheckMissed s fun t => t.safe = { s.safe with xmiss := s.safe.xmiss + 1 } ∧
      Counted F.SAFE_CNT2_XMISS_CNT s t ∧ Frame false [.safe] (· = A.SAFE_CNT2) s t) ∧
    (completes .oscFault s fun t => Inhibited 0x31 0 true s t ∧ Frame true (.safe :: chanParts) (· ∈ sgiWords) s t) ∧
    (∀ b : Bool, completes (.fbFault b) s fun t => Inhibited 0x30 0 true s t ∧ t.flag F.SAFE_EVT_FB_FAIL = true ∧
      Frame true (.safe :: chanParts) (· ∈ sgiWords) s t)

/-- SGI ends only after a SAFE_RST pulse that meets every condition and a feedback check that passes: For a device not in reset. With SGI active and no feedback check running, a pulse of SAFE_RST that meets every condition drives both outputs high and sets RST_OK; otherwise the first failing reason is recorded, RST_REJ is set and counted, and the outputs stay; in neither case does SGI end. While SGI is not active a pulse records nothing. The feedback check with both feedbacks high ends SGI and puts a pending image in force; with one low SGI stays, with a feedback fault of class D. An off-pulse drives its output low, and its end drives it high, with a feedback fault where the feedback does not read high; none begins while SGI is active. A level of more than 5 s sets RST_STUCK and changes nothing else of SGI. (11 R332; 11 R338; 11 R339) -/
def Obligations.OnlyAGoodPulseResetsSafeGateInhibit : Prop :=
  ∀ s : State, s.t.held = false →
    (∀ (us : Nat) (x : IslandIn), s.flag F.SAFE_STAT_SGI = true → s.safe.rst = false →
      ∀ k, (s.islandView { x with rst := false }).rstReason us = k →
      (k = 0 → completes (.safeRstFallingEdge us x) s fun t => t.flag F.SAFE_IO_OUT_A = true ∧ t.flag F.SAFE_IO_OUT_B = true ∧
        t.safe.rst = true ∧ t.flag F.SAFE_STAT_SGI = true ∧ Raised F.SAFE_EVT_RST_OK s t) ∧
      (k ≠ 0 → completes (.safeRstFallingEdge us x) s fun t => t.get F.SAFE_IO_RST_WHY = k ∧ t.safe.rst = false ∧
        t.flag F.SAFE_IO_OUT_A = s.flag F.SAFE_IO_OUT_A ∧ t.flag F.SAFE_IO_OUT_B = s.flag F.SAFE_IO_OUT_B ∧
        t.flag F.SAFE_STAT_SGI = true ∧ Counted F.SAFE_CNT_RST_REJ_CNT s t ∧ Raised F.SAFE_EVT_RST_REJ s t)) ∧
    (∀ (us : Nat) (x : IslandIn), s.flag F.SAFE_STAT_SGI = false → completes (.safeRstFallingEdge us x) s fun t =>
      t.flag F.SAFE_STAT_SGI = false ∧ t.rd A.SAFE_EVT = s.rd A.SAFE_EVT ∧ t.rd A.SAFE_CNT = s.rd A.SAFE_CNT ∧ t.log = s.log) ∧
    (s.safe.rst = true → ∀ fa fb : Bool,
      ((fa && fb) = true → completes (.resetFeedbackCheck fa fb) s fun t => t.flag F.SAFE_STAT_SGI = false ∧ t.safe.rst = false ∧
        t.safe.inForce = (if s.flag F.SAFE_STAT_PEND then s.safe.nv.img else s.safe.inForce) ∧ t.flag F.SAFE_STAT_PEND = false ∧
        t.log = s.log) ∧
      ((fa && fb) = false → s.flag F.SAFE_STAT_SGI = true → completes (.resetFeedbackCheck fa fb) s fun t =>
        Inhibited 0x30 0 true s t ∧ t.flag F.SAFE_EVT_FB_FAIL = true ∧ t.flag F.SAFE_IO_OUT_A = false ∧ t.flag F.SAFE_IO_OUT_B = false)) ∧
    (∀ b : Bool, (s.flag F.SAFE_STAT_SGI = false → s.safe.testA = false → s.safe.testB = false →
        completes (.offPulseTest b) s fun t => t.flag (if b then F.SAFE_IO_OUT_B else F.SAFE_IO_OUT_A) = false ∧
          t.flag (if b then F.SAFE_IO_OUT_A else F.SAFE_IO_OUT_B) = s.flag (if b then F.SAFE_IO_OUT_A else F.SAFE_IO_OUT_B) ∧
          (if b then t.safe.testB else t.safe.testA) = true ∧ t.flag F.SAFE_STAT_SGI = false ∧ Frame false [.safe] (· = A.SAFE_IO) s t) ∧
      (s.flag F.SAFE_STAT_SGI = true → completes (.offPulseTest b) s fun t => Frame false [] (fun _ => False) s t) ∧
      ((if b then s.safe.testB else s.safe.testA) = true →
        (completes (.offPulseRestore b true) s fun t => t.flag (if b then F.SAFE_IO_OUT_B else F.SAFE_IO_OUT_A) = true ∧
          t.flag (if b then F.SAFE_IO_FB_B else F.SAFE_IO_FB_A) = true ∧ (if b then t.safe.testB else t.safe.testA) = false ∧
          Frame false [.safe] (· = A.SAFE_IO) s t) ∧
        (s.flag F.SAFE_STAT_SGI = false → completes (.offPulseRestore b false) s fun t => Inhibited 0x30 0 true s t))) ∧
    (completes .safeRstStuck s fun t => t.flag F.SAFE_IO_RST = true ∧ Raised F.SAFE_EVT_RST_STUCK s t ∧
      t.rd A.SAFE_STAT = s.rd A.SAFE_STAT ∧ Frame true [] (· ∈ [A.SAFE_IO, A.SAFE_EVT]) s t)

/-- The unlock expires, the block ends, and a committed image waits for the next accepted reset: For a running device. Ten minutes after the last safety operation of its session the unlock ends and a staged image is dropped; before that it stays. The block after three wrong passwords ends when its 15 minutes are over. A commit that ends well stores the image on the M-die with a change-log entry, sets PEND and CFG_COMMIT, and leaves the image in force as it was; one that fails leaves the stored image, the change log and PEND. No request is assumed to wait for the commit. (11 R342; 11 R343; 11 R344) -/
def Obligations.SafetyConfigurationTimesAndCommits : Prop :=
  ∀ s : State, s.runs = true →
    (∀ i : Nat, s.safe.owner = some i →
      (s.safe.opAt + usClk 600000000 ≤ s.clk → completes .safeUnlockExpiry s fun t =>
        t.safe = { s.safe with owner := none, staged := none } ∧ Edited A.SAFE_STAT [(F.SAFE_STAT_UNLOCKED, 0)] s t ∧
        Frame false [.safe] (· = A.SAFE_STAT) s t) ∧
      (s.clk < s.safe.opAt + usClk 600000000 → completes .safeUnlockExpiry s fun t => Frame false [] (fun _ => False) s t)) ∧
    (∀ k : Nat, s.safe.blockAt = some k → k + usClk 900000000 ≤ s.clk → completes .unlockBlockEnd s fun t =>
      t.safe = { s.safe with blockAt := none, wrong := 0 } ∧ Frame false [.safe] (fun _ => False) s t) ∧
    (∀ k : Nat, s.safe.blockAt = some k → k ≤ s.clk → s.clk < k + usClk 900000000 → completes .unlockBlockEnd s fun t =>
      Frame false [] (fun _ => False) s t) ∧
    (∀ (img : List Word) (i port : Nat), s.safe.commit = some (img, i, port) → s.host.work = [] →
      (completes (.safeCommitDone true) s fun t => t.safe.nv.img = some img ∧ t.safe.commit = none ∧ t.safe.inForce = s.safe.inForce ∧
        t.flag F.SAFE_STAT_PEND = true ∧ t.flag F.SAFE_EVT_CFG_COMMIT = true ∧
        (t.safe.nv.log.head?.map fun e => (e.ses, e.port, e.op)) = some (i, port, 1)) ∧
      (completes (.safeCommitDone false) s fun t => t.safe = { s.safe with commit := none } ∧ Frame false [.safe] (fun _ => False) s t))

/-- Sensor, ageing, log and management rows act on the health registers by their rules: For a running device. A temperature read stores all 16 readings. A sensor that is excluded takes no further part, is recorded, and raises the cause MONITOR; a readmitted one takes part again. An ageing measurement below thermal step 2 stores the projected days and the worst slowdown, and AGEING is then a cause exactly when the days are at most ADV_DAYS or the slowdown reaches 24,000 ppm; at step 2 it is deferred. The oldest queued record goes to the front of the ring with the next sequence number while the MGS runs and no tail is committed. A watchdog restart ends RUNNING, counts and records it; its completion sets RUNNING. A pool that does not account for every unit raises MONITOR; one that does changes nothing. (12 R360; 12 R361; 12 R362; 12 R359; 12 R363; 12 R367; 12 R370; 13 R385) -/
def Obligations.HealthFollowsItsMeasurements : Prop :=
  ∀ s : State, s.runs = true →
    (∀ (t16 : List Int) (v : List Word) (i : Ix16), t16.length = 16 → completes (.temperatureRead t16 v) s fun t =>
      t.rd (A.HEALTH_TEMP i.val) = fOfRat (t16[i.val]?.getD 0) 10 &&& implMask (A.HEALTH_TEMP i.val)) ∧
    (∀ i : Ix16,
      (s.sensorOk i.val = true → completes (.sensorExclusion i) s fun t => t.sensorOk i.val = false ∧
        (∀ j : Ix16, j ≠ i → t.sensorOk j.val = s.sensorOk j.val) ∧ t.flag F.HEALTH_EVT_SENSOR_EXCL = true ∧
        t.bitOf F.HEALTH_SRQ_CAUSE cMONITOR = true) ∧
      (s.sensorOk i.val = false → completes (.sensorReadmission i) s fun t => t.sensorOk i.val = true ∧
        ∀ j : Ix16, j ≠ i → t.sensorOk j.val = s.sensorOk j.val) ∧
      (s.sensorOk i.val = false → completes (.sensorExclusion i) s fun t => Frame false [] (fun _ => False) s t)) ∧
    (∀ (ro : List Int) (d : BitVec 16),
      (s.get F.HEALTH_THERM_STEP < 2 → completes (.ageingMeasurement ro d) s fun t => t.get F.HEALTH_AGE_DAYS = d.toNat ∧
        t.get F.HEALTH_AGE_WORST_PPM = min 65535 (ro.foldl max 0).toNat ∧
        t.bitOf F.HEALTH_SRQ_CAUSE cAGEING =
          (decide (d.toNat ≤ s.get F.HEALTH_AGE_CFG_ADV_DAYS) || decide (24000 ≤ min 65535 (ro.foldl max 0).toNat))) ∧
      (2 ≤ s.get F.HEALTH_THERM_STEP → completes (.ageingMeasurement ro d) s fun t => Frame false [] (fun _ => False) s t)) ∧
    (∀ (r : LogRec) (q : List LogRec), s.log.queue = r :: q → s.log.pend = [] → s.flag F.HEALTH_MGS_RUNNING = true → s.er.tail = false →
      s.log.ring.length < 65536 → completes .logRecordWrite s fun t =>
        t.log = { s.log with queue := q, ring := { r with lseq := s.lseq + 1 } :: s.log.ring } ∧ t.lseq = (s.lseq + 1) % 2 ^ 64 ∧
        t.get F.HEALTH_LOG_WR_QDEPTH = q.length % 512 ∧
        Frame true [] (· ∈ [A.HEALTH_LOG_SEQ_LO, A.HEALTH_LOG_SEQ_LO + 4]) s t) ∧
    (s.flag F.HEALTH_MGS_RUNNING = false ∨ s.er.tail = true → completes .logRecordWrite s fun t => Frame false [] (fun _ => False) s t) ∧
    (s.flag F.HEALTH_MGS_RUNNING = true → completes .mgsWatchdogRestart s fun t => t.flag F.HEALTH_MGS_RUNNING = false ∧
      Counted F.HEALTH_MGS_RESTART_CNT s t ∧ t.flag F.HEALTH_EVT_MGS_RESTART = true ∧ t.bitOf F.HEALTH_SRQ_CAUSE cMONITOR = true ∧
      Frame true [.t, .nv] (· ∈ [A.HEALTH_MGS, A.HEALTH_EVT, A.HEALTH_SRQ]) s t) ∧
    (s.flag F.HEALTH_MGS_RUNNING = false → completes .mgsRestartComplete s fun t => t.flag F.HEALTH_MGS_RUNNING = true ∧ t.host.held = []) ∧
    (s.poolOk = true → completes .poolAuditCheck s fun t => Frame false [] (fun _ => False) s t) ∧
    (s.poolOk = false → completes .poolAuditCheck s fun t => t.bitOf F.HEALTH_SRQ_CAUSE cMONITOR = true ∧
      Frame true [.t, .nv] (· ∈ [A.HEALTH_SRQ, A.HEALTH_EVT]) s t)

/-- A lockstep mismatch fails over to the spare where it can, else drops the tail; ENG8's own ends its use: For a running device whose mismatch discards nothing of the tick (s.discard is s): a channel that has the spare, with no failover pending, fails over: the context is caught up by ENG8 from the next boundary, FAILOVER and MISMATCH are set and the cause FAILOVER stands. A channel without the spare, and one that ENG8 serves already, drops its tail: CH_STATE TAIL, every half-bridge off, contactor off, with its event and cause. A mismatch of the free ENG8 withdraws the spare from every channel with cause SPARE. An engine out of service only fails its test. A channel in TAIL keeps everything. (12 R349; 12 R350; 12 R352; 12 R354; 01 R24) -/
def Obligations.MismatchesFailOverOrDropTheTail : Prop :=
  ∀ (s : State) (k : Ix16), s.runs = true →
    (∀ (c : Chan) (e : Fin 9), e.val = c.val → s.bitOf F.HEALTH_FO_OUT c.val = false → s.cst c.val ≠ sTAIL → s.discard c.val k.val = s →
      (s.eng8 ≠ c.val → s.spareAvail c.val = true → s.foPending = none → completes (.lockstepMismatch e k) s fun t =>
        (t.chn c.val).catchUp = some k.val ∧ (t.chn c.val).foNext = true ∧ t.flag (F.ENG_STAT_MISMATCH c.val) = true ∧
        t.flag F.HEALTH_EVT_FAILOVER = true ∧ t.bitOf F.HEALTH_SRQ_CAUSE cFAILOVER = true ∧ t.cst c.val = s.cst c.val ∧
        Frame true [.chan c.val, .t, .nv] (· ∈ [A.ENG_STAT c.val, A.HEALTH_EVT, A.HEALTH_SRQ, A.HEALTH_FO_ERR]) s t) ∧
      (s.eng8 = c.val ∨ s.spareAvail c.val = false → completes (.lockstepMismatch e k) s fun t => t.cst c.val = sTAIL ∧
        t.flag (F.ENG_STAT_TAIL c.val) = true ∧ (s.role c.val = rGRID ∨ s.isDc c.val = true → t.kmCmd c.val = false) ∧ t.get (F.PWM_FSTAT_OFF_EFF c.val) = 1023 ∧
        t.flag F.HEALTH_EVT_TAIL_DROP = true ∧ t.bitOf F.HEALTH_SRQ_CAUSE cTAIL = true)) ∧
    (∀ (c : Chan) (e : Fin 9), e.val = c.val → s.bitOf F.HEALTH_FO_OUT c.val = false → s.cst c.val = sTAIL →
      completes (.lockstepMismatch e k) s fun t => Frame false [] (fun _ => False) s t) ∧
    (∀ (c : Chan) (e : Fin 9), e.val = c.val → s.bitOf F.HEALTH_FO_OUT c.val = true → completes (.lockstepMismatch e k) s fun t =>
      t.bitOf F.HEALTH_FO_TEST_PASS c.val = false ∧ Frame false [] (· = F.HEALTH_FO_TEST_PASS.addr) s t) ∧
    (8 ≤ s.eng8 → completes (.lockstepMismatch 8 k) s fun t => t.flag F.HEALTH_FO_SPARE_OK = false ∧
      (∀ c : Chan, t.spareAvail c.val = false) ∧ t.bitOf F.HEALTH_SRQ_CAUSE cSPARE = true)

/-- A lost reference or lock gates its PLL, the other one drives, and without it the engine clock stops: For a device not in reset and PLL b that is not gated. A lost reference, a lost lock, and a commit without relock gate the PLL, record and count the loss, and raise the cause CLOCK. If it drove and the other is locked, the other drives, with SWITCHED and SW_CNT. If it did not drive, the drive stays. If it drove and the other is not locked, the engine clock stops. A gated PLL with its lock held again is the standby PLL and RELOCK is set; the drive stays. A relock after a commit sets LOCK and nothing else. A PLL that has not locked raises CLOCK. An absent engine clock drives every HI and LO low as line-pair faults. The relock after a double fault starts the clock, records DOUBLE, keeps the gap for the next record, and asks for STANDBY from RUN, RIDE and SERVICE. (16 R450; 16 R453; 16 R454; 16 R455; 16 R456; 16 R458) -/
def Obligations.ClockLossesSwitchOrStop : Prop :=
  ∀ (s : State) (b : Bool), s.t.held = false →
    (s.flag (fGated b) = false → ∀ x ∈ [Instr.referenceLoss b, .lossOfLock b, .commitRelockTimeout b],
      (x = .referenceLoss b → s.flag (fRef b) = true) → (x = .lossOfLock b → s.flag (fLock b) = true) →
      (x = .commitRelockTimeout b → s.relock b = true) →
      ((s.drv = b → s.flag (fLock (!b)) = true) → completes x s fun t =>
        t.drv = (!b) ∧ t.flag (fLock b) = false ∧ t.flag (fGated b) = true ∧ t.flag (fLock (!b)) = s.flag (fLock (!b)) ∧
        t.flag (if x = .referenceLoss b then fRefLoss b else fLol b) = true ∧ Counted F.CLK_CNT_LOL_CNT s t ∧
        (s.drv = b → Counted F.CLK_CNT_SW_CNT s t ∧ t.flag F.CLK_EVT_SWITCHED = true) ∧
        (s.drv ≠ b → t.get F.CLK_CNT_SW_CNT = s.get F.CLK_CNT_SW_CNT) ∧
        t.bitOf F.HEALTH_SRQ_CAUSE cCLOCK = true ∧ t.t.clkStop = s.t.clkStop ∧
        Frame true [.t, .nv] (· ∈ [A.CLK_STAT, A.CLK_CNT, A.CLK_EVT, A.HEALTH_SRQ, A.HEALTH_EVT]) s t) ∧
      (s.drv = b → s.flag (fLock (!b)) = false → completes x s fun t => t.t.clkStop = some s.devTime ∧ t.drv = b ∧
        t.flag (fGated b) = true ∧ t.flag (fLock b) = false ∧ t.bitOf F.HEALTH_SRQ_CAUSE cCLOCK = true)) ∧
    (s.flag (fGated b) = true → s.t.clkStop = none → completes (.pllRelock b) s fun t => t.flag (fLock b) = true ∧
      t.flag (fRef b) = true ∧ t.flag (fGated b) = false ∧ t.drv = s.drv ∧ Raised F.CLK_EVT_RELOCK s t ∧
      Frame true [] (· ∈ [A.CLK_STAT, A.CLK_EVT]) s t) ∧
    (s.relock b = true → completes (.pllCommitRelock b) s fun t => t.relock b = false ∧
      Edited A.CLK_STAT [(fLock b, 1)] s t ∧ Frame false [.t] (· = A.CLK_STAT) s t) ∧
    (s.flag (fLock b) = false → completes (.pllLockTimeout b) s fun t => t.bitOf F.HEALTH_SRQ_CAUSE cCLOCK = true ∧
      Frame true [.t, .nv] (· ∈ [A.HEALTH_SRQ, A.HEALTH_EVT]) s t) ∧
    (completes .engineClockAbsent s fun t => ∀ (c : Chan) (h : HbIx), (t.gate c.val h.val).linkErr = true ∧
      (t.gate c.val h.val).hi = false ∧ (t.gate c.val h.val).lo = false ∧ t.flag (F.GDI_EVT_LINK_ERR c.val) = true) ∧
    (∀ t0 : Nat, s.t.clkStop = some t0 → completes (.doubleFaultRecovery b) s fun t => t.t.clkStop = none ∧ t.drv = b ∧
      t.flag (fLock b) = true ∧ t.flag (fGated b) = false ∧ t.flag F.CLK_EVT_DOUBLE = true ∧
      t.er.unmet = s.er.unmet + (s.devTime - t0) ∧
      (s.mode = mRUN ∨ s.mode = mRIDE ∨ s.mode = mSERVICE → t.t.toMode = some (mSTANDBY, 6)))

/-- A detected power failure freezes the books and asks for STANDBY, and a rail below its threshold resets the device: For a device not in reset. PWRFAIL, a rail warning and an over-voltage show themselves; with no failure standing they set PF and PF_DET, count, let accumulation stop after the next phase 4, and ask for STANDBY from RUN, RIDE and SERVICE; with one standing they start no second one. An over-voltage also counts and raises MONITOR. A rail below its reset threshold holds the device in reset, in BRUMATE with the brumation domain running, and keeps what the M-die, the fuses and the brumation domain hold. (16 R460; 16 R461; 16 R462; 10 R309; 12 R368) -/
def Obligations.PowerFailuresStopTheBooks : Prop :=
  ∀ (s : State) (r : Fin 6), s.t.held = false →
    (s.flag F.PWR_STAT_PF = false → ∀ x ∈ [Instr.pwrfailAssert, .railWarning r, .railOverVoltage r], completes x s fun t =>
      t.flag F.PWR_STAT_PF = true ∧ Counted F.PWR_CNT_PF_CNT s t ∧ t.flag F.PWR_EVT_PF_DET = true ∧
      t.er.stopNext = s.er.stopAt.isNone ∧ t.er.head = s.er.head ∧
      (s.mode = mRUN ∨ s.mode = mRIDE ∨ s.mode = mSERVICE → t.t.toMode = some (mSTANDBY, 4)) ∧
      (x = .pwrfailAssert → t.flag F.PWR_STAT_PF_PIN = true) ∧
      (x = .railWarning r → t.bitOf F.PWR_STAT_WARN r.val = true ∧ t.flag F.PWR_EVT_UV_WARN = true) ∧
      (x = .railOverVoltage r → t.bitOf F.PWR_STAT_OV r.val = true ∧ Counted F.PWR_CNT_OV_CNT s t ∧
        t.flag F.PWR_EVT_OV_EVT = true ∧ t.bitOf F.HEALTH_SRQ_CAUSE cMONITOR = true)) ∧
    (s.flag F.PWR_STAT_PF = true → completes .pwrfailAssert s fun t => t.flag F.PWR_STAT_PF_PIN = true ∧ t.er = s.er ∧
      t.get F.PWR_CNT_PF_CNT = s.get F.PWR_CNT_PF_CNT) ∧
    (completes .railBelowReset s fun t => t.t.held = true ∧ (s.ka.on = true → t.mode = mBRUMATE) ∧
      t.er.ring = s.er.ring ∧ t.er.snaps = s.er.snaps ∧ t.er.ptrA = s.er.ptrA ∧ t.er.ptrB = s.er.ptrB ∧ t.er.cal = s.er.cal ∧
      t.safe.nv = s.safe.nv ∧ t.log.ring = s.log.ring ∧ t.ka = s.ka ∧ t.nv.slots = s.nv.slots ∧ t.nv.cfg = s.nv.cfg ∧
      t.nv.fuses = s.nv.fuses ∧ ∀ c : Chan, t.cst c.val = sOFF ∧ t.effEn c.val = false)

/-- The release of a reset starts WAKE, and WAKE ends by asking for STANDBY or SERVICE: For a device held in reset, its release counts a wake and starts WAKE from BRUMATE with cause 1 unless it is a restart. With a PLL locked, WAKE completes: the driving PLL is the preferred one where it locked, else the other, SGI stays active as after reset, and the device asks for STANDBY, or for SERVICE in recovery and with a failed memory test. With neither locked it stays in WAKE with the wake not complete; a retry with a lock completes it. (16 R450; 16 R460; 17 R478; 17 R484) -/
def Obligations.WakeStartsFromReset : Prop :=
  ∀ (s : State) (x : WakeIn),
    (s.t.held = true →
      ((x.lockA || x.lockB) = true → completes (.resetRelease x) s fun t => t.t.held = false ∧ t.t.woke = true ∧
        t.mode = (if s.t.restart then s.mode else mWAKE) ∧ t.nv.wakes = (s.nv.wakes + 1) % 2 ^ 32 ∧
        t.drv = (if t.flag F.CLK_CFG_PREF then x.lockB else !x.lockA) ∧ t.flag F.SYS_BOOT_BIST_FAIL = (x.sramBad || s.flag F.SYS_BOOT_BIST_FAIL) ∧
        t.t.toMode.map Prod.fst = some (if t.recovery || x.sramBad then mSERVICE else mSTANDBY)) ∧
      ((x.lockA || x.lockB) = false → completes (.resetRelease x) s fun t => t.t.held = false ∧ t.t.woke = false ∧
        t.mode = (if s.t.restart then s.mode else mWAKE))) ∧
    (s.t.held = false → s.t.woke = false → s.nv.wakes ≠ 0 → s.flag F.CLK_STAT_LOCK_A = false → s.flag F.CLK_STAT_LOCK_B = false →
      ((x.lockA || x.lockB) = true → completes (.pllRetry x) s fun t => t.t.woke = true ∧ t.nv.wakes = s.nv.wakes ∧
        t.t.toMode.map Prod.fst = some (if t.recovery || x.sramBad then mSERVICE else mSTANDBY)) ∧
      ((x.lockA || x.lockB) = false → completes (.pllRetry x) s fun t => t.t.woke = false ∧ t.mode = s.mode))

/-- The brumation domain starts at time 0, counts each keep-alive tick, and records shocks: The domain starts with its clock at 0 and RTC_LOST, in BRUMATE where the device is in reset. While it runs a keep-alive tick adds 976.5625 microseconds to its clock, exactly over sixteen ticks, and shows store and VKA; while it does not, nothing changes. A peak above the threshold begins a shock event; one in progress is not begun again. Its reset loses the clock, the retention copies and the registers of the domain, and keeps the ring of the M-die. PTP sets the clock while it is locked, clears RTC_LOST and records it. (16 R464; 16 R465; 16 R467; 16 R468; 16 R469; 16 R470; 16 R471; 16 R472) -/
def Obligations.TheBrumationDomainKeepsTimeAndCounts : Prop :=
  ∀ s : State,
    (s.ka.on = false → completes .domainStart s fun t => t.ka.on = true ∧ t.get64 A.KA_RTC_LO = 0 ∧ t.flag F.KA_STAT_RTC_LOST = true ∧
      (s.t.held = true → t.mode = mBRUMATE) ∧ Frame false [.ka] (· ∈ [A.KA_RTC_LO, A.KA_RTC_LO + 4, A.KA_STAT, A.SYS_MODE]) s t) ∧
    (s.ka.on = true → completes .domainStart s fun t => Frame false [] (fun _ => False) s t) ∧
    (∀ x : KaIn,
      (s.ka.on = true → s.ka.frac < 16 → completes (.keepAliveTick x) s fun t =>
        t.get64 A.KA_RTC_LO * 16 + t.ka.frac = (s.get64 A.KA_RTC_LO * 16 + s.ka.frac + 15625) % 2 ^ 68 ∧
        t.get F.KA_STORE_STORE_MV = min 8190 (x.storeMv / 10 * 10) ∧ t.get F.KA_STORE_VKA_MV = min 8191 x.vkaMv ∧
        t.flag F.KA_STAT_ON_VKA = decide (1800 ≤ x.vkaMv)) ∧
      (s.ka.on = false → completes (.keepAliveTick x) s fun t => Frame false [] (fun _ => False) s t)) ∧
    (∀ mv : Nat,
      (s.ka.on = true → s.flag F.KA_CFG_SHK_EN = true → 500 * (s.get F.KA_CFG_SHK_TH + 1) < mv → s.flag F.KA_STAT_SHOCK = false →
        completes (.shockTrip mv) s fun t => t.flag F.KA_STAT_SHOCK = true ∧ t.ka = { s.ka with peak := mv, dur := 0, below := 0 } ∧
          Frame false [.ka] (· = A.KA_STAT) s t) ∧
      (s.ka.on = false ∨ s.flag F.KA_CFG_SHK_EN = false ∨ mv ≤ 500 * (s.get F.KA_CFG_SHK_TH + 1) ∨ s.flag F.KA_STAT_SHOCK = true →
        completes (.shockTrip mv) s fun t => Frame false [] (fun _ => False) s t)) ∧
    (completes .domainReset s fun t => t.ka.on = false ∧ t.ka.ring = s.ka.ring ∧ t.ka.kseq = s.ka.kseq ∧ t.log.retained = [] ∧
      t.flag F.KA_STAT_RTC_LOST = true ∧ t.flag F.KA_STAT_RET_VALID = false ∧ t.get64 A.KA_RTC_LO = 0 ∧
      Frame true [.ka] (fun a => 0x60000 ≤ a ∧ a < 0x70000) s t) ∧
    (s.runs = true → s.ptpLock = true → completes .rtcPtpSet s fun t => t.get64 A.KA_RTC_LO = s.ptpTime / 1000 % 2 ^ 64 ∧
      t.ka.frac = 0 ∧ t.flag F.KA_STAT_RTC_LOST = false ∧ Raised F.KA_EVT_RTC_SET s t ∧
      Frame true [.ka] (· ∈ [A.KA_RTC_LO, A.KA_RTC_LO + 4, A.KA_STAT, A.KA_EVT]) s t) ∧
    (s.runs = true → s.ptpLock = false → completes .rtcPtpSet s fun t => Frame false [] (fun _ => False) s t)

/-- A configuration commit, a trial image and an image check end by their rules: For a running device. A configuration commit that no request waits for ends with the stored configuration being the saved one and CFG_SAVED, or with the stored one as it was. A trial image that has not reached STANDBY in time resets the device, what the M-die keeps staying; a confirmed one, and a trial in another mode, is not touched. The end of an image check sets the slot VERIFIED and closes the update when its header, size, part and ARB are right and the signature verifies; otherwise VERIFY_FAIL is recorded and the slot stays as it was. (17 R486; 17 R490; 17 R493; 17 R494) -/
def Obligations.StoresAndTrialsEndByTheirRules : Prop :=
  ∀ s : State, s.runs = true →
    (∀ ok : Bool, s.boot.save.isSome = true → s.boot.saveWid = 0 → completes (.cfgSaveDone ok) s fun t =>
      t.boot = { s.boot with save := none, saveWid := 0 } ∧ t.nv.cfg = (if ok then s.boot.save else s.nv.cfg) ∧
      (ok = true → t.flag F.SYS_BOOT_EVT_CFG_SAVED = true) ∧ Frame true [.boot, .nv] (· = A.SYS_BOOT_EVT) s t) ∧
    (∀ k : Nat, s.runSlot = some k →
      (s.t.woke = true → s.mode = mWAKE → (s.slot k).st = eVERIFIED → completes .trialWatchdog s fun t => t.t.held = true ∧
        t.nv.slots = s.nv.slots ∧ t.er.ring = s.er.ring ∧ ∀ c : Chan, t.cst c.val = sOFF) ∧
      (s.mode ≠ mWAKE ∨ (s.slot k).st ≠ eVERIFIED → completes .trialWatchdog s fun t => Frame false [] (fun _ => False) s t)) ∧
    (∀ (w : Nat) (sig : Bool), s.boot.verWid = some w → s.host.work = [] →
      ((s.slot s.updTarget).check s.nv.fuses sig = 0 → completes (.imgVerifyDone sig) s fun t => t.boot.verWid = none ∧
        (t.slot s.updTarget) = { s.slot s.updTarget with st := eVERIFIED } ∧ t.flag F.SYS_BOOT_UPD = false) ∧
      ((s.slot s.updTarget).check s.nv.fuses sig ≠ 0 → completes (.imgVerifyDone sig) s fun t => t.boot.verWid = none ∧
        (t.slot s.updTarget) = s.slot s.updTarget ∧ t.flag F.SYS_BOOT_UPD = s.flag F.SYS_BOOT_UPD ∧
        t.flag F.SYS_BOOT_EVT_VERIFY_FAIL = true))

/-- The tick divisor and the modulator clock settings change only in STANDBY and SERVICE: For an open session with the device claim (the channel claim for FLT_MCLK and FLT_CFG) and a value without reserved bits. A write that changes TICK_DIV in another mode is answered NOT_IN_MODE and leaves the tick; one that restates it is answered OK in every mode and has no effect; in STANDBY and SERVICE a change to a value that the register takes is accepted: the rebuild of the tick table is queued, and TICK_DIV is as it was until then. A write that changes FLT_MCLK or FLT_CFG in another mode is answered NOT_IN_MODE and leaves both; in STANDBY and SERVICE one that passes the checks is stored, settling begins on every enabled input, and a write of FLT_MCLK sets MCLK_OK as OUT_EN says. (01 R31; 02 R49) -/
def Obligations.TickAndModulatorSettingsChangeInStandbyAndService : Prop :=
  ∀ (s : State) (w : RegWr), s.hosted = true → s.sesOpen w.ses.val = true →
    (s.claimOk w.ses.val A.SYS_TICK w.val = true → w.val &&& ~~~(implMask A.SYS_TICK) = 0#32 →
      (bits w.val 16 0 ≠ s.get F.SYS_TICK_TICK_DIV →
        (s.mode ≠ mSTANDBY → s.mode ≠ mSERVICE → completes (.sysTickWrite w) s fun t => OnlyAnswered NOT_IN_MODE s t) ∧
        (s.mode = mSTANDBY ∨ s.mode = mSERVICE → s.tickDivOk (bits w.val 16 0) = true → completes (.sysTickWrite w) s fun t =>
          Answered ACCEPTED s t ∧ t.t = { s.t with rebuilds := s.t.rebuilds ++ [⟨.tickDiv (bits w.val 16 0), 0, false⟩] } ∧
          t.get F.SYS_TICK_TICK_DIV = s.get F.SYS_TICK_TICK_DIV ∧ Edited A.SYS_TT_STAT [(F.SYS_TT_STAT_BUILDING, 1)] s t ∧
          Frame false [.t, .host] (· = A.SYS_TT_STAT) s t) ∧
        (s.mode = mSTANDBY ∨ s.mode = mSERVICE → s.tickDivOk (bits w.val 16 0) = false →
          completes (.sysTickWrite w) s fun t => OnlyAnswered BAD_PARAM s t)) ∧
      (bits w.val 16 0 = s.get F.SYS_TICK_TICK_DIV → completes (.sysTickWrite w) s fun t => OnlyAnswered OK s t)) ∧
    (∀ c : Chan, ∀ x ∈ [(Instr.fltMclkWrite c w, A.FLT_MCLK c.val), (.fltCfgWrite c w, A.FLT_CFG c.val)],
      s.claimOk w.ses.val x.2 w.val = true → w.val &&& ~~~(implMask x.2) = 0#32 → w.val ≠ s.rd x.2 &&& implMask x.2 →
      (s.mode ≠ mSTANDBY → s.mode ≠ mSERVICE → completes x.1 s fun t => OnlyAnswered NOT_IN_MODE s t) ∧
      (s.passes w.ses.val x.2 w.val = true → (s.mode = mSTANDBY ∨ s.mode = mSERVICE) ∧ completes x.1 s fun t =>
        Answered OK s t ∧ Stored x.2 w.val s t ∧
        (∀ m : MdIx, t.mdOn c.val m.val = true → (t.mdi c.val m.val).settling = true ∧ t.bitOf (F.FLT_VALID_VALID c.val) m.val = false) ∧
        (x.2 = A.FLT_MCLK c.val → t.flag (F.FLT_VALID_MCLK_OK c.val) = bit w.val 16) ∧
        Frame false [.host, .chan c.val] (· ∈ [x.2, A.FLT_VALID c.val]) s t))

/-- A mailbox takes one word from any open session, and refuses the next until it is empty: For any open session that writes HOST_MBDm. With FULL = 0 the word is stored with the time, FULL is set and the sender recorded, and session m, where it is open, gets a NOTIFY with the mailbox source, which sets PEND. With FULL = 1 the write is answered NO_CREDIT and the mailbox is unchanged. A closed session writes nothing. (14 R426) -/
def Obligations.MailboxWritesDeliverOneWord : Prop :=
  ∀ (s : State) (m : Ix16) (w : RegWr), s.hosted = true →
    (s.sesOpen w.ses.val = true →
      (s.flag (F.HOST_MBS_FULL m.val) = false → s.sesOpen m.val = true → completes (.hostMbdWrite m w) s fun t =>
        t.host.mbWord = s.host.mbWord.setIfInBounds m.val w.val ∧ t.host.mbAt = s.host.mbAt.setIfInBounds m.val s.clk ∧
        Edited (A.HOST_MBS m.val) [(F.HOST_MBS_FULL m.val, 1), (F.HOST_MBS_SENDER m.val, w.ses.val)] s t ∧
        t.flag (F.HOST_DB_PEND m.val) = true ∧ Counted (F.HOST_DB_SEQ m.val) s t ∧
        (t.sesOf m.val).ncount = ((s.sesOf m.val).ncount + 1) % 65536 ∧ t.host.ans = OK ∧
        (Config.notifyRoom (s.host.tx0.length + s.host.tx1.length + s.host.tx2.length + s.host.tl1.length) = true →
          t.outbox (portOf (s.get (F.HOST_SES_STAT_PORT m.val))) (s.sesOf m.val).peer =
            s.outbox (portOf (s.get (F.HOST_SES_STAT_PORT m.val))) (s.sesOf m.val).peer ++
              [⟨portOf (s.get (F.HOST_SES_STAT_PORT m.val)), (s.sesOf m.val).peer, 0xAF, 5, 0, m.val, wd (((s.sesOf m.val).ncount + 1) % 65536),
                [3#32, t.rd (A.HOST_MBS m.val), s.rd A.SYS_TICK_CNT_LO]⟩]) ∧
        Frame true [.host] (· ∈ [A.HOST_MBS m.val, A.HOST_DB m.val]) s t) ∧
      (s.flag (F.HOST_MBS_FULL m.val) = false → s.sesOpen m.val = false → completes (.hostMbdWrite m w) s fun t =>
        t.host.ans = OK ∧ t.host.mbWord = s.host.mbWord.setIfInBounds m.val w.val ∧ t.flag (F.HOST_MBS_FULL m.val) = false ∧
        t.get (F.HOST_MBS_SENDER m.val) = w.ses.val ∧ t.bitOf (F.HOST_MBT_TMO w.ses.val) m.val = true ∧
        Frame true [.host] (· ∈ [A.HOST_MBS m.val, A.HOST_MBT w.ses.val]) s t) ∧
      (s.flag (F.HOST_MBS_FULL m.val) = true → completes (.hostMbdWrite m w) s fun t => OnlyAnswered NO_CREDIT s t)) ∧
    (s.sesOpen w.ses.val = false → completes (.hostMbdWrite m w) s fun t => t.host = s.host ∧ Frame false [] (fun _ => False) s t)

/-- A take empties a mailbox, a timeout tells the sender, and a lock goes to the first session that reads it free: For a serving device and open sessions. A read of HOST_MBSm by session m returns the status as it stood, copies the word into HOST_MBDm (0 where none waited) and clears FULL; a read by another session only returns the word. A mailbox whose word has been held for TO is emptied: its FULL clears, bit m of the sender's HOST_MBT is set and counted, and the sender, where open, is notified; one held for less, or empty, is untouched. A read of a free lock makes the reader its owner and returns 0, as it does for its owner; another session reads the owner's number plus 1. A write of 0 by the owner frees the lock, on a free lock it has no effect; a write to another's lock is OWNED, another value BAD_PARAM. (14 R427; 14 R428; 14 R429; 15 R516) -/
def Obligations.MailboxesAreTakenAndTimeOutAndLocksHaveOneOwner : Prop :=
  ∀ (s : State), s.serving = true → ∀ (i m : Ix16), s.sesOpen i.val = true →
    (i = m → completes (.hostMbsRead m i) s fun t => t.host = { s.host with out := [s.rd (A.HOST_MBS m.val)] } ∧
      t.rd (A.HOST_MBD m.val) = (if s.flag (F.HOST_MBS_FULL m.val) then s.host.mbWord[m] else 0#32) ∧
      Edited (A.HOST_MBS m.val) [(F.HOST_MBS_FULL m.val, 0)] s t ∧
      Frame false [.host] (· ∈ [A.HOST_MBS m.val, A.HOST_MBD m.val]) s t) ∧
    (i ≠ m → completes (.hostMbsRead m i) s fun t => t.host = { s.host with out := [s.rd (A.HOST_MBS m.val)] } ∧
      Frame false [.host] (fun _ => False) s t) ∧
    (s.flag (F.HOST_MBS_FULL m.val) = true → s.host.mbAt[m] + 800 * s.get F.HOST_MB_TO_TO ≤ s.clk →
      s.get (F.HOST_MBS_SENDER m.val) = i.val → completes (.mailboxTimeout m) s fun t =>
        Edited (A.HOST_MBS m.val) [(F.HOST_MBS_FULL m.val, 0)] s t ∧ t.bitOf (F.HOST_MBT_TMO i.val) m.val = true ∧
        bits (t.rd (A.HOST_MBT i.val)) 31 24 = (bits (s.rd (A.HOST_MBT i.val)) 31 24 + 1) % 256 ∧
        t.flag (F.HOST_DB_PEND i.val) = true ∧ Counted (F.HOST_DB_SEQ i.val) s t ∧
        Frame true [.host] (· ∈ [A.HOST_MBS m.val, A.HOST_MBT i.val]) s t) ∧
    (s.flag (F.HOST_MBS_FULL m.val) = false ∨ s.clk < s.host.mbAt[m] + 800 * s.get F.HOST_MB_TO_TO →
      completes (.mailboxTimeout m) s fun t => t.host = s.host ∧ Frame false [] (fun _ => False) s t) ∧
    (s.lockOwner m.val = 0 → completes (.hostMblockRead m i) s fun t => t.host = { s.host with out := [0#32] } ∧
      t.lockOwner m.val = i.val + 1 ∧ (∀ k : Ix16, k ≠ m → t.lockOwner k.val = s.lockOwner k.val ∨ 16 < s.lockOwner k.val) ∧
      Frame false [.host] (· = A.HOST_LOCKOWN (m.val / 4)) s t) ∧
    (s.lockOwner m.val = i.val + 1 → completes (.hostMblockRead m i) s fun t => t.host = { s.host with out := [0#32] } ∧
      Frame false [.host] (fun _ => False) s t) ∧
    (s.lockOwner m.val ≠ 0 → s.lockOwner m.val ≠ i.val + 1 → completes (.hostMblockRead m i) s fun t =>
      t.host = { s.host with out := [wd (s.lockOwner m.val)] } ∧ Frame false [.host] (fun _ => False) s t) ∧
    (s.recovery = false → ∀ v : Word,
      (s.lockOwner m.val = i.val + 1 → v = 0#32 → completes (.hostMblockWrite m ⟨i, v⟩) s fun t => Answered OK s t ∧
        t.lockOwner m.val = 0 ∧ (∀ k : Ix16, k ≠ m → t.lockOwner k.val = s.lockOwner k.val ∨ 16 < s.lockOwner k.val) ∧
        Frame false [.host] (· = A.HOST_LOCKOWN (m.val / 4)) s t) ∧
      (s.lockOwner m.val = 0 → v = 0#32 → completes (.hostMblockWrite m ⟨i, v⟩) s fun t => Answered OK s t ∧ t.lockOwner m.val = 0) ∧
      (s.lockOwner m.val ≠ 0 → s.lockOwner m.val ≠ i.val + 1 →
        completes (.hostMblockWrite m ⟨i, v⟩) s fun t => OnlyAnswered OWNED s t) ∧
      (s.lockOwner m.val = 0 ∨ s.lockOwner m.val = i.val + 1 → v ≠ 0#32 →
        completes (.hostMblockWrite m ⟨i, v⟩) s fun t => OnlyAnswered BAD_PARAM s t))

/-- A register write passes the checks in their order; one that passes is stored, and a sequence-clear clears on the right SEQ: For a serving device. An address outside every block is BAD_PARAM. An alias acts exactly as the word it stands for. By a session that is not open nothing is written. Without the claim the answer is OWNED, a reserved word or bit is then BAD_PARAM, a changed field whose condition does not hold then NOT_IN_MODE, and else the status of a changed field whose value is refused; all of these change nothing. A write that passes and changes no writable field is answered OK and changes nothing. One that passes to a register without an action of its own is stored. A sequence-clear with the present SEQ clears the SC bits of its mask and no other, with another SEQ none, and is OK. (15 R432; 15 R435; 15 R436; 15 R438; 15 R439; 15 R516; 15 R519) -/
def Obligations.RegisterWritesAreCheckedAndStored : Prop :=
  ∀ (s : State) (addr : Word) (w : RegWr), s.hosted = true →
    (s.sesOpen w.ses.val = false → ∀ x ∈ [Instr.registerWrite addr w, .sequenceClearWrite addr w],
      completes x s fun t => t.host = s.host ∧ Frame false [] (fun _ => False) s t) ∧
    (s.sesOpen w.ses.val = true → ∀ x ∈ [Instr.registerWrite addr w, .sequenceClearWrite addr w],
      (resolve false addr.toNat = none → completes x s fun t => OnlyAnswered BAD_PARAM s t) ∧
      (∀ a ∈ resolve false addr.toNat, exec x s = exec (.registerWrite (wd a) w) s ∧
        (s.claimOk w.ses.val a w.val = false → completes x s fun t => OnlyAnswered OWNED s t) ∧
        (s.claimOk w.ses.val a w.val = true → isCtx a = false →
          (rowAt a = none → completes x s fun t => OnlyAnswered BAD_PARAM s t) ∧
          (∀ r ∈ rowAt a,
            (w.val &&& ~~~(rowMask r) ≠ 0#32 → completes x s fun t => OnlyAnswered BAD_PARAM s t) ∧
            (w.val &&& ~~~(rowMask r) = 0#32 →
              (∀ f ∈ r.fields, fieldWritten r.act f (s.rd a) w.val = true → s.condOk a f.cond = false →
                completes x s fun t => OnlyAnswered NOT_IN_MODE s t) ∧
              ((∀ f ∈ r.fields, fieldWritten r.act f (s.rd a) w.val = true → s.condOk a f.cond = true) →
                ∀ f ∈ r.fields, fieldWritten r.act f (s.rd a) w.val = true → s.valStatus a f w.val ≠ OK →
                  (∃ g ∈ r.fields, fieldWritten r.act g (s.rd a) w.val = true ∧ s.valStatus a g w.val ≠ OK ∧
                    completes x s fun t => OnlyAnswered (s.valStatus a g w.val) s t)) ∧
              ((∀ f ∈ r.fields, fieldWritten r.act f (s.rd a) w.val = false) → rowSc r = 0#32 → actAlways r.act = false →
                completes x s fun t => OnlyAnswered OK s t) ∧
              (s.passes w.ses.val a w.val = true → rowSc r = 0#32 →
                r.act ∈ [.none, .bootCfg, .islCfg, .meterTariff, .rideBankWord] → completes x s fun t =>
                  Answered OK s t ∧ Stored a w.val s t ∧ Frame false [.host] (· = a) s t) ∧
              (rowSc r ≠ 0#32 → completes x s fun t => Answered OK s t ∧
                t.rd a = (if bits w.val 31 24 = bits (s.rd a) 31 24 then s.rd a &&& ~~~(w.val &&& rowSc r) else s.rd a) &&& implMask a ∧
                Frame false [.host] (· = a) s t))))))

/-- A context word is stored at once, or, where it changes the law set, queued for a rebuild with the role and leg writes: For a serving device and an open session that holds the channel. A context word whose new value the rules allow is stored at once where it does not change the law set; where it does, the change is queued for a rebuild of the tick table, answered ACCEPTED, and the word stays until then. A refused value is answered with its status and changes no context word. A reserved bit is BAD_PARAM. A context write that is not refused counts as the tick's write of its context. CTX_STAT clears by sequence-clear. A role that may be written now, and a change of DC_CFG.LEGS of a DC channel, queue a rebuild likewise; a DC_CFG write of another role is stored. (03 R85; 03 R88; 03 R99; 04 R107; 06 R181; 01 R28; 01 R30; 15 R516; 15 R519) -/
def Obligations.ContextAndTableWritesAreApplied : Prop :=
  ∀ (s : State) (c : Chan) (w : RegWr), s.hosted = true → s.sesOpen w.ses.val = true →
    s.claimOk w.ses.val (A.ROLE_SEL c.val) w.val = true →
    (∀ (k : Ix16) (j : Fin 64), ∀ x ∈ [Instr.registerWrite (wd (ctxAddr c.val k.val j.val)) w, .ctxCfgWrite c k w],
      (x = .ctxCfgWrite c k w → j.val = 0) →
      (w.val &&& ~~~(ctxMask j.val) ≠ 0#32 → completes x s fun t => OnlyAnswered BAD_PARAM s t) ∧
      (w.val &&& ~~~(ctxMask j.val) = 0#32 → j.val ≠ 3 → (j.val < 8 ∨ 16 ≤ j.val) → w.val ≠ s.cx c.val k.val j.val →
        (s.ctxRule c.val k.val j.val w.val = OK →
          (ctxRebuilds j.val (s.cx c.val k.val j.val) w.val = false → completes x s fun t => Answered OK s t ∧
            t.cx c.val k.val j.val = w.val ∧ t.t = { s.t with written := (16 * c.val + k.val) :: s.t.written } ∧
            Frame false [.host, .t] (· = ctxAddr c.val k.val j.val) s t) ∧
          (ctxRebuilds j.val (s.cx c.val k.val j.val) w.val = true → completes x s fun t => Answered ACCEPTED s t ∧
            t.t = { s.t with written := (16 * c.val + k.val) :: s.t.written,
                             rebuilds := s.t.rebuilds ++ [⟨.ctxWord c.val k.val j.val w.val, 0, false⟩] } ∧
            t.flag F.SYS_TT_STAT_BUILDING = true ∧ Frame false [.host, .t] (· = A.SYS_TT_STAT) s t)) ∧
        (s.ctxRule c.val k.val j.val w.val ≠ OK → completes x s fun t => t.host.ans = s.ctxRule c.val k.val j.val w.val ∧ t.t = s.t ∧
          (s.ctxRule c.val k.val j.val w.val = REFUSED_SPEED → Raised (F.MACH_EVT_REV_REFUSED c.val) s t) ∧
          Frame true [.host] (· = A.MACH_EVT c.val) s t)) ∧
      (w.val &&& ~~~(ctxMask j.val) = 0#32 → ((8 ≤ j.val ∧ j.val < 16) ∨ (j.val ≠ 3 ∧ w.val = s.cx c.val k.val j.val)) →
        completes x s fun t => Answered OK s t ∧ t.t = { s.t with written := (16 * c.val + k.val) :: s.t.written } ∧
          Frame false [.host, .t] (fun _ => False) s t) ∧
      (w.val &&& ~~~(ctxMask j.val) = 0#32 → j.val = 3 → completes x s fun t => Answered OK s t ∧
        t.cx c.val k.val 3 = (if bits w.val 31 24 = bits (s.cx c.val k.val 3) 31 24 then s.cx c.val k.val 3 &&& ~~~(w.val &&& 0x30000#32)
          else s.cx c.val k.val 3) &&& ctxMask 3 ∧ Frame false [.host, .t] (· = ctxAddr c.val k.val 3) s t)) ∧
    (s.passes w.ses.val (A.ROLE_SEL c.val) w.val = true → completes (.roleSelWrite c w) s fun t => Answered ACCEPTED s t ∧
      t.t = { s.t with rebuilds := s.t.rebuilds ++ [⟨.role c.val (bits w.val 2 0), 0, false⟩] } ∧
      t.flag F.SYS_TT_STAT_BUILDING = true ∧ t.role c.val = s.role c.val ∧ Frame false [.host, .t] (· = A.SYS_TT_STAT) s t) ∧
    ((s.cst c.val ≠ sOFF ∨ (s.mode ≠ mSTANDBY ∧ s.mode ≠ mRUN ∧ s.mode ≠ mSERVICE)) → bits w.val 31 3 = 0 →
      completes (.roleSelWrite c w) s fun t => OnlyAnswered NOT_IN_MODE s t) ∧
    (s.passes w.ses.val (A.DC_CFG c.val) w.val = true →
      (s.isDc c.val = true → bits w.val 2 0 ≠ s.get (F.DC_CFG_LEGS c.val) → completes (.dcCfgLegsWrite c w) s fun t =>
        Answered ACCEPTED s t ∧ t.t = { s.t with rebuilds := s.t.rebuilds ++ [⟨.legs c.val w.val, 0, false⟩] } ∧
        t.flag F.SYS_TT_STAT_BUILDING = true ∧ t.get (F.DC_CFG_LEGS c.val) = s.get (F.DC_CFG_LEGS c.val) ∧
        Frame false [.host, .t] (fun a => a = A.SYS_TT_STAT ∨ a = A.DC_CFG c.val) s t) ∧
      (s.isDc c.val = false → w.val ≠ s.rd (A.DC_CFG c.val) &&& implMask (A.DC_CFG c.val) →
        completes (.dcCfgLegsWrite c w) s fun t => Answered OK s t ∧ Stored (A.DC_CFG c.val) w.val s t ∧ t.t = s.t))

/-- Writes of the tick, survey, ride, recorder, engine and grid settings are stored and act: For a write of an open session that passes the checks of R516: it is answered OK and its writable fields are stored. A rise of SYS_BURST.TRIG makes a new trigger. A change of SYS_SYNC.SRC goes to FREE or ACQUIRE. SW_REG and SW_INJ start their sequence, or are lost while it runs; with the converter disabled or length 0 they do nothing. EN := 0 stops both sequences. SURV_BUF_RD takes its index. A change of SYS_RIDE_CFG sets BANK_PEND as BANK differs from the bank in force, and a fall of EN ends ARMED. RELEASE of a held recorder returns to FILLING with an empty buffer, else does nothing; EN := 1 starts FILLING, EN := 0 empties the buffer. FREEZE is stored. A SUB value in ACTIVE is pending in ISLAND and where it differs from the present family, and else cancels what was pending; in another state it is only stored. GRID_FNOM sets the nominal frequency of contexts 0, 8 and 10 of a GRID channel. (01 R36; 01 R43; 02 R71; 02 R72; 02 R77; 05 R159; 05 R162; 05 R163; 03 R102; 04 R138; 04 R141; 15 R516) -/
def Obligations.DeviceSettingWritesAct : Prop :=
  ∀ (s : State) (c : Chan) (w : RegWr),
    (s.passes w.ses.val A.SYS_BURST w.val = true → completes (.sysBurstWrite w) s fun t => Answered OK s t ∧ Stored A.SYS_BURST w.val s t ∧
      t.t = (if bit w.val 2 && !bit (s.rd A.SYS_BURST) 2 then { s.t with exited := false, refBud := false, refTherm := false } else s.t) ∧
      Frame false [.host, .t] (· = A.SYS_BURST) s t) ∧
    (s.passes w.ses.val A.SYS_SYNC w.val = true → completes (.sysSyncWrite w) s fun t => Answered OK s t ∧ Stored A.SYS_SYNC w.val s t ∧
      t.syncSt = (if bits w.val 1 0 = bits (s.rd A.SYS_SYNC) 1 0 then s.syncSt else if bits w.val 1 0 = 0 then yFREE else yACQUIRE) ∧
      Frame false [.host, .t] (· ∈ [A.SYS_SYNC, A.SYS_SYNC_STAT]) s t) ∧
    (∀ inj : Bool, ∀ x, (if inj then Instr.swInj w.ses else Instr.swReg w.ses) = x →
      s.passes w.ses.val A.SURV_CTRL (s.withBit A.SURV_CTRL (if inj then 12 else 11)) = true →
      (s.flag F.SURV_CTRL_EN = true → s.seqLen inj ≠ 0 → (s.seqOf inj).run = false → (inj = true ∨ s.surv.inj.run = false) →
        completes x s fun t => Answered OK s t ∧ (t.seqOf inj).run = true ∧ (t.seqOf inj).ix = 0 ∧ t.surv.conv = some inj ∧
          (t.seqOf inj).ents = (List.range (s.seqLen inj)).map (fun j => s.rd (if inj then A.SURV_INJ j else A.SURV_REG j)) ∧
          t.seqOf (!inj) = s.seqOf (!inj) ∧ Frame false [.host, .surv] (· = A.SURV_CTRL) s t) ∧
      (s.flag F.SURV_CTRL_EN = true → s.seqLen inj ≠ 0 → (s.seqOf inj).run = true → s.surv.conv.isSome = true → completes x s fun t =>
        t.host.ans = OK ∧ t.surv = s.surv ∧ Raised (if inj then F.SURV_STAT_INJ_LOST else F.SURV_STAT_REG_LOST) s t ∧
        t.get (if inj then F.SURV_LOST_INJ_LOST_CNT else F.SURV_LOST_REG_LOST_CNT) =
          (s.get (if inj then F.SURV_LOST_INJ_LOST_CNT else F.SURV_LOST_REG_LOST_CNT) + 1) % 65536 ∧
        Frame true [.host] (· ∈ [A.SURV_CTRL, A.SURV_LOST, A.SURV_STAT]) s t) ∧
      (s.flag F.SURV_CTRL_EN = false → completes x s fun t => Answered OK s t ∧ Frame false [.host] (· = A.SURV_CTRL) s t)) ∧
    (s.passes w.ses.val A.SURV_CTRL w.val = true → bits w.val 12 11 = 0 → completes (.survCtrlEnWrite w) s fun t =>
      Answered OK s t ∧ Stored A.SURV_CTRL w.val s t ∧ Frame false [.host, .surv] (· = A.SURV_CTRL) s t ∧
      (s.flag F.SURV_CTRL_EN = true → bit w.val 13 = false → t.surv.conv = none ∧ t.surv.reg.run = false ∧ t.surv.inj.run = false ∧
        t.surv.reg.pend = false ∧ t.surv.buf = s.surv.buf) ∧
      (bit w.val 13 = true → s.get F.SURV_TRG_REG_SRC ≠ 3 ∨ s.surv.conv.isSome = true → t.surv = s.surv) ∧
      (bit w.val 13 = true → s.flag F.SURV_CTRL_EN = false → s.get F.SURV_TRG_REG_SRC = 3 → s.surv.conv = none → bits w.val 5 0 ≠ 0 →
        t.surv.reg.run = true ∧ t.surv.conv = some false)) ∧
    (s.passes w.ses.val A.SURV_BUF_RD w.val = true → completes (.survBufRdWrite w) s fun t => Answered OK s t ∧
      Stored A.SURV_BUF_RD w.val s t ∧ Frame false [.host] (· = A.SURV_BUF_RD) s t) ∧
    (s.passes w.ses.val A.SYS_RIDE_CFG w.val = true → bits w.val 2 0 ≠ bits (s.rd A.SYS_RIDE_CFG) 2 0 →
      completes (.sysRideBankWrite w) s fun t => Answered OK s t ∧ Stored A.SYS_RIDE_CFG w.val s t ∧
        t.flag F.SYS_RIDE_STAT_BANK_PEND = (bits w.val 2 2 != s.bank) ∧ t.bank = s.bank ∧
        t.flag F.SYS_RIDE_STAT_ARMED = (s.flag F.SYS_RIDE_STAT_ARMED && (bit w.val 0 || !bit (s.rd A.SYS_RIDE_CFG) 0)) ∧
        Frame false [.host] (· ∈ [A.SYS_RIDE_CFG, A.SYS_RIDE_STAT]) s t) ∧
    (s.passes w.ses.val A.REC_CFG (s.withBit A.REC_CFG 2) = true → completes (.recCfgRelease w.ses) s fun t => Answered OK s t ∧
      (s.recState = 4 → t.recState = 1 ∧ t.ride.recs = [] ∧ Frame false [.host, .ride] (· ∈ [A.REC_CFG, A.REC_STAT]) s t) ∧
      (s.recState ≠ 4 → Frame false [.host] (· = A.REC_CFG) s t)) ∧
    (s.passes w.ses.val A.REC_CFG w.val = true → bit w.val 2 = false → completes (.recCfgEnWrite w) s fun t => Answered OK s t ∧
      Stored A.REC_CFG w.val s t ∧ Frame false [.host, .ride] (· ∈ [A.REC_CFG, A.REC_STAT]) s t ∧
      (bit w.val 0 = true → s.flag F.REC_CFG_EN = false → t.recState = 1 ∧ t.ride.recs = []) ∧
      (bit w.val 0 = false → s.flag F.REC_CFG_EN = true → t.recState = 0 ∧ t.ride.recs = []) ∧
      (bit w.val 0 = s.flag F.REC_CFG_EN → t.recState = s.recState ∧ t.ride = s.ride)) ∧
    (s.passes w.ses.val (A.ENG_FREEZE c.val) w.val = true → completes (.engFreezeWrite c w) s fun t => Answered OK s t ∧
      Stored (A.ENG_FREEZE c.val) w.val s t ∧ Frame false [.host] (· = A.ENG_FREEZE c.val) s t) ∧
    (s.passes w.ses.val (A.GRID_CTRL c.val) w.val = true → bits w.val 10 8 = 0 → completes (.gridSubWrite c w) s fun t =>
      Answered OK s t ∧ Stored (A.GRID_CTRL c.val) w.val s t ∧
      (s.role c.val = rGRID → s.cst c.val = sACTIVE →
        (t.chn c.val).grid.pend = (if s.sub c.val = mISLAND ∨ bit w.val 0 ≠ (s.sub c.val != mFOLLOW) then some (bit w.val 0) else none) ∧
        t.flag (F.GRID_STAT_PEND c.val) = (t.chn c.val).grid.pend.isSome ∧
        Frame false [.host, .chan c.val] (· ∈ [A.GRID_CTRL c.val, A.GRID_STAT c.val]) s t) ∧
      (s.role c.val ≠ rGRID ∨ s.cst c.val ≠ sACTIVE → Frame false [.host] (· = A.GRID_CTRL c.val) s t)) ∧
    (s.passes w.ses.val (A.GRID_FNOM c.val) w.val = true → w.val ≠ s.rd (A.GRID_FNOM c.val) → completes (.gridFnomWrite c w) s fun t =>
      Answered OK s t ∧ t.rd (A.GRID_FNOM c.val) = w.val ∧
      (s.role c.val = rGRID → t.cx c.val 0 18 = fMul f2Pi w.val ∧ t.cx c.val 8 19 = fMul f2Pi w.val ∧ t.cx c.val 10 19 = fMul f2Pi w.val ∧
        Frame false [.host] (· ∈ [A.GRID_FNOM c.val, ctxAddr c.val 0 18, ctxAddr c.val 8 19, ctxAddr c.val 10 19]) s t) ∧
      (s.role c.val ≠ rGRID → Frame false [.host] (· = A.GRID_FNOM c.val) s t))

/-- Writes of the gate, trip, metering, safety, clock and store settings are stored and act: For a write of an open session that passes the checks of R516. PWM_SHHI releases its word with the staged PWM_SHLO as one shadow word. PWM_CAR waits for the frame boundary. PWM_FORCE is stored and a forced half-bridge is held off at once with P, E, HI and LO at 0. SW_TRIP trips the channel with code 0x24 within the tick, or is entered. SW_EN from 1 to 0 lowers the effective enable; from 0 to 1 it answers CLEAR_REFUSED while the latch stays set. METER_CFG with a new mode restarts the windows of its point. A calibration write is stored and records CAL_CHG. CAL_SAVE and SAVE begin one commit, unless one runs. EPUL_CFG and EPUL_K are stored and the remainder restarts. SGI_REQ makes Safe Gate Inhibit active from any open session. KA_RTC_HI sets the clock with the staged low word; KA_CFG is stored and moves the admission threshold. SWITCH and DIV_COMMIT act at the next tick boundary. The instant of SW_TRIP and SW_EN within phase 6 is the model's free choice (log entry 3). (07 R220; 07 R233; 07 R239; 08 R255; 08 R261; 09 R273; 09 R280; 09 R292; 11 R329; 16 R452; 16 R455; 16 R468) -/
def Obligations.ChannelAndBookWritesAct : Prop :=
  ∀ (s : State) (c : Chan) (w : RegWr),
    (∀ h : HbIx, s.passes w.ses.val (A.PWM_SHHI c.val h.val) w.val = true → completes (.pwmShhiWrite c h w) s fun t => Answered OK s t ∧
      (t.hb c.val h.val).shLo = (s.hb c.val h.val).stageLo ∧ (t.hb c.val h.val).shHi = w.val ∧ (t.hb c.val h.val).fresh = true ∧
      (t.hb c.val h.val).oldLo = (s.hb c.val h.val).shLo ∧ (t.hb c.val h.val).oldHi = (s.hb c.val h.val).shHi ∧
      (∀ k : HbIx, k ≠ h → t.hb c.val k.val = s.hb c.val k.val) ∧
      Frame false [.host, .chan c.val] (· = A.PWM_SHHI c.val h.val) s t) ∧
    (s.passes w.ses.val (A.PWM_CAR c.val) w.val = true → bits w.val 5 0 ≠ bits (s.rd (A.PWM_CAR c.val)) 5 0 →
      completes (.pwmCarWrite c w) s fun t => Answered OK s t ∧ Stored (A.PWM_CAR c.val) w.val s t ∧
        t.chn c.val = { s.chn c.val with carWait := true } ∧ Frame false [.host, .chan c.val] (· = A.PWM_CAR c.val) s t) ∧
    (s.passes w.ses.val (A.PWM_FORCE c.val) w.val = true → w.val ≠ s.rd (A.PWM_FORCE c.val) &&& implMask (A.PWM_FORCE c.val) →
      completes (.pwmForceWrite c w) s fun t => Answered OK s t ∧ Stored (A.PWM_FORCE c.val) w.val s t ∧
        (∀ h : HbIx, t.bitOf (F.PWM_FSTAT_OFF_EFF c.val) h.val = t.forced c.val h.val ∧
          (bit w.val h.val = true → t.forced c.val h.val = true) ∧
          (t.forced c.val h.val = true → (t.hb c.val h.val).p = false ∧ (t.hb c.val h.val).e = false ∧ (t.gate c.val h.val).hi = (t.gateCmd c.val h.val).1) ∧
          (t.forced c.val h.val = false → s.bitOf (F.PWM_FSTAT_OFF_EFF c.val) h.val = true → (t.hb c.val h.val).relWait = true)) ∧
        Frame false [.host, .chan c.val] (· ∈ [A.PWM_FORCE c.val, A.PWM_FSTAT c.val]) s t) ∧
    (s.passes w.ses.val (A.GDI_CTRL c.val) (s.withBit (A.GDI_CTRL c.val) 8) = true → s.flag (F.GDI_CTRL_SW_EN c.val) = bit (s.withBit (A.GDI_CTRL c.val) 8) 0 →
      completes (.swTrip c w.ses) s fun t => t.host.ans = OK ∧ ∃ off, off < s.t.len + 1 ∧
        (s.flag (F.GDI_STAT_TRIPPED c.val) = false → Latched c.val 0x24 0 off s t) ∧
        (s.flag (F.GDI_STAT_TRIPPED c.val) = true → Entered c.val 0x24 0 off s t) ∧
        Frame true [.host, .free, .chan c.val] (fun a => tripWords c.val a ∨ a = A.GDI_CTRL c.val) s t) ∧
    (s.passes w.ses.val (A.GDI_CTRL c.val) w.val = true → bit w.val 8 = false →
      (bit w.val 0 = false → s.flag (F.GDI_CTRL_SW_EN c.val) = true → s.effEn c.val = true → completes (.gdiSwEnWrite c w) s fun t =>
        t.host.ans = OK ∧ t.flag (F.GDI_CTRL_SW_EN c.val) = false ∧ t.effEn c.val = false ∧ (t.chn c.val).offDrive = true ∧
        (s.cst c.val = sACTIVE → t.cst c.val = sOFF) ∧ t.flag (F.GDI_STAT_TRIPPED c.val) = s.flag (F.GDI_STAT_TRIPPED c.val)) ∧
      (bit w.val 0 = true → s.flag (F.GDI_CTRL_SW_EN c.val) = false →
        (s.flag (F.GDI_STAT_TRIPPED c.val) = false → completes (.gdiSwEnWrite c w) s fun t => t.host.ans = OK ∧
          t.flag (F.GDI_CTRL_SW_EN c.val) = true ∧ t.flag (F.GDI_STAT_TRIPPED c.val) = false ∧
          (s.flag (F.GDI_STAT_ENA_PIN c.val) = true → t.effEn c.val = true)) ∧
        (s.flag (F.GDI_STAT_TRIPPED c.val) = true → completes (.gdiSwEnWrite c w) s fun t => t.flag (F.GDI_CTRL_SW_EN c.val) = true ∧
          t.host.ans = (if t.flag (F.GDI_STAT_TRIPPED c.val) then CLEAR_REFUSED else OK) ∧
          (s.flag (F.GDI_STAT_ENA_PIN c.val) = false → t.host.ans = CLEAR_REFUSED)))) ∧
    (∀ p : Point, s.passes w.ses.val (A.METER_CFG p.val) w.val = true → completes (.meterCfgWrite p w) s fun t => Answered OK s t ∧
      Stored (A.METER_CFG p.val) w.val s t ∧
      (bits w.val 2 0 ≠ bits (s.rd (A.METER_CFG p.val)) 2 0 → (t.mtr p.val).restart = true) ∧
      Frame false [.host, .meter p.val] (· = A.METER_CFG p.val) s t) ∧
    (∀ (p : Point) (off : Fin 128), s.passes w.ses.val (A.CAL_VGAIN p.val 0 + off.val) w.val = true →
      off.val % 4 = 0 → off.val % 32 < 24 → w.val ≠ s.rd (A.CAL_VGAIN p.val 0 + off.val) →
      completes (.calWrite p off w) s fun t => t.host.ans = OK ∧ t.rd (A.CAL_VGAIN p.val 0 + off.val) = w.val ∧
        Raised (F.METER_EVT_CAL_CHG p.val) s t ∧
        Frame true [.host] (· ∈ [A.CAL_VGAIN p.val 0 + off.val, A.METER_EVT p.val]) s t) ∧
    (∀ p : Point, s.passes w.ses.val (A.METER_CTRL p.val) (s.withBit (A.METER_CTRL p.val) 0) = true → completes (.calSave p w.ses) s fun t =>
      Answered ACCEPTED s t ∧ s.er.calBusy = none ∧ t.er.calBusy.isSome = true ∧ t.er.cal = s.er.cal ∧
      Frame false [.host, .er] (· = A.METER_CTRL p.val) s t) ∧
    (∀ (j : Fin 4) (k : Bool), s.passes w.ses.val (if k then A.EPUL_K j.val else A.EPUL_CFG j.val) w.val = true →
      w.val ≠ s.rd (if k then A.EPUL_K j.val else A.EPUL_CFG j.val) &&& implMask (if k then A.EPUL_K j.val else A.EPUL_CFG j.val) →
      completes (.epulCfgWrite j k w) s fun t => Answered OK s t ∧ Stored (if k then A.EPUL_K j.val else A.EPUL_CFG j.val) w.val s t ∧
        t.epl j.val = { s.epl j.val with zero := true } ∧
        Frame false [.host, .epul j.val] (· = (if k then A.EPUL_K j.val else A.EPUL_CFG j.val)) s t) ∧
    (s.hosted = true → s.sesOpen w.ses.val = true → w.val = 1#32 → completes (.safeCtrlSgiReq w) s fun t => t.host.ans = OK ∧
      Inhibited 0x03 0 false s t ∧ Frame true (.host :: .safe :: chanParts) (· ∈ A.SAFE_CTRL :: sgiWords) s t) ∧
    (s.passes w.ses.val A.KA_RTC_HI w.val = true → completes (.kaRtcHiWrite w) s fun t => t.host.ans = OK ∧
      t.get64 A.KA_RTC_LO = s.ka.stage.toNat + 2 ^ 32 * w.val.toNat ∧ t.ka.frac = 0 ∧ t.flag F.KA_STAT_RTC_LOST = false ∧
      Raised F.KA_EVT_RTC_SET s t ∧ Frame true [.host, .ka] (· ∈ [A.KA_RTC_LO, A.KA_RTC_LO + 4, A.KA_STAT, A.KA_EVT]) s t) ∧
    (s.passes w.ses.val A.KA_CFG w.val = true → w.val ≠ s.rd A.KA_CFG &&& implMask A.KA_CFG → completes (.kaCfgWrite w) s fun t =>
      Answered OK s t ∧ Stored A.KA_CFG w.val s t ∧ t.get F.KA_ADMIT_ADMIT_MV = admitMv (bits w.val 20 0) % 2 ^ (F.KA_ADMIT_ADMIT_MV.hi + 1) ∧
      Frame false [.host, .nv] (· ∈ [A.KA_CFG, A.KA_ADMIT, A.KA_STAT]) s t) ∧
    (s.passes w.ses.val A.SYS_CFG_CTRL (s.withBit A.SYS_CFG_CTRL 0) = true → completes (.sysCfgSave w.ses) s fun t => Answered ACCEPTED s t ∧
      s.boot.save = none ∧ t.boot = { s.boot with save := t.boot.save, saveWid := 0 } ∧ t.boot.save.isSome = true ∧ t.nv = s.nv ∧
      Frame false [.host, .boot] (· = A.SYS_CFG_CTRL) s t) ∧
    (s.passes w.ses.val A.CLK_CFG (s.withBit A.CLK_CFG 1) = true → completes (.clkCfgSwitch w.ses) s fun t => Answered OK s t ∧
      t.t = { s.t with clkSw := true } ∧ t.drv = s.drv ∧ Frame false [.host, .t, .nv] (· = A.CLK_CFG) s t) ∧
    (s.passes w.ses.val A.DIV_COMMIT (s.withBit A.DIV_COMMIT 0) = true → completes (.divCommit w.ses) s fun t => Answered OK s t ∧
      t.t = { s.t with divPend := true } ∧ Frame false [.host, .t] (· = A.DIV_COMMIT) s t)

/-- A request that passes every check is accepted: tag in flight, credits held and SEQ on, in one instant: For every opcode but OPEN (which takes no tag and no credit) and every packet that passes the checks of R381. In the instant of acceptance the tag goes in flight with the credits of its length, HELD rises by them, the tags in flight count up, the expected SEQ advances, the session's timeout starts again, the request joins the queue behind the others, and nothing else changes. While phase 6 is closed, that is all; while it is open, the request is then served in its command slot, where every other status arises. (13 R382) -/
def Obligations.RequestsAreAdmitted : Prop :=
  ∀ (s : State) (p : Pkt), ∀ x ∈ requests p, x.1 ≠ 1 → s.admits x.1 p = true →
    (((s.admitted x.1 p).sesOf p.ses.val) = { s.sesOf p.ses.val with
        lastReq := s.clk, tags := (p.tag.val, credits p) :: (s.sesOf p.ses.val).tags } ∧
      (s.admitted x.1 p).get (F.HOST_SES_CR_HELD p.ses.val) = s.get (F.HOST_SES_CR_HELD p.ses.val) + credits p ∧
      Counted F.HOST_TAGS_IN_FLIGHT s (s.admitted x.1 p) ∧
      (s.admitted x.1 p).rd (A.HOST_SES_SEQ p.ses.val) = p.seq + 1#32 ∧
      (s.admitted x.1 p).host.work = s.host.work ++ [s.workOf x.1 p] ∧
      Frame false [.host] (· ∈ [A.HOST_SES_SEQ p.ses.val, A.HOST_SES_CR p.ses.val, A.HOST_TAGS]) s (s.admitted x.1 p)) ∧
    (s.t.open6 = false → exec x.2 s = complete s (s.admitted x.1 p)) ∧
    (s.t.open6 = true → exec x.2 s = complete s ((s.admitted x.1 p).serve (s.host.lastWid + 1)))

/-- NOP, OPEN, CLOSE, AUDIT, SESSIONS, STATUS, MODE_SET, CLAIM and RELEASE act and answer: For requests served at once. NOP, SESSIONS and STATUS reply with the words of the opcode table and change nothing. OPEN grants a free session its credits and tags, binds port and peer and starts SEQ after its own; without pool or tags it is NO_CREDIT with the free units, of an open session OWNED, with a bad word BAD_PARAM. CLOSE frees tag range, grant, claims, locks and unlock, clears PEND, TMO and NSUB, and closes. AUDIT gives the figures with itself counted; of an unbalanced pool it raises MONITOR too. CLAIM takes free items, with ALL none unless all can be had, and names each other owner; RELEASE frees and names those held. MODE_SET answers ACCEPTED and waits, a mode that it cannot name is BAD_PARAM, without the device claim OWNED. A stray payload bit is BAD_PARAM. (13 R378; 13 R380; 13 R385; 13 R389; 13 R390; 17 R480) -/
def Obligations.SessionRequestsAnswer : Prop :=
  ∀ (s : State) (p : Pkt),
    (s.ready 0x00 p = true → completes (.nop p) s fun t => OnlyFinal 0x00 OK 0 [] p s t) ∧
    (s.opens p = true → s.sesOpen p.ses.val = false → (s.sesOf p.ses.val).ending = false → p.pay.length = 2 → pok p.pay 0 0xFFFFF = true →
      17 ≤ pf p.pay 0 10 0 ∧ pf p.pay 0 10 0 ≤ 1024 ∧ 1 ≤ pf p.pay 0 18 11 ∧ pf p.pay 0 18 11 ≤ 128 →
      pw p.pay 1 = 0#32 ∨ 100 ≤ (pw p.pay 1).toNat ∧ (pw p.pay 1).toNat ≤ 600000 →
      (∀ b ∈ s.tagBase (pf p.pay 0 18 11), pf p.pay 0 10 0 ≤ s.get F.HOST_POOL_FREE → completes (.openSes p) s fun t =>
        Replied 1 OK 0 0 [wd (pf p.pay 0 10 0 + 2 ^ 16 * b + 2 ^ 24 * pf p.pay 0 18 11),
          wd (s.get F.HEALTH_MGS_PROF + 4 * portNo p.port + 16 * s.get F.HOST_RING_STAT_ADDR)] p s t ∧ t.host.work = [] ∧
        t.sesOpen p.ses.val = true ∧ t.get (F.HOST_SES_STAT_PORT p.ses.val) = portNo p.port ∧
        t.get (F.HOST_SES_STAT_TBASE p.ses.val) = b ∧ t.get (F.HOST_SES_STAT_TCNT p.ses.val) = pf p.pay 0 18 11 ∧
        t.get (F.HOST_SES_CR_GRANT p.ses.val) = pf p.pay 0 10 0 ∧ t.get (F.HOST_SES_CR_HELD p.ses.val) = 0 ∧
        t.get F.HOST_POOL_FREE = s.get F.HOST_POOL_FREE - pf p.pay 0 10 0 ∧ t.rd (A.HOST_SES_SEQ p.ses.val) = p.seq + 1#32 ∧
        t.sesOf p.ses.val = { peer := p.peer, timeout := (pw p.pay 1).toNat, lastReq := s.clk } ∧
        Frame false [.host] (fun a => reqWords p.ses.val a ∨ a ∈ [A.HOST_SES_STAT p.ses.val, A.HOST_POOL]) s t) ∧
      (s.tagBase (pf p.pay 0 18 11) = none ∨ s.get F.HOST_POOL_FREE < pf p.pay 0 10 0 → completes (.openSes p) s fun t =>
        Replied 1 NO_CREDIT (min (s.get F.HOST_POOL_FREE) 0x7FFF) 0 [] p s t ∧ t.host.work = [] ∧
        Frame false [.host] (reqWords p.ses.val) s t)) ∧
    (s.opens p = true → p.pay.length ≠ 2 ∨ pok p.pay 0 0xFFFFF = false → completes (.openSes p) s fun t =>
      Replied 1 BAD_PARAM 0 0 [] p s t ∧ t.host.work = [] ∧ Frame false [.host] (reqWords p.ses.val) s t) ∧
    (s.opens p = true → s.sesOpen p.ses.val = true → (s.sesOf p.ses.val).ending = false → p.pay.length = 2 → pok p.pay 0 0x7FFFF = true →
      17 ≤ pf p.pay 0 10 0 ∧ pf p.pay 0 10 0 ≤ 1024 ∧ 1 ≤ pf p.pay 0 18 11 ∧ pf p.pay 0 18 11 ≤ 128 → pw p.pay 1 = 0#32 →
      completes (.openSes p) s fun t => Replied 1 OWNED 0 0 [] p s t ∧ t.host.work = [] ∧ Frame false [.host] (reqWords p.ses.val) s t) ∧
    (s.ready 0x02 p = true → (s.sesOf p.ses.val).tags = [] → completes (.close p) s fun t => Final 0x02 OK 0 [] p s t ∧ SessionEnded p.ses.val s t ∧
      Frame false [.host, .safe, .nv, .boot] (fun a => reqWords p.ses.val a ∨ endWords p.ses.val a) s t) ∧
    (s.ready 0x03 p = true →
      (s.poolOk = true → completes (.audit p) s fun t => OnlyFinal 0x03 OK 0
        ([wd (s.get (F.HOST_SES_CR_GRANT p.ses.val)), wd (s.get (F.HOST_SES_CR_HELD p.ses.val) + credits p),
          wd ((s.sesOf p.ses.val).tags.length + 1)] ++
          (List.range 4).map (tagMap (p.tag.val :: (s.sesOf p.ses.val).tags.map Prod.fst)) ++
          [4096#32, wd (s.get F.HOST_POOL_FREE), wd (4096 - s.get F.HOST_POOL_FREE - s.get F.HOST_POOL_STREAM_RES),
            wd (s.get F.HOST_POOL_STREAM_RES), wd ((s.get F.HOST_TAGS_IN_FLIGHT + 1) % 256)]) p s t) ∧
      (s.poolOk = false → completes (.audit p) s fun t => Settled p s t ∧ t.bitOf F.HEALTH_SRQ_CAUSE cMONITOR = true)) ∧
    (s.ready 0x05 p = true → completes (.sessions p) s fun t => OnlyFinal 0x05 OK 0 (ix16s.map fun i =>
      wd (s.get (F.HOST_SES_STAT_OPEN i) + 2 * s.get (F.HOST_SES_STAT_PORT i) + 8 * s.get (F.HOST_SES_STAT_TBASE i) +
        2 ^ 10 * s.get (F.HOST_SES_STAT_TCNT i) + 2 ^ 26 * b2n (s.devOwner == i + 1)) |||
      chans.foldl (fun m c => setBits m (18 + c) (18 + c) (b2n (s.chOwner c == i + 1))) 0#32) p s t) ∧
    (s.ready 0x10 p = true → completes (.status p) s fun t => OnlyFinal 0x10 OK 0 (s.rd A.SYS_MODE :: chans.map fun c =>
      wd (s.role c + 2 ^ 4 * s.cst c + 2 ^ 8 * s.sub c + 2 ^ 12 * s.get (F.GDI_STAT_TRIPPED c) + 2 ^ 13 * s.get (F.ENG_STAT_SERVED c) +
        2 ^ 16 * s.refuseCode c)) p s t) ∧
    (s.ready 0x11 p = true → completes (.modeSet p) s fun t =>
      (pok p.pay 0 7 = false → OnlyFinal 0x11 BAD_PARAM 0 [] p s t) ∧
      (pok p.pay 0 7 = true → s.holds p.ses.val .dev = false → OnlyFinal 0x11 OWNED 0 [] p s t) ∧
      (pok p.pay 0 7 = true → s.holds p.ses.val .dev = true →
        (pf p.pay 0 2 0 ∈ [0, 4, 6, 7] → OnlyFinal 0x11 BAD_PARAM 0 [] p s t) ∧
        (pf p.pay 0 2 0 ∉ [0, 4, 6, 7] → Waits 0x11 (.waitMode (pf p.pay 0 2 0)) p s t ∧ t.mode = s.mode ∧
          Frame false [.host] (reqWords p.ses.val) s t))) ∧
    (s.ready 0x12 p = true → pok p.pay 0 0x101FF = true → ∀ free : Bool,
      free = ((chans.all fun c => !bit (pw p.pay 0) c || s.chOwner c == 0 || s.chOwner c == p.ses.val + 1) &&
        (!bit (pw p.pay 0) 8 || s.devOwner == 0 || s.devOwner == p.ses.val + 1)) → completes (.claim p) s fun t =>
      (∀ c : Chan, t.chOwner c.val = if bit (pw p.pay 0) c.val ∧ s.chOwner c.val = 0 ∧ (bit (pw p.pay 0) 16 = false ∨ free = true)
        then p.ses.val + 1 else s.chOwner c.val) ∧
      t.devOwner = (if bit (pw p.pay 0) 8 ∧ s.devOwner = 0 ∧ (bit (pw p.pay 0) 16 = false ∨ free = true) then p.ses.val + 1 else s.devOwner) ∧
      Final 0x12 OK 0 [(chans.take 4).foldl (fun m c => setBits m (8 * c + 7) (8 * c) (claimByte p.ses.val (t.chOwner c) (bit (pw p.pay 0) c))) 0#32,
        (chans.drop 4).foldl (fun m c => setBits m (8 * c - 25) (8 * c - 32) (claimByte p.ses.val (t.chOwner c) (bit (pw p.pay 0) c))) 0#32,
        wd (claimByte p.ses.val t.devOwner (bit (pw p.pay 0) 8))] p s t ∧
      Frame false [.host] (fun a => reqWords p.ses.val a ∨ a ∈ [A.HOST_CLAIM0, A.HOST_CLAIM1, A.HOST_CLAIM2]) s t) ∧
    (s.ready 0x13 p = true → pok p.pay 0 0x1FF = true → completes (.release p) s fun t =>
      (∀ c : Chan, t.chOwner c.val = if bit (pw p.pay 0) c.val ∧ s.chOwner c.val = p.ses.val + 1 then 0 else s.chOwner c.val) ∧
      t.devOwner = (if bit (pw p.pay 0) 8 ∧ s.devOwner = p.ses.val + 1 then 0 else s.devOwner) ∧
      Final 0x13 OK 0 [chans.foldl (fun m c => setBits m c c (b2n (bit (pw p.pay 0) c && s.chOwner c == p.ses.val + 1)))
        (wd (2 ^ 8 * b2n (bit (pw p.pay 0) 8 && s.devOwner == p.ses.val + 1)))] p s t ∧
      Frame false [.host] (fun a => reqWords p.ses.val a ∨ a ∈ [A.HOST_CLAIM0, A.HOST_CLAIM1, A.HOST_CLAIM2]) s t) ∧
    (s.ready 0x12 p = true → pok p.pay 0 0x101FF = false → completes (.claim p) s fun t => OnlyFinal 0x12 BAD_PARAM 0 [] p s t) ∧
    (s.ready 0x13 p = true → pok p.pay 0 0x1FF = false → completes (.release p) s fun t => OnlyFinal 0x13 BAD_PARAM 0 [] p s t)

/-- SETPOINT, CTX_WRITE and CTX_WRITE_LIST apply a word a tick; SETPOINT_SET applies all or none; FREEZE sets its bits: For requests served at once on contexts of channel ch. SETPOINT begins with RAMP_RATE where it has one, else with REF; the others with their first word. A malformed request is BAD_PARAM, one without the claim OWNED. A context already written in this tick makes it wait. An allowed word is stored; where it changes the law set ACCEPTED goes out, the change is queued and the request waits for it. After the last word the request stands until the law has run; after another it goes on with the next. A refused word ends it with its status and 0 words. SETPOINT_SET refuses two entries of one context, and an entry that is refused, with its index and no REF written; else every REF is written in this slot and the count replied. FREEZE replaces the named bits. (03 R99; 03 R100; 03 R102; 13 R390; 13 R391; 13 R395) -/
def Obligations.ContextRequestsWriteInOrder : Prop :=
  ∀ (s : State) (p : Pkt), ∀ c, pf p.pay 0 2 0 = c → ∀ k, pf p.pay 0 7 4 = k →
    (∀ x ∈ [(0x18, Instr.setpoint p, (if bit (pw p.pay 0) 8 then 5 else 4), (if bit (pw p.pay 0) 8 then pw p.pay 2 else pw p.pay 1),
          1 + pf p.pay 0 8 8, pok p.pay 0 0x1F7 && p.pay.length == 2 + pf p.pay 0 8 8),
        (0x31, .ctxWrite p, pf p.pay 0 13 8, pw p.pay 1, p.pay.length - 1, pok p.pay 0 0x1FFFF7 && pf p.pay 0 20 14 + 1 == p.pay.length &&
          decide (pf p.pay 0 13 8 + p.pay.length ≤ 65)),
        (0x32, .ctxWriteList p, pf p.pay 1 5 0, pw p.pay 2, pf p.pay 0 17 8, pok p.pay 0 0x3FFF7 && p.pay.length == 1 + 2 * pf p.pay 0 17 8 &&
          (List.range (pf p.pay 0 17 8)).all fun i => pok p.pay (2 * i + 1) 0x3F)], s.ready x.1 p = true →
      (x.2.2.2.2.2 = false → completes x.2.1 s fun t => OnlyFinal x.1 BAD_PARAM 0 [] p s t) ∧
      (x.2.2.2.2.2 = true → 16 * c + k ∈ s.t.written → completes x.2.1 s fun t => Begun x.1 0 .ready p s t ∧ t.t = s.t ∧
        Frame false [.host] (reqWords p.ses.val) s t) ∧
      (x.2.2.2.2.2 = true → 16 * c + k ∉ s.t.written → s.holds p.ses.val (.chan c) = false →
        completes x.2.1 s fun t => OnlyFinal x.1 OWNED 0 [] p s t) ∧
      (x.2.2.2.2.2 = true → 16 * c + k ∉ s.t.written → s.holds p.ses.val (.chan c) = true → ∀ j, x.2.2.1 = j → ∀ v, x.2.2.2.1 = v →
        j ≠ 3 → (j < 8 ∨ 16 ≤ j) → v ≠ s.cx c k j →
        (v &&& ~~~(ctxMask j) ≠ 0#32 → completes x.2.1 s fun t => OnlyFinal x.1 BAD_PARAM 0 [] p s t) ∧
        (v &&& ~~~(ctxMask j) = 0#32 → s.ctxRule c k j v = OK → ctxRebuilds j (s.cx c k j) v = false → completes x.2.1 s fun t =>
          t.cx c k j = v ∧ Begun x.1 1 (if x.2.2.2.2.1 = 1 then .ran else .ready) p s t ∧
          t.t = { s.t with written := (16 * c + k) :: s.t.written } ∧
          Frame false [.host, .t] (fun a => reqWords p.ses.val a ∨ a = ctxAddr c k j) s t) ∧
        (v &&& ~~~(ctxMask j) = 0#32 → s.ctxRule c k j v = OK → ctxRebuilds j (s.cx c k j) v = true → completes x.2.1 s fun t =>
          Waits x.1 .rebuild p s t ∧ t.t = { s.t with written := (16 * c + k) :: s.t.written, rebuilds := s.t.rebuilds ++ [⟨.ctxWord c k j v, s.host.lastWid + 1, false⟩] } ∧ t.flag F.SYS_TT_STAT_BUILDING = true ∧
          Frame false [.host, .t] (fun a => reqWords p.ses.val a ∨ a = A.SYS_TT_STAT) s t) ∧
        (v &&& ~~~(ctxMask j) = 0#32 → s.ctxRule c k j v ≠ OK → s.ctxRule c k j v ≠ REFUSED_SPEED → completes x.2.1 s fun t =>
          OnlyFinal x.1 (s.ctxRule c k j v) 0 [] p s t) ∧
        (v &&& ~~~(ctxMask j) = 0#32 → s.ctxRule c k j v = REFUSED_SPEED → completes x.2.1 s fun t =>
          Ended x.1 REFUSED_SPEED 0 [] p s t ∧ Raised (F.MACH_EVT_REV_REFUSED c) s t ∧
          Frame true [.host] (fun a => reqWords p.ses.val a ∨ a = A.MACH_EVT c) s t))) ∧
    (s.ready 0x19 p = true → ∀ n, (pw p.pay 0).toNat = n → ∀ es, (List.range n).map (fun i => (pf p.pay (2 * i + 1) 2 0,
        pf p.pay (2 * i + 1) 7 4, pw p.pay (2 * i + 2))) = es → ∀ ks, es.map (fun e => 16 * e.1 + e.2.1) = ks →
      1 ≤ n → n ≤ 128 → p.pay.length = 1 + 2 * n → (∀ i, i < n → pok p.pay (2 * i + 1) 0xF7 = true) →
      (ks.Nodup → (∀ m ∈ ks, m ∉ s.t.written) → (∀ e ∈ es, s.refStatus p.ses.val e = OK) → completes (.setpointSet p) s fun t =>
        Final 0x19 OK n [] p s t ∧ (∀ e ∈ es, t.cx e.1 e.2.1 4 = e.2.2) ∧ (∀ m ∈ ks, m ∈ t.t.written) ∧
        Frame false [.host, .t] (fun a => reqWords p.ses.val a ∨ a ∈ es.map fun e => ctxAddr e.1 e.2.1 4) s t) ∧
      (∀ i, i < n → ks.Nodup → (∀ m ∈ ks, m ∉ s.t.written) → (∀ e ∈ es.take i, s.refStatus p.ses.val e = OK) → ∀ e ∈ es[i]?,
        s.refStatus p.ses.val e ≠ OK →
        (s.refStatus p.ses.val e ≠ REFUSED_SPEED → completes (.setpointSet p) s fun t =>
          OnlyFinal 0x19 (s.refStatus p.ses.val e) i [] p s t) ∧
        (s.refStatus p.ses.val e = REFUSED_SPEED → completes (.setpointSet p) s fun t =>
          Ended 0x19 REFUSED_SPEED i [] p s t ∧ Raised (F.MACH_EVT_REV_REFUSED e.1) s t ∧
          Frame true [.host] (fun a => reqWords p.ses.val a ∨ a = A.MACH_EVT e.1) s t)) ∧
      (∀ i, i < n → (ks.take i).Nodup → ∀ m ∈ ks[i]?, m ∈ ks.take i → completes (.setpointSet p) s fun t =>
        OnlyFinal 0x19 BAD_PARAM i [] p s t)) ∧
    (s.ready 0x33 p = true → pok p.pay 0 7 = true →
      (s.holds p.ses.val (.chan c) = false → completes (.freeze p) s fun t => OnlyFinal 0x33 OWNED 0 [] p s t) ∧
      (s.holds p.ses.val (.chan c) = true → completes (.freeze p) s fun t => Final 0x33 OK 0 [] p s t ∧
        (∀ b : Ix16, bit (t.rd (A.ENG_FREEZE c)) b.val = if bit (pw p.pay 1) b.val then bit (pw p.pay 1) (16 + b.val) else bit (s.rd (A.ENG_FREEZE c)) b.val) ∧
        Frame false [.host] (fun a => reqWords p.ses.val a ∨ a = A.ENG_FREEZE c) s t))

/-- ROLE_SET, START, STOP, SUBMODE, SHADOW_SET, FORCE_OFF and TRIP_CLEAR act on the channels that the session holds: For requests served at once. Without the claim each is OWNED. ROLE_SET of an allowed role answers ACCEPTED and queues the rebuild. START of a channel in OFF whose conditions hold takes it to PRECHARGE at the next boundary: OK, or with WAIT ACCEPTED and a wait; with a failing condition NOT_IN_MODE with its code, as in another state with the present code. STOP takes PRECHARGE and SYNC to OFF and starts the ramp in ACTIVE; with WAIT it waits unless OFF. SUBMODE of a role other than GRID is BAD_PARAM; else it stores SUB and answers PEND. SHADOW_SET writes every named shadow word, or, where one may not be written, none (BAD_PARAM). FORCE_OFF sets or clears the named OFF bits of every named channel. TRIP_CLEAR lowers the effective enable and waits 11 us; then SW_EN := 1 and the answer is CLEAR_REFUSED while the latch is set. Its instant within phase 6 is the model's free choice (log entry 3). (04 R107; 04 R121; 04 R124; 04 R138; 06 R183; 06 R192; 06 R205; 07 R222; 07 R233; 08 R261; 13 R390; 13 R392) -/
def Obligations.ChannelRequestsAct : Prop :=
  ∀ (s : State) (p : Pkt), ∀ c, pf p.pay 0 2 0 = c →
    (∀ x ∈ [(0x14, Instr.roleSet p, 0x707), (0x15, .startCh p, 0x107), (0x16, .stopCh p, 0x107), (0x17, .submode p, 0x307), (0x53, .tripClear p, 7)],
      s.ready x.1 p = true → (pok p.pay 0 x.2.2 = false → completes x.2.1 s fun t => OnlyFinal x.1 BAD_PARAM 0 [] p s t) ∧
      (pok p.pay 0 x.2.2 = true → s.holds p.ses.val (.chan c) = false → completes x.2.1 s fun t => OnlyFinal x.1 OWNED 0 [] p s t)) ∧
    (s.ready 0x14 p = true → pok p.pay 0 0x707 = true → s.passes p.ses.val (A.ROLE_SEL c) (wd (pf p.pay 0 10 8)) = true →
      completes (.roleSet p) s fun t => Waits 0x14 .rebuild p s t ∧ t.role c = s.role c ∧
        t.t = { s.t with rebuilds := s.t.rebuilds ++ [⟨.role c (pf p.pay 0 10 8), s.host.lastWid + 1, false⟩] } ∧
        t.flag F.SYS_TT_STAT_BUILDING = true ∧ Frame false [.host, .t] (fun a => reqWords p.ses.val a ∨ a = A.SYS_TT_STAT) s t) ∧
    (s.ready 0x15 p = true → pok p.pay 0 0x107 = true → s.holds p.ses.val (.chan c) = true →
      (s.cst c ≠ sOFF → completes (.startCh p) s fun t => OnlyFinal 0x15 NOT_IN_MODE (s.refuseCode c) [] p s t) ∧
      (s.cst c = sOFF → s.startCode c ≠ 0 → completes (.startCh p) s fun t => Ended 0x15 NOT_IN_MODE (s.startCode c) [] p s t ∧
        t.cst c = sOFF ∧ (s.role c ≠ rIDLE → s.role c ≤ 4 → t.refuseCode c = s.startCode c % 16) ∧
        Frame true [.host] (fun a => reqWords p.ses.val a ∨ a ∈ [A.GRID_STAT c, A.GRID_EVT c, A.DC_STAT c, A.DC_EVT c, A.MACH_STAT c, A.MACH_EVT c]) s t) ∧
      (s.cst c = sOFF → s.startCode c = 0 → completes (.startCh p) s fun t => t.chn c = { s.chn c with startNext := true } ∧
        (bit (pw p.pay 0) 8 = false → Final 0x15 OK 0 [] p s t) ∧ (bit (pw p.pay 0) 8 = true → Waits 0x15 (.waitState c) p s t) ∧
        Frame false [.host, .chan c] (reqWords p.ses.val) s t)) ∧
    (s.ready 0x16 p = true → pok p.pay 0 0x107 = true → s.holds p.ses.val (.chan c) = true → s.role c ≠ rIDLE → s.role c ≤ 4 →
      (s.cst c = sPRECHARGE ∨ s.cst c = sSYNC → completes (.stopCh p) s fun t => Ended 0x16 OK 0 [] p s t ∧ t.cst c = sOFF ∧
        t.refuseCode c = kSTOP ∧ Frame true [.host, .chan c] (fun a => reqWords p.ses.val a ∨ a ∈ offWords c) s t) ∧
      (s.cst c = sACTIVE → completes (.stopCh p) s fun t => t.stops c = true ∧ t.cst c = sACTIVE ∧
        (bit (pw p.pay 0) 8 = false → Final 0x16 OK 0 [] p s t) ∧ (bit (pw p.pay 0) 8 = true → Waits 0x16 (.waitState c) p s t) ∧
        Frame false [.host, .chan c] (reqWords p.ses.val) s t) ∧
      (s.cst c = sOFF → completes (.stopCh p) s fun t => Final 0x16 OK 0 [] p s t ∧ (t.chn c).startNext = false ∧
        Frame false [.host, .chan c] (reqWords p.ses.val) s t)) ∧
    (s.ready 0x17 p = true → pok p.pay 0 0x307 = true → s.holds p.ses.val (.chan c) = true →
      (s.role c ≠ rGRID → completes (.submode p) s fun t => OnlyFinal 0x17 BAD_PARAM 0 [] p s t) ∧
      (s.role c = rGRID → completes (.submode p) s fun t => Final 0x17 OK (t.get (F.GRID_STAT_PEND c)) [] p s t ∧
        t.get (F.GRID_CTRL_SUB c) = pf p.pay 0 8 8 ∧ t.cst c = s.cst c ∧ t.sub c = s.sub c ∧
        (s.cst c = sACTIVE → s.sub c ≠ mISLAND → bit (pw p.pay 0) 8 ≠ (s.sub c != mFOLLOW) → t.get (F.GRID_STAT_PEND c) = 1) ∧
        (s.cst c = sACTIVE → s.sub c = mISLAND → bit (pw p.pay 0) 9 = true → (t.chn c).grid.reconn = true) ∧
        Frame false [.host, .chan c] (fun a => reqWords p.ses.val a ∨ a ∈ [A.GRID_CTRL c, A.GRID_STAT c]) s t)) ∧
    (s.ready 0x50 p = true → pok p.pay 0 0x3FF0007 = true → ∀ hs, (maskList 10 (pf p.pay 0 25 16)).zipIdx = hs → p.pay.length = 1 + 2 * hs.length →
      (s.holds p.ses.val (.chan c) = false → completes (.shadowSet p) s fun t => OnlyFinal 0x50 OWNED 0 [] p s t) ∧
      (s.holds p.ses.val (.chan c) = true →
        (∀ x ∈ hs, s.shadowOk c x.1 = true ∧ (s.vpCarrier c = true → pw p.pay (2 * x.2 + 2) = 0#32)) →
        completes (.shadowSet p) s fun t => Final 0x50 OK 0 [] p s t ∧
          (∀ x ∈ hs, (t.hb c x.1).shLo = pw p.pay (2 * x.2 + 1) ∧ (t.hb c x.1).shHi = pw p.pay (2 * x.2 + 2) ∧ (t.hb c x.1).fresh = true ∧
            (t.hb c x.1).oldLo = (s.hb c x.1).shLo ∧ (t.hb c x.1).oldHi = (s.hb c x.1).shHi) ∧
          (∀ h : HbIx, bit (pw p.pay 0) (16 + h.val) = false → t.hb c h.val = s.hb c h.val) ∧
          Frame false [.host, .chan c] (reqWords p.ses.val) s t) ∧
      (s.holds p.ses.val (.chan c) = true → ∀ x ∈ hs, s.shadowOk c x.1 = false ∨
          (s.vpCarrier c = true ∧ pw p.pay (2 * x.2 + 2) ≠ 0#32) → completes (.shadowSet p) s fun t => OnlyFinal 0x50 BAD_PARAM 0 [] p s t)) ∧
    (s.ready 0x51 p = true → pok p.pay 0 0xFF = true → pok p.pay 1 0x103FF = true →
      (∀ d : Chan, bit (pw p.pay 0) d.val = true → s.holds p.ses.val (.chan d.val) = false →
        completes (.forceOff p) s fun t => OnlyFinal 0x51 OWNED 0 [] p s t) ∧
      ((∀ d : Chan, bit (pw p.pay 0) d.val = true → s.holds p.ses.val (.chan d.val) = true) → completes (.forceOff p) s fun t =>
        Final 0x51 OK 0 [] p s t ∧
        (∀ d : Chan, bit (pw p.pay 0) d.val = true →
          t.rd (A.PWM_FORCE d.val) = (if bit (pw p.pay 1) 16 then s.rd (A.PWM_FORCE d.val) ||| wd (pf p.pay 1 9 0)
            else s.rd (A.PWM_FORCE d.val) &&& ~~~(wd (pf p.pay 1 9 0))) &&& implMask (A.PWM_FORCE d.val) ∧
          (t.rd (A.PWM_FORCE d.val) ≠ s.rd (A.PWM_FORCE d.val) → ∀ h : HbIx, t.bitOf (F.PWM_FSTAT_OFF_EFF d.val) h.val = t.forced d.val h.val ∧
            (t.forced d.val h.val = true → (t.hb d.val h.val).p = false ∧ (t.hb d.val h.val).e = false))) ∧
        (∀ d : Chan, bit (pw p.pay 0) d.val = false → t.chn d.val = s.chn d.val) ∧
        Frame false (.host :: chanParts) (fun a => reqWords p.ses.val a ∨ ∃ d : Chan, bit (pw p.pay 0) d.val = true ∧
          (a = A.PWM_FORCE d.val ∨ a = A.PWM_FSTAT d.val)) s t)) ∧
    (s.ready 0x53 p = true → pok p.pay 0 7 = true → s.holds p.ses.val (.chan c) = true → completes (.tripClear p) s fun t =>
      t.flag (F.GDI_CTRL_SW_EN c) = false ∧ t.flag (F.GDI_STAT_TRIPPED c) = s.flag (F.GDI_STAT_TRIPPED c) ∧
      (s.flag (F.GDI_CTRL_SW_EN c) = true → t.effEn c = false ∧ (s.effEn c = true → (t.chn c).offDrive = true)) ∧
      t.host.work.map Work.phase = [.timed (s.clk + 8800)] ∧ t.outbox p.port p.peer = s.outbox p.port p.peer ∧
      (t.host.work.all fun w => w.opc == 0x53 && w.tag == p.tag.val && pf w.pay 0 2 0 == c && decide ((pw w.pay 1).toNat ≤ s.t.len)) = true) ∧
    (∀ w ∈ s.host.work, s.host.work = [w] → w.wid ≠ 0 → w.opc = 0x53 → w.tag ≠ 255 → ∀ t0 ∈ w.timedAt, pf w.pay 0 2 0 = c → s.holds w.ses (.chan c) = true →
      (s.clk < t0 → (s.serve w.wid).host.work = [w] ∧ Frame false [.host] (fun _ => False) s (s.serve w.wid)) ∧
      (t0 ≤ s.clk → s.flag (F.GDI_CTRL_SW_EN c) = false → (s.serve w.wid).flag (F.GDI_CTRL_SW_EN c) = true ∧ (s.serve w.wid).host.work = [] ∧
        ((s.serve w.wid).outbox w.port w.peer).getLast?.map (fun q => (bits q.w1 31 24, q.tag)) =
          some (if (s.serve w.wid).flag (F.GDI_STAT_TRIPPED c) then CLEAR_REFUSED else OK, w.tag) ∧
        (s.flag (F.GDI_STAT_ENA_PIN c) = false → (s.serve w.wid).flag (F.GDI_STAT_TRIPPED c) = s.flag (F.GDI_STAT_TRIPPED c))))

/-- The read requests reply with the words that the opcode tables name, and change nothing: For requests served at once. CTX_READ replies with the named words of each named context, ascending; TRIP_READ with the trip registers; ACC_READ with low word, high word and wrap counter of each named accumulator; WINDOW_READ with one interval of its level and the harmonics and supraharmonics asked for; RECORD_READ with the named record, or REFUSED_ENERGY where the slot is empty or holds another DAY; SNAP_LIST with the DAY of each snapshot slot; LOG_READ and SAFE_LOG_READ with the entries from the named number on, DETAIL[0] telling that earlier ones were overwritten; COUNTERS with event counters; HEALTH_GET with the health words. A stray bit or a count outside its range is BAD_PARAM. (03 R106; 09 R297; 10 R308; 11 R344; 12 R365; 12 R366; 13 R390; 13 R393) -/
def Obligations.ReadRequestsAnswer : Prop :=
  ∀ (s : State) (p : Pkt),
    (s.ready 0x30 p = true →
      (pok p.pay 0 0x1FFF07 = true → pok p.pay 1 0xFFFF = true → 1 ≤ pf p.pay 0 20 14 → pf p.pay 0 13 8 + pf p.pay 0 20 14 ≤ 64 →
        pf p.pay 0 20 14 * (maskList 16 (pf p.pay 1 15 0)).length ≤ 1023 → completes (.ctxRead p) s fun t =>
        OnlyFinal 0x30 OK 0 ((maskList 16 (pf p.pay 1 15 0)).flatMap fun k => (List.range (pf p.pay 0 20 14)).map fun j =>
          s.word (ctxAddr (pf p.pay 0 2 0) k (pf p.pay 0 13 8 + j))) p s t) ∧
      (pok p.pay 0 0x1FFF07 = false ∨ pok p.pay 1 0xFFFF = false ∨ pf p.pay 0 20 14 = 0 ∨ 64 < pf p.pay 0 13 8 + pf p.pay 0 20 14 ∨
        1023 < pf p.pay 0 20 14 * (maskList 16 (pf p.pay 1 15 0)).length → completes (.ctxRead p) s fun t => OnlyFinal 0x30 BAD_PARAM 0 [] p s t)) ∧
    (s.ready 0x52 p = true → completes (.tripRead p) s fun t =>
      (pok p.pay 0 7 = true → OnlyFinal 0x52 OK 0 ([A.GDI_STAT, A.GDI_SRC, A.GDI_IN, A.GDI_TRQ_N].map (fun f => s.rd (f (pf p.pay 0 2 0))) ++
        (List.range 16).map fun j => s.rd ((if j % 2 = 0 then A.GDI_TRQ_A else A.GDI_TRQ_B) (pf p.pay 0 2 0) (j / 2))) p s t) ∧
      (pok p.pay 0 7 = false → OnlyFinal 0x52 BAD_PARAM 0 [] p s t)) ∧
    (s.ready 0x60 p = true → completes (.accRead p) s fun t =>
      (pok p.pay 0 0xFFFF000F = true → pf p.pay 0 3 0 ≤ 8 → OnlyFinal 0x60 OK 0 ((maskList 16 (pf p.pay 0 31 16)).flatMap fun a =>
        [s.rd (A.METER_ACC_LO (pf p.pay 0 3 0) a), s.rd (A.METER_ACC_HI (pf p.pay 0 3 0) a),
          wd (bits (s.rd (A.METER_WRAP (pf p.pay 0 3 0) (a / 2))) (16 * (a % 2) + 15) (16 * (a % 2)))]) p s t) ∧
      (pok p.pay 0 0xFFFF000F = false ∨ 8 < pf p.pay 0 3 0 → OnlyFinal 0x60 BAD_PARAM 0 [] p s t)) ∧
    (s.ready 0x61 p = true → completes (.windowRead p) s fun t =>
      (windowOk (pw p.pay 0) = true → OnlyFinal 0x61 OK 0 (s.windowPay (pw p.pay 0)) p s t ∧
        (s.windowPay (pw p.pay 0)).length = 34 + 229 * pf p.pay 0 8 8 + 74 * pf p.pay 0 9 9) ∧
      (windowOk (pw p.pay 0) = false → OnlyFinal 0x61 BAD_PARAM 0 [] p s t)) ∧
    (s.ready 0x62 p = true → pok p.pay 0 3 = true → ∀ n, (pw p.pay 1).toNat = n →
      ∀ r, (if pf p.pay 0 1 0 = 0 then s.er.head else if pf p.pay 0 1 0 = 1 then s.er.at (0x8000 + n % 400) else s.er.at n) = r →
      (pf p.pay 0 1 0 = 3 ∨ (pf p.pay 0 1 0 = 2 ∧ 20 ≤ n) → completes (.recordRead p) s fun t => OnlyFinal 0x62 BAD_PARAM 0 [] p s t) ∧
      (pf p.pay 0 1 0 ≠ 3 → ¬ (pf p.pay 0 1 0 = 2 ∧ 20 ≤ n) →
        (r = none → completes (.recordRead p) s fun t => OnlyFinal 0x62 REFUSED_ENERGY 0 [] p s t) ∧
        (∀ x ∈ r, (pf p.pay 0 1 0 = 1 → dayOf x.time = n) → completes (.recordRead p) s fun t =>
          OnlyFinal 0x62 OK 0 (bytesToWords x.bytes) p s t) ∧
        (∀ x ∈ r, pf p.pay 0 1 0 = 1 → dayOf x.time ≠ n → completes (.recordRead p) s fun t =>
          OnlyFinal 0x62 REFUSED_ENERGY 0 [] p s t))) ∧
    (s.ready 0x63 p = true → completes (.snapList p) s fun t => OnlyFinal 0x63 OK 0
      ((List.range 400).map fun j => ((s.er.at (0x8000 + j)).map fun r => wd (dayOf r.time)).getD 0xFFFFFFFF#32) p s t) ∧
    (s.ready 0xA0 p = true → ∀ n, (pw p.pay 2).toNat = n → ∀ q, (pw p.pay 0).toNat * 2 ^ 32 + (pw p.pay 1).toNat = q →
      ∀ old, (s.log.ring.getLast?.map LogRec.lseq).getD 1 = old →
      (1 ≤ n → n ≤ 63 → completes (.logRead p) s fun t => OnlyFinal 0xA0 OK (if q < old ∧ 1 < old then 1 else 0)
        (((s.log.ring.reverse.filter fun r => max q old ≤ r.lseq).take n).flatMap LogRec.words) p s t) ∧
      (n = 0 ∨ 63 < n → completes (.logRead p) s fun t => OnlyFinal 0xA0 BAD_PARAM 0 [] p s t)) ∧
    (s.ready 0xA1 p = true → ∀ a, (pw p.pay 0).toNat = a → ∀ n, (pw p.pay 1).toNat = n →
      (1 ≤ n → n ≤ 1023 → a + n ≤ 1536 → completes (.counters p) s fun t =>
        OnlyFinal 0xA1 OK 0 ((List.range n).map fun j => s.rd (A.HEALTH_EVCNT (a + j))) p s t) ∧
      (n = 0 ∨ 1023 < n ∨ 1536 < a + n → completes (.counters p) s fun t => OnlyFinal 0xA1 BAD_PARAM 0 [] p s t)) ∧
    (s.ready 0xA2 p = true → completes (.healthGet p) s fun t => OnlyFinal 0xA2 OK 0
      (s.rd A.HEALTH_SRQ :: s.rd A.HEALTH_THERM :: s.rd A.HEALTH_FO :: s.rd A.HEALTH_AGE :: s.rd A.HEALTH_MGS ::
        (List.range 16).map fun j => s.rd (A.HEALTH_TEMP j)) p s t) ∧
    (s.ready 0x95 p = true → ∀ q, (pw p.pay 0).toNat = q → ∀ n, (pw p.pay 1).toNat = n →
      (1 ≤ n → n ≤ 25 → completes (.safeLogRead p) s fun t =>
        OnlyFinal 0x95 OK (if s.safe.nv.log.getLast?.any fun e => decide (max q 1 < e.seq) then 1 else 0)
          (((s.safe.nv.log.reverse.filter fun e => q ≤ e.seq).take n).flatMap fun e =>
            [wd e.seq, wd (e.time / 2 ^ 32), wd e.time, wd (e.ses + 16 * e.port + 256 * e.op)] ++ e.old ++ e.new ++ List.replicate 4 0#32) p s t) ∧
      (n = 0 ∨ 25 < n → completes (.safeLogRead p) s fun t => OnlyFinal 0x95 BAD_PARAM 0 [] p s t))

/-- REG_READ, REG_WRITE, REG_WRITE_LIST and REG_RMW read and write by address, a word a slot: For requests served at once. REG_READ of words without read effect replies with them, all of one slot; with a count outside 1 to 1,023 or an address outside every block it is BAD_PARAM. A write request with an address outside every block is BAD_PARAM and writes nothing. The first word of a write that passes R516, to a register without an action of its own, is stored: the request is then over with the words applied as its detail, or goes on with the next word in the next slot. A write without the claim is OWNED with 0 words applied and changes nothing, as is one that meets a reserved word or bit, with BAD_PARAM. REG_RMW writes the masked bits over the others as they stood, in the same slot, and replies with the value before. (13 R383; 13 R387; 13 R390; 13 R395; 15 R432; 15 R437; 15 R516) -/
def Obligations.RegisterRequestsReadAndWrite : Prop :=
  ∀ (s : State) (p : Pkt), ∀ win, s.window p.port p.peer = win →
    (s.ready 0x80 p = true → ∀ n, (pw p.pay 1).toNat = n →
      ∀ as, ((List.range (min n 1024)).map fun j => resolve win ((pw p.pay 0).toNat + 4 * j)) = as →
      (n = 0 ∨ 1023 < n ∨ none ∈ as → completes (.regRead p) s fun t => OnlyFinal 0x80 BAD_PARAM 0 [] p s t) ∧
      (1 ≤ n → n ≤ 1023 → (∀ x ∈ as, ∃ a ∈ x, plainRead a = true) → completes (.regRead p) s fun t =>
        OnlyFinal 0x80 OK 0 (as.map fun x => s.word (x.getD 0)) p s t)) ∧
    (∀ x ∈ [(0x81, Instr.regWrite p, (List.range (p.pay.length - 1)).map (fun j => (pw p.pay 0).toNat + 4 * j), pw p.pay 1),
        (0x82, .regWriteList p, (List.range (p.pay.length / 2)).map (fun j => (pw p.pay (2 * j)).toNat), pw p.pay 1),
        (0x83, .regRmw p, [(pw p.pay 0).toNat], (s.word ((resolve win (pw p.pay 0).toNat).getD 0) &&& ~~~(pw p.pay 1)) ||| (pw p.pay 2 &&& pw p.pay 1))],
      s.ready x.1 p = true →
      ((∃ a ∈ x.2.2.1, resolve win a = none) → completes x.2.1 s fun t => OnlyFinal x.1 BAD_PARAM 0 [] p s t) ∧
      ((∀ a ∈ x.2.2.1, resolve win a ≠ none) → ∀ a ∈ (x.2.2.1.head?.bind (resolve win)), isCtx a = false → plainRead a = true →
        (s.claimOk p.ses.val a x.2.2.2 = false → completes x.2.1 s fun t => OnlyFinal x.1 OWNED 0 [] p s t) ∧
        (s.claimOk p.ses.val a x.2.2.2 = true → (∀ r ∈ rowAt a, x.2.2.2 &&& ~~~(rowMask r) ≠ 0#32) →
          completes x.2.1 s fun t => OnlyFinal x.1 BAD_PARAM 0 [] p s t) ∧
        (s.passes p.ses.val a x.2.2.2 = true → (∀ r ∈ rowAt a, r.act = .none ∧ rowSc r = 0#32) → completes x.2.1 s fun t => Stored a x.2.2.2 s t ∧
          (x.2.2.1.length = 1 → Final x.1 OK (if x.1 = 0x83 then 0 else 1) (if x.1 = 0x83 then [s.word a] else []) p s t) ∧
          (1 < x.2.2.1.length → Begun x.1 1 .ready p s t) ∧
          Frame false [.host] (fun b => reqWords p.ses.val b ∨ b = a) s t)))

/-- The safety requests unlock, stage, commit and set the password only as the island allows, and SGI_REQ acts for any session: For requests served at once. SAFE_UNLOCK with the password makes the session the owner, with OWNED while another is; without a password stored, or during the block, it is REFUSED_SAFETY with the seconds left; a wrong password too, and it is counted, logged and recorded, the third in a row starting the block. SAFE_LOCK ends the owner's unlock with its staged image. SAFE_STAGE takes a valid image from the owner, BAD_PARAM otherwise. SAFE_COMMIT answers ACCEPTED first; it is REFUSED_SAFETY unless the session owns the unlock and SGI is active, NOT_IN_MODE outside STANDBY and SERVICE or while one runs, BAD_PARAM without a staged image, else the commit begins and the request waits. SAFE_SET_PW needs the unlock once a password exists and SERVICE before; it stores a new salt and hash and a log entry. SGI_REQ makes Safe Gate Inhibit active. (11 R329; 11 R340; 11 R341; 11 R342; 11 R343; 13 R390) -/
def Obligations.SafetyRequestsAct : Prop :=
  ∀ (s : State) (p : Pkt),
    (s.ready 0x90 p = true →
      (pwBytes p.pay = none → completes (.safeUnlock p) s fun t => OnlyFinal 0x90 BAD_PARAM 0 [] p s t) ∧
      (∀ b ∈ pwBytes p.pay,
        (s.safe.blockAt.isSome = true → completes (.safeUnlock p) s fun t => OnlyFinal 0x90 REFUSED_SAFETY s.blockLeft [] p s t) ∧
        (s.safe.blockAt = none → s.safe.nv.hash = [] → completes (.safeUnlock p) s fun t => OnlyFinal 0x90 REFUSED_SAFETY 0 [] p s t) ∧
        (s.safe.blockAt = none → s.safe.nv.hash ≠ [] → Crypto.sha3_512 (s.safe.nv.salt ++ b) = s.safe.nv.hash →
          (s.safe.owner.all (· == p.ses.val) = true → completes (.safeUnlock p) s fun t => Final 0x90 OK 0 [] p s t ∧
            t.safe = { s.safe with owner := some p.ses.val, wrong := 0, opAt := s.clk } ∧ t.flag F.SAFE_STAT_UNLOCKED = true ∧
            Frame false [.host, .safe] (fun a => reqWords p.ses.val a ∨ a = A.SAFE_STAT) s t) ∧
          (s.safe.owner.all (· == p.ses.val) = false → completes (.safeUnlock p) s fun t => OnlyFinal 0x90 OWNED 0 [] p s t)) ∧
        (s.safe.blockAt = none → s.safe.nv.hash ≠ [] → Crypto.sha3_512 (s.safe.nv.salt ++ b) ≠ s.safe.nv.hash →
          completes (.safeUnlock p) s fun t => Ended 0x90 REFUSED_SAFETY t.blockLeft [] p s t ∧ t.safe.wrong = s.safe.wrong + 1 ∧
            t.safe.blockAt = (if 2 ≤ s.safe.wrong then some s.clk else none) ∧ t.safe.owner = s.safe.owner ∧
            Counted F.SAFE_CNT2_PW_FAIL_CNT s t ∧ t.flag F.SAFE_EVT_PW_FAIL = true ∧
            (t.safe.nv.log.head?.map fun e => (e.seq, e.ses, e.port, e.op)) = some (s.get F.SAFE_LOGSEQ_SEQ + 1, p.ses.val, portNo p.port, 2) ∧
            Frame true [.host, .safe] (fun a => reqWords p.ses.val a ∨ a ∈ [A.SAFE_CNT2, A.SAFE_EVT, A.SAFE_LOGSEQ]) s t))) ∧
    (s.ready 0x91 p = true → completes (.safeLock p) s fun t => Final 0x91 OK 0 [] p s t ∧
      t.safe = (if s.safe.owner = some p.ses.val then { s.safe with owner := none, staged := none } else s.safe) ∧
      (s.safe.owner = some p.ses.val → t.flag F.SAFE_STAT_UNLOCKED = false) ∧
      Frame false [.host, .safe] (fun a => reqWords p.ses.val a ∨ (a = A.SAFE_STAT ∧ s.safe.owner = some p.ses.val)) s t) ∧
    (s.ready 0x92 p = true →
      (s.safe.owner ≠ some p.ses.val → completes (.safeStage p) s fun t => OnlyFinal 0x92 REFUSED_SAFETY 0 [] p s t) ∧
      (s.safe.owner = some p.ses.val → imageOk (imgClean p.pay) = true → completes (.safeStage p) s fun t => Final 0x92 OK 0 [] p s t ∧
        t.safe = { s.safe with staged := some (imgClean p.pay), opAt := s.clk } ∧ Frame false [.host, .safe] (reqWords p.ses.val) s t) ∧
      (s.safe.owner = some p.ses.val → imageOk (imgClean p.pay) = false → completes (.safeStage p) s fun t =>
        Final 0x92 BAD_PARAM 0 [] p s t ∧ t.safe = { s.safe with opAt := s.clk } ∧ Frame false [.host, .safe] (reqWords p.ses.val) s t)) ∧
    (s.ready 0x93 p = true → ∀ st, (if s.safe.owner ≠ some p.ses.val ∨ s.flag F.SAFE_STAT_SGI = false then REFUSED_SAFETY
        else if (s.mode ≠ mSTANDBY ∧ s.mode ≠ mSERVICE) ∨ s.safe.commit.isSome = true then NOT_IN_MODE
        else if s.safe.staged = none then BAD_PARAM else ACCEPTED) = st → completes (.safeCommit p) s fun t =>
      (st ≠ ACCEPTED → Settled p s t ∧ t.safe = { s.safe with opAt := t.safe.opAt } ∧
        t.outbox p.port p.peer = s.outbox p.port p.peer ++ [replyTo 0x93 ACCEPTED 0 0 [] p t, replyTo 0x93 st 0 (credits p) [] p t]) ∧
      (st = ACCEPTED → Waits 0x93 .commit p s t ∧
        t.safe = { s.safe with commit := s.safe.staged.map fun img => (img, p.ses.val, portNo p.port), staged := none, opAt := s.clk }) ∧
      Frame false [.host, .safe] (reqWords p.ses.val) s t) ∧
    (s.ready 0x94 p = true →
      (pwBytes p.pay = none → completes (.safeSetPw p) s fun t => OnlyFinal 0x94 BAD_PARAM 0 [] p s t) ∧
      (∀ b ∈ pwBytes p.pay,
        (s.safe.nv.hash ≠ [] → s.safe.owner ≠ some p.ses.val → completes (.safeSetPw p) s fun t => OnlyFinal 0x94 REFUSED_SAFETY 0 [] p s t) ∧
        (s.safe.nv.hash = [] → s.mode ≠ mSERVICE → completes (.safeSetPw p) s fun t => OnlyFinal 0x94 NOT_IN_MODE 0 [] p s t) ∧
        (s.safe.nv.hash ≠ [] ∧ s.safe.owner = some p.ses.val ∨ s.safe.nv.hash = [] ∧ s.mode = mSERVICE → completes (.safeSetPw p) s fun t =>
          Final 0x94 OK 0 [] p s t ∧ t.safe.nv.hash = Crypto.sha3_512 (t.safe.nv.salt ++ b) ∧ t.safe.nv.salt.length = 32 ∧
          t.safe.nv.img = s.safe.nv.img ∧ t.flag F.SAFE_STAT_PW_SET = true ∧ t.safe.opAt = s.clk ∧ t.safe.owner = s.safe.owner ∧
          (t.safe.nv.log.head?.map fun e => (e.seq, e.ses, e.port, e.op)) = some (s.get F.SAFE_LOGSEQ_SEQ + 1, p.ses.val, portNo p.port, 0) ∧
          Frame false [.host, .safe, .free] (fun a => reqWords p.ses.val a ∨ a ∈ [A.SAFE_STAT, A.SAFE_LOGSEQ]) s t))) ∧
    (s.ready 0x96 p = true → completes (.sgiReq p) s fun t => Ended 0x96 OK 0 [] p s t ∧ Inhibited 0x03 0 false s t ∧
      Frame true (.host :: .safe :: chanParts) (fun a => reqWords p.ses.val a ∨ a ∈ sgiWords) s t)

/-- The update requests write, check and activate the other slot, and signed requests wait for their signature: For requests served at once. IMG_BEGIN and IMG_ACTIVATE without the device claim, and every update request while another session's update is open, are OWNED. IMG_BEGIN in WAKE, under thermal step 2 or during a check is NOT_IN_MODE, with a size outside 4,692 bytes to 4 MiB BAD_PARAM; else the target is EMPTY and the update open. IMG_DATA within the size and on a word writes its words and no other. IMG_VERIFY of a complete target answers ACCEPTED and waits, of another is BAD_PARAM. IMG_ACTIVATE in STANDBY or SERVICE of a VERIFIED or CONFIRMED target answers ACCEPTED and OK, names it active and restarts at the next boundary. ATTEST and ATTEST_READ copy their body at once, answer ACCEPTED and wait; ATTEST_READ of an empty slot or another DAY is REFUSED_ENERGY. When the signature is formed the body goes out in segments, then the signature in two. The signature is a free value (log entry 12). (10 R319; 13 R390; 13 R394; 17 R493; 17 R494; 17 R495; 17 R497) -/
def Obligations.UpdateAndSignedRequestsAct : Prop :=
  ∀ (s : State) (p : Pkt), ∀ k, s.updTarget = k →
    (∀ x ∈ [(0xB0, Instr.imgBegin p), (0xB3, .imgActivate p)], s.ready x.1 p = true → s.holds p.ses.val .dev = false →
      completes x.2 s fun t => OnlyFinal x.1 OWNED 0 [] p s t) ∧
    (s.ready 0xB0 p = true → s.holds p.ses.val .dev = true → ∀ st,
      (if s.flag F.SYS_BOOT_UPD = true ∧ s.get F.SYS_BOOT_UPD_SES ≠ p.ses.val then OWNED
        else if s.mode = mWAKE ∨ 2 ≤ s.get F.HEALTH_THERM_STEP ∨ s.boot.verWid.isSome = true then NOT_IN_MODE
        else if (pw p.pay 0).toNat < 4692 ∨ 2 ^ 22 < (pw p.pay 0).toNat then BAD_PARAM else OK) = st → completes (.imgBegin p) s fun t =>
      (st ≠ OK → OnlyFinal 0xB0 st 0 [] p s t) ∧
      (st = OK → Final 0xB0 OK 0 [] p s t ∧ t.slot k = { st := eEMPTY, size := (pw p.pay 0).toNat } ∧ t.slot (1 - k) = s.slot (1 - k) ∧
        t.flag F.SYS_BOOT_UPD = true ∧ t.get F.SYS_BOOT_UPD_SES = p.ses.val ∧ t.nv.active = s.nv.active ∧
        Frame false [.host, .nv] (fun a => reqWords p.ses.val a ∨ a ∈ [A.SYS_BOOT, A.SYS_SLOT, A.SYS_OTHER_VER]) s t)) ∧
    (s.ready 0xB1 p = true → ∀ off, (pw p.pay 0).toNat = off → ∀ n, p.pay.length - 1 = n → ∀ st,
      (if s.flag F.SYS_BOOT_UPD = false ∨ s.get F.SYS_BOOT_UPD_SES ≠ p.ses.val then OWNED
        else if s.boot.verWid.isSome = true then NOT_IN_MODE
        else if off % 4 ≠ 0 ∨ 4 * (s.slot k).len < off + 4 * n then BAD_PARAM else OK) = st → completes (.imgData p) s fun t =>
      (st ≠ OK → OnlyFinal 0xB1 st 0 [] p s t) ∧
      (st = OK → Final 0xB1 OK 0 [] p s t ∧ (t.slot k).size = (s.slot k).size ∧ (t.slot k).st = (s.slot k).st ∧
        (∀ j, j < n → lookupReg (t.slot k).words (off / 4 + j) = some (pw p.pay (1 + j))) ∧
        (t.slot k).words.filter (fun x => decide (x.1 < off / 4) || decide (off / 4 + n ≤ x.1)) =
          (s.slot k).words.filter (fun x => decide (x.1 < off / 4) || decide (off / 4 + n ≤ x.1)) ∧
        t.slot (1 - k) = s.slot (1 - k) ∧ Frame false [.host, .nv] (reqWords p.ses.val) s t)) ∧
    (s.ready 0xB2 p = true → ∀ st,
      (if s.flag F.SYS_BOOT_UPD = false ∨ s.get F.SYS_BOOT_UPD_SES ≠ p.ses.val then OWNED
        else if s.boot.verWid.isSome = true then NOT_IN_MODE else if (s.slot k).full = false then BAD_PARAM else ACCEPTED) = st →
      completes (.imgVerify p) s fun t => (st ≠ ACCEPTED → OnlyFinal 0xB2 st 0 [] p s t) ∧
        (st = ACCEPTED → Waits 0xB2 .commit p s t ∧ t.boot = { s.boot with verWid := some (s.host.lastWid + 1) } ∧
          Frame false [.host, .boot] (reqWords p.ses.val) s t)) ∧
    (s.ready 0xB3 p = true → s.holds p.ses.val .dev = true → ∀ st,
      (if s.mode ≠ mSTANDBY ∧ s.mode ≠ mSERVICE then NOT_IN_MODE
        else if (s.slot k).st ≠ eVERIFIED ∧ (s.slot k).st ≠ eCONFIRMED then BAD_PARAM else OK) = st → completes (.imgActivate p) s fun t =>
      (st ≠ OK → OnlyFinal 0xB3 st 0 [] p s t) ∧
      (st = OK → Settled p s t ∧ t.outbox p.port p.peer = s.outbox p.port p.peer ++
          [replyTo 0xB3 ACCEPTED 0 0 [] p t, replyTo 0xB3 OK 0 (credits p) [] p t] ∧
        t.nv = { s.nv with active := k, trial := 0, bseq := s.nv.bseq + 1 } ∧ t.t = { s.t with restart := true } ∧
        Frame false [.host, .nv, .t] (fun a => reqWords p.ses.val a ∨ a ∈ [A.SYS_BOOT, A.SYS_SLOT, A.SYS_OTHER_VER]) s t)) ∧
    (s.ready 0xB4 p = true → completes (.attest p) s fun t => Waits 0xB4 .sign p s t ∧
      t.boot = { s.boot with atts := s.boot.atts ++ [(s.host.lastWid + 1, s.attBody (payBytes p.pay 32), bytesToWords (s.attBody (payBytes p.pay 32)))] } ∧
      Frame false [.host, .boot] (reqWords p.ses.val) s t) ∧
    (s.ready 0x64 p = true → ∀ n, (pw p.pay 1).toNat = n → ∀ r, (if pf p.pay 0 1 0 = 0 then s.er.head else s.er.at (0x8000 + n % 400)) = r →
      (pok p.pay 0 1 = false → completes (.attestRead p) s fun t => OnlyFinal 0x64 BAD_PARAM 0 [] p s t) ∧
      (pok p.pay 0 1 = true → r = none → completes (.attestRead p) s fun t => OnlyFinal 0x64 REFUSED_ENERGY 0 [] p s t) ∧
      (∀ y ∈ r, pok p.pay 0 1 = true → pf p.pay 0 1 0 = 1 → dayOf y.time ≠ n → completes (.attestRead p) s fun t =>
        OnlyFinal 0x64 REFUSED_ENERGY 0 [] p s t) ∧
      (∀ y ∈ r, pok p.pay 0 1 = true → (pf p.pay 0 1 0 = 1 → dayOf y.time = n) → completes (.attestRead p) s fun t => Waits 0x64 .sign p s t ∧
        t.boot = { s.boot with reads := s.boot.reads ++ [(s.host.lastWid + 1,
          payBytes (p.pay.drop 2) 32 ++ y.hash ++ le 8 y.seq ++ le 8 y.time, bytesToWords y.bytes)] } ∧
        Frame false [.host, .boot] (reqWords p.ses.val) s t)) ∧
    (∀ x ∈ [(Instr.attestSigned, s.boot.atts), (.attestedReadoutSigned, s.boot.reads)], s.runs = true →
      (x.2 = [] → completes x.1 s fun t => t.host = s.host ∧ Frame false [] (fun _ => False) s t) ∧
      (∀ q ∈ x.2.head?, ∀ w ∈ s.host.work, s.host.work = [w] → w.wid = q.1 → w.wid ≠ 0 → w.tag ≠ 255 → completes x.1 s fun t =>
        Signed w q.2.2 (byteFn (Config.sign s.freeCtr q.2.1) 4627) s t ∧ t.freeCtr = s.freeCtr + 1 ∧
        t.boot = (if x.1 = .attestSigned then { s.boot with atts := s.boot.atts.tail } else { s.boot with reads := s.boot.reads.tail })))

/-- Streams open within pool and capacity, send within their window, are acknowledged and closed, and sessions end by time or port: STREAM_OPEN, served at once, takes the lowest free identifier and 17 units for each packet of WIN, and answers both; it is NO_CREDIT with 32 streams open or without units, BAD_PARAM when malformed, BUDGET_EXCEEDED when a SIGNAL rate is past the port's or the device's capacity, OWNED for a source already streamed, NOT_IN_MODE for one not ready. STREAM_CLOSE by its session frees identifier and units, by another is OWNED. STREAM_ACK frees every packet up to its PSEQ, moves RD_IDX of a survey stream, and with NAK sends the later ones again; a PSEQ not yet sent is BAD_PARAM. STREAM_DATA sends the next packet of an open window with GAP, END, REDUCED and PSEQ, and nothing where the window is full or nothing waits. A session whose TIMEOUT has passed ends as by CLOSE, one whose port is lost too, and others stay. (13 R380; 13 R390; 13 R396; 13 R397; 13 R398; 13 R402; 14 R403; 02 R77) -/
def Obligations.StreamsCarryTheirSource : Prop :=
  ∀ (s : State) (p : Pkt), ∀ id, pf p.pay 0 4 0 = id →
    (s.ready 0x70 p = true → ∀ typ, pf p.pay 0 2 0 = typ → ∀ win, (if pf p.pay 0 12 8 = 0 then 32 else pf p.pay 0 12 8) = win →
      ∀ par, p.pay.drop 1 = par → ∀ free, (List.range 32).find? (fun j => (s.stream j).isNone) = free →
      ∀ formed, (pok p.pay 0 0x1F07 && ((typ ≤ 1 && par.isEmpty) || (typ == 2 && par.length == 1 && windowOk (pw par 0)) || (typ == 4 && par.length == 2) ||
        (typ == 3 && par.length == 2 + pf par 0 20 16 && pok par 0 0x1FFFFF && (List.range (1 + pf par 0 20 16)).all fun j =>
          pok par (j + 1) 0x7FF && (selOk (pf par (j + 1) 7 0) || (0xA0 ≤ pf par (j + 1) 7 0 && pf par (j + 1) 7 0 ≤ 0xA8))))) = formed →
      (typ = 3 → ∀ y ∈ s.host.streams, y.2.typ ≠ 3) → ∀ st,
      (if free = none then NO_CREDIT else if formed = false then BAD_PARAM else if s.get F.HOST_POOL_FREE < 17 * win then NO_CREDIT
        else if typ = 3 ∧ min (capacity p.port p.peer) 3200000000 < s.signalRate par then BUDGET_EXCEEDED
        else if (s.host.streams.any fun y => y.2.typ == typ && (typ ≤ 1 || (typ == 2 && y.2.par == par))) = true then OWNED
        else if (typ = 1 ∧ s.recState ≠ 4) ∨ (typ = 2 ∧ s.mtype (pf par 0 3 0) = 0) then NOT_IN_MODE else OK) = st →
      (st ≠ OK → completes (.streamOpen p) s fun t => OnlyFinal 0x70 st 0 [] p s t) ∧
      (∀ j ∈ free, st = OK → completes (.streamOpen p) s fun t => Final 0x70 OK 0 [wd j, wd (17 * win)] p s t ∧
        t.stream j = some { ses := p.ses.val, typ := typ, win := win, par := par,
                            pos := if typ = 0 then s.get F.SURV_BUF_RD_RD_IDX else if typ = 4 then (pw par 0).toNat * 2 ^ 32 + (pw par 1).toNat else 0 } ∧
        (∀ m : Fin 32, m.val ≠ j → t.stream m.val = s.stream m.val) ∧ t.get F.HOST_POOL_FREE = s.get F.HOST_POOL_FREE - 17 * win ∧
        t.get F.HOST_POOL_STREAM_RES = (s.get F.HOST_POOL_STREAM_RES + 17 * win) % 2 ^ 13 ∧
        Frame false [.host] (fun a => reqWords p.ses.val a ∨ a = A.HOST_POOL) s t)) ∧
    (s.ready 0x71 p = true →
      (pok p.pay 0 0x1F = false ∨ s.stream id = none → completes (.streamClose p) s fun t => OnlyFinal 0x71 BAD_PARAM 0 [] p s t) ∧
      (∀ x ∈ s.stream id, pok p.pay 0 0x1F = true →
        (x.ses ≠ p.ses.val → completes (.streamClose p) s fun t => OnlyFinal 0x71 OWNED 0 [] p s t) ∧
        (x.ses = p.ses.val → completes (.streamClose p) s fun t => Final 0x71 OK 0 [] p s t ∧ t.stream id = none ∧
          (∀ m : Fin 32, m.val ≠ id → t.stream m.val = s.stream m.val) ∧
          t.get F.HOST_POOL_FREE = (s.get F.HOST_POOL_FREE + 17 * x.win) % 2 ^ 13 ∧
          t.get F.HOST_POOL_STREAM_RES = s.get F.HOST_POOL_STREAM_RES - 17 * x.win ∧
          Frame false [.host] (fun a => reqWords p.ses.val a ∨ a = A.HOST_POOL) s t))) ∧
    (s.ready 0x72 p = true → pok p.pay 0 0x1001F = true → pok p.pay 1 0xFFFF = true →
      (s.stream id = none → completes (.streamAck p) s fun t => OnlyFinal 0x72 BAD_PARAM 0 [] p s t) ∧
      (∀ x ∈ s.stream id, ∀ back, (x.pseq + 65535 - pf p.pay 1 15 0) % 65536 = back →
        (x.ses ≠ p.ses.val → completes (.streamAck p) s fun t => OnlyFinal 0x72 OWNED 0 [] p s t) ∧
        (x.ses = p.ses.val → x.pseq ≤ back → completes (.streamAck p) s fun t => OnlyFinal 0x72 BAD_PARAM 0 [] p s t) ∧
        (x.ses = p.ses.val → back < x.pseq → completes (.streamAck p) s fun t => Settled p s t ∧
          t.stream id = some { x with unacked := x.unacked.filter fun u => x.pseq - 1 - back < u.1 } ∧
          (x.typ = 0 → t.get F.SURV_BUF_RD_RD_IDX =
            (((x.unacked.filter fun u => u.1 ≤ x.pseq - 1 - back).getLast?.map fun u => u.2.1).getD (s.get F.SURV_BUF_RD_RD_IDX)) % 2 ^ 13) ∧
          (pf p.pay 0 16 16 = 0 → Final 0x72 OK 0 [] p s t) ∧
          (pf p.pay 0 16 16 = 1 → (∀ u ∈ x.unacked, u.2.2.port = p.port ∧ u.2.2.peer = p.peer) → t.outbox p.port p.peer = s.outbox p.port p.peer ++
            (x.unacked.filter fun u => x.pseq - 1 - back < u.1).map (fun u => u.2.2) ++ [replyTo 0x72 OK 0 (credits p) [] p t]) ∧
          Frame false [.host] (fun a => reqWords p.ses.val a ∨ (x.typ = 0 ∧ a = A.SURV_BUF_RD)) s t))) ∧
    (∀ n : Fin 32, s.runs = true →
      (∀ x ∈ s.stream n.val, x.unacked.length < x.win → ∀ y ∈ s.streamNext x, ∀ port, portOf (s.get (F.HOST_SES_STAT_PORT x.ses)) = port →
        ∀ peer, (s.sesOf x.ses).peer = peer → ∀ pk, OutPkt.mk port peer 0x7F 5 0 x.ses (wd (n.val * 2 ^ 27 + b2n (y.2.2.2 != 0) * 2 ^ 26 +
            b2n y.2.2.1 * 2 ^ 25 + b2n (s.get F.HEALTH_THERM_STEP == 3) * 2 ^ 24 + x.pseq % 65536))
          (if y.2.2.2 ≠ 0 then wd y.2.2.2 :: y.1 else y.1) = pk → completes (.streamData n) s fun t =>
        t.outbox port peer = s.outbox port peer ++ [pk] ∧
        t.stream n.val = some { x with pseq := x.pseq + 1, unacked := x.unacked ++ [(x.pseq, y.2.1, pk)], lost := 0, pos := y.2.1, q := if x.typ = 2 then x.q.tail else [] } ∧
        Frame false [.host] (· = A.HOST_SPI_STAT) s t) ∧
      (s.stream n.val = none ∨ (∃ x ∈ s.stream n.val, x.win ≤ x.unacked.length ∨ s.streamNext x = none) → completes (.streamData n) s fun t =>
        t.host = s.host ∧ Frame false [] (fun _ => False) s t) ∧
      (∀ x ∈ s.stream n.val,
        (∀ k, min 255 ((s.get F.SURV_BUF_WR_WR_IDX + 8192 - x.pos) % 8192) = k → x.typ = 0 → s.get F.HEALTH_THERM_STEP ≠ 3 →
          (s.streamNext x).map (fun y => (y.1.length, y.2)) = if k = 0 then none else some (2 * k, (x.pos + k) % 8192, false, x.lost)) ∧
        (x.typ = 2 → s.streamNext x = x.q.head?.map fun a => (a, x.pos, false, x.lost)) ∧
        (x.typ = 3 → s.streamNext x = if x.q = [] then none else some (x.q.flatten, x.pos, false, x.lost)))) ∧
    (∀ i : Ix16, s.runs = true → s.host.work = [] → (s.sesOf i.val).tags = [] →
      (s.sesOpen i.val = true → (s.sesOf i.val).timeout ≠ 0 → (s.sesOf i.val).lastReq + 800000 * (s.sesOf i.val).timeout ≤ s.clk →
        completes (.sessionTimeout i) s fun t => SessionEnded i.val s t ∧ Frame false [.host, .safe, .nv, .boot] (endWords i.val) s t) ∧
      (s.sesOpen i.val = false ∨ (s.sesOf i.val).timeout = 0 ∨ s.clk < (s.sesOf i.val).lastReq + 800000 * (s.sesOf i.val).timeout →
        completes (.sessionTimeout i) s fun t => t.host = s.host ∧ Frame false [] (fun _ => False) s t)) ∧
    (∀ x ∈ [(LostLink.h1, s.flag F.HOST_ETH_STAT_LINK), (.tl2, s.flag F.HOST_RING_STAT_TL2_UP),
        (.tl3, s.flag F.HOST_RING_STAT_TL3E_UP || s.flag F.HOST_RING_STAT_TL3W_UP)], s.runs = true →
      (x.2 = true → completes (.portLost x.1) s fun t => t.host = s.host ∧ Frame false [] (fun _ => False) s t) ∧
      (x.2 = false → s.host.work = [] → (∀ i : Ix16, (s.sesOf i.val).tags = []) → completes (.portLost x.1) s fun t => ∀ i : Ix16,
        (if s.sesOpen i.val = true ∧ s.get (F.HOST_SES_STAT_PORT i.val) = (if x.1 = .h1 then 1 else 2) ∧ (x.1 = .tl2 → 64 ≤ (s.sesOf i.val).peer ∧
            (s.sesOf i.val).peer ≤ 127) ∧ (x.1 = .tl3 → 128 ≤ (s.sesOf i.val).peer)
          then t.sesOpen i.val = false ∧ t.get (F.HOST_SES_CR_GRANT i.val) = 0 ∧ (∀ c : Chan, s.chOwner c.val = i.val + 1 → t.chOwner c.val = 0)
          else t.sesOpen i.val = s.sesOpen i.val ∧ t.get (F.HOST_SES_CR_GRANT i.val) = s.get (F.HOST_SES_CR_GRANT i.val) ∧
            (∀ c : Chan, s.chOwner c.val = i.val + 1 → t.chOwner c.val = i.val + 1))))

/-- The checks of admission refuse in their order, with one reply that holds nothing; an ABORT stops what has not retired: While the ports serve. A bad frame, or one marked as from the device, is discarded and counted by its port. An opcode that no request has, or in recovery one not served there, is BAD_OPCODE. A session not open from this peer and port is BAD_PARAM with 1. A SEQ behind is discarded and counted; one ahead is BAD_PARAM with 2 and the expected number. Then set flags are BAD_PARAM with 3, a wrong length BAD_LENGTH, a tag outside the range BAD_PARAM with 4, one in flight TAG_IN_USE, and too few credits NO_CREDIT. Each refusal is one reply with CREDIT 0, counted, and changes nothing else. An admitted ABORT waits for the next slots, and there acts before any other work: a target that waits or has not begun is answered ABORTED with its words and the ABORT OK; a tag not in flight ABORT_TOO_LATE; behind a commit the ABORT waits. (13 R375; 13 R379; 13 R381; 13 R388; 14 R406; 17 R492) -/
def Obligations.AdmissionRefusesInOrder : Prop :=
  ∀ (s : State) (p : Pkt), s.serving = true →
    (∀ o : Byte, ∀ ok : Bool,
      (ok = false ∨ bit (wd p.flg.val) 2 = true → completes (.badOpcodePacket p o ok) s fun t => Dropped p.port p.peer s t) ∧
      (ok = true → bit (wd p.flg.val) 2 = false → s.takes o.toNat p = true → opcLen o.toNat p.pay.length = none →
        completes (.badOpcodePacket p o ok) s fun t => RefusedWith o.toNat BAD_OPCODE 0 p s t) ∧
      (∀ x ∈ requests p, x.1 = o.toNat → exec (.badOpcodePacket p o true) s = exec x.2 s)) ∧
    (∀ x ∈ requests p,
      (bit (wd p.flg.val) 2 = true → completes x.2 s fun t => Dropped p.port p.peer s t) ∧
      (bit (wd p.flg.val) 2 = false → s.recovery = true → recoveryOpc x.1 p.pay = false → x.1 ≠ 0xC1 →
        completes x.2 s fun t => RefusedWith x.1 BAD_OPCODE 0 p s t) ∧
      (bit (wd p.flg.val) 2 = false → s.takes x.1 p = true → x.1 ≠ 1 → ∀ ahead, (p.seq - s.rd (A.HOST_SES_SEQ p.ses.val)).toNat = ahead →
        (s.bound p = true → 2 ^ 31 ≤ ahead → completes x.2 s fun t => Counted (F.HOST_SES_CNT_DUP p.ses.val) s t ∧
          t.outbox p.port p.peer = s.outbox p.port p.peer ∧ t.host.work = s.host.work ∧ Frame false [.host] (· = A.HOST_SES_CNT p.ses.val) s t) ∧
        (s.bound p = false ∨ ahead < 2 ^ 31 → ∀ r, (if s.bound p = false then some (BAD_PARAM, 4096)
            else if ahead ≠ 0 then some (BAD_PARAM, 2 * 4096 + (s.rd (A.HOST_SES_SEQ p.ses.val)).toNat % 4096)
            else if p.flg.val ≠ 0 then some (BAD_PARAM, 3 * 4096)
            else if opcLen x.1 p.pay.length = some false then some (BAD_LENGTH, 0)
            else if p.tag.val < s.get (F.HOST_SES_STAT_TBASE p.ses.val) ∨
              s.get (F.HOST_SES_STAT_TBASE p.ses.val) + s.get (F.HOST_SES_STAT_TCNT p.ses.val) ≤ p.tag.val then some (BAD_PARAM, 4 * 4096)
            else if p.tag.val ∈ (s.sesOf p.ses.val).tags.map Prod.fst then some (TAG_IN_USE, 0)
            else if s.get (F.HOST_SES_CR_GRANT p.ses.val) < s.get (F.HOST_SES_CR_HELD p.ses.val) + credits p then some (NO_CREDIT, 0)
            else none) = r →
          (∀ y ∈ r, completes x.2 s fun t => RefusedWith x.1 y.1 y.2 p s t) ∧ (r = none → s.admits x.1 p = true))) ∧
      (x.1 = 1 → bit (wd p.flg.val) 2 = false → p.flg.val ≠ 0 → s.takes 1 p = true → completes x.2 s fun t => RefusedWith 1 BAD_PARAM (3 * 4096) p s t)) ∧
    (s.ready 0x04 p = true → completes (.abortTag p) s fun t => Begun 0x04 0 .ready p s t ∧ Frame false [.host] (reqWords p.ses.val) s t) ∧
    (∀ a ∈ s.host.work, a.opc = 4 → a.phase = .ready → a.tag ≠ 255 → a.wid ≠ 0 → pok a.pay 0 0x7F = true →
      (∀ m : Ix16, s.flag (F.HOST_MBS_FULL m.val) = false) →
      (s.host.work = [a] → pf a.pay 0 6 0 ≠ a.tag → s.commandSlots.host.work = [] ∧
        s.commandSlots.outbox a.port a.peer = s.outbox a.port a.peer ++ [a.packet ABORT_TOO_LATE 0 a.cred [] false s.commandSlots]) ∧
      (∀ x ∈ s.host.work, s.host.work = [x, a] → x.wid ≠ a.wid → x.ses = a.ses → x.tag = pf a.pay 0 6 0 → x.tag ≠ 255 → x.opc ∉ [1, 2, 4] →
        x.port = a.port → x.peer = a.peer →
        (x.phase = .ready ∨ x.phase = .sign ∨ x.timedAt.isSome = true → s.commandSlots.host.work = [] ∧ s.commandSlots.outbox a.port a.peer =
          s.outbox a.port a.peer ++ [x.packet ABORTED x.ix x.cred [] false s.commandSlots, a.packet OK 0 a.cred [] false s.commandSlots]) ∧
        (x.phase = .commit → s.commandSlots.host.work = [x, { a with phase := .abortWait x.tag }] ∧
          s.commandSlots.outbox a.port a.peer = s.outbox a.port a.peer)))

/-- SPI transactions move packets and register operations, Ethernet answers for its addresses, and the PTP servo follows its Syncs: For a running device. PKT_WR within RX_ROOM is the packet's arrival on H0, beyond it discarded and counted. PKT_RD and STAT send HOST_SPI_STAT, PKT_RD then the oldest packet, which leaves only when clocked out whole. Register mode is dropped before the ports serve, refused and counted in the Managed profile, TAG_IN_USE while one runs. A REG_RD in an open slot ends with its words, a REG_WR of one word is the write of session RSES where that is open on H0, else of no session; outside phase 6 it waits with REG_BUSY. REG_FETCH sends the words and clears REG_DONE. An unknown command and an incomplete datagram are counted. Auto-negotiation sets the link as full duplex allows, a loss clears it. Address and echo requests for the device are answered on a link, IPv4 only with an address. A PTP message sets the time, a Sync its offset and the runs of good and bad; loss enters HOLDOVER, 16 good Syncs in a row lock again. (12 R371; 13 R376; 14 R403; 14 R405; 14 R406; 14 R407; 14 R408; 14 R409; 14 R410; 14 R412; 14 R413; 01 R45) -/
def Obligations.HostPortsCarryPackets : Prop :=
  ∀ s : State, s.runs = true →
    (∀ x : SpiPkt, (x.words ≤ s.get F.HOST_SPI_STAT_RX_ROOM → exec (.pktWr x) s = exec (.badOpcodePacket { x.p with port := .h0, peer := 0 } x.opc x.frameOk) s) ∧
      (s.get F.HOST_SPI_STAT_RX_ROOM < x.words → completes (.pktWr x) s fun t => Dropped .h0 0 s t)) ∧
    (∀ whole : Bool, completes (.pktRd whole) s fun t =>
      (s.host.tx0 = [] → t.host = { s.host with out := [s.rd A.HOST_SPI_STAT] } ∧ Frame false [.host] (fun _ => False) s t) ∧
      (∀ k ∈ s.host.tx0.head?, t.host = { s.host with out := s.rd A.HOST_SPI_STAT :: k.words, tx0 := if whole then s.host.tx0.tail else s.host.tx0 } ∧
        k.words.length = k.pay.length + 3 ∧ (whole = true → t.flag F.HOST_SPI_STAT_PKT_PEND = !s.host.tx0.tail.isEmpty) ∧
        Frame false [.host] (fun a => whole = true ∧ a = A.HOST_SPI_STAT) s t)) ∧
    (completes .stat s fun t => t.host = { s.host with out := [s.rd A.HOST_SPI_STAT] } ∧ Frame false [.host] (fun _ => False) s t) ∧
    (∀ (addr : Word) (n : BitVec 8) (v : Word),
      (∀ x ∈ [Instr.regRd addr n, .regWr addr [v], .regFetch], (s.serving = false → completes x s fun t => Dropped .h0 0 s t) ∧
        (s.serving = true → s.get F.HEALTH_MGS_PROF = 1 → s.recovery = false → completes x s fun t => t.flag F.HOST_SPI_STAT_REG_REFUSED = true ∧
          Counted F.HOST_SPI_CNT_REG_REF s t ∧ t.host = s.host ∧ Frame false [] (· ∈ [A.HOST_SPI_STAT, A.HOST_SPI_CNT]) s t)) ∧
      (s.serving = true → s.get F.HEALTH_MGS_PROF ≠ 1 → s.recovery = false →
        (completes .regFetch s fun t => t.host = { s.host with out := s.rd A.HOST_SPI_STAT :: s.host.spiData } ∧
          t.flag F.HOST_SPI_STAT_REG_DONE = false ∧ Frame false [.host] (· = A.HOST_SPI_STAT) s t) ∧
        (∀ x ∈ [Instr.regRd addr n, .regWr addr [v]],
          (s.flag F.HOST_SPI_STAT_REG_BUSY = true → completes x s fun t => t.get F.HOST_SPI_STAT_REG_STATUS = TAG_IN_USE ∧ t.host = s.host ∧
            Frame false [] (· = A.HOST_SPI_STAT) s t) ∧
          (s.flag F.HOST_SPI_STAT_REG_BUSY = false → s.t.open6 = false → n ≠ 0 → completes x s fun t => t.flag F.HOST_SPI_STAT_REG_BUSY = true ∧
            t.host.work.length = s.host.work.length + 1 ∧ t.host.work.take s.host.work.length = s.host.work ∧
            Frame false [.host] (· = A.HOST_SPI_STAT) s t)) ∧
        (s.flag F.HOST_SPI_STAT_REG_BUSY = false → s.t.open6 = true → s.host.work = [] →
          (n = 0 → completes (.regRd addr n) s fun t => t.flag F.HOST_SPI_STAT_REG_DONE = true ∧ t.get F.HOST_SPI_STAT_REG_STATUS = BAD_PARAM ∧
            t.get F.HOST_SPI_STAT_REG_N = 0 ∧ t.host = s.host ∧ Frame false [] (· = A.HOST_SPI_STAT) s t) ∧
          (n ≠ 0 → ∀ as, ((List.range n.toNat).map fun j => resolve false (addr.toNat + 4 * j)) = as → (∀ x ∈ as, ∃ a ∈ x, plainRead a = true) →
            completes (.regRd addr n) s fun t => t.flag F.HOST_SPI_STAT_REG_DONE = true ∧ t.flag F.HOST_SPI_STAT_REG_BUSY = false ∧
              t.get F.HOST_SPI_STAT_REG_STATUS = OK ∧ t.get F.HOST_SPI_STAT_REG_N = n.toNat ∧ t.host.spiData = as.map (fun x => s.word (x.getD 0)) ∧
              t.host.work = [] ∧ Frame false [.host] (· = A.HOST_SPI_STAT) s t) ∧
          (∀ ses, s.get F.HOST_SPI_CFG_RSES = ses → ∀ a ∈ resolve false addr.toNat, isCtx a = false → plainRead a = true →
            (s.sesOpen ses = true → s.get (F.HOST_SES_STAT_PORT ses) = 0 → s.passes ses a v = true → (∀ r ∈ rowAt a, r.act = .none ∧ rowSc r = 0#32) →
              completes (.regWr addr [v]) s fun t => Stored a v s t ∧ t.get F.HOST_SPI_STAT_REG_STATUS = OK ∧ t.get F.HOST_SPI_STAT_REG_N = 1 ∧
                t.flag F.HOST_SPI_STAT_REG_DONE = true ∧ t.host.work = [] ∧ Frame false [.host] (· ∈ [a, A.HOST_SPI_STAT]) s t) ∧
            (s.sesOpen ses = false ∨ s.get (F.HOST_SES_STAT_PORT ses) ≠ 0 → needOf a false ≠ .anyone → a ≠ A.METER_TARIFF 8 →
              completes (.regWr addr [v]) s fun t => t.get F.HOST_SPI_STAT_REG_STATUS = OWNED ∧ t.get F.HOST_SPI_STAT_REG_N = 0 ∧
                t.flag F.HOST_SPI_STAT_REG_DONE = true ∧ Frame false [.host] (· = A.HOST_SPI_STAT) s t))))) ∧
    (completes .spiInvalidCommand s fun t => Dropped .h0 0 s t) ∧ (completes .fragmentReassemblyTimeout s fun t => Dropped .h1 0 s t) ∧
    (∀ full : Bool, completes (.autoNegotiationComplete full) s fun t => Edited A.HOST_ETH_STAT
      [(F.HOST_ETH_STAT_AN_DONE, 1), (F.HOST_ETH_STAT_LINK, b2n full), (F.HOST_ETH_STAT_DUPLEX_FAIL, b2n !full)] s t ∧
      t.host = s.host ∧ Frame false [] (· = A.HOST_ETH_STAT) s t) ∧
    (completes .h1LinkLoss s fun t => Edited A.HOST_ETH_STAT [(F.HOST_ETH_STAT_LINK, 0), (F.HOST_ETH_STAT_AN_DONE, 0)] s t ∧
      t.host = s.host ∧ Frame false [] (· = A.HOST_ETH_STAT) s t) ∧
    (∀ (v6 : Bool) (ours : Bool), ∀ x ∈ [(Instr.arpNeighbourRequest v6 ours, (if v6 then EthAns.neighbour else .arp)),
        (.icmpEchoRequest v6 ours, (if v6 then .echo6 else .echo4))], completes x.1 s fun t => Frame false [.host] (fun _ => False) s t ∧
      t.host = if s.flag F.HOST_ETH_STAT_LINK = true ∧ ours = true ∧ (v6 = true ∨ s.flag F.HOST_ETH_STAT_IP4_UP = true)
        then { s.host with eth := s.host.eth ++ [x.2] } else s.host) ∧
    (∀ x : PtpMsg,
      (bit (s.inForce A.HOST_PTP_CFG) 0 = false ∨ s.flag F.HOST_ETH_STAT_LINK = false → completes (.ptpEventMessage x) s fun t =>
        t.host = s.host ∧ Frame false [] (fun _ => False) s t) ∧
      (bit (s.inForce A.HOST_PTP_CFG) 0 = true → s.flag F.HOST_ETH_STAT_LINK = true →
        (x.sync = false → completes (.ptpEventMessage x) s fun t => t.host = { s.host with ptpNs := x.timeNs, ptpAt := s.clk } ∧
          Frame false [.host] (fun _ => False) s t) ∧
        (x.sync = true → completes (.ptpEventMessage x) s fun t => t.host = { s.host with
            ptpNs := x.timeNs, ptpAt := s.clk, ptpGood := (if -100 ≤ x.ofs ∧ x.ofs ≤ 100 then s.host.ptpGood + 1 else 0),
            ptpBad := (if x.ofs < -1000 ∨ 1000 < x.ofs then s.host.ptpBad + 1 else 0) } ∧
          (-2 ^ 31 ≤ x.ofs → x.ofs < 2 ^ 31 → t.rd A.HOST_PTP_OFS = BitVec.ofInt 32 x.ofs) ∧ t.flag F.HOST_PTP_STAT_TWO_STEP = x.twoStep ∧
          t.get F.HOST_PTP_STAT_STATE = (if s.get F.HOST_PTP_STAT_STATE ≤ 1 then 2 else s.get F.HOST_PTP_STAT_STATE) ∧
          Frame false [.host] (· ∈ [A.HOST_PTP_OFS, A.HOST_PTP_STAT]) s t))) ∧
    (completes .ptpLockLoss s fun t =>
      (s.get F.HOST_PTP_STAT_STATE = 3 → t.get F.HOST_PTP_STAT_STATE = 4 ∧ t.host.ptpGood = 0 ∧
        (s.get F.SYS_SYNC_SRC = 2 → s.syncSt ≠ yFREE → t.syncSt = yHOLDOVER) ∧ (s.get F.SYS_SYNC_SRC ≠ 2 → t.syncSt = s.syncSt)) ∧
      (s.get F.HOST_PTP_STAT_STATE ≠ 3 → t.host = s.host ∧ Frame false [] (fun _ => False) s t)) ∧
    (completes .ptpLockRegain s fun t =>
      (s.get F.HOST_PTP_STAT_STATE ∈ [2, 4] → 16 ≤ s.host.ptpGood → t.get F.HOST_PTP_STAT_STATE = 3 ∧
        t.syncSt = if s.get F.SYS_SYNC_SRC = 2 ∧ s.syncSt = yHOLDOVER then yACQUIRE else s.syncSt) ∧
      (s.get F.HOST_PTP_STAT_STATE ∉ [2, 4] ∨ s.host.ptpGood < 16 → t.host = s.host ∧ Frame false [] (fun _ => False) s t))

/-- Ring frames are removed, consumed or forwarded by address; addresses, announcements, links and wraps follow their rules: For a serving device. A frame from its own address is removed; one for it is the packet's arrival; one for another is forwarded with TTL one less, wrapped past a dead link, and dropped and counted when its TTL would be 0; a broadcast is forwarded, and unanswered when its session is not open here. DST 0 carries only ENUMERATE, which an unassigned device takes: it sets the address, answers and announces. Through a session ENUMERATE is NOT_IN_MODE. ADDR_SET of the device's owner sets an address of 1 to 62 unless strapped (OWNED) and announces. On TL1 a good frame for the device earns one burst of at most four packets, replies first. An unassigned device announces itself while a link is up. An ANNOUNCE with the own address records DUP_ADDR. A TL3 link that goes down wraps, one up for 100 ms unwraps, both recorded. RING_STATUS answers address, strapping and errors; the coding of its generation bits is a free value (log entry 3). (13 R390; 14 R414; 14 R415; 14 R416; 14 R417; 14 R418; 14 R419; 14 R420; 14 R421; 14 R422; 14 R423) -/
def Obligations.TheRingCarriesFramesAndAddresses : Prop :=
  ∀ s : State, s.serving = true →
    (∀ x : RingFrame, ∀ own, s.get F.HOST_RING_STAT_ADDR = own →
      (∀ l ∈ x.link, s.linkOn l = true → s.flag (linkUp l) = true → ∀ gen, (if l = .tl2 then 64 else 128) = gen →
        ∀ pk, ({ x.p with port := .h2, peer := gen + x.src.toNat } : Pkt) = pk →
        ∀ out, (if l = .tl2 then (1, x.wrapped) else if l = .tl3e then (if s.flag F.HOST_RING_STAT_WRAP_W then (2, true) else (3, x.wrapped))
          else (if s.flag F.HOST_RING_STAT_WRAP_E then (3, true) else (2, x.wrapped))) = out →
        ∀ sent, (out.1, wd (x.dst.toNat * 2 ^ 26 + x.src.toNat * 2 ^ 20 + (x.ttl.toNat - 1) * 2 ^ 14 + b2n out.2 * 2 ^ 13), x.crcOk) = sent →
        (x.src.toNat = own → own ≠ 0 → completes (.ringFrameArrival x) s fun t => t.host = s.host ∧ Frame false [] (fun _ => False) s t) ∧
        (x.src.toNat ≠ own → x.dst.toNat = own → own ≠ 0 → own ≠ 63 → x.opc ≠ 0xC3#8 →
          exec (.ringFrameArrival x) s = exec (.badOpcodePacket pk x.opc x.crcOk) s) ∧
        (x.src.toNat ≠ own ∨ own = 0 → (x.dst.toNat ≠ own ∧ x.dst.toNat ≠ 0 ∧ x.dst.toNat ≠ 63) ∨ (x.dst = 0 ∧ x.opc = 0xC1#8 ∧ (own ≠ 0 ∨ x.crcOk = false)) →
          (1 < x.ttl.toNat → completes (.ringFrameArrival x) s fun t => t.host = { s.host with fwd := s.host.fwd ++ [sent] } ∧
            Frame false [.host] (fun _ => False) s t) ∧
          (x.ttl.toNat ≤ 1 → completes (.ringFrameArrival x) s fun t => Counted (linkErr l) s t ∧ t.host = s.host ∧
            Frame false [] (· = (linkErr l).addr) s t)) ∧
        (x.dst = 0 → x.opc ≠ 0xC1#8 → completes (.ringFrameArrival x) s fun t => t.host = s.host ∧ Frame false [] (fun _ => False) s t) ∧
        (x.dst = 0 → x.opc = 0xC1#8 → own = 0 → x.crcOk = true → exec (.ringFrameArrival x) s = exec (.enumerate pk) s) ∧
        (x.dst.toNat = 63 → x.src.toNat ≠ own ∨ own = 0 → 1 < x.ttl.toNat → x.opc ≠ 0xC3#8 → completes (.ringFrameArrival x) s fun t =>
          t.host.fwd = s.host.fwd ++ [sent] ∧ (s.bound pk = false → x.opc ≠ 1#8 → t.host = { s.host with fwd := s.host.fwd ++ [sent] }))) ∧
      (∀ l ∈ x.link, s.linkOn l = false ∨ s.flag (linkUp l) = false → completes (.ringFrameArrival x) s fun t =>
        t.host = s.host ∧ Frame false [] (fun _ => False) s t) ∧
      (x.link = none → (bit (s.inForce A.HOST_RING_CFG) 0 = true → own ≠ 0 → x.dst.toNat = own → own ≠ 63 → x.opc ≠ 0xC3#8 →
          completes (.badOpcodePacket { x.p with port := .h2, peer := x.src.toNat } x.opc x.crcOk) s fun u =>
            exec (.ringFrameArrival x) s = .next { u with host := { u.host with tl1Due := u.host.tl1Due || x.crcOk } }) ∧
        (bit (s.inForce A.HOST_RING_CFG) 0 = false ∨ own = 0 ∨ (x.dst.toNat ≠ own ∧ x.dst.toNat ≠ 63) → completes (.ringFrameArrival x) s fun t =>
          t.host = s.host ∧ Frame false [] (fun _ => False) s t))) ∧
    (∀ p : Pkt,
      (p.port = .h2 → 64 ≤ p.peer → s.get F.HOST_RING_STAT_ADDR = 0 → bit (wd p.flg.val) 2 = false → ∀ a, pf p.pay 0 5 0 = a →
        (p.flg.val = 0 → p.pay.length = 1 → pok p.pay 0 0x3F = true → 1 ≤ a → a ≤ 62 → completes (.enumerate p) s fun t =>
          t.get F.HOST_RING_STAT_ADDR = a ∧ t.host.tx2 = s.host.tx2 ++ [replyTo 0xC1 OK 0 0 [wd a] p t] ++ t.anns ∧ t.host.work = s.host.work ∧
          Frame false [.host] (· = A.HOST_RING_STAT) s t) ∧
        (∀ st, (if p.flg.val ≠ 0 then (BAD_PARAM, 3 * 4096) else if p.pay.length ≠ 1 then (BAD_LENGTH, 0)
            else if pok p.pay 0 0x3F = false ∨ a = 0 ∨ a = 63 then (BAD_PARAM, 0) else (OK, 0)) = st → st.1 ≠ OK → completes (.enumerate p) s fun t =>
          Replied 0xC1 st.1 st.2 0 [] p s t ∧ t.host.work = s.host.work ∧ Frame false [.host] (fun _ => False) s t)) ∧
      (p.port = .h2 → p.peer < 64 → s.get F.HOST_RING_STAT_ADDR = 0 → bit (wd p.flg.val) 2 = false → completes (.enumerate p) s fun t =>
        t.host = s.host ∧ Frame false [] (fun _ => False) s t) ∧
      (s.ready 0xC1 p = true → completes (.enumerate p) s fun t =>
        OnlyFinal 0xC1 (if pok p.pay 0 0x3F then NOT_IN_MODE else BAD_PARAM) 0 [] p s t) ∧
      (s.ready 0xC2 p = true → ∀ st, (if pok p.pay 0 0x3F = false then BAD_PARAM else if s.holds p.ses.val .dev = false ∨ s.flag F.HOST_RING_STAT_STRAPPED = true
          then OWNED else if pf p.pay 0 5 0 = 0 ∨ pf p.pay 0 5 0 = 63 then BAD_PARAM else OK) = st →
        (st ≠ OK → completes (.addrSet p) s fun t => OnlyFinal 0xC2 st 0 [] p s t) ∧
        (st = OK → completes (.addrSet p) s fun t => t.get F.HOST_RING_STAT_ADDR = pf p.pay 0 5 0 ∧ Settled p s t ∧
          (p.port ≠ .h2 → t.host.tx2 = s.host.tx2 ++ t.anns ∧ Replied 0xC2 OK 0 (credits p) [] p s t) ∧
          Frame false [.host] (fun b => reqWords p.ses.val b ∨ b = A.HOST_RING_STAT) s t)) ∧
      (s.ready 0xC0 p = true → completes (.ringStatus p) s fun t => ∃ g, g < 4 ∧ Final 0xC0 OK 0 (wd (s.get F.HOST_RING_STAT_ADDR +
          64 * s.get F.HOST_RING_STAT_STRAPPED + 256 * g) :: (List.range 4).map fun j => s.rd (A.HOST_RING_ERR j)) p s t ∧
        Frame false [.host, .free] (reqWords p.ses.val) s t)) ∧
    (completes .announce s fun t =>
      (s.get F.HOST_RING_STAT_ADDR = 0 → t.host = { s.host with tx2 := s.host.tx2 ++ t.anns, annCnt := if s.anns = [] then s.host.annCnt else (s.host.annCnt + 1) % 65536 }) ∧
      (s.get F.HOST_RING_STAT_ADDR ≠ 0 → t.host = s.host) ∧ Frame false [.host] (fun _ => False) s t) ∧
    (∀ a : BitVec 6, completes (.announceReceived a) s fun t =>
      (a ≠ 0 → a.toNat = s.get F.HOST_RING_STAT_ADDR → t.flag F.HOST_RING_STAT_DUP_ADDR = true ∧ t.flag F.HOST_RING_STAT_DUP_EVT = true ∧
        Frame true [.host] (· = A.HOST_RING_STAT) s t) ∧
      (a = 0 ∨ a.toNat ≠ s.get F.HOST_RING_STAT_ADDR → t.host = s.host ∧ Frame false [] (fun _ => False) s t)) ∧
    (completes .tl1BurstTransmit s fun t => Frame false [.host] (fun _ => False) s t ∧
      (s.host.tl1Due = false → t.host = s.host) ∧ (s.host.tl1Due = true → ∀ q,
        (s.host.tl1.filter fun k => k.flg % 2 == 0) ++ (s.host.tl1.filter fun k => k.flg % 2 == 1) = q →
        t.host = { s.host with tl1Due := false, tx2 := s.host.tx2 ++ q.take 4, tl1 := q.drop 4 })) ∧
    (∀ l : RingLink,
      (s.linkOn l = true → s.flag (linkUp l) = false → completes (.ringLinkUp l) s fun t => t.flag (linkUp l) = true ∧
        t.host = (if s.get F.HOST_RING_STAT_ADDR = 0 then s.host else
          { s.host with tx2 := s.host.tx2 ++ t.anns, annCnt := (s.host.annCnt + 1) % 65536 }) ∧ Frame false [.host] (· = A.HOST_RING_STAT) s t) ∧
      (s.linkOn l = false ∨ s.flag (linkUp l) = true → completes (.ringLinkUp l) s fun t => t.host = s.host ∧ Frame false [] (fun _ => False) s t) ∧
      (s.flag (linkUp l) = true → completes (.ringLinkDown l) s fun t => t.flag (linkUp l) = false ∧ Frame true [.host] (· = A.HOST_RING_STAT) s t ∧
        (∀ f ∈ linkWrap l, t.flag f = true ∧ (s.flag f = false → t.flag F.HOST_RING_STAT_WRAP_EVT = true)) ∧
        (l = .tl2 → t.host = s.host ∧ t.flag F.HOST_RING_STAT_WRAP_EVT = s.flag F.HOST_RING_STAT_WRAP_EVT)) ∧
      (s.flag (linkUp l) = false → completes (.ringLinkDown l) s fun t => t.host = s.host ∧ Frame false [] (fun _ => False) s t) ∧
      (∀ f ∈ linkWrap l, s.flag f = true → s.flag (linkUp l) = true → completes (.ringUnwrap l) s fun t => t.flag f = false ∧
        t.flag F.HOST_RING_STAT_WRAP_EVT = true ∧ Frame true [.host] (· = A.HOST_RING_STAT) s t) ∧
      ((linkWrap l).all (fun f => !s.flag f || !s.flag (linkUp l)) = true → completes (.ringUnwrap l) s fun t =>
        t.host = s.host ∧ Frame false [] (fun _ => False) s t))
end

