-- ==== Sys2Proof/Laws/Regs.lean ====
section
/-! SUPPORT. Laws of the register file: the canonical form, and what a write leaves every address reading. -/

namespace Sys2Proof.Machine

theorem lookupReg_insertReg_ne {a b : Nat} (h : a ≠ b) (v : Word) (l : List (Nat × Word)) :
    lookupReg (insertReg a v l) b = lookupReg l b := by
  induction l with
  | nil => by_cases hv : v = resetWord a <;> simp [insertReg, lookupReg, hv, Ne.symm h]
  | cons x t ih =>
    obtain ⟨c, u⟩ := x
    unfold insertReg
    split
    · split <;> simp [lookupReg, Ne.symm h]
    · split
      · rename_i h2; subst h2
        split <;> simp [lookupReg, Ne.symm h]
      · simp only [lookupReg, ih]

theorem regsOk_weaken {lo : Option Nat} {l : List (Nat × Word)} (h : regsOk lo l = true) : regsOk none l = true := by
  cases l with
  | nil => rfl
  | cons x t => simp only [regsOk, Bool.and_eq_true] at h ⊢; exact ⟨⟨trivial, h.1.2⟩, h.2⟩

theorem lookupReg_of_lt {lo a : Nat} (hle : a ≤ lo) :
    ∀ {l : List (Nat × Word)}, regsOk (some lo) l = true → lookupReg l a = none
  | [], _ => rfl
  | (b, u) :: t, h => by
    simp only [regsOk, Bool.and_eq_true, decide_eq_true_eq] at h
    have hb : lo < b := h.1.1
    have : a ≠ b := by omega
    simp only [lookupReg, this, if_false]
    exact lookupReg_of_lt (by omega) h.2

theorem lookupReg_insertReg_same (a : Nat) (v : Word) :
    ∀ {lo : Option Nat} {l : List (Nat × Word)}, regsOk lo l = true →
      (lookupReg (insertReg a v l) a).getD (resetWord a) = v
  | _, [], _ => by by_cases hv : v = resetWord a <;> simp [insertReg, lookupReg, hv]
  | lo, (b, u) :: t, h => by
    have ht : regsOk (some b) t = true := by simp only [regsOk, Bool.and_eq_true] at h; exact h.2
    unfold insertReg
    split
    · rename_i hab
      split
      · rename_i hv
        have hn : a ≠ b := by omega
        simp [lookupReg, hn, lookupReg_of_lt (Nat.le_of_lt hab) ht, hv]
      · simp [lookupReg]
    · split
      · rename_i hab; subst hab
        split
        · rename_i hv; simp [lookupReg_of_lt (Nat.le_refl _) ht, hv]
        · simp [lookupReg]
      · rename_i hab
        simp only [lookupReg, hab, if_false]
        exact lookupReg_insertReg_same a v ht

theorem regsOk_insertReg (a : Nat) (v : Word) :
    ∀ {lo : Option Nat} {l : List (Nat × Word)}, (∀ b, lo = some b → b < a) → regsOk lo l = true →
      regsOk lo (insertReg a v l) = true
  | lo, [], hlo, _ => by
    unfold insertReg
    split
    · rfl
    · rename_i hv
      cases lo <;> simp_all [regsOk]
  | lo, (b, u) :: t, hlo, h => by
    have h0 := h
    simp only [regsOk, Bool.and_eq_true] at h
    obtain ⟨⟨h1, h2⟩, h3⟩ := h
    unfold insertReg
    split
    · rename_i hab
      split
      · exact h0
      · rename_i hv
        simp only [regsOk, Bool.and_eq_true, h2, h3, decide_eq_true_eq]
        refine ⟨⟨?_, by simpa using hv⟩, ⟨hab, trivial⟩, trivial⟩
        cases lo with
        | none => rfl
        | some c => simpa using hlo c rfl
    · split
      · rename_i hab; subst hab
        split
        · cases t with
          | nil => rfl
          | cons y t' =>
            simp only [regsOk, Bool.and_eq_true, decide_eq_true_eq] at h3 ⊢
            refine ⟨⟨?_, h3.1.2⟩, h3.2⟩
            cases lo with
            | none => trivial
            | some c => have := hlo c rfl; simp; omega
        · rename_i hv
          simp only [regsOk, Bool.and_eq_true]
          exact ⟨⟨h1, by simpa using hv⟩, h3⟩
      · rename_i hab hne
        simp only [regsOk, Bool.and_eq_true]
        refine ⟨⟨h1, h2⟩, regsOk_insertReg a v ?_ h3⟩
        intro c hc; cases hc; omega

/-- The canonical form is canonical. -/
theorem regsOk_canonRegs : ∀ l : List (Nat × Word), regsOk none (canonRegs l) = true
  | [] => rfl
  | (a, v) :: t => regsOk_insertReg a v (by simp) (regsOk_canonRegs t)

/-- Restoring the canonical form changes no word that is read. -/
theorem lookupReg_canonRegs (a : Nat) :
    ∀ l : List (Nat × Word), (lookupReg (canonRegs l) a).getD (resetWord a) = (lookupReg l a).getD (resetWord a)
  | [] => rfl
  | (b, v) :: t => by
    by_cases h : a = b
    · subst h
      simp only [canonRegs, lookupReg, if_true, Option.getD_some]
      exact lookupReg_insertReg_same a v (regsOk_canonRegs t)
    · simp only [canonRegs, lookupReg, h, if_false]
      rw [lookupReg_insertReg_ne (Ne.symm h)]
      exact lookupReg_canonRegs a t

/-- A word reads as written, its reserved bits 0. -/
@[simp] theorem State.rd_wr_same (s : State) (a : Nat) (v : Word) : (s.wr a v).rd a = v &&& implMask a := by
  simp [State.rd, State.wr, lookupReg]

/-- A write leaves every other address reading as before. -/
theorem State.rd_wr_ne (s : State) {a b : Nat} (h : b ≠ a) (v : Word) : (s.wr a v).rd b = s.rd b := by
  simp [State.rd, State.wr, lookupReg, h]

/-- Words are read from the register file alone. -/
theorem State.rd_congr {s t : State} (h : s.regs = t.regs) (a : Nat) : s.rd a = t.rd a := by
  simp only [State.rd, h]

theorem State.get_congr {s t : State} {f : Fld} (h : s.rd f.addr = t.rd f.addr) : s.get f = t.get f := by
  simp only [State.get, h]

/-- The state a command leaves: what it did, register file in canonical form, the queue as it was. -/
def settle (s s' : State) : State := { s' with regs := canonRegs s'.regs, pending := s.pending }

theorem complete_eq (s s' : State) : complete s s' = .next (settle s s') := rfl

@[simp] theorem settle_rd (s s' : State) (a : Nat) : (settle s s').rd a = s'.rd a := by
  simp only [State.rd, settle]; exact lookupReg_canonRegs a s'.regs
@[simp] theorem settle_get (s s' : State) (f : Fld) : (settle s s').get f = s'.get f := by
  simp only [State.get, settle_rd]
@[simp] theorem settle_pending (s s' : State) : (settle s s').pending = s.pending := rfl
@[simp] theorem settle_regsWf (s s' : State) : (settle s s').regsWf = true := regsOk_canonRegs _

/-- What a command answers: a next state, its queue as before, its register file canonical. -/
theorem complete_next {s s' t : State} (h : complete s s' = .next t) :
    t = settle s s' := by
  rw [complete_eq] at h; injection h with h; exact h.symm

end Sys2Proof.Machine
end

