-- ==== Sys2Proof/Laws/Fields.lean ====
section
/-! SUPPORT. Laws of bit fields: what a field reads after a write of the same field, of another field of its word, and of
another word. -/

namespace Sys2Proof.Machine

theorem bits_testBit (w : Word) (hi lo i : Nat) :
    (bits w hi lo).testBit i = (decide (i < hi + 1 - lo) && w.toNat.testBit (i + lo)) := by
  simp only [bits, Nat.testBit_mod_two_pow, Nat.testBit_shiftRight, Nat.add_comm lo i]

theorem bitMask_testBit {hi lo : Nat} (h : hi < 32) (i : Nat) :
    (bitMask hi lo).toNat.testBit i = (decide (lo ≤ i) && decide (i ≤ hi)) := by
  simp only [bitMask, BitVec.toNat_ofNat, Nat.testBit_mod_two_pow, Nat.testBit_shiftLeft, Nat.testBit_two_pow_sub_one]
  by_cases h1 : lo ≤ i <;> by_cases h2 : i ≤ hi
  · have : i < 32 := by omega
    have h3 : i - lo < hi + 1 - lo := by omega
    simp [h1, h2, this, h3]
  · have h3 : ¬ i - lo < hi + 1 - lo := by omega
    simp [h1, h2, h3]
  · simp [h1]
  · simp [h1]

theorem setBits_testBit {hi lo : Nat} (h : hi < 32) (w : Word) (v i : Nat) :
    (setBits w hi lo v).toNat.testBit i =
      if lo ≤ i ∧ i ≤ hi then v.testBit (i - lo) else w.toNat.testBit i := by
  have hb := bitMask_testBit (lo := lo) h i
  have hlt : i < 32 ∨ ¬ i < 32 := Nat.lt_or_ge i 32 |>.imp id Nat.not_lt.mpr
  have hw : ¬ i < 32 → w.toNat.testBit i = false := fun hi32 =>
    Nat.testBit_lt_two_pow (Nat.lt_of_lt_of_le w.isLt (Nat.pow_le_pow_right (by omega) (by omega)))
  simp only [setBits, BitVec.toNat_or, BitVec.toNat_and, Nat.testBit_or, Nat.testBit_and, BitVec.toNat_ofNat,
    Nat.testBit_mod_two_pow, Nat.testBit_shiftLeft]
  have hn : (~~~ bitMask hi lo).toNat.testBit i = (decide (i < 32) && !(bitMask hi lo).toNat.testBit i) := by
    rw [← BitVec.getLsbD, ← BitVec.getLsbD, BitVec.getLsbD_not]
  rw [hn, hb]
  by_cases h1 : lo ≤ i <;> by_cases h2 : i ≤ hi
  · have : i < 32 := by omega
    have h3 : i - lo < hi + 1 - lo := by omega
    simp [h1, h2, this, h3]
  · have h3 : ¬ i - lo < hi + 1 - lo := by omega
    rcases hlt with h4 | h4
    · simp [h1, h2, h3, h4]
    · simp [h1, h2, h3, h4, hw h4]
  · rcases hlt with h4 | h4
    · simp [h1, h4]
    · simp [h1, h4, hw h4]
  · rcases hlt with h4 | h4
    · simp [h1, h4]
    · simp [h1, h4, hw h4]

/-- A field just set holds the low bits of its value. -/
theorem bits_setBits_same {hi lo : Nat} (h : hi < 32) (w : Word) (v : Nat) :
    bits (setBits w hi lo v) hi lo = v % 2 ^ (hi + 1 - lo) := by
  apply Nat.eq_of_testBit_eq; intro i
  rw [bits_testBit, setBits_testBit h, Nat.testBit_mod_two_pow]
  by_cases h1 : i < hi + 1 - lo
  · have h2 : i + lo ≤ hi := by omega
    simp [h1, h2]
  · simp [h1]

/-- Setting a field leaves the fields beside it. -/
theorem bits_setBits_ne {hi lo hi' lo' : Nat} (h : hi < 32) (hd : hi < lo' ∨ hi' < lo) (w : Word) (v : Nat) :
    bits (setBits w hi lo v) hi' lo' = bits w hi' lo' := by
  apply Nat.eq_of_testBit_eq; intro i
  rw [bits_testBit, bits_testBit, setBits_testBit h]
  by_cases h1 : i < hi' + 1 - lo'
  · have h2 : ¬(lo ≤ i + lo' ∧ i + lo' ≤ hi) := by omega
    simp [h1, h2]
  · simp [h1]

/-- A field within a mask survives the mask. -/
theorem bits_and {hi lo : Nat} (h : hi < 32) {m : Word} (hm : bitMask hi lo &&& m = bitMask hi lo) (w : Word) :
    bits (w &&& m) hi lo = bits w hi lo := by
  apply Nat.eq_of_testBit_eq; intro i
  rw [bits_testBit, bits_testBit, BitVec.toNat_and, Nat.testBit_and]
  by_cases h1 : i < hi + 1 - lo
  · have h2 : (bitMask hi lo).toNat.testBit (i + lo) = true := by
      rw [bitMask_testBit h]; simp; omega
    have h3 : (bitMask hi lo &&& m).toNat.testBit (i + lo) = true := by rw [hm]; exact h2
    rw [BitVec.toNat_and, Nat.testBit_and, h2, Bool.true_and] at h3
    simp [h3]
  · simp [h1]

/-- A field lies within the implemented bits of its word. -/
def Fld.ok (f : Fld) : Bool := decide (f.hi < 32) && (bitMask f.hi f.lo &&& implMask f.addr == bitMask f.hi f.lo)

theorem State.get_wr_same (s : State) {f : Fld} (hf : f.ok = true) (v : Word) :
    (s.wr f.addr v).get f = bits v f.hi f.lo := by
  simp only [Fld.ok, Bool.and_eq_true, decide_eq_true_eq, beq_iff_eq] at hf
  simp only [State.get, State.rd_wr_same]
  exact bits_and hf.1 hf.2 v

theorem State.get_wr_ne (s : State) {f : Fld} {a : Nat} (h : f.addr ≠ a) (v : Word) : (s.wr a v).get f = s.get f := by
  simp only [State.get, State.rd_wr_ne s h]

/-- A field just written reads as written, cut to its width. -/
theorem State.get_put_same (s : State) {f : Fld} (hf : f.ok = true) (v : Nat) :
    (s.put f v).get f = v % 2 ^ (f.hi + 1 - f.lo) := by
  have h32 : f.hi < 32 := by simp only [Fld.ok, Bool.and_eq_true, decide_eq_true_eq] at hf; exact hf.1
  rw [State.put, State.get_wr_same s hf, bits_setBits_same h32]

/-- Writing a field leaves the other fields of its word. -/
theorem State.get_put_field (s : State) {f g : Fld} (hg : g.ok = true) (hf : f.hi < 32) (ha : g.addr = f.addr)
    (hd : f.hi < g.lo ∨ g.hi < f.lo) (v : Nat) : (s.put f v).get g = s.get g := by
  rw [State.put, ← ha, State.get_wr_same s hg, bits_setBits_ne hf hd]
  rfl

/-- Writing a field leaves every other word. -/
theorem State.rd_put_ne (s : State) {f : Fld} {a : Nat} (h : a ≠ f.addr) (v : Nat) : (s.put f v).rd a = s.rd a :=
  State.rd_wr_ne s h _

theorem State.get_put_ne (s : State) {f g : Fld} (h : g.addr ≠ f.addr) (v : Nat) : (s.put f v).get g = s.get g :=
  State.get_wr_ne s h _

/-- A one-bit field just written reads as written. -/
theorem State.flag_putb_same (s : State) {f : Fld} (hf : f.ok = true) (hl : f.lo ≤ f.hi) (b : Bool) :
    (s.putb f b).flag f = b := by
  have h : 1 < 2 ^ (f.hi + 1 - f.lo) := Nat.one_lt_two_pow (by omega)
  rw [State.flag, State.putb, State.get_put_same s hf]
  cases b <;> simp [b2n, Nat.mod_eq_of_lt h]

theorem State.flag_put_ne (s : State) {f g : Fld} (h : g.addr ≠ f.addr) (v : Nat) : (s.put f v).flag g = s.flag g := by
  simp only [State.flag, State.get_put_ne s h]

theorem State.flag_congr {s t : State} {f : Fld} (h : s.get f = t.get f) : s.flag f = t.flag f := by
  simp only [State.flag, h]

theorem State.bitOf_congr {s t : State} {f : Fld} (h : s.get f = t.get f) (i : Nat) : s.bitOf f i = t.bitOf f i := by
  simp only [State.bitOf, h]

end Sys2Proof.Machine
end

