-- ==== Sys2Proof/Laws/State.lean ====
section
/-! SUPPORT. One law for each field of the state under each named update: what the update does not touch stays. -/

namespace Sys2Proof.Machine

variable (s : State)

@[simp] theorem State.wr_pending (a : Nat) (v : Word) : (s.wr a v).pending = s.pending := rfl
@[simp] theorem State.wr_t (a : Nat) (v : Word) : (s.wr a v).t = s.t := rfl
@[simp] theorem State.wr_ch (a : Nat) (v : Word) : (s.wr a v).ch = s.ch := rfl
@[simp] theorem State.wr_host (a : Nat) (v : Word) : (s.wr a v).host = s.host := rfl
@[simp] theorem State.wr_log (a : Nat) (v : Word) : (s.wr a v).log = s.log := rfl
@[simp] theorem State.wr_ride (a : Nat) (v : Word) : (s.wr a v).ride = s.ride := rfl
@[simp] theorem State.wr_surv (a : Nat) (v : Word) : (s.wr a v).surv = s.surv := rfl
@[simp] theorem State.wr_meter (a : Nat) (v : Word) : (s.wr a v).meter = s.meter := rfl
@[simp] theorem State.wr_epul (a : Nat) (v : Word) : (s.wr a v).epul = s.epul := rfl
@[simp] theorem State.wr_er (a : Nat) (v : Word) : (s.wr a v).er = s.er := rfl
@[simp] theorem State.wr_safe (a : Nat) (v : Word) : (s.wr a v).safe = s.safe := rfl
@[simp] theorem State.wr_ka (a : Nat) (v : Word) : (s.wr a v).ka = s.ka := rfl
@[simp] theorem State.wr_nv (a : Nat) (v : Word) : (s.wr a v).nv = s.nv := rfl
@[simp] theorem State.wr_boot (a : Nat) (v : Word) : (s.wr a v).boot = s.boot := rfl
@[simp] theorem State.wr_timers (a : Nat) (v : Word) : (s.wr a v).timers = s.timers := rfl
@[simp] theorem State.wr_freeCtr (a : Nat) (v : Word) : (s.wr a v).freeCtr = s.freeCtr := rfl

@[simp] theorem State.put_pending (f : Fld) (v : Nat) : (s.put f v).pending = s.pending := rfl
@[simp] theorem State.put_t (f : Fld) (v : Nat) : (s.put f v).t = s.t := rfl
@[simp] theorem State.put_ch (f : Fld) (v : Nat) : (s.put f v).ch = s.ch := rfl
@[simp] theorem State.put_host (f : Fld) (v : Nat) : (s.put f v).host = s.host := rfl
@[simp] theorem State.put_log (f : Fld) (v : Nat) : (s.put f v).log = s.log := rfl
@[simp] theorem State.put_ride (f : Fld) (v : Nat) : (s.put f v).ride = s.ride := rfl
@[simp] theorem State.put_surv (f : Fld) (v : Nat) : (s.put f v).surv = s.surv := rfl
@[simp] theorem State.put_meter (f : Fld) (v : Nat) : (s.put f v).meter = s.meter := rfl
@[simp] theorem State.put_epul (f : Fld) (v : Nat) : (s.put f v).epul = s.epul := rfl
@[simp] theorem State.put_er (f : Fld) (v : Nat) : (s.put f v).er = s.er := rfl
@[simp] theorem State.put_safe (f : Fld) (v : Nat) : (s.put f v).safe = s.safe := rfl
@[simp] theorem State.put_ka (f : Fld) (v : Nat) : (s.put f v).ka = s.ka := rfl
@[simp] theorem State.put_nv (f : Fld) (v : Nat) : (s.put f v).nv = s.nv := rfl
@[simp] theorem State.put_boot (f : Fld) (v : Nat) : (s.put f v).boot = s.boot := rfl
@[simp] theorem State.put_timers (f : Fld) (v : Nat) : (s.put f v).timers = s.timers := rfl
@[simp] theorem State.put_freeCtr (f : Fld) (v : Nat) : (s.put f v).freeCtr = s.freeCtr := rfl

@[simp] theorem State.putb_pending (f : Fld) (b : Bool) : (s.putb f b).pending = s.pending := rfl
@[simp] theorem State.putb_t (f : Fld) (b : Bool) : (s.putb f b).t = s.t := rfl
@[simp] theorem State.putb_ch (f : Fld) (b : Bool) : (s.putb f b).ch = s.ch := rfl
@[simp] theorem State.putb_host (f : Fld) (b : Bool) : (s.putb f b).host = s.host := rfl
@[simp] theorem State.putb_log (f : Fld) (b : Bool) : (s.putb f b).log = s.log := rfl
@[simp] theorem State.putb_ride (f : Fld) (b : Bool) : (s.putb f b).ride = s.ride := rfl
@[simp] theorem State.putb_surv (f : Fld) (b : Bool) : (s.putb f b).surv = s.surv := rfl
@[simp] theorem State.putb_meter (f : Fld) (b : Bool) : (s.putb f b).meter = s.meter := rfl
@[simp] theorem State.putb_epul (f : Fld) (b : Bool) : (s.putb f b).epul = s.epul := rfl
@[simp] theorem State.putb_er (f : Fld) (b : Bool) : (s.putb f b).er = s.er := rfl
@[simp] theorem State.putb_safe (f : Fld) (b : Bool) : (s.putb f b).safe = s.safe := rfl
@[simp] theorem State.putb_ka (f : Fld) (b : Bool) : (s.putb f b).ka = s.ka := rfl
@[simp] theorem State.putb_nv (f : Fld) (b : Bool) : (s.putb f b).nv = s.nv := rfl
@[simp] theorem State.putb_boot (f : Fld) (b : Bool) : (s.putb f b).boot = s.boot := rfl
@[simp] theorem State.putb_timers (f : Fld) (b : Bool) : (s.putb f b).timers = s.timers := rfl
@[simp] theorem State.putb_freeCtr (f : Fld) (b : Bool) : (s.putb f b).freeCtr = s.freeCtr := rfl

@[simp] theorem State.putBit_pending (f : Fld) (i : Nat) (b : Bool) : (s.putBit f i b).pending = s.pending := rfl
@[simp] theorem State.putBit_t (f : Fld) (i : Nat) (b : Bool) : (s.putBit f i b).t = s.t := rfl
@[simp] theorem State.putBit_ch (f : Fld) (i : Nat) (b : Bool) : (s.putBit f i b).ch = s.ch := rfl
@[simp] theorem State.putBit_host (f : Fld) (i : Nat) (b : Bool) : (s.putBit f i b).host = s.host := rfl
@[simp] theorem State.putBit_log (f : Fld) (i : Nat) (b : Bool) : (s.putBit f i b).log = s.log := rfl
@[simp] theorem State.putBit_ride (f : Fld) (i : Nat) (b : Bool) : (s.putBit f i b).ride = s.ride := rfl
@[simp] theorem State.putBit_surv (f : Fld) (i : Nat) (b : Bool) : (s.putBit f i b).surv = s.surv := rfl
@[simp] theorem State.putBit_meter (f : Fld) (i : Nat) (b : Bool) : (s.putBit f i b).meter = s.meter := rfl
@[simp] theorem State.putBit_epul (f : Fld) (i : Nat) (b : Bool) : (s.putBit f i b).epul = s.epul := rfl
@[simp] theorem State.putBit_er (f : Fld) (i : Nat) (b : Bool) : (s.putBit f i b).er = s.er := rfl
@[simp] theorem State.putBit_safe (f : Fld) (i : Nat) (b : Bool) : (s.putBit f i b).safe = s.safe := rfl
@[simp] theorem State.putBit_ka (f : Fld) (i : Nat) (b : Bool) : (s.putBit f i b).ka = s.ka := rfl
@[simp] theorem State.putBit_nv (f : Fld) (i : Nat) (b : Bool) : (s.putBit f i b).nv = s.nv := rfl
@[simp] theorem State.putBit_boot (f : Fld) (i : Nat) (b : Bool) : (s.putBit f i b).boot = s.boot := rfl
@[simp] theorem State.putBit_timers (f : Fld) (i : Nat) (b : Bool) : (s.putBit f i b).timers = s.timers := rfl
@[simp] theorem State.putBit_freeCtr (f : Fld) (i : Nat) (b : Bool) : (s.putBit f i b).freeCtr = s.freeCtr := rfl

@[simp] theorem State.inc_pending (f : Fld) (n : Nat) : (s.inc f n).pending = s.pending := rfl
@[simp] theorem State.inc_t (f : Fld) (n : Nat) : (s.inc f n).t = s.t := rfl
@[simp] theorem State.inc_ch (f : Fld) (n : Nat) : (s.inc f n).ch = s.ch := rfl
@[simp] theorem State.inc_host (f : Fld) (n : Nat) : (s.inc f n).host = s.host := rfl
@[simp] theorem State.inc_log (f : Fld) (n : Nat) : (s.inc f n).log = s.log := rfl
@[simp] theorem State.inc_ride (f : Fld) (n : Nat) : (s.inc f n).ride = s.ride := rfl
@[simp] theorem State.inc_surv (f : Fld) (n : Nat) : (s.inc f n).surv = s.surv := rfl
@[simp] theorem State.inc_meter (f : Fld) (n : Nat) : (s.inc f n).meter = s.meter := rfl
@[simp] theorem State.inc_epul (f : Fld) (n : Nat) : (s.inc f n).epul = s.epul := rfl
@[simp] theorem State.inc_er (f : Fld) (n : Nat) : (s.inc f n).er = s.er := rfl
@[simp] theorem State.inc_safe (f : Fld) (n : Nat) : (s.inc f n).safe = s.safe := rfl
@[simp] theorem State.inc_ka (f : Fld) (n : Nat) : (s.inc f n).ka = s.ka := rfl
@[simp] theorem State.inc_nv (f : Fld) (n : Nat) : (s.inc f n).nv = s.nv := rfl
@[simp] theorem State.inc_boot (f : Fld) (n : Nat) : (s.inc f n).boot = s.boot := rfl
@[simp] theorem State.inc_timers (f : Fld) (n : Nat) : (s.inc f n).timers = s.timers := rfl
@[simp] theorem State.inc_freeCtr (f : Fld) (n : Nat) : (s.inc f n).freeCtr = s.freeCtr := rfl

@[simp] theorem State.incSat_pending (f : Fld) : (s.incSat f).pending = s.pending := rfl
@[simp] theorem State.incSat_t (f : Fld) : (s.incSat f).t = s.t := rfl
@[simp] theorem State.incSat_ch (f : Fld) : (s.incSat f).ch = s.ch := rfl
@[simp] theorem State.incSat_host (f : Fld) : (s.incSat f).host = s.host := rfl
@[simp] theorem State.incSat_log (f : Fld) : (s.incSat f).log = s.log := rfl
@[simp] theorem State.incSat_ride (f : Fld) : (s.incSat f).ride = s.ride := rfl
@[simp] theorem State.incSat_surv (f : Fld) : (s.incSat f).surv = s.surv := rfl
@[simp] theorem State.incSat_meter (f : Fld) : (s.incSat f).meter = s.meter := rfl
@[simp] theorem State.incSat_epul (f : Fld) : (s.incSat f).epul = s.epul := rfl
@[simp] theorem State.incSat_er (f : Fld) : (s.incSat f).er = s.er := rfl
@[simp] theorem State.incSat_safe (f : Fld) : (s.incSat f).safe = s.safe := rfl
@[simp] theorem State.incSat_ka (f : Fld) : (s.incSat f).ka = s.ka := rfl
@[simp] theorem State.incSat_nv (f : Fld) : (s.incSat f).nv = s.nv := rfl
@[simp] theorem State.incSat_boot (f : Fld) : (s.incSat f).boot = s.boot := rfl
@[simp] theorem State.incSat_timers (f : Fld) : (s.incSat f).timers = s.timers := rfl
@[simp] theorem State.incSat_freeCtr (f : Fld) : (s.incSat f).freeCtr = s.freeCtr := rfl

@[simp] theorem State.put64_pending (a n : Nat) : (s.put64 a n).pending = s.pending := rfl
@[simp] theorem State.put64_t (a n : Nat) : (s.put64 a n).t = s.t := rfl
@[simp] theorem State.put64_ch (a n : Nat) : (s.put64 a n).ch = s.ch := rfl
@[simp] theorem State.put64_host (a n : Nat) : (s.put64 a n).host = s.host := rfl
@[simp] theorem State.put64_log (a n : Nat) : (s.put64 a n).log = s.log := rfl
@[simp] theorem State.put64_ride (a n : Nat) : (s.put64 a n).ride = s.ride := rfl
@[simp] theorem State.put64_surv (a n : Nat) : (s.put64 a n).surv = s.surv := rfl
@[simp] theorem State.put64_meter (a n : Nat) : (s.put64 a n).meter = s.meter := rfl
@[simp] theorem State.put64_epul (a n : Nat) : (s.put64 a n).epul = s.epul := rfl
@[simp] theorem State.put64_er (a n : Nat) : (s.put64 a n).er = s.er := rfl
@[simp] theorem State.put64_safe (a n : Nat) : (s.put64 a n).safe = s.safe := rfl
@[simp] theorem State.put64_ka (a n : Nat) : (s.put64 a n).ka = s.ka := rfl
@[simp] theorem State.put64_nv (a n : Nat) : (s.put64 a n).nv = s.nv := rfl
@[simp] theorem State.put64_boot (a n : Nat) : (s.put64 a n).boot = s.boot := rfl
@[simp] theorem State.put64_timers (a n : Nat) : (s.put64 a n).timers = s.timers := rfl
@[simp] theorem State.put64_freeCtr (a n : Nat) : (s.put64 a n).freeCtr = s.freeCtr := rfl

@[simp] theorem State.setCx_pending (c k w : Nat) (v : Word) : (s.setCx c k w v).pending = s.pending := rfl
@[simp] theorem State.setCx_t (c k w : Nat) (v : Word) : (s.setCx c k w v).t = s.t := rfl
@[simp] theorem State.setCx_ch (c k w : Nat) (v : Word) : (s.setCx c k w v).ch = s.ch := rfl
@[simp] theorem State.setCx_host (c k w : Nat) (v : Word) : (s.setCx c k w v).host = s.host := rfl
@[simp] theorem State.setCx_log (c k w : Nat) (v : Word) : (s.setCx c k w v).log = s.log := rfl
@[simp] theorem State.setCx_ride (c k w : Nat) (v : Word) : (s.setCx c k w v).ride = s.ride := rfl
@[simp] theorem State.setCx_surv (c k w : Nat) (v : Word) : (s.setCx c k w v).surv = s.surv := rfl
@[simp] theorem State.setCx_meter (c k w : Nat) (v : Word) : (s.setCx c k w v).meter = s.meter := rfl
@[simp] theorem State.setCx_epul (c k w : Nat) (v : Word) : (s.setCx c k w v).epul = s.epul := rfl
@[simp] theorem State.setCx_er (c k w : Nat) (v : Word) : (s.setCx c k w v).er = s.er := rfl
@[simp] theorem State.setCx_safe (c k w : Nat) (v : Word) : (s.setCx c k w v).safe = s.safe := rfl
@[simp] theorem State.setCx_ka (c k w : Nat) (v : Word) : (s.setCx c k w v).ka = s.ka := rfl
@[simp] theorem State.setCx_nv (c k w : Nat) (v : Word) : (s.setCx c k w v).nv = s.nv := rfl
@[simp] theorem State.setCx_boot (c k w : Nat) (v : Word) : (s.setCx c k w v).boot = s.boot := rfl
@[simp] theorem State.setCx_timers (c k w : Nat) (v : Word) : (s.setCx c k w v).timers = s.timers := rfl
@[simp] theorem State.setCx_freeCtr (c k w : Nat) (v : Word) : (s.setCx c k w v).freeCtr = s.freeCtr := rfl

@[simp] theorem State.modCh_pending (c : Nat) (f : Ch → Ch) : (s.modCh c f).pending = s.pending := rfl
@[simp] theorem State.modCh_regs (c : Nat) (f : Ch → Ch) : (s.modCh c f).regs = s.regs := rfl
@[simp] theorem State.modCh_t (c : Nat) (f : Ch → Ch) : (s.modCh c f).t = s.t := rfl
@[simp] theorem State.modCh_host (c : Nat) (f : Ch → Ch) : (s.modCh c f).host = s.host := rfl
@[simp] theorem State.modCh_log (c : Nat) (f : Ch → Ch) : (s.modCh c f).log = s.log := rfl
@[simp] theorem State.modCh_ride (c : Nat) (f : Ch → Ch) : (s.modCh c f).ride = s.ride := rfl
@[simp] theorem State.modCh_surv (c : Nat) (f : Ch → Ch) : (s.modCh c f).surv = s.surv := rfl
@[simp] theorem State.modCh_meter (c : Nat) (f : Ch → Ch) : (s.modCh c f).meter = s.meter := rfl
@[simp] theorem State.modCh_epul (c : Nat) (f : Ch → Ch) : (s.modCh c f).epul = s.epul := rfl
@[simp] theorem State.modCh_er (c : Nat) (f : Ch → Ch) : (s.modCh c f).er = s.er := rfl
@[simp] theorem State.modCh_safe (c : Nat) (f : Ch → Ch) : (s.modCh c f).safe = s.safe := rfl
@[simp] theorem State.modCh_ka (c : Nat) (f : Ch → Ch) : (s.modCh c f).ka = s.ka := rfl
@[simp] theorem State.modCh_nv (c : Nat) (f : Ch → Ch) : (s.modCh c f).nv = s.nv := rfl
@[simp] theorem State.modCh_boot (c : Nat) (f : Ch → Ch) : (s.modCh c f).boot = s.boot := rfl
@[simp] theorem State.modCh_timers (c : Nat) (f : Ch → Ch) : (s.modCh c f).timers = s.timers := rfl
@[simp] theorem State.modCh_freeCtr (c : Nat) (f : Ch → Ch) : (s.modCh c f).freeCtr = s.freeCtr := rfl
@[simp] theorem State.modCh_rd (c : Nat) (f : Ch → Ch) (x : Nat) : (s.modCh c f).rd x = s.rd x := rfl
@[simp] theorem State.modCh_get (c : Nat) (f : Ch → Ch) (x : Fld) : (s.modCh c f).get x = s.get x := rfl
@[simp] theorem State.modCh_flag (c : Nat) (f : Ch → Ch) (x : Fld) : (s.modCh c f).flag x = s.flag x := rfl

@[simp] theorem State.modHb_pending (c h : Nat) (f : HbSt → HbSt) : (s.modHb c h f).pending = s.pending := rfl
@[simp] theorem State.modHb_regs (c h : Nat) (f : HbSt → HbSt) : (s.modHb c h f).regs = s.regs := rfl
@[simp] theorem State.modHb_t (c h : Nat) (f : HbSt → HbSt) : (s.modHb c h f).t = s.t := rfl
@[simp] theorem State.modHb_host (c h : Nat) (f : HbSt → HbSt) : (s.modHb c h f).host = s.host := rfl
@[simp] theorem State.modHb_log (c h : Nat) (f : HbSt → HbSt) : (s.modHb c h f).log = s.log := rfl
@[simp] theorem State.modHb_ride (c h : Nat) (f : HbSt → HbSt) : (s.modHb c h f).ride = s.ride := rfl
@[simp] theorem State.modHb_surv (c h : Nat) (f : HbSt → HbSt) : (s.modHb c h f).surv = s.surv := rfl
@[simp] theorem State.modHb_meter (c h : Nat) (f : HbSt → HbSt) : (s.modHb c h f).meter = s.meter := rfl
@[simp] theorem State.modHb_epul (c h : Nat) (f : HbSt → HbSt) : (s.modHb c h f).epul = s.epul := rfl
@[simp] theorem State.modHb_er (c h : Nat) (f : HbSt → HbSt) : (s.modHb c h f).er = s.er := rfl
@[simp] theorem State.modHb_safe (c h : Nat) (f : HbSt → HbSt) : (s.modHb c h f).safe = s.safe := rfl
@[simp] theorem State.modHb_ka (c h : Nat) (f : HbSt → HbSt) : (s.modHb c h f).ka = s.ka := rfl
@[simp] theorem State.modHb_nv (c h : Nat) (f : HbSt → HbSt) : (s.modHb c h f).nv = s.nv := rfl
@[simp] theorem State.modHb_boot (c h : Nat) (f : HbSt → HbSt) : (s.modHb c h f).boot = s.boot := rfl
@[simp] theorem State.modHb_timers (c h : Nat) (f : HbSt → HbSt) : (s.modHb c h f).timers = s.timers := rfl
@[simp] theorem State.modHb_freeCtr (c h : Nat) (f : HbSt → HbSt) : (s.modHb c h f).freeCtr = s.freeCtr := rfl
@[simp] theorem State.modHb_rd (c h : Nat) (f : HbSt → HbSt) (x : Nat) : (s.modHb c h f).rd x = s.rd x := rfl
@[simp] theorem State.modHb_get (c h : Nat) (f : HbSt → HbSt) (x : Fld) : (s.modHb c h f).get x = s.get x := rfl
@[simp] theorem State.modHb_flag (c h : Nat) (f : HbSt → HbSt) (x : Fld) : (s.modHb c h f).flag x = s.flag x := rfl

@[simp] theorem State.modGate_pending (c h : Nat) (f : GateSt → GateSt) : (s.modGate c h f).pending = s.pending := rfl
@[simp] theorem State.modGate_regs (c h : Nat) (f : GateSt → GateSt) : (s.modGate c h f).regs = s.regs := rfl
@[simp] theorem State.modGate_t (c h : Nat) (f : GateSt → GateSt) : (s.modGate c h f).t = s.t := rfl
@[simp] theorem State.modGate_host (c h : Nat) (f : GateSt → GateSt) : (s.modGate c h f).host = s.host := rfl
@[simp] theorem State.modGate_log (c h : Nat) (f : GateSt → GateSt) : (s.modGate c h f).log = s.log := rfl
@[simp] theorem State.modGate_ride (c h : Nat) (f : GateSt → GateSt) : (s.modGate c h f).ride = s.ride := rfl
@[simp] theorem State.modGate_surv (c h : Nat) (f : GateSt → GateSt) : (s.modGate c h f).surv = s.surv := rfl
@[simp] theorem State.modGate_meter (c h : Nat) (f : GateSt → GateSt) : (s.modGate c h f).meter = s.meter := rfl
@[simp] theorem State.modGate_epul (c h : Nat) (f : GateSt → GateSt) : (s.modGate c h f).epul = s.epul := rfl
@[simp] theorem State.modGate_er (c h : Nat) (f : GateSt → GateSt) : (s.modGate c h f).er = s.er := rfl
@[simp] theorem State.modGate_safe (c h : Nat) (f : GateSt → GateSt) : (s.modGate c h f).safe = s.safe := rfl
@[simp] theorem State.modGate_ka (c h : Nat) (f : GateSt → GateSt) : (s.modGate c h f).ka = s.ka := rfl
@[simp] theorem State.modGate_nv (c h : Nat) (f : GateSt → GateSt) : (s.modGate c h f).nv = s.nv := rfl
@[simp] theorem State.modGate_boot (c h : Nat) (f : GateSt → GateSt) : (s.modGate c h f).boot = s.boot := rfl
@[simp] theorem State.modGate_timers (c h : Nat) (f : GateSt → GateSt) : (s.modGate c h f).timers = s.timers := rfl
@[simp] theorem State.modGate_freeCtr (c h : Nat) (f : GateSt → GateSt) : (s.modGate c h f).freeCtr = s.freeCtr := rfl
@[simp] theorem State.modGate_rd (c h : Nat) (f : GateSt → GateSt) (x : Nat) : (s.modGate c h f).rd x = s.rd x := rfl
@[simp] theorem State.modGate_get (c h : Nat) (f : GateSt → GateSt) (x : Fld) : (s.modGate c h f).get x = s.get x := rfl
@[simp] theorem State.modGate_flag (c h : Nat) (f : GateSt → GateSt) (x : Fld) : (s.modGate c h f).flag x = s.flag x := rfl

@[simp] theorem State.modMd_pending (c m : Nat) (f : MdSt → MdSt) : (s.modMd c m f).pending = s.pending := rfl
@[simp] theorem State.modMd_regs (c m : Nat) (f : MdSt → MdSt) : (s.modMd c m f).regs = s.regs := rfl
@[simp] theorem State.modMd_t (c m : Nat) (f : MdSt → MdSt) : (s.modMd c m f).t = s.t := rfl
@[simp] theorem State.modMd_host (c m : Nat) (f : MdSt → MdSt) : (s.modMd c m f).host = s.host := rfl
@[simp] theorem State.modMd_log (c m : Nat) (f : MdSt → MdSt) : (s.modMd c m f).log = s.log := rfl
@[simp] theorem State.modMd_ride (c m : Nat) (f : MdSt → MdSt) : (s.modMd c m f).ride = s.ride := rfl
@[simp] theorem State.modMd_surv (c m : Nat) (f : MdSt → MdSt) : (s.modMd c m f).surv = s.surv := rfl
@[simp] theorem State.modMd_meter (c m : Nat) (f : MdSt → MdSt) : (s.modMd c m f).meter = s.meter := rfl
@[simp] theorem State.modMd_epul (c m : Nat) (f : MdSt → MdSt) : (s.modMd c m f).epul = s.epul := rfl
@[simp] theorem State.modMd_er (c m : Nat) (f : MdSt → MdSt) : (s.modMd c m f).er = s.er := rfl
@[simp] theorem State.modMd_safe (c m : Nat) (f : MdSt → MdSt) : (s.modMd c m f).safe = s.safe := rfl
@[simp] theorem State.modMd_ka (c m : Nat) (f : MdSt → MdSt) : (s.modMd c m f).ka = s.ka := rfl
@[simp] theorem State.modMd_nv (c m : Nat) (f : MdSt → MdSt) : (s.modMd c m f).nv = s.nv := rfl
@[simp] theorem State.modMd_boot (c m : Nat) (f : MdSt → MdSt) : (s.modMd c m f).boot = s.boot := rfl
@[simp] theorem State.modMd_timers (c m : Nat) (f : MdSt → MdSt) : (s.modMd c m f).timers = s.timers := rfl
@[simp] theorem State.modMd_freeCtr (c m : Nat) (f : MdSt → MdSt) : (s.modMd c m f).freeCtr = s.freeCtr := rfl
@[simp] theorem State.modMd_rd (c m : Nat) (f : MdSt → MdSt) (x : Nat) : (s.modMd c m f).rd x = s.rd x := rfl
@[simp] theorem State.modMd_get (c m : Nat) (f : MdSt → MdSt) (x : Fld) : (s.modMd c m f).get x = s.get x := rfl
@[simp] theorem State.modMd_flag (c m : Nat) (f : MdSt → MdSt) (x : Fld) : (s.modMd c m f).flag x = s.flag x := rfl

@[simp] theorem State.modGrid_pending (c : Nat) (f : GridSt → GridSt) : (s.modGrid c f).pending = s.pending := rfl
@[simp] theorem State.modGrid_regs (c : Nat) (f : GridSt → GridSt) : (s.modGrid c f).regs = s.regs := rfl
@[simp] theorem State.modGrid_t (c : Nat) (f : GridSt → GridSt) : (s.modGrid c f).t = s.t := rfl
@[simp] theorem State.modGrid_host (c : Nat) (f : GridSt → GridSt) : (s.modGrid c f).host = s.host := rfl
@[simp] theorem State.modGrid_log (c : Nat) (f : GridSt → GridSt) : (s.modGrid c f).log = s.log := rfl
@[simp] theorem State.modGrid_ride (c : Nat) (f : GridSt → GridSt) : (s.modGrid c f).ride = s.ride := rfl
@[simp] theorem State.modGrid_surv (c : Nat) (f : GridSt → GridSt) : (s.modGrid c f).surv = s.surv := rfl
@[simp] theorem State.modGrid_meter (c : Nat) (f : GridSt → GridSt) : (s.modGrid c f).meter = s.meter := rfl
@[simp] theorem State.modGrid_epul (c : Nat) (f : GridSt → GridSt) : (s.modGrid c f).epul = s.epul := rfl
@[simp] theorem State.modGrid_er (c : Nat) (f : GridSt → GridSt) : (s.modGrid c f).er = s.er := rfl
@[simp] theorem State.modGrid_safe (c : Nat) (f : GridSt → GridSt) : (s.modGrid c f).safe = s.safe := rfl
@[simp] theorem State.modGrid_ka (c : Nat) (f : GridSt → GridSt) : (s.modGrid c f).ka = s.ka := rfl
@[simp] theorem State.modGrid_nv (c : Nat) (f : GridSt → GridSt) : (s.modGrid c f).nv = s.nv := rfl
@[simp] theorem State.modGrid_boot (c : Nat) (f : GridSt → GridSt) : (s.modGrid c f).boot = s.boot := rfl
@[simp] theorem State.modGrid_timers (c : Nat) (f : GridSt → GridSt) : (s.modGrid c f).timers = s.timers := rfl
@[simp] theorem State.modGrid_freeCtr (c : Nat) (f : GridSt → GridSt) : (s.modGrid c f).freeCtr = s.freeCtr := rfl
@[simp] theorem State.modGrid_rd (c : Nat) (f : GridSt → GridSt) (x : Nat) : (s.modGrid c f).rd x = s.rd x := rfl
@[simp] theorem State.modGrid_get (c : Nat) (f : GridSt → GridSt) (x : Fld) : (s.modGrid c f).get x = s.get x := rfl
@[simp] theorem State.modGrid_flag (c : Nat) (f : GridSt → GridSt) (x : Fld) : (s.modGrid c f).flag x = s.flag x := rfl

@[simp] theorem State.modDc_pending (c : Nat) (f : DcSt → DcSt) : (s.modDc c f).pending = s.pending := rfl
@[simp] theorem State.modDc_regs (c : Nat) (f : DcSt → DcSt) : (s.modDc c f).regs = s.regs := rfl
@[simp] theorem State.modDc_t (c : Nat) (f : DcSt → DcSt) : (s.modDc c f).t = s.t := rfl
@[simp] theorem State.modDc_host (c : Nat) (f : DcSt → DcSt) : (s.modDc c f).host = s.host := rfl
@[simp] theorem State.modDc_log (c : Nat) (f : DcSt → DcSt) : (s.modDc c f).log = s.log := rfl
@[simp] theorem State.modDc_ride (c : Nat) (f : DcSt → DcSt) : (s.modDc c f).ride = s.ride := rfl
@[simp] theorem State.modDc_surv (c : Nat) (f : DcSt → DcSt) : (s.modDc c f).surv = s.surv := rfl
@[simp] theorem State.modDc_meter (c : Nat) (f : DcSt → DcSt) : (s.modDc c f).meter = s.meter := rfl
@[simp] theorem State.modDc_epul (c : Nat) (f : DcSt → DcSt) : (s.modDc c f).epul = s.epul := rfl
@[simp] theorem State.modDc_er (c : Nat) (f : DcSt → DcSt) : (s.modDc c f).er = s.er := rfl
@[simp] theorem State.modDc_safe (c : Nat) (f : DcSt → DcSt) : (s.modDc c f).safe = s.safe := rfl
@[simp] theorem State.modDc_ka (c : Nat) (f : DcSt → DcSt) : (s.modDc c f).ka = s.ka := rfl
@[simp] theorem State.modDc_nv (c : Nat) (f : DcSt → DcSt) : (s.modDc c f).nv = s.nv := rfl
@[simp] theorem State.modDc_boot (c : Nat) (f : DcSt → DcSt) : (s.modDc c f).boot = s.boot := rfl
@[simp] theorem State.modDc_timers (c : Nat) (f : DcSt → DcSt) : (s.modDc c f).timers = s.timers := rfl
@[simp] theorem State.modDc_freeCtr (c : Nat) (f : DcSt → DcSt) : (s.modDc c f).freeCtr = s.freeCtr := rfl
@[simp] theorem State.modDc_rd (c : Nat) (f : DcSt → DcSt) (x : Nat) : (s.modDc c f).rd x = s.rd x := rfl
@[simp] theorem State.modDc_get (c : Nat) (f : DcSt → DcSt) (x : Fld) : (s.modDc c f).get x = s.get x := rfl
@[simp] theorem State.modDc_flag (c : Nat) (f : DcSt → DcSt) (x : Fld) : (s.modDc c f).flag x = s.flag x := rfl

@[simp] theorem State.modMach_pending (c : Nat) (f : MachSt → MachSt) : (s.modMach c f).pending = s.pending := rfl
@[simp] theorem State.modMach_regs (c : Nat) (f : MachSt → MachSt) : (s.modMach c f).regs = s.regs := rfl
@[simp] theorem State.modMach_t (c : Nat) (f : MachSt → MachSt) : (s.modMach c f).t = s.t := rfl
@[simp] theorem State.modMach_host (c : Nat) (f : MachSt → MachSt) : (s.modMach c f).host = s.host := rfl
@[simp] theorem State.modMach_log (c : Nat) (f : MachSt → MachSt) : (s.modMach c f).log = s.log := rfl
@[simp] theorem State.modMach_ride (c : Nat) (f : MachSt → MachSt) : (s.modMach c f).ride = s.ride := rfl
@[simp] theorem State.modMach_surv (c : Nat) (f : MachSt → MachSt) : (s.modMach c f).surv = s.surv := rfl
@[simp] theorem State.modMach_meter (c : Nat) (f : MachSt → MachSt) : (s.modMach c f).meter = s.meter := rfl
@[simp] theorem State.modMach_epul (c : Nat) (f : MachSt → MachSt) : (s.modMach c f).epul = s.epul := rfl
@[simp] theorem State.modMach_er (c : Nat) (f : MachSt → MachSt) : (s.modMach c f).er = s.er := rfl
@[simp] theorem State.modMach_safe (c : Nat) (f : MachSt → MachSt) : (s.modMach c f).safe = s.safe := rfl
@[simp] theorem State.modMach_ka (c : Nat) (f : MachSt → MachSt) : (s.modMach c f).ka = s.ka := rfl
@[simp] theorem State.modMach_nv (c : Nat) (f : MachSt → MachSt) : (s.modMach c f).nv = s.nv := rfl
@[simp] theorem State.modMach_boot (c : Nat) (f : MachSt → MachSt) : (s.modMach c f).boot = s.boot := rfl
@[simp] theorem State.modMach_timers (c : Nat) (f : MachSt → MachSt) : (s.modMach c f).timers = s.timers := rfl
@[simp] theorem State.modMach_freeCtr (c : Nat) (f : MachSt → MachSt) : (s.modMach c f).freeCtr = s.freeCtr := rfl
@[simp] theorem State.modMach_rd (c : Nat) (f : MachSt → MachSt) (x : Nat) : (s.modMach c f).rd x = s.rd x := rfl
@[simp] theorem State.modMach_get (c : Nat) (f : MachSt → MachSt) (x : Fld) : (s.modMach c f).get x = s.get x := rfl
@[simp] theorem State.modMach_flag (c : Nat) (f : MachSt → MachSt) (x : Fld) : (s.modMach c f).flag x = s.flag x := rfl

@[simp] theorem State.modT_pending (f : TickSt → TickSt) : (s.modT f).pending = s.pending := rfl
@[simp] theorem State.modT_regs (f : TickSt → TickSt) : (s.modT f).regs = s.regs := rfl
@[simp] theorem State.modT_ch (f : TickSt → TickSt) : (s.modT f).ch = s.ch := rfl
@[simp] theorem State.modT_host (f : TickSt → TickSt) : (s.modT f).host = s.host := rfl
@[simp] theorem State.modT_log (f : TickSt → TickSt) : (s.modT f).log = s.log := rfl
@[simp] theorem State.modT_ride (f : TickSt → TickSt) : (s.modT f).ride = s.ride := rfl
@[simp] theorem State.modT_surv (f : TickSt → TickSt) : (s.modT f).surv = s.surv := rfl
@[simp] theorem State.modT_meter (f : TickSt → TickSt) : (s.modT f).meter = s.meter := rfl
@[simp] theorem State.modT_epul (f : TickSt → TickSt) : (s.modT f).epul = s.epul := rfl
@[simp] theorem State.modT_er (f : TickSt → TickSt) : (s.modT f).er = s.er := rfl
@[simp] theorem State.modT_safe (f : TickSt → TickSt) : (s.modT f).safe = s.safe := rfl
@[simp] theorem State.modT_ka (f : TickSt → TickSt) : (s.modT f).ka = s.ka := rfl
@[simp] theorem State.modT_nv (f : TickSt → TickSt) : (s.modT f).nv = s.nv := rfl
@[simp] theorem State.modT_boot (f : TickSt → TickSt) : (s.modT f).boot = s.boot := rfl
@[simp] theorem State.modT_timers (f : TickSt → TickSt) : (s.modT f).timers = s.timers := rfl
@[simp] theorem State.modT_freeCtr (f : TickSt → TickSt) : (s.modT f).freeCtr = s.freeCtr := rfl
@[simp] theorem State.modT_rd (f : TickSt → TickSt) (x : Nat) : (s.modT f).rd x = s.rd x := rfl
@[simp] theorem State.modT_get (f : TickSt → TickSt) (x : Fld) : (s.modT f).get x = s.get x := rfl
@[simp] theorem State.modT_flag (f : TickSt → TickSt) (x : Fld) : (s.modT f).flag x = s.flag x := rfl

@[simp] theorem State.modHost_pending (f : HostSt → HostSt) : (s.modHost f).pending = s.pending := rfl
@[simp] theorem State.modHost_regs (f : HostSt → HostSt) : (s.modHost f).regs = s.regs := rfl
@[simp] theorem State.modHost_t (f : HostSt → HostSt) : (s.modHost f).t = s.t := rfl
@[simp] theorem State.modHost_ch (f : HostSt → HostSt) : (s.modHost f).ch = s.ch := rfl
@[simp] theorem State.modHost_log (f : HostSt → HostSt) : (s.modHost f).log = s.log := rfl
@[simp] theorem State.modHost_ride (f : HostSt → HostSt) : (s.modHost f).ride = s.ride := rfl
@[simp] theorem State.modHost_surv (f : HostSt → HostSt) : (s.modHost f).surv = s.surv := rfl
@[simp] theorem State.modHost_meter (f : HostSt → HostSt) : (s.modHost f).meter = s.meter := rfl
@[simp] theorem State.modHost_epul (f : HostSt → HostSt) : (s.modHost f).epul = s.epul := rfl
@[simp] theorem State.modHost_er (f : HostSt → HostSt) : (s.modHost f).er = s.er := rfl
@[simp] theorem State.modHost_safe (f : HostSt → HostSt) : (s.modHost f).safe = s.safe := rfl
@[simp] theorem State.modHost_ka (f : HostSt → HostSt) : (s.modHost f).ka = s.ka := rfl
@[simp] theorem State.modHost_nv (f : HostSt → HostSt) : (s.modHost f).nv = s.nv := rfl
@[simp] theorem State.modHost_boot (f : HostSt → HostSt) : (s.modHost f).boot = s.boot := rfl
@[simp] theorem State.modHost_timers (f : HostSt → HostSt) : (s.modHost f).timers = s.timers := rfl
@[simp] theorem State.modHost_freeCtr (f : HostSt → HostSt) : (s.modHost f).freeCtr = s.freeCtr := rfl
@[simp] theorem State.modHost_rd (f : HostSt → HostSt) (x : Nat) : (s.modHost f).rd x = s.rd x := rfl
@[simp] theorem State.modHost_get (f : HostSt → HostSt) (x : Fld) : (s.modHost f).get x = s.get x := rfl
@[simp] theorem State.modHost_flag (f : HostSt → HostSt) (x : Fld) : (s.modHost f).flag x = s.flag x := rfl

@[simp] theorem State.modLog_pending (f : LogSt → LogSt) : (s.modLog f).pending = s.pending := rfl
@[simp] theorem State.modLog_regs (f : LogSt → LogSt) : (s.modLog f).regs = s.regs := rfl
@[simp] theorem State.modLog_t (f : LogSt → LogSt) : (s.modLog f).t = s.t := rfl
@[simp] theorem State.modLog_ch (f : LogSt → LogSt) : (s.modLog f).ch = s.ch := rfl
@[simp] theorem State.modLog_host (f : LogSt → LogSt) : (s.modLog f).host = s.host := rfl
@[simp] theorem State.modLog_ride (f : LogSt → LogSt) : (s.modLog f).ride = s.ride := rfl
@[simp] theorem State.modLog_surv (f : LogSt → LogSt) : (s.modLog f).surv = s.surv := rfl
@[simp] theorem State.modLog_meter (f : LogSt → LogSt) : (s.modLog f).meter = s.meter := rfl
@[simp] theorem State.modLog_epul (f : LogSt → LogSt) : (s.modLog f).epul = s.epul := rfl
@[simp] theorem State.modLog_er (f : LogSt → LogSt) : (s.modLog f).er = s.er := rfl
@[simp] theorem State.modLog_safe (f : LogSt → LogSt) : (s.modLog f).safe = s.safe := rfl
@[simp] theorem State.modLog_ka (f : LogSt → LogSt) : (s.modLog f).ka = s.ka := rfl
@[simp] theorem State.modLog_nv (f : LogSt → LogSt) : (s.modLog f).nv = s.nv := rfl
@[simp] theorem State.modLog_boot (f : LogSt → LogSt) : (s.modLog f).boot = s.boot := rfl
@[simp] theorem State.modLog_timers (f : LogSt → LogSt) : (s.modLog f).timers = s.timers := rfl
@[simp] theorem State.modLog_freeCtr (f : LogSt → LogSt) : (s.modLog f).freeCtr = s.freeCtr := rfl
@[simp] theorem State.modLog_rd (f : LogSt → LogSt) (x : Nat) : (s.modLog f).rd x = s.rd x := rfl
@[simp] theorem State.modLog_get (f : LogSt → LogSt) (x : Fld) : (s.modLog f).get x = s.get x := rfl
@[simp] theorem State.modLog_flag (f : LogSt → LogSt) (x : Fld) : (s.modLog f).flag x = s.flag x := rfl

@[simp] theorem State.modSes_pending (i : Nat) (f : Ses → Ses) : (s.modSes i f).pending = s.pending := rfl
@[simp] theorem State.modSes_regs (i : Nat) (f : Ses → Ses) : (s.modSes i f).regs = s.regs := rfl
@[simp] theorem State.modSes_t (i : Nat) (f : Ses → Ses) : (s.modSes i f).t = s.t := rfl
@[simp] theorem State.modSes_ch (i : Nat) (f : Ses → Ses) : (s.modSes i f).ch = s.ch := rfl
@[simp] theorem State.modSes_log (i : Nat) (f : Ses → Ses) : (s.modSes i f).log = s.log := rfl
@[simp] theorem State.modSes_ride (i : Nat) (f : Ses → Ses) : (s.modSes i f).ride = s.ride := rfl
@[simp] theorem State.modSes_surv (i : Nat) (f : Ses → Ses) : (s.modSes i f).surv = s.surv := rfl
@[simp] theorem State.modSes_meter (i : Nat) (f : Ses → Ses) : (s.modSes i f).meter = s.meter := rfl
@[simp] theorem State.modSes_epul (i : Nat) (f : Ses → Ses) : (s.modSes i f).epul = s.epul := rfl
@[simp] theorem State.modSes_er (i : Nat) (f : Ses → Ses) : (s.modSes i f).er = s.er := rfl
@[simp] theorem State.modSes_safe (i : Nat) (f : Ses → Ses) : (s.modSes i f).safe = s.safe := rfl
@[simp] theorem State.modSes_ka (i : Nat) (f : Ses → Ses) : (s.modSes i f).ka = s.ka := rfl
@[simp] theorem State.modSes_nv (i : Nat) (f : Ses → Ses) : (s.modSes i f).nv = s.nv := rfl
@[simp] theorem State.modSes_boot (i : Nat) (f : Ses → Ses) : (s.modSes i f).boot = s.boot := rfl
@[simp] theorem State.modSes_timers (i : Nat) (f : Ses → Ses) : (s.modSes i f).timers = s.timers := rfl
@[simp] theorem State.modSes_freeCtr (i : Nat) (f : Ses → Ses) : (s.modSes i f).freeCtr = s.freeCtr := rfl
@[simp] theorem State.modSes_rd (i : Nat) (f : Ses → Ses) (x : Nat) : (s.modSes i f).rd x = s.rd x := rfl
@[simp] theorem State.modSes_get (i : Nat) (f : Ses → Ses) (x : Fld) : (s.modSes i f).get x = s.get x := rfl
@[simp] theorem State.modSes_flag (i : Nat) (f : Ses → Ses) (x : Fld) : (s.modSes i f).flag x = s.flag x := rfl

@[simp] theorem State.modWork_pending (f : List Work → List Work) : (s.modWork f).pending = s.pending := rfl
@[simp] theorem State.modWork_regs (f : List Work → List Work) : (s.modWork f).regs = s.regs := rfl
@[simp] theorem State.modWork_t (f : List Work → List Work) : (s.modWork f).t = s.t := rfl
@[simp] theorem State.modWork_ch (f : List Work → List Work) : (s.modWork f).ch = s.ch := rfl
@[simp] theorem State.modWork_log (f : List Work → List Work) : (s.modWork f).log = s.log := rfl
@[simp] theorem State.modWork_ride (f : List Work → List Work) : (s.modWork f).ride = s.ride := rfl
@[simp] theorem State.modWork_surv (f : List Work → List Work) : (s.modWork f).surv = s.surv := rfl
@[simp] theorem State.modWork_meter (f : List Work → List Work) : (s.modWork f).meter = s.meter := rfl
@[simp] theorem State.modWork_epul (f : List Work → List Work) : (s.modWork f).epul = s.epul := rfl
@[simp] theorem State.modWork_er (f : List Work → List Work) : (s.modWork f).er = s.er := rfl
@[simp] theorem State.modWork_safe (f : List Work → List Work) : (s.modWork f).safe = s.safe := rfl
@[simp] theorem State.modWork_ka (f : List Work → List Work) : (s.modWork f).ka = s.ka := rfl
@[simp] theorem State.modWork_nv (f : List Work → List Work) : (s.modWork f).nv = s.nv := rfl
@[simp] theorem State.modWork_boot (f : List Work → List Work) : (s.modWork f).boot = s.boot := rfl
@[simp] theorem State.modWork_timers (f : List Work → List Work) : (s.modWork f).timers = s.timers := rfl
@[simp] theorem State.modWork_freeCtr (f : List Work → List Work) : (s.modWork f).freeCtr = s.freeCtr := rfl
@[simp] theorem State.modWork_rd (f : List Work → List Work) (x : Nat) : (s.modWork f).rd x = s.rd x := rfl
@[simp] theorem State.modWork_get (f : List Work → List Work) (x : Fld) : (s.modWork f).get x = s.get x := rfl
@[simp] theorem State.modWork_flag (f : List Work → List Work) (x : Fld) : (s.modWork f).flag x = s.flag x := rfl

@[simp] theorem State.modNv_pending (f : NvSt → NvSt) : (s.modNv f).pending = s.pending := rfl
@[simp] theorem State.modNv_regs (f : NvSt → NvSt) : (s.modNv f).regs = s.regs := rfl
@[simp] theorem State.modNv_t (f : NvSt → NvSt) : (s.modNv f).t = s.t := rfl
@[simp] theorem State.modNv_ch (f : NvSt → NvSt) : (s.modNv f).ch = s.ch := rfl
@[simp] theorem State.modNv_host (f : NvSt → NvSt) : (s.modNv f).host = s.host := rfl
@[simp] theorem State.modNv_log (f : NvSt → NvSt) : (s.modNv f).log = s.log := rfl
@[simp] theorem State.modNv_ride (f : NvSt → NvSt) : (s.modNv f).ride = s.ride := rfl
@[simp] theorem State.modNv_surv (f : NvSt → NvSt) : (s.modNv f).surv = s.surv := rfl
@[simp] theorem State.modNv_meter (f : NvSt → NvSt) : (s.modNv f).meter = s.meter := rfl
@[simp] theorem State.modNv_epul (f : NvSt → NvSt) : (s.modNv f).epul = s.epul := rfl
@[simp] theorem State.modNv_er (f : NvSt → NvSt) : (s.modNv f).er = s.er := rfl
@[simp] theorem State.modNv_safe (f : NvSt → NvSt) : (s.modNv f).safe = s.safe := rfl
@[simp] theorem State.modNv_ka (f : NvSt → NvSt) : (s.modNv f).ka = s.ka := rfl
@[simp] theorem State.modNv_boot (f : NvSt → NvSt) : (s.modNv f).boot = s.boot := rfl
@[simp] theorem State.modNv_timers (f : NvSt → NvSt) : (s.modNv f).timers = s.timers := rfl
@[simp] theorem State.modNv_freeCtr (f : NvSt → NvSt) : (s.modNv f).freeCtr = s.freeCtr := rfl
@[simp] theorem State.modNv_rd (f : NvSt → NvSt) (x : Nat) : (s.modNv f).rd x = s.rd x := rfl
@[simp] theorem State.modNv_get (f : NvSt → NvSt) (x : Fld) : (s.modNv f).get x = s.get x := rfl
@[simp] theorem State.modNv_flag (f : NvSt → NvSt) (x : Fld) : (s.modNv f).flag x = s.flag x := rfl

@[simp] theorem State.modBoot_pending (f : BootSt → BootSt) : (s.modBoot f).pending = s.pending := rfl
@[simp] theorem State.modBoot_regs (f : BootSt → BootSt) : (s.modBoot f).regs = s.regs := rfl
@[simp] theorem State.modBoot_t (f : BootSt → BootSt) : (s.modBoot f).t = s.t := rfl
@[simp] theorem State.modBoot_ch (f : BootSt → BootSt) : (s.modBoot f).ch = s.ch := rfl
@[simp] theorem State.modBoot_host (f : BootSt → BootSt) : (s.modBoot f).host = s.host := rfl
@[simp] theorem State.modBoot_log (f : BootSt → BootSt) : (s.modBoot f).log = s.log := rfl
@[simp] theorem State.modBoot_ride (f : BootSt → BootSt) : (s.modBoot f).ride = s.ride := rfl
@[simp] theorem State.modBoot_surv (f : BootSt → BootSt) : (s.modBoot f).surv = s.surv := rfl
@[simp] theorem State.modBoot_meter (f : BootSt → BootSt) : (s.modBoot f).meter = s.meter := rfl
@[simp] theorem State.modBoot_epul (f : BootSt → BootSt) : (s.modBoot f).epul = s.epul := rfl
@[simp] theorem State.modBoot_er (f : BootSt → BootSt) : (s.modBoot f).er = s.er := rfl
@[simp] theorem State.modBoot_safe (f : BootSt → BootSt) : (s.modBoot f).safe = s.safe := rfl
@[simp] theorem State.modBoot_ka (f : BootSt → BootSt) : (s.modBoot f).ka = s.ka := rfl
@[simp] theorem State.modBoot_nv (f : BootSt → BootSt) : (s.modBoot f).nv = s.nv := rfl
@[simp] theorem State.modBoot_timers (f : BootSt → BootSt) : (s.modBoot f).timers = s.timers := rfl
@[simp] theorem State.modBoot_freeCtr (f : BootSt → BootSt) : (s.modBoot f).freeCtr = s.freeCtr := rfl
@[simp] theorem State.modBoot_rd (f : BootSt → BootSt) (x : Nat) : (s.modBoot f).rd x = s.rd x := rfl
@[simp] theorem State.modBoot_get (f : BootSt → BootSt) (x : Fld) : (s.modBoot f).get x = s.get x := rfl
@[simp] theorem State.modBoot_flag (f : BootSt → BootSt) (x : Fld) : (s.modBoot f).flag x = s.flag x := rfl

@[simp] theorem State.modKa_pending (f : KaSt → KaSt) : (s.modKa f).pending = s.pending := rfl
@[simp] theorem State.modKa_regs (f : KaSt → KaSt) : (s.modKa f).regs = s.regs := rfl
@[simp] theorem State.modKa_t (f : KaSt → KaSt) : (s.modKa f).t = s.t := rfl
@[simp] theorem State.modKa_ch (f : KaSt → KaSt) : (s.modKa f).ch = s.ch := rfl
@[simp] theorem State.modKa_host (f : KaSt → KaSt) : (s.modKa f).host = s.host := rfl
@[simp] theorem State.modKa_log (f : KaSt → KaSt) : (s.modKa f).log = s.log := rfl
@[simp] theorem State.modKa_ride (f : KaSt → KaSt) : (s.modKa f).ride = s.ride := rfl
@[simp] theorem State.modKa_surv (f : KaSt → KaSt) : (s.modKa f).surv = s.surv := rfl
@[simp] theorem State.modKa_meter (f : KaSt → KaSt) : (s.modKa f).meter = s.meter := rfl
@[simp] theorem State.modKa_epul (f : KaSt → KaSt) : (s.modKa f).epul = s.epul := rfl
@[simp] theorem State.modKa_er (f : KaSt → KaSt) : (s.modKa f).er = s.er := rfl
@[simp] theorem State.modKa_safe (f : KaSt → KaSt) : (s.modKa f).safe = s.safe := rfl
@[simp] theorem State.modKa_nv (f : KaSt → KaSt) : (s.modKa f).nv = s.nv := rfl
@[simp] theorem State.modKa_boot (f : KaSt → KaSt) : (s.modKa f).boot = s.boot := rfl
@[simp] theorem State.modKa_timers (f : KaSt → KaSt) : (s.modKa f).timers = s.timers := rfl
@[simp] theorem State.modKa_freeCtr (f : KaSt → KaSt) : (s.modKa f).freeCtr = s.freeCtr := rfl
@[simp] theorem State.modKa_rd (f : KaSt → KaSt) (x : Nat) : (s.modKa f).rd x = s.rd x := rfl
@[simp] theorem State.modKa_get (f : KaSt → KaSt) (x : Fld) : (s.modKa f).get x = s.get x := rfl
@[simp] theorem State.modKa_flag (f : KaSt → KaSt) (x : Fld) : (s.modKa f).flag x = s.flag x := rfl

@[simp] theorem State.modSafe_pending (f : SafeSt → SafeSt) : (s.modSafe f).pending = s.pending := rfl
@[simp] theorem State.modSafe_regs (f : SafeSt → SafeSt) : (s.modSafe f).regs = s.regs := rfl
@[simp] theorem State.modSafe_t (f : SafeSt → SafeSt) : (s.modSafe f).t = s.t := rfl
@[simp] theorem State.modSafe_ch (f : SafeSt → SafeSt) : (s.modSafe f).ch = s.ch := rfl
@[simp] theorem State.modSafe_host (f : SafeSt → SafeSt) : (s.modSafe f).host = s.host := rfl
@[simp] theorem State.modSafe_log (f : SafeSt → SafeSt) : (s.modSafe f).log = s.log := rfl
@[simp] theorem State.modSafe_ride (f : SafeSt → SafeSt) : (s.modSafe f).ride = s.ride := rfl
@[simp] theorem State.modSafe_surv (f : SafeSt → SafeSt) : (s.modSafe f).surv = s.surv := rfl
@[simp] theorem State.modSafe_meter (f : SafeSt → SafeSt) : (s.modSafe f).meter = s.meter := rfl
@[simp] theorem State.modSafe_epul (f : SafeSt → SafeSt) : (s.modSafe f).epul = s.epul := rfl
@[simp] theorem State.modSafe_er (f : SafeSt → SafeSt) : (s.modSafe f).er = s.er := rfl
@[simp] theorem State.modSafe_ka (f : SafeSt → SafeSt) : (s.modSafe f).ka = s.ka := rfl
@[simp] theorem State.modSafe_nv (f : SafeSt → SafeSt) : (s.modSafe f).nv = s.nv := rfl
@[simp] theorem State.modSafe_boot (f : SafeSt → SafeSt) : (s.modSafe f).boot = s.boot := rfl
@[simp] theorem State.modSafe_timers (f : SafeSt → SafeSt) : (s.modSafe f).timers = s.timers := rfl
@[simp] theorem State.modSafe_freeCtr (f : SafeSt → SafeSt) : (s.modSafe f).freeCtr = s.freeCtr := rfl
@[simp] theorem State.modSafe_rd (f : SafeSt → SafeSt) (x : Nat) : (s.modSafe f).rd x = s.rd x := rfl
@[simp] theorem State.modSafe_get (f : SafeSt → SafeSt) (x : Fld) : (s.modSafe f).get x = s.get x := rfl
@[simp] theorem State.modSafe_flag (f : SafeSt → SafeSt) (x : Fld) : (s.modSafe f).flag x = s.flag x := rfl

@[simp] theorem State.modMeter_pending (p : Nat) (f : MeterSt → MeterSt) : (s.modMeter p f).pending = s.pending := rfl
@[simp] theorem State.modMeter_regs (p : Nat) (f : MeterSt → MeterSt) : (s.modMeter p f).regs = s.regs := rfl
@[simp] theorem State.modMeter_t (p : Nat) (f : MeterSt → MeterSt) : (s.modMeter p f).t = s.t := rfl
@[simp] theorem State.modMeter_ch (p : Nat) (f : MeterSt → MeterSt) : (s.modMeter p f).ch = s.ch := rfl
@[simp] theorem State.modMeter_host (p : Nat) (f : MeterSt → MeterSt) : (s.modMeter p f).host = s.host := rfl
@[simp] theorem State.modMeter_log (p : Nat) (f : MeterSt → MeterSt) : (s.modMeter p f).log = s.log := rfl
@[simp] theorem State.modMeter_ride (p : Nat) (f : MeterSt → MeterSt) : (s.modMeter p f).ride = s.ride := rfl
@[simp] theorem State.modMeter_surv (p : Nat) (f : MeterSt → MeterSt) : (s.modMeter p f).surv = s.surv := rfl
@[simp] theorem State.modMeter_epul (p : Nat) (f : MeterSt → MeterSt) : (s.modMeter p f).epul = s.epul := rfl
@[simp] theorem State.modMeter_er (p : Nat) (f : MeterSt → MeterSt) : (s.modMeter p f).er = s.er := rfl
@[simp] theorem State.modMeter_safe (p : Nat) (f : MeterSt → MeterSt) : (s.modMeter p f).safe = s.safe := rfl
@[simp] theorem State.modMeter_ka (p : Nat) (f : MeterSt → MeterSt) : (s.modMeter p f).ka = s.ka := rfl
@[simp] theorem State.modMeter_nv (p : Nat) (f : MeterSt → MeterSt) : (s.modMeter p f).nv = s.nv := rfl
@[simp] theorem State.modMeter_boot (p : Nat) (f : MeterSt → MeterSt) : (s.modMeter p f).boot = s.boot := rfl
@[simp] theorem State.modMeter_timers (p : Nat) (f : MeterSt → MeterSt) : (s.modMeter p f).timers = s.timers := rfl
@[simp] theorem State.modMeter_freeCtr (p : Nat) (f : MeterSt → MeterSt) : (s.modMeter p f).freeCtr = s.freeCtr := rfl
@[simp] theorem State.modMeter_rd (p : Nat) (f : MeterSt → MeterSt) (x : Nat) : (s.modMeter p f).rd x = s.rd x := rfl
@[simp] theorem State.modMeter_get (p : Nat) (f : MeterSt → MeterSt) (x : Fld) : (s.modMeter p f).get x = s.get x := rfl
@[simp] theorem State.modMeter_flag (p : Nat) (f : MeterSt → MeterSt) (x : Fld) : (s.modMeter p f).flag x = s.flag x := rfl

@[simp] theorem State.modEpul_pending (j : Nat) (f : Epul → Epul) : (s.modEpul j f).pending = s.pending := rfl
@[simp] theorem State.modEpul_regs (j : Nat) (f : Epul → Epul) : (s.modEpul j f).regs = s.regs := rfl
@[simp] theorem State.modEpul_t (j : Nat) (f : Epul → Epul) : (s.modEpul j f).t = s.t := rfl
@[simp] theorem State.modEpul_ch (j : Nat) (f : Epul → Epul) : (s.modEpul j f).ch = s.ch := rfl
@[simp] theorem State.modEpul_host (j : Nat) (f : Epul → Epul) : (s.modEpul j f).host = s.host := rfl
@[simp] theorem State.modEpul_log (j : Nat) (f : Epul → Epul) : (s.modEpul j f).log = s.log := rfl
@[simp] theorem State.modEpul_ride (j : Nat) (f : Epul → Epul) : (s.modEpul j f).ride = s.ride := rfl
@[simp] theorem State.modEpul_surv (j : Nat) (f : Epul → Epul) : (s.modEpul j f).surv = s.surv := rfl
@[simp] theorem State.modEpul_meter (j : Nat) (f : Epul → Epul) : (s.modEpul j f).meter = s.meter := rfl
@[simp] theorem State.modEpul_er (j : Nat) (f : Epul → Epul) : (s.modEpul j f).er = s.er := rfl
@[simp] theorem State.modEpul_safe (j : Nat) (f : Epul → Epul) : (s.modEpul j f).safe = s.safe := rfl
@[simp] theorem State.modEpul_ka (j : Nat) (f : Epul → Epul) : (s.modEpul j f).ka = s.ka := rfl
@[simp] theorem State.modEpul_nv (j : Nat) (f : Epul → Epul) : (s.modEpul j f).nv = s.nv := rfl
@[simp] theorem State.modEpul_boot (j : Nat) (f : Epul → Epul) : (s.modEpul j f).boot = s.boot := rfl
@[simp] theorem State.modEpul_timers (j : Nat) (f : Epul → Epul) : (s.modEpul j f).timers = s.timers := rfl
@[simp] theorem State.modEpul_freeCtr (j : Nat) (f : Epul → Epul) : (s.modEpul j f).freeCtr = s.freeCtr := rfl
@[simp] theorem State.modEpul_rd (j : Nat) (f : Epul → Epul) (x : Nat) : (s.modEpul j f).rd x = s.rd x := rfl
@[simp] theorem State.modEpul_get (j : Nat) (f : Epul → Epul) (x : Fld) : (s.modEpul j f).get x = s.get x := rfl
@[simp] theorem State.modEpul_flag (j : Nat) (f : Epul → Epul) (x : Fld) : (s.modEpul j f).flag x = s.flag x := rfl

@[simp] theorem State.modEr_pending (f : ErSt → ErSt) : (s.modEr f).pending = s.pending := rfl
@[simp] theorem State.modEr_regs (f : ErSt → ErSt) : (s.modEr f).regs = s.regs := rfl
@[simp] theorem State.modEr_t (f : ErSt → ErSt) : (s.modEr f).t = s.t := rfl
@[simp] theorem State.modEr_ch (f : ErSt → ErSt) : (s.modEr f).ch = s.ch := rfl
@[simp] theorem State.modEr_host (f : ErSt → ErSt) : (s.modEr f).host = s.host := rfl
@[simp] theorem State.modEr_log (f : ErSt → ErSt) : (s.modEr f).log = s.log := rfl
@[simp] theorem State.modEr_ride (f : ErSt → ErSt) : (s.modEr f).ride = s.ride := rfl
@[simp] theorem State.modEr_surv (f : ErSt → ErSt) : (s.modEr f).surv = s.surv := rfl
@[simp] theorem State.modEr_meter (f : ErSt → ErSt) : (s.modEr f).meter = s.meter := rfl
@[simp] theorem State.modEr_epul (f : ErSt → ErSt) : (s.modEr f).epul = s.epul := rfl
@[simp] theorem State.modEr_safe (f : ErSt → ErSt) : (s.modEr f).safe = s.safe := rfl
@[simp] theorem State.modEr_ka (f : ErSt → ErSt) : (s.modEr f).ka = s.ka := rfl
@[simp] theorem State.modEr_nv (f : ErSt → ErSt) : (s.modEr f).nv = s.nv := rfl
@[simp] theorem State.modEr_boot (f : ErSt → ErSt) : (s.modEr f).boot = s.boot := rfl
@[simp] theorem State.modEr_timers (f : ErSt → ErSt) : (s.modEr f).timers = s.timers := rfl
@[simp] theorem State.modEr_freeCtr (f : ErSt → ErSt) : (s.modEr f).freeCtr = s.freeCtr := rfl
@[simp] theorem State.modEr_rd (f : ErSt → ErSt) (x : Nat) : (s.modEr f).rd x = s.rd x := rfl
@[simp] theorem State.modEr_get (f : ErSt → ErSt) (x : Fld) : (s.modEr f).get x = s.get x := rfl
@[simp] theorem State.modEr_flag (f : ErSt → ErSt) (x : Fld) : (s.modEr f).flag x = s.flag x := rfl

@[simp] theorem State.modRide_pending (f : Ride → Ride) : (s.modRide f).pending = s.pending := rfl
@[simp] theorem State.modRide_regs (f : Ride → Ride) : (s.modRide f).regs = s.regs := rfl
@[simp] theorem State.modRide_t (f : Ride → Ride) : (s.modRide f).t = s.t := rfl
@[simp] theorem State.modRide_ch (f : Ride → Ride) : (s.modRide f).ch = s.ch := rfl
@[simp] theorem State.modRide_host (f : Ride → Ride) : (s.modRide f).host = s.host := rfl
@[simp] theorem State.modRide_log (f : Ride → Ride) : (s.modRide f).log = s.log := rfl
@[simp] theorem State.modRide_surv (f : Ride → Ride) : (s.modRide f).surv = s.surv := rfl
@[simp] theorem State.modRide_meter (f : Ride → Ride) : (s.modRide f).meter = s.meter := rfl
@[simp] theorem State.modRide_epul (f : Ride → Ride) : (s.modRide f).epul = s.epul := rfl
@[simp] theorem State.modRide_er (f : Ride → Ride) : (s.modRide f).er = s.er := rfl
@[simp] theorem State.modRide_safe (f : Ride → Ride) : (s.modRide f).safe = s.safe := rfl
@[simp] theorem State.modRide_ka (f : Ride → Ride) : (s.modRide f).ka = s.ka := rfl
@[simp] theorem State.modRide_nv (f : Ride → Ride) : (s.modRide f).nv = s.nv := rfl
@[simp] theorem State.modRide_boot (f : Ride → Ride) : (s.modRide f).boot = s.boot := rfl
@[simp] theorem State.modRide_timers (f : Ride → Ride) : (s.modRide f).timers = s.timers := rfl
@[simp] theorem State.modRide_freeCtr (f : Ride → Ride) : (s.modRide f).freeCtr = s.freeCtr := rfl
@[simp] theorem State.modRide_rd (f : Ride → Ride) (x : Nat) : (s.modRide f).rd x = s.rd x := rfl
@[simp] theorem State.modRide_get (f : Ride → Ride) (x : Fld) : (s.modRide f).get x = s.get x := rfl
@[simp] theorem State.modRide_flag (f : Ride → Ride) (x : Fld) : (s.modRide f).flag x = s.flag x := rfl

@[simp] theorem State.modSurv_pending (f : Surv → Surv) : (s.modSurv f).pending = s.pending := rfl
@[simp] theorem State.modSurv_regs (f : Surv → Surv) : (s.modSurv f).regs = s.regs := rfl
@[simp] theorem State.modSurv_t (f : Surv → Surv) : (s.modSurv f).t = s.t := rfl
@[simp] theorem State.modSurv_ch (f : Surv → Surv) : (s.modSurv f).ch = s.ch := rfl
@[simp] theorem State.modSurv_host (f : Surv → Surv) : (s.modSurv f).host = s.host := rfl
@[simp] theorem State.modSurv_log (f : Surv → Surv) : (s.modSurv f).log = s.log := rfl
@[simp] theorem State.modSurv_ride (f : Surv → Surv) : (s.modSurv f).ride = s.ride := rfl
@[simp] theorem State.modSurv_meter (f : Surv → Surv) : (s.modSurv f).meter = s.meter := rfl
@[simp] theorem State.modSurv_epul (f : Surv → Surv) : (s.modSurv f).epul = s.epul := rfl
@[simp] theorem State.modSurv_er (f : Surv → Surv) : (s.modSurv f).er = s.er := rfl
@[simp] theorem State.modSurv_safe (f : Surv → Surv) : (s.modSurv f).safe = s.safe := rfl
@[simp] theorem State.modSurv_ka (f : Surv → Surv) : (s.modSurv f).ka = s.ka := rfl
@[simp] theorem State.modSurv_nv (f : Surv → Surv) : (s.modSurv f).nv = s.nv := rfl
@[simp] theorem State.modSurv_boot (f : Surv → Surv) : (s.modSurv f).boot = s.boot := rfl
@[simp] theorem State.modSurv_timers (f : Surv → Surv) : (s.modSurv f).timers = s.timers := rfl
@[simp] theorem State.modSurv_freeCtr (f : Surv → Surv) : (s.modSurv f).freeCtr = s.freeCtr := rfl
@[simp] theorem State.modSurv_rd (f : Surv → Surv) (x : Nat) : (s.modSurv f).rd x = s.rd x := rfl
@[simp] theorem State.modSurv_get (f : Surv → Surv) (x : Fld) : (s.modSurv f).get x = s.get x := rfl
@[simp] theorem State.modSurv_flag (f : Surv → Surv) (x : Fld) : (s.modSurv f).flag x = s.flag x := rfl

@[simp] theorem State.setOut_pending (l : List Word) : (s.setOut l).pending = s.pending := rfl
@[simp] theorem State.setOut_regs (l : List Word) : (s.setOut l).regs = s.regs := rfl
@[simp] theorem State.setOut_t (l : List Word) : (s.setOut l).t = s.t := rfl
@[simp] theorem State.setOut_ch (l : List Word) : (s.setOut l).ch = s.ch := rfl
@[simp] theorem State.setOut_log (l : List Word) : (s.setOut l).log = s.log := rfl
@[simp] theorem State.setOut_ride (l : List Word) : (s.setOut l).ride = s.ride := rfl
@[simp] theorem State.setOut_surv (l : List Word) : (s.setOut l).surv = s.surv := rfl
@[simp] theorem State.setOut_meter (l : List Word) : (s.setOut l).meter = s.meter := rfl
@[simp] theorem State.setOut_epul (l : List Word) : (s.setOut l).epul = s.epul := rfl
@[simp] theorem State.setOut_er (l : List Word) : (s.setOut l).er = s.er := rfl
@[simp] theorem State.setOut_safe (l : List Word) : (s.setOut l).safe = s.safe := rfl
@[simp] theorem State.setOut_ka (l : List Word) : (s.setOut l).ka = s.ka := rfl
@[simp] theorem State.setOut_nv (l : List Word) : (s.setOut l).nv = s.nv := rfl
@[simp] theorem State.setOut_boot (l : List Word) : (s.setOut l).boot = s.boot := rfl
@[simp] theorem State.setOut_timers (l : List Word) : (s.setOut l).timers = s.timers := rfl
@[simp] theorem State.setOut_freeCtr (l : List Word) : (s.setOut l).freeCtr = s.freeCtr := rfl
@[simp] theorem State.setOut_rd (l : List Word) (x : Nat) : (s.setOut l).rd x = s.rd x := rfl
@[simp] theorem State.setOut_get (l : List Word) (x : Fld) : (s.setOut l).get x = s.get x := rfl
@[simp] theorem State.setOut_flag (l : List Word) (x : Fld) : (s.setOut l).flag x = s.flag x := rfl

@[simp] theorem State.modT_same (f : TickSt → TickSt) : (s.modT f).t = f s.t := rfl
@[simp] theorem State.modHost_same (f : HostSt → HostSt) : (s.modHost f).host = f s.host := rfl
@[simp] theorem State.modLog_same (f : LogSt → LogSt) : (s.modLog f).log = f s.log := rfl
@[simp] theorem State.modNv_same (f : NvSt → NvSt) : (s.modNv f).nv = f s.nv := rfl
@[simp] theorem State.modBoot_same (f : BootSt → BootSt) : (s.modBoot f).boot = f s.boot := rfl
@[simp] theorem State.modKa_same (f : KaSt → KaSt) : (s.modKa f).ka = f s.ka := rfl
@[simp] theorem State.modSafe_same (f : SafeSt → SafeSt) : (s.modSafe f).safe = f s.safe := rfl
@[simp] theorem State.modEr_same (f : ErSt → ErSt) : (s.modEr f).er = f s.er := rfl
@[simp] theorem State.modRide_same (f : Ride → Ride) : (s.modRide f).ride = f s.ride := rfl
@[simp] theorem State.modSurv_same (f : Surv → Surv) : (s.modSurv f).surv = f s.surv := rfl

end Sys2Proof.Machine
end

