-- ==== Sys2Proof/Laws/Events.lean ====
section
/-! SUPPORT. Laws of events: what an occurrence, a notification, a packet and a status bit change, and what they leave. -/

namespace Sys2Proof.Machine

/-! ### Sources -/

theorem bitsBelow_le {m : Nat} (h : m < 2 ^ 24) (b : Nat) : bitsBelow m b ≤ 24 := by
  have key : ∀ b, bitsBelow m b ≤ min b 24 := by
    intro b
    induction b with
    | zero => simp [bitsBelow]
    | succ n ih =>
      unfold bitsBelow at ih ⊢
      rw [List.range_succ, List.filter_append, List.length_append]
      by_cases hn : n < 24
      · have : (List.filter m.testBit [n]).length ≤ 1 := by
          refine le_trans (List.length_filter_le _ _) (by simp)
        omega
      · have hz : m.testBit n = false :=
          Nat.testBit_lt_two_pow (Nat.lt_of_lt_of_le h (Nat.pow_le_pow_right (by omega) (by omega)))
        simp [hz]
        omega
  exact le_trans (key b) (by omega)

theorem lookupSrc_lt {l : List (Nat × Nat × Nat)} {top : Nat} (hl : l.all (fun r => decide (r.2.1 < 2 ^ 24) && decide (r.2.2 + 24 < top)) = true)
    {a b base n : Nat} (h : lookupSrc l a b base = some n) : n < base + top := by
  unfold lookupSrc at h
  cases hf : l.find? (fun r => r.1 == a) with
  | none => simp [hf] at h
  | some r =>
    simp only [hf, Option.map_some, Option.some.injEq] at h
    have hr := List.all_eq_true.mp hl r (List.mem_of_find?_eq_some hf)
    simp only [Bool.and_eq_true, decide_eq_true_eq] at hr
    have := bitsBelow_le hr.1 b
    omega

theorem srcOf_lt {a b n : Nat} (ha : a < 0x180000) (h : srcOf a b = some n) : n < 1536 := by
  unfold srcOf at h
  split at h
  · have := lookupSrc_lt (top := 146) (by decide) h
    omega
  · split at h
    · have := lookupSrc_lt (top := 1319) (by decide) h
      omega
    · have := lookupSrc_lt (top := 152) (by decide) h
      omega

/-- A channel's words keep no account of events. -/
theorem bookAddr_chan {a : Nat} (h : 0x40000 ≤ a) : bookAddr a = false := by
  simp only [bookAddr, A.HEALTH_LOG_COAL, A.HEALTH_LOG_WR, A.HOST_SPI_STAT, Bool.or_eq_false_iff, Bool.and_eq_false_iff,
    decide_eq_false_iff_not, beq_eq_false_iff_ne]
  omega

theorem ne_of_bookAddr {a b : Nat} (ha : bookAddr a = false) (hb : bookAddr b = true) : a ≠ b := by
  intro h; subst h; simp [ha] at hb

theorem bookAddr_iff (a : Nat) : bookAddr a = true ↔
    (0x30800 ≤ a ∧ a < 0x32000) ∨ a = 0x3002C ∨ a = 0x30020 ∨ (0x10300 ≤ a ∧ a < 0x10340) ∨ a = 0x10004 := by
  simp [bookAddr, A.HEALTH_LOG_COAL, A.HEALTH_LOG_WR, A.HOST_SPI_STAT, or_assoc]

theorem bookAddr_evcnt {src : Nat} (h : src < 1536) : bookAddr (A.HEALTH_EVCNT src) = true := by
  rw [bookAddr_iff, A.HEALTH_EVCNT]; omega
theorem bookAddr_db {i : Nat} (h : i < 16) : bookAddr (A.HOST_DB i) = true := by
  rw [bookAddr_iff, A.HOST_DB]; omega
theorem bookAddr_coal : bookAddr A.HEALTH_LOG_COAL = true := by decide
theorem bookAddr_logwr : bookAddr A.HEALTH_LOG_WR = true := by decide
theorem bookAddr_spi : bookAddr A.HOST_SPI_STAT = true := by decide

/-! ### What stays -/

/-- Everything but the register file, the log and the host side stays, and of these what keeps no account of events. -/
structure Kept (x y : State) : Prop where
  pending : y.pending = x.pending
  t : y.t = x.t
  ch : y.ch = x.ch
  host : quiet y.host = quiet x.host
  ride : y.ride = x.ride
  surv : y.surv = x.surv
  meter : y.meter = x.meter
  epul : y.epul = x.epul
  er : y.er = x.er
  safe : y.safe = x.safe
  ka : y.ka = x.ka
  nv : y.nv = x.nv
  boot : y.boot = x.boot
  timers : y.timers = x.timers
  freeCtr : y.freeCtr = x.freeCtr
  rd : ∀ a, bookAddr a = false → y.rd a = x.rd a

theorem Kept.refl (s : State) : Kept s s := by constructor <;> first | rfl | (intros; rfl)

theorem Kept.trans {s t u : State} (h : Kept s t) (k : Kept t u) : Kept s u where
  pending := k.pending.trans h.pending
  t := k.t.trans h.t
  ch := k.ch.trans h.ch
  host := k.host.trans h.host
  ride := k.ride.trans h.ride
  surv := k.surv.trans h.surv
  meter := k.meter.trans h.meter
  epul := k.epul.trans h.epul
  er := k.er.trans h.er
  safe := k.safe.trans h.safe
  ka := k.ka.trans h.ka
  nv := k.nv.trans h.nv
  boot := k.boot.trans h.boot
  timers := k.timers.trans h.timers
  freeCtr := k.freeCtr.trans h.freeCtr
  rd := fun a ha => (k.rd a ha).trans (h.rd a ha)

theorem kept_wr (s : State) {a : Nat} (h : bookAddr a = true) (v : Word) : Kept s (s.wr a v) := by
  constructor <;> first | rfl | (intro b hb; exact State.rd_wr_ne s (ne_of_bookAddr hb h) v)

theorem kept_put (s : State) {f : Fld} (h : bookAddr f.addr = true) (v : Nat) : Kept s (s.put f v) := kept_wr s h _
theorem kept_inc (s : State) {f : Fld} (h : bookAddr f.addr = true) (n : Nat) : Kept s (s.inc f n) := kept_wr s h _

theorem kept_modLog (s : State) (f : LogSt → LogSt) : Kept s (s.modLog f) := by
  constructor <;> first | rfl | (intros; rfl)

theorem kept_modHost (s : State) (f : HostSt → HostSt) (h : ∀ x, quiet (f x) = quiet x) : Kept s (s.modHost f) := by
  constructor <;> first | rfl | exact h _ | (intros; rfl)

theorem kept_each {f : Nat → State → State} :
    ∀ (l : List Nat) (s : State), (∀ i ∈ l, ∀ s, Kept s (f i s)) → Kept s (s.each l f)
  | [], s, _ => Kept.refl s
  | i :: l, s, h => (h i (by simp) s).trans (kept_each l (f i s) fun j hj => h j (List.mem_cons_of_mem i hj))

theorem kept_when (s : State) (b : Bool) {f : State → State} (h : ∀ s, Kept s (f s)) : Kept s (s.when b f) := by
  cases b
  · exact Kept.refl s
  · exact h s

theorem kept_send (s : State) (p : OutPkt) : Kept s (s.send p) := by
  unfold State.send
  dsimp only
  repeat' split
  all_goals first
    | exact kept_modHost s _ fun _ => rfl
    | (refine Kept.trans ?_ (kept_put _ (f := F.HOST_SPI_STAT_PKT_PEND) bookAddr_spi 1); exact kept_modHost s _ fun _ => rfl)

theorem kept_occur (src : Nat) (h : src < 1536) (st : Word) (det : List Word) (s : State) : Kept s (s.occur src st det) := by
  unfold State.occur
  have h1 : Kept s (s.inc (F.HEALTH_EVCNT_V src)) := kept_inc s (f := F.HEALTH_EVCNT_V src) (bookAddr_evcnt h) 1
  dsimp only
  split
  · exact (h1.trans (kept_modLog _ _)).trans (kept_inc _ bookAddr_coal _)
  · split
    · exact ((h1.trans (kept_modLog _ _)).trans (kept_inc _ bookAddr_coal _)).trans (kept_put _ bookAddr_logwr _)
    · exact h1.trans (kept_modLog _ _)

theorem kept_notify {i : Nat} (h : i < 16) (src : Nat) (st : Word) (s : State) : Kept s (s.notify i src st) := by
  unfold State.notify
  have hd : bookAddr (A.HOST_DB i) = true := bookAddr_db h
  split
  · exact Kept.refl s
  · dsimp only
    have h1 : Kept s (((s.modSes i fun x => { x with ncount := ((s.sesOf i).ncount + 1) % 65536 }).put (F.HOST_DB_PEND i) 1).inc (F.HOST_DB_SEQ i)) := by
      refine Kept.trans (Kept.trans ?_ (kept_put _ (f := F.HOST_DB_PEND i) hd 1)) (kept_inc _ (f := F.HOST_DB_SEQ i) hd 1)
      exact kept_modHost s _ fun _ => rfl
    split
    · exact h1.trans (kept_send _ _)
    · exact h1

theorem kept_notifyEvent (a b src : Nat) (st : Word) (s : State) : Kept s (s.notifyEvent a b src st) := by
  unfold State.notifyEvent
  refine kept_each _ _ fun i hi s => kept_when s _ fun s => kept_notify ?_ src st s
  simpa [ix16s] using hi

theorem kept_bare (s : State) {src : Nat} (h : src < 1536) (det : List Word) : Kept s (s.bare src det) := kept_occur src h _ _ s

/-! ### Recording an event -/

/-- What recording an event does: the status word, and the account of the event. -/
theorem kept_raiseAt (s : State) {a : Nat} (b : Nat) (ha : a < 0x180000) (det : List Word) :
    Kept (s.wr a (raised (s.rd a) b)) (s.raiseAt a b det) := by
  unfold State.raiseAt
  dsimp only
  split
  · rename_i src h
    exact (kept_occur src (srcOf_lt ha h) _ _ _).trans (kept_notifyEvent _ _ _ _ _)
  · exact Kept.refl _

theorem rd_raiseAt_ne (s : State) {a x : Nat} (b : Nat) (ha : a < 0x180000) (hx : x ≠ a) (hb : bookAddr x = false)
    (det : List Word) : (s.raiseAt a b det).rd x = s.rd x :=
  ((kept_raiseAt s b ha det).rd x hb).trans (State.rd_wr_ne s hx _)

theorem rd_raiseAt_same (s : State) {a : Nat} (b : Nat) (ha : a < 0x180000) (hb : bookAddr a = false) (det : List Word) :
    (s.raiseAt a b det).rd a = raised (s.rd a) b &&& implMask a :=
  ((kept_raiseAt s b ha det).rd a hb).trans (State.rd_wr_same s a _)

end Sys2Proof.Machine
end

