-- ==== Sys2Proof/Laws/Frame.lean ====
section
/-! SUPPORT. Laws of frames: each named update stays within its words and parts; frames compose along a meaning. -/

namespace Sys2Proof.Machine

variable {ev : Bool} {ps : List Part} {W : Nat → Prop} {s u v : State}

theorem Frame.refl (ev : Bool) (ps : List Part) (W : Nat → Prop) (s : State) : Frame ev ps W s s where
  words := fun _ _ _ => rfl
  parts := fun p _ => by cases p <;> simp [Part.same]
  log := fun _ => rfl

theorem Part.same_trans {p : Part} (h : p.same ev s u) (k : p.same ev u v) : p.same ev s v := by
  cases p <;> simp only [Part.same] at h k ⊢ <;> first
    | exact k.trans h
    | (cases ev <;> simp only [Bool.false_eq_true, if_true, if_false] at h k ⊢ <;> exact k.trans h)

theorem Frame.trans (h : Frame ev ps W s u) (k : Frame ev ps W u v) : Frame ev ps W s v where
  words := fun a ha hb => (k.words a ha hb).trans (h.words a ha hb)
  parts := fun p hp => Part.same_trans (h.parts p hp) (k.parts p hp)
  log := fun he => (k.log he).trans (h.log he)

/-- A frame may be widened. -/
theorem Frame.mono {ps' : List Part} {W' : Nat → Prop} (h : Frame ev ps W s u) (hp : ∀ p ∈ ps, p ∈ ps') (hW : ∀ a, W a → W' a) :
    Frame ev ps' W' s u where
  words := fun a ha hb => h.words a (fun hw => ha (hW a hw)) hb
  parts := fun p hn => h.parts p fun hm => hn (hp p hm)
  log := h.log

/-- A frame without an account of events is one with it. -/
theorem Frame.events (h : Frame false ps W s u) (ev : Bool) : Frame ev ps W s u where
  words := fun a ha _ => h.words a ha (by simp)
  parts := fun p hp => by
    have := h.parts p hp
    cases p <;> simp only [Part.same] at this ⊢ <;> first
      | exact this
      | (cases ev <;> simp_all)
  log := fun _ => h.log rfl

theorem Frame.settle (h : Frame ev ps W s u) : Frame ev ps W s (settle s u) where
  words := fun a ha hb => by rw [settle_rd]; exact h.words a ha hb
  parts := fun p hp => by
    have := h.parts p hp
    cases p <;> exact this
  log := h.log

/-! ### Register writes -/

theorem Frame.wr (h : Frame ev ps W s u) {a : Nat} (hw : W a) (x : Word) : Frame ev ps W s (u.wr a x) where
  words := fun b hb hk => by
    have : b ≠ a := fun he => hb (he ▸ hw)
    rw [State.rd_wr_ne u this]; exact h.words b hb hk
  parts := h.parts
  log := h.log
theorem Frame.put (h : Frame ev ps W s u) {f : Fld} (hw : W f.addr) (x : Nat) : Frame ev ps W s (u.put f x) := h.wr hw _
theorem Frame.putb (h : Frame ev ps W s u) {f : Fld} (hw : W f.addr) (b : Bool) : Frame ev ps W s (u.putb f b) := h.wr hw _
theorem Frame.putBit (h : Frame ev ps W s u) {f : Fld} (hw : W f.addr) (i : Nat) (b : Bool) :
    Frame ev ps W s (u.putBit f i b) := h.wr hw _
theorem Frame.inc (h : Frame ev ps W s u) {f : Fld} (hw : W f.addr) (n : Nat) : Frame ev ps W s (u.inc f n) := h.wr hw _
theorem Frame.incSat (h : Frame ev ps W s u) {f : Fld} (hw : W f.addr) : Frame ev ps W s (u.incSat f) := h.wr hw _
theorem Frame.mark (h : Frame ev ps W s u) {f : Fld} (hw : W f.addr) : Frame ev ps W s (u.mark f) := h.wr hw _
theorem Frame.put64 (h : Frame ev ps W s u) {a : Nat} (hw : W a) (hw' : W (a + 4)) (n : Nat) :
    Frame ev ps W s (u.put64 a n) := (h.wr hw _).wr hw' _
theorem Frame.setCx (h : Frame ev ps W s u) {c k w : Nat} (hw : W (ctxAddr c k w)) (x : Word) :
    Frame ev ps W s (u.setCx c k w x) := h.wr hw _

/-! ### Updates of one part -/

theorem Frame.of_same (h : Frame ev ps W s u) {p : Part} (hp : p ∈ ps) (hr : v.regs = u.regs) (hl : v.log = u.log)
    (hs : ∀ q, q ≠ p → q.same ev u v) : Frame ev ps W s v where
  words := fun a ha hk => (State.rd_congr hr a).trans (h.words a ha hk)
  parts := fun q hq => Part.same_trans (h.parts q hq) (hs q fun he => hq (he ▸ hp))
  log := fun he => hl.trans (h.log he)

theorem State.chn_modCh_ne (s : State) {c d : Nat} (h : d ≠ c) (f : Ch → Ch) : (s.modCh c f).chn d = s.chn d := by
  simp only [State.chn, State.modCh, Vector.getElem?_setIfInBounds, if_neg (Ne.symm h)]

theorem State.chn_modCh_same (s : State) {c : Nat} (h : c < 8) (f : Ch → Ch) : (s.modCh c f).chn c = f (s.chn c) := by
  simp [State.chn, State.modCh, h]

theorem Part.same_refl (p : Part) (s : State) : p.same ev s s := by cases p <;> simp [Part.same]

theorem Frame.modCh (h : Frame ev ps W s u) {c : Nat} (hp : .chan c ∈ ps) (f : Ch → Ch) : Frame ev ps W s (u.modCh c f) :=
  h.of_same hp rfl rfl fun q hq => by
    cases q with
    | chan d => exact State.chn_modCh_ne u (fun he => hq (congrArg Part.chan he)) f
    | host => simp [Part.same]
    | _ => rfl
theorem Frame.modHb (h : Frame ev ps W s u) {c : Nat} (hp : .chan c ∈ ps) (k : Nat) (f : HbSt → HbSt) :
    Frame ev ps W s (u.modHb c k f) := h.modCh hp _
theorem Frame.modGate (h : Frame ev ps W s u) {c : Nat} (hp : .chan c ∈ ps) (k : Nat) (f : GateSt → GateSt) :
    Frame ev ps W s (u.modGate c k f) := h.modCh hp _
theorem Frame.modMd (h : Frame ev ps W s u) {c : Nat} (hp : .chan c ∈ ps) (k : Nat) (f : MdSt → MdSt) :
    Frame ev ps W s (u.modMd c k f) := h.modCh hp _
theorem Frame.modGrid (h : Frame ev ps W s u) {c : Nat} (hp : .chan c ∈ ps) (f : GridSt → GridSt) :
    Frame ev ps W s (u.modGrid c f) := h.modCh hp _
theorem Frame.modDc (h : Frame ev ps W s u) {c : Nat} (hp : .chan c ∈ ps) (f : DcSt → DcSt) :
    Frame ev ps W s (u.modDc c f) := h.modCh hp _
theorem Frame.modMach (h : Frame ev ps W s u) {c : Nat} (hp : .chan c ∈ ps) (f : MachSt → MachSt) :
    Frame ev ps W s (u.modMach c f) := h.modCh hp _

theorem Frame.modT (h : Frame ev ps W s u) (hp : .t ∈ ps) (f : TickSt → TickSt) : Frame ev ps W s (u.modT f) :=
  h.of_same hp rfl rfl fun q hq => by cases q <;> first | rfl | (simp [Part.same]; done) | exact absurd rfl hq
theorem Frame.modHost (h : Frame ev ps W s u) (hp : .host ∈ ps) (f : HostSt → HostSt) : Frame ev ps W s (u.modHost f) :=
  h.of_same hp rfl rfl fun q hq => by cases q <;> first | rfl | exact absurd rfl hq
theorem Frame.modSes (h : Frame ev ps W s u) (hp : .host ∈ ps) (i : Nat) (f : Ses → Ses) : Frame ev ps W s (u.modSes i f) :=
  h.modHost hp _
theorem Frame.setOut (h : Frame ev ps W s u) (hp : .host ∈ ps) (l : List Word) : Frame ev ps W s (u.setOut l) :=
  h.modHost hp _
theorem Frame.modWork (h : Frame ev ps W s u) (hp : .host ∈ ps) (f : List Work → List Work) : Frame ev ps W s (u.modWork f) :=
  h.modHost hp _
theorem Frame.modRide (h : Frame ev ps W s u) (hp : .ride ∈ ps) (f : Ride → Ride) : Frame ev ps W s (u.modRide f) :=
  h.of_same hp rfl rfl fun q hq => by cases q <;> first | rfl | (simp [Part.same]; done) | exact absurd rfl hq
theorem Frame.modSurv (h : Frame ev ps W s u) (hp : .surv ∈ ps) (f : Surv → Surv) : Frame ev ps W s (u.modSurv f) :=
  h.of_same hp rfl rfl fun q hq => by cases q <;> first | rfl | (simp [Part.same]; done) | exact absurd rfl hq
theorem Frame.modSeq (h : Frame ev ps W s u) (hp : .surv ∈ ps) (b : Bool) (f : SeqSt → SeqSt) :
    Frame ev ps W s (u.modSeq b f) :=
  h.of_same hp rfl rfl fun q hq => by cases q <;> first | rfl | (simp [Part.same, State.modSeq]; done) | exact absurd rfl hq
theorem Frame.modEr (h : Frame ev ps W s u) (hp : .er ∈ ps) (f : ErSt → ErSt) : Frame ev ps W s (u.modEr f) :=
  h.of_same hp rfl rfl fun q hq => by cases q <;> first | rfl | (simp [Part.same]; done) | exact absurd rfl hq
theorem Frame.modSafe (h : Frame ev ps W s u) (hp : .safe ∈ ps) (f : SafeSt → SafeSt) : Frame ev ps W s (u.modSafe f) :=
  h.of_same hp rfl rfl fun q hq => by cases q <;> first | rfl | (simp [Part.same]; done) | exact absurd rfl hq
theorem Frame.modKa (h : Frame ev ps W s u) (hp : .ka ∈ ps) (f : KaSt → KaSt) : Frame ev ps W s (u.modKa f) :=
  h.of_same hp rfl rfl fun q hq => by cases q <;> first | rfl | (simp [Part.same]; done) | exact absurd rfl hq
theorem Frame.modNv (h : Frame ev ps W s u) (hp : .nv ∈ ps) (f : NvSt → NvSt) : Frame ev ps W s (u.modNv f) :=
  h.of_same hp rfl rfl fun q hq => by cases q <;> first | rfl | (simp [Part.same]; done) | exact absurd rfl hq
theorem Frame.modBoot (h : Frame ev ps W s u) (hp : .boot ∈ ps) (f : BootSt → BootSt) : Frame ev ps W s (u.modBoot f) :=
  h.of_same hp rfl rfl fun q hq => by cases q <;> first | rfl | (simp [Part.same]; done) | exact absurd rfl hq

theorem Frame.modMeter (h : Frame ev ps W s u) {p : Nat} (hp : .meter p ∈ ps) (f : MeterSt → MeterSt) :
    Frame ev ps W s (u.modMeter p f) :=
  h.of_same hp rfl rfl fun q hq => by
    cases q with
    | meter d =>
      have hd : d ≠ p := fun he => hq (congrArg Part.meter he)
      simp only [Part.same, State.mtr, State.modMeter, Vector.getElem?_setIfInBounds, if_neg (Ne.symm hd)]
    | host => simp [Part.same]
    | _ => rfl
theorem Frame.modEpul (h : Frame ev ps W s u) {j : Nat} (hp : .epul j ∈ ps) (f : Epul → Epul) :
    Frame ev ps W s (u.modEpul j f) :=
  h.of_same hp rfl rfl fun q hq => by
    cases q with
    | epul d =>
      have hd : d ≠ j := fun he => hq (congrArg Part.epul he)
      simp only [Part.same, State.epl, State.modEpul, Vector.getElem?_setIfInBounds, if_neg (Ne.symm hd)]
    | host => simp [Part.same]
    | _ => rfl

/-! ### Choices and folds -/

theorem Frame.when (h : Frame ev ps W s u) (b : Bool) {f : State → State} (hf : ∀ x, Frame ev ps W x (f x)) :
    Frame ev ps W s (u.when b f) := by
  cases b
  · exact h
  · exact h.trans (hf u)

theorem Frame.each {f : Nat → State → State} (l : List Nat) (hf : ∀ i ∈ l, ∀ x, Frame ev ps W x (f i x))
    (h : Frame ev ps W s u) : Frame ev ps W s (u.each l f) := by
  induction l generalizing u with
  | nil => exact h
  | cons i t ih =>
    exact ih (fun j hj => hf j (List.mem_cons_of_mem i hj)) (h.trans (hf i (by simp) u))

/-! ### Events -/

theorem Frame.of_kept (h : Frame true ps W s u) (k : Kept u v) : Frame true ps W s v where
  words := fun a ha hb => (k.rd a (hb rfl)).trans (h.words a ha hb)
  parts := fun p hp => Part.same_trans (h.parts p hp) (by
    cases p <;> simp only [Part.same, State.chn, State.mtr, State.epl, if_true]
    · exact k.t
    · rw [k.ch]
    · exact k.host
    · exact k.ride
    · exact k.surv
    · rw [k.meter]
    · rw [k.epul]
    · exact k.er
    · exact k.safe
    · exact k.ka
    · exact k.nv
    · exact k.boot
    · exact k.timers
    · exact k.freeCtr)
  log := by simp

theorem Frame.raiseAt (h : Frame true ps W s u) {a : Nat} (hw : W a) (ha : a < 0x180000) (b : Nat) (det : List Word) :
    Frame true ps W s (u.raiseAt a b det) := (h.wr hw _).of_kept (kept_raiseAt u b ha det)
theorem Frame.raise (h : Frame true ps W s u) {f : Fld} (hw : W f.addr) (ha : f.addr < 0x180000) (det : List Word) :
    Frame true ps W s (u.raise f det) := h.raiseAt hw ha _ det
theorem Frame.bare (h : Frame true ps W s u) {src : Nat} (hs : src < 1536) (det : List Word) :
    Frame true ps W s (u.bare src det) := h.of_kept (kept_bare u hs det)
theorem Frame.notify (h : Frame true ps W s u) {i : Nat} (hi : i < 16) (src : Nat) (st : Word) :
    Frame true ps W s (u.notify i src st) := h.of_kept (kept_notify hi src st u)
theorem Frame.send (h : Frame true ps W s u) (p : OutPkt) : Frame true ps W s (u.send p) := h.of_kept (kept_send u p)

end Sys2Proof.Machine
end

