-- ==== Sys2Proof/Laws/Channel.lean ====
section
/-! SUPPORT. What the shared operations of a channel stay within: forming HI and LO, forcing off, the move into OFF, and the
trip latch. -/

namespace Sys2Proof.Machine

variable {ev : Bool} {ps : List Part} {W : Nat → Prop} {s u : State} {c : Nat}

theorem chBase_lt (hc : c < 8) {o : Nat} (ho : o < 0x10000) : chBase c + o < 0x180000 := by
  unfold chBase; omega

theorem Frame.gateUpdate (h : Frame ev ps W s u) (hp : .chan c ∈ ps) (k : Nat) : Frame ev ps W s (u.gateUpdate c k) := by
  unfold State.gateUpdate
  split
  exact h.modGate hp _ _

theorem Frame.pwmEvent (h : Frame ev ps W s u) (hp : .chan c ∈ ps) (e k t : Nat) : Frame ev ps W s (u.pwmEvent c e k t) := by
  unfold State.pwmEvent
  exact h.modCh hp _

theorem Frame.capture (hc : c < 8) (h : Frame true ps W s u)
    (hw : ∀ j, j < 2 → W (A.GDI_CAP c j)) (he : W (A.GDI_EVT c)) (k : Nat) (l2 fall : Bool) (off : Nat) :
    Frame true ps W s (u.capture c k l2 fall off) := by
  refine Frame.each _ (fun j hj x => Frame.when (Frame.refl ..) _ fun y => ?_) h
  have hj2 : j < 2 := by rcases List.mem_cons.mp hj with h | h <;> simp_all
  refine Frame.raise ?_ he (chBase_lt hc (by decide)) _
  exact ((Frame.refl ..).put (hw j hj2) _).inc (hw j hj2) _

theorem Frame.applyForce (h : Frame ev ps W s u) (hp : .chan c ∈ ps) (hw : W (A.PWM_FSTAT c)) :
    Frame ev ps W s (u.applyForce c) := by
  refine Frame.each _ (fun k _ x => (Frame.refl ..).gateUpdate hp k) (Frame.each _ (fun k _ x => ?_) (((h.put hw _).put hw _).putb hw _))
  dsimp only
  split
  · exact (Frame.refl ..).modHb hp _ _
  · split
    · exact ((Frame.refl ..).modHb hp _ _).modGate hp _ _
    · exact Frame.refl ..

theorem Frame.refuse (hc : c < 8) (h : Frame true ps W s u) (k : Nat)
    (h1 : W (A.GRID_STAT c)) (h2 : W (A.GRID_EVT c)) (h3 : W (A.DC_STAT c)) (h4 : W (A.DC_EVT c)) (h5 : W (A.MACH_STAT c))
    (h6 : W (A.MACH_EVT c)) : Frame true ps W s (u.refuse c k) := by
  unfold State.refuse
  dsimp only
  split
  · exact (h.put (f := F.GRID_STAT_REFUSE c) h1 _).raise h2 (chBase_lt hc (by decide)) _
  · split
    · exact (h.put (f := F.DC_STAT_REFUSE c) h3 _).raise h4 (chBase_lt hc (by decide)) _
    · split
      · exact (h.put (f := F.MACH_STAT_REFUSE c) h5 _).raise h6 (chBase_lt hc (by decide)) _
      · exact h

theorem Frame.setKm (h : Frame ev ps W s u) (hp : .chan c ∈ ps) (h1 : W (A.GRID_STAT c)) (h3 : W (A.DC_STAT c)) (b : Bool) :
    Frame ev ps W s (u.setKm c b) := by
  refine Frame.gateUpdate ?_ hp 6
  split
  · exact h.putb (f := F.GRID_STAT_KM_CMD c) h1 _
  · split
    · exact h.putb (f := F.DC_STAT_KM_CMD c) h3 _
    · exact h

theorem Frame.toOff (hc : c < 8) (h : Frame true ps W s u) (hp : .chan c ∈ ps) (hw : ∀ a ∈ offWords c, W a) (k : Nat) :
    Frame true ps W s (u.toOff c k) := by
  have w1 : W (A.PWM_FSTAT c) := hw _ (by simp [offWords])
  have w2 : W (A.ROLE_STAT c) := hw _ (by simp [offWords])
  have w3 : W (A.GRID_STAT c) := hw _ (by simp [offWords])
  have w4 : W (A.GRID_EVT c) := hw _ (by simp [offWords])
  have w5 : W (A.DC_STAT c) := hw _ (by simp [offWords])
  have w6 : W (A.DC_EVT c) := hw _ (by simp [offWords])
  have w7 : W (A.MACH_STAT c) := hw _ (by simp [offWords])
  have w8 : W (A.MACH_EVT c) := hw _ (by simp [offWords])
  have w9 : W (A.RIDE_CH_STAT c) := hw _ (by simp [offWords])
  unfold State.toOff
  refine Frame.applyForce (Frame.refuse hc ?_ k w3 w4 w5 w6 w7 w8) hp w1
  refine Frame.putb (Frame.putb ?_ w5 _) w7 _
  refine Frame.putb (Frame.putb (Frame.putb ?_ w9 _) w9 _) w9 _
  refine Frame.put (Frame.putb (Frame.putb ?_ w3 _) w3 _) w3 _
  exact Frame.modCh (Frame.setKm (Frame.put h w2 _) hp w3 w5 _) hp _

theorem Frame.exitToOff (hc : c < 8) (h : Frame true ps W s u) (hp : .chan c ∈ ps) (hw : ∀ a ∈ offWords c, W a) (k : Nat) :
    Frame true ps W s (u.exitToOff c k) := by
  unfold State.exitToOff
  split
  · exact Frame.toOff hc h hp hw k
  · exact h

/-! ### The trip latch -/

/-- Words of the trip queue and of the sources of channel `c`. -/
def trqWords (c a : Nat) : Prop :=
  a = A.GDI_SRC c ∨ a = A.GDI_TRQ_N c ∨ ∃ k, k < 8 ∧ (a = A.GDI_TRQ_A c k ∨ a = A.GDI_TRQ_B c k)

theorem Frame.trqEntry (h : Frame ev ps W s u) (hw : ∀ a, trqWords c a → W a) (code inp off : Nat) :
    Frame ev ps W s (u.trqEntry c code inp off) := by
  have w1 : W (A.GDI_SRC c) := hw _ (.inl rfl)
  have w2 : W (A.GDI_TRQ_N c) := hw _ (.inr (.inl rfl))
  unfold State.trqEntry
  dsimp only
  split
  · have hk : ∀ n, n < 8 → W (A.GDI_TRQ_A c n) ∧ W (A.GDI_TRQ_B c n) := fun n hn =>
      ⟨hw _ (.inr (.inr ⟨n, hn, .inl rfl⟩)), hw _ (.inr (.inr ⟨n, hn, .inr rfl⟩))⟩
    rename_i hn
    exact (((h.wr w1 _).wr (hk _ hn).1 _).wr (hk _ hn).2 _).put (f := F.GDI_TRQ_N_N c) w2 _
  · exact (h.wr w1 _).incSat (f := F.GDI_TRQ_N_OVF c) w2

theorem tripWords_trq {a : Nat} (h : trqWords c a) : tripWords c a := by
  rcases h with h | h | ⟨k, hk, h⟩
  · exact .inl (by simp [h])
  · exact .inl (by simp [h])
  · exact .inr ⟨k, hk, h⟩

theorem tripWords_off {a : Nat} (h : a ∈ offWords c) : tripWords c a := by
  left
  simp only [offWords, List.mem_cons, List.not_mem_nil, or_false] at h ⊢
  tauto

/-- After the latch is set, a trip touches its words but the latch's own. -/
theorem Frame.trip_latched (hc : c < 8) (hn : s.flag (F.GDI_STAT_TRIPPED c) = false) (hp : .chan c ∈ ps)
    (hw : ∀ a, tripWords c a → a ≠ A.GDI_STAT c → W a) (code inp off : Nat) :
    Frame true ps W (s.putb (F.GDI_STAT_TRIPPED c) true) (s.trip c code inp off) := by
  have ne : ∀ {x : Nat}, x ≠ 0x6008 → chBase c + x ≠ A.GDI_STAT c := fun {x} hx (h : chBase c + x = chBase c + 0x6008) =>
    hx (Nat.add_left_cancel h)
  have wl : ∀ a, a ∈ A.GDI_SRC c :: A.GDI_TRQ_N c :: A.GDI_CNT c :: A.GDI_EVT c :: A.PWM_FORCE c :: offWords c → W a := by
    intro a ha
    simp only [offWords, List.mem_cons, List.not_mem_nil, or_false] at ha
    rcases ha with h | h | h | h | h | h | h | h | h | h | h | h | h | h <;> subst h <;>
      exact hw _ (.inl (by simp)) (ne (by decide))
  have hk : ∀ k, k < 8 → W (A.GDI_TRQ_A c k) ∧ W (A.GDI_TRQ_B c k) := fun k hk =>
    ⟨hw _ (.inr ⟨k, hk, .inl rfl⟩) (by unfold A.GDI_TRQ_A A.GDI_STAT; omega),
     hw _ (.inr ⟨k, hk, .inr rfl⟩) (by unfold A.GDI_TRQ_B A.GDI_STAT; omega)⟩
  have w2 : W (A.GDI_SRC c) := wl _ (by simp)
  have w3 : W (A.GDI_TRQ_N c) := wl _ (by simp)
  have w4 : W (A.GDI_CNT c) := wl _ (by simp)
  have w5 : W (A.GDI_EVT c) := wl _ (by simp)
  have w6 : W (A.PWM_FORCE c) := wl _ (by simp)
  have wo : ∀ a ∈ offWords c, W a := fun a ha => wl a (by simp [ha])
  have wq : ∀ a, trqWords c a → W a := by
    rintro a (h | h | ⟨k, hk8, h | h⟩)
    · exact h ▸ w2
    · exact h ▸ w3
    · exact h ▸ (hk k hk8).1
    · exact h ▸ (hk k hk8).2
  unfold State.trip
  simp only [hn, Bool.false_eq_true, if_false]
  refine Frame.raise (Frame.applyForce (Frame.exitToOff hc ?_ hp wo _) hp (wo _ (by simp [offWords]))) w5 (chBase_lt hc (by decide)) _
  have base : Frame true ps W (s.putb (F.GDI_STAT_TRIPPED c) true)
      (((((((s.putb (F.GDI_STAT_TRIPPED c) true).modCh c fun x => { x with offDrive := true }).wr
      (A.GDI_SRC c) 0#32).wr (A.GDI_TRQ_N c) 0#32).each [0, 1, 2, 3, 4, 5, 6, 7] fun k s =>
        (s.wr (A.GDI_TRQ_A c k) 0#32).wr (A.GDI_TRQ_B c k) 0#32).trqEntry c code inp off).inc (F.GDI_CNT_TRIP_CNT c)) := by
    refine Frame.inc (f := F.GDI_CNT_TRIP_CNT c) (Frame.trqEntry (Frame.each _ (fun k hk' x => ?_) ?_) wq _ _ _) w4 _
    · have hk8 : k < 8 := by simp at hk'; omega
      exact ((Frame.refl ..).wr (hk k hk8).1 _).wr (hk k hk8).2 _
    · exact (((Frame.refl ..).modCh hp _).wr w2 _).wr w3 _
  split
  · exact base.put (f := F.PWM_FORCE_USE c) w6 _
  · exact base

/-- What a trip of channel `c` stays within. -/
theorem Frame.trip (hc : c < 8) (h : Frame true ps W s u) (hp : .chan c ∈ ps) (hw : ∀ a, tripWords c a → W a)
    (code inp off : Nat) : Frame true ps W s (u.trip c code inp off) := by
  cases hn : u.flag (F.GDI_STAT_TRIPPED c)
  · exact (h.putb (f := F.GDI_STAT_TRIPPED c) (hw (A.GDI_STAT c) (by simp [tripWords])) true).trans
      (Frame.trip_latched hc hn hp (fun a ha _ => hw a ha) code inp off)
  · unfold State.trip
    simp only [hn, if_true]
    exact h.trqEntry (fun a ha => hw a (tripWords_trq ha)) _ _ _

theorem chanFld_ok {c : Nat} (hc : c < 8) {o hi lo : Nat}
    (h : ∀ d : Fin 8, (Fld.mk (chBase d.val + o) hi lo).ok = true) : (Fld.mk (chBase c + o) hi lo).ok = true := h ⟨c, hc⟩

/-- A trip leaves the latch set. -/
theorem trip_latches (hc : c < 8) (s : State) (code inp off : Nat) :
    (s.trip c code inp off).flag (F.GDI_STAT_TRIPPED c) = true := by
  cases hn : s.flag (F.GDI_STAT_TRIPPED c)
  · have h := (Frame.trip_latched (W := fun a => tripWords c a ∧ a ≠ A.GDI_STAT c) (ps := [.chan c]) hc hn (by simp)
      (fun a ha hb => ⟨ha, hb⟩) code inp off).words (A.GDI_STAT c) (fun h => h.2 rfl)
      fun _ => bookAddr_chan (by unfold A.GDI_STAT chBase; omega)
    rw [State.flag_congr (State.get_congr (f := F.GDI_STAT_TRIPPED c) h)]
    exact State.flag_putb_same s (chanFld_ok hc (by decide)) (Nat.le_refl 0) true
  · have h : Frame true [.chan c] (trqWords c) s (s.trip c code inp off) := by
      unfold State.trip
      simp only [hn, if_true]
      exact (Frame.refl ..).trqEntry (fun a ha => ha) _ _ _
    have hne : ¬ trqWords c (A.GDI_STAT c) := by
      rintro (h | h | ⟨k, hk, h | h⟩) <;> revert h <;>
        simp only [A.GDI_STAT, A.GDI_SRC, A.GDI_TRQ_N, A.GDI_TRQ_A, A.GDI_TRQ_B] <;> omega
    rw [State.flag_congr (State.get_congr (f := F.GDI_STAT_TRIPPED c) (h.words (A.GDI_STAT c) hne
      fun _ => bookAddr_chan (by unfold A.GDI_STAT chBase; omega)))]
    exact hn

theorem Frame.tripIn (h : Frame ev ps W s u) (hp : .chan c ∈ ps) (h1 : W (A.GDI_IN c)) (h2 : W (A.GDI_STAT c))
    (code : Nat) (act : Bool) (off : Nat) : Frame ev ps W s (u.tripIn c code act off) := by
  unfold State.tripIn
  dsimp only
  split
  · exact ((h.wr h1 _).putb (f := F.GDI_STAT_IN_ACTIVE c) h2 _).modCh hp _
  · exact (h.wr h1 _).putb (f := F.GDI_STAT_IN_ACTIVE c) h2 _

end Sys2Proof.Machine
end

