-- ==== Sys2Proof/Laws/Exec.lean ====
section
/-! SUPPORT. Every command ends in the one completion, and the ways a row acts or does nothing. -/

namespace Sys2Proof.Machine

/-- Every command ends with the register file in canonical form and the queue as it was. -/
theorem exec_complete (i : Instr) (s : State) : ∃ u, exec i s = complete s u := by
  cases i <;> exact ⟨_, rfl⟩

theorem clocked_runs {s : State} (h : s.runs = true) (f : State → State) : State.clocked f s = complete s (f s) := by
  simp only [State.clocked, h, if_true]
theorem clocked_idle {s : State} (h : s.runs = false) (f : State → State) : State.clocked f s = complete s s := by
  simp [State.clocked, h]
theorem live_acts {s : State} (h : s.t.held = false) (f : State → State) : State.live f s = complete s (f s) := by
  simp [State.live, h]
theorem live_idle {s : State} (h : s.t.held = true) (f : State → State) : State.live f s = complete s s := by
  simp [State.live, h]
theorem byHost_acts {s : State} (h : s.hosted = true) (f : State → State) : State.byHost f s = complete s (f s) := by
  simp only [State.byHost, h, if_true]
theorem byHost_idle {s : State} (h : s.hosted = false) (f : State → State) : State.byHost f s = complete s s := by
  simp [State.byHost, h]

theorem runs_held {s : State} (h : s.t.held = true) : s.runs = false := by simp [State.runs, h]
theorem runs_stopped {s : State} (h : s.t.clkStop.isSome = true) : s.runs = false := by
  simp [State.runs, Option.isNone_eq_false_iff, h]

/-- A completion with what holds of the state it settles. -/
theorem completes_of {i : Instr} {s u : State} {P : State → Prop} (h : exec i s = complete s u) (hp : P (settle s u)) :
    completes i s P := ⟨_, h, hp⟩

theorem readRow_shape (i a : Nat) (s : State) : ∃ f, State.readRow i a s = State.clocked f s := ⟨_, rfl⟩
theorem regRow_shape (w : RegWr) (a : Nat) (s : State) : ∃ f, State.regRow w a s = State.byHost f s := ⟨_, rfl⟩
theorem addrRow_shape (w : RegWr) (a : Nat) (s : State) : ∃ f, State.addrRow w a s = State.byHost f s := ⟨_, rfl⟩
theorem bitRow_shape (i : Ix16) (a b : Nat) (s : State) : ∃ f, State.bitRow i a b s = State.byHost f s := ⟨_, rfl⟩
theorem cmdRow_shape (i : Ix16) (c : Nat) (g : State → State × Nat) (s : State) : ∃ f, State.cmdRow i c g s = State.byHost f s := ⟨_, rfl⟩

/-- How a row acts: clocked, live, for a host, or one of the rows of reset and the brumation domain. -/
theorem exec_shape (i : Instr) (s : State) :
    (∃ f, exec i s = State.clocked f s) ∨ (∃ f, exec i s = State.live f s ∧ actsUnclocked i = true) ∨
      (∃ f, exec i s = State.byHost f s) ∨ actsInReset i = true ∨ i = .railBelowReset := by
  cases i with
  | tickBoundary x => exact .inl ⟨State.tickBoundary x, rfl⟩
  | guardPoint late => exact .inl ⟨State.guardPoint late, rfl⟩
  | metrologyEngineFault => exact .inl ⟨State.metFault, rfl⟩
  | tickTableRebuild => exact .inl ⟨State.rebuildRow, rfl⟩
  | frameBoundary err => exact .inl ⟨State.frameRow err, rfl⟩
  | burstBudgetBinRoll => exact .inl ⟨State.binRoll, rfl⟩
  | syncInEdge err => exact .inl ⟨State.syncEdge err, rfl⟩
  | syncHoldover => exact .inl ⟨State.syncHoldover, rfl⟩
  | sysTickWrite w => exact .inr (.inr (.inl (regRow_shape w A.SYS_TICK s)))
  | sysBurstWrite w => exact .inr (.inr (.inl (regRow_shape w A.SYS_BURST s)))
  | sysSyncWrite w => exact .inr (.inr (.inl (regRow_shape w A.SYS_SYNC s)))
  | lockstepMismatch e k => exact .inl ⟨State.lockstep e.val k.val, rfl⟩
  | ctxCfgWrite c k w => exact .inr (.inr (.inl (regRow_shape w (ctxAddr c.val k.val 0) s)))
  | engFreezeWrite c w => exact .inr (.inr (.inl (regRow_shape w (A.ENG_FREEZE c.val) s)))
  | fltMclkWrite c w => exact .inr (.inr (.inl (regRow_shape w (A.FLT_MCLK c.val) s)))
  | fltCfgWrite c w => exact .inr (.inr (.inl (regRow_shape w (A.FLT_CFG c.val) s)))
  | inputStuck c m => exact .inl ⟨State.inputStuck c.val m.val, rfl⟩
  | mclkLoss c => exact .inl ⟨State.mclkLoss c.val, rfl⟩
  | inputValidAgain c m => exact .inl ⟨State.inputValid c.val m.val, rfl⟩
  | filterSettled c m => exact .inl ⟨State.filterSettled c.val m.val, rfl⟩
  | digitalLimitExcursion c m x => exact .inl ⟨State.limitExcursion c.val m.val x, rfl⟩
  | pccOverrange k => exact .inl ⟨State.pccOver k.val, rfl⟩
  | surveySourceEvent inj => exact .inl ⟨State.survSource inj, rfl⟩
  | surveyTriggerInstant inj => exact .inl ⟨State.survInstant inj, rfl⟩
  | surveyConversionEnd code => exact .inl ⟨State.survEnd code.toNat, rfl⟩
  | swReg ses => exact .inr (.inr (.inl (bitRow_shape ses A.SURV_CTRL 11 s)))
  | swInj ses => exact .inr (.inr (.inl (bitRow_shape ses A.SURV_CTRL 12 s)))
  | survCtrlEnWrite w => exact .inr (.inr (.inl (regRow_shape w A.SURV_CTRL s)))
  | survDataRead => exact .inr (.inr (.inl ⟨State.survRow, rfl⟩))
  | survBufRdWrite w => exact .inr (.inr (.inl (regRow_shape w A.SURV_BUF_RD s)))
  | roleSelWrite c w => exact .inr (.inr (.inl (regRow_shape w (A.ROLE_SEL c.val) s)))
  | gridStart c ses => exact .inr (.inr (.inl (cmdRow_shape ses c.val (State.startCmd c.val (fun s => s.role c.val == rGRID)) s)))
  | gridStop c ses => exact .inr (.inr (.inl (cmdRow_shape ses c.val (State.stopCmd c.val (fun s => s.role c.val == rGRID)) s)))
  | gridReconn c ses => exact .inr (.inr (.inl (cmdRow_shape ses c.val (State.reconnCmd c.val) s)))
  | gridSubWrite c w => exact .inr (.inr (.inl (regRow_shape w (A.GRID_CTRL c.val) s)))
  | gridFnomWrite c w => exact .inr (.inr (.inl (regRow_shape w (A.GRID_FNOM c.val) s)))
  | prechargeComplete c => exact .inl ⟨State.prechargeDone c.val, rfl⟩
  | pcTimeout c => exact .inl ⟨State.pcTimeout c.val, rfl⟩
  | syncQualified c => exact .inl ⟨State.syncQualified c.val, rfl⟩
  | syncTimeout c => exact .inl ⟨State.syncTimeout c.val, rfl⟩
  | syncImmediateRefusal c => exact .inl ⟨State.syncRefusal c.val, rfl⟩
  | closureConfirmed c => exact .inl ⟨State.closureConfirmed c.val, rfl⟩
  | kmFail c => exact .inl ⟨State.kmFail c.val, rfl⟩
  | stopRampEnd c => exact .inl ⟨State.stopRampEnd c.val, rfl⟩
  | blackStart c => exact .inl ⟨State.blackStart c.val, rfl⟩
  | blackStartActive c => exact .inl ⟨State.blackStartActive c.val, rfl⟩
  | pllOkChange c ok => exact .inl ⟨State.pllOkChange c.val ok, rfl⟩
  | formClExit c => exact .inl ⟨State.formClExit c.val, rfl⟩
  | rideDetectorArm => exact .inl ⟨State.rideArm, rfl⟩
  | rideEntry => exact .inl ⟨State.rideEntry, rfl⟩
  | rideExit => exact .inl ⟨State.rideExit, rfl⟩
  | protectiveTrip => exact .inl ⟨State.protectiveTrip, rfl⟩
  | gridprotRelease => exact .inl ⟨State.gridprotRelease, rfl⟩
  | sysRideBankWrite w => exact .inr (.inr (.inl (regRow_shape w A.SYS_RIDE_CFG s)))
  | chopperOn c off => exact .inl ⟨State.chopperOn c.val off, rfl⟩
  | chopperOff c off => exact .inl ⟨State.chopperOff c.val off, rfl⟩
  | recCfgRelease ses => exact .inr (.inr (.inl (bitRow_shape ses A.REC_CFG 2 s)))
  | recCfgEnWrite w => exact .inr (.inr (.inl (regRow_shape w A.REC_CFG s)))
  | probeWindowEnd vp ip => exact .inl ⟨State.probeWindow vp ip, rfl⟩
  | passiveDetectorFire d => exact .inl ⟨State.passiveFire d.val, rfl⟩
  | candidateExpiry => exact .inl ⟨State.candExpiry, rfl⟩
  | islandedClear => exact .inl ⟨State.islandedClear, rfl⟩
  | dcStart c ses => exact .inr (.inr (.inl (cmdRow_shape ses c.val (State.startCmd c.val (fun s => s.isDc c.val)) s)))
  | dcStop c ses => exact .inr (.inr (.inl (cmdRow_shape ses c.val (State.stopCmd c.val (fun s => s.isDc c.val)) s)))
  | dcScan c ses => exact .inr (.inr (.inl (cmdRow_shape ses c.val (State.scanCmd c.val) s)))
  | dcCfgLegsWrite c w => exact .inr (.inr (.inl (regRow_shape w (A.DC_CFG c.val) s)))
  | dcPrechargeComplete c => exact .inl ⟨State.dcPrechargeDone c.val, rfl⟩
  | dcPcTimeout c => exact .inl ⟨State.dcPcTimeout c.val, rfl⟩
  | dcQualified c => exact .inl ⟨State.dcQualified c.val, rfl⟩
  | dcSyncTimeout c => exact .inl ⟨State.dcSyncTimeout c.val, rfl⟩
  | dcRatioRefusal c => exact .inl ⟨State.dcRatioRefusal c.val, rfl⟩
  | dcClosureConfirmed c => exact .inl ⟨State.dcClosure c.val, rfl⟩
  | dcKmFail c => exact .inl ⟨State.dcKmFail c.val, rfl⟩
  | dcStopRampEnd c => exact .inl ⟨State.dcStopRampEnd c.val, rfl⟩
  | dcFull c => exact .inl ⟨State.dcFull c.val, rfl⟩
  | dcEmpty c => exact .inl ⟨State.dcEmpty c.val, rfl⟩
  | mpptPeriodEnd c => exact .inl ⟨State.mpptPeriodEnd c.val, rfl⟩
  | scanDue c => exact .inl ⟨State.scanDueNow c.val, rfl⟩
  | scanPointEnd c => exact .inl ⟨State.scanPointEnd c.val, rfl⟩
  | cotCrossing c h off mean => exact .inl ⟨State.cotCrossing c.val h.val off mean, rfl⟩
  | vpTmaxClamp c h off mean => exact .inl ⟨State.vpTmax c.val h.val off mean, rfl⟩
  | vpTminEnd c h off mean => exact .inl ⟨State.vpTmin c.val h.val off mean, rfl⟩
  | machStart c ses => exact .inr (.inr (.inl (cmdRow_shape ses c.val (State.startCmd c.val (fun s => s.role c.val == rMACH)) s)))
  | machStop c ses => exact .inr (.inr (.inl (cmdRow_shape ses c.val (State.stopCmd c.val (fun s => s.role c.val == rMACH)) s)))
  | machPrechargeComplete c => exact .inl ⟨State.machPrechargeDone c.val, rfl⟩
  | machPositionSync c => exact .inl ⟨State.machPosSync c.val, rfl⟩
  | machPositionTimeout c => exact .inl ⟨State.machPosTimeout c.val, rfl⟩
  | machAlignEnd c => exact .inl ⟨State.machAlignEnd c.val, rfl⟩
  | machHandover c => exact .inl ⟨State.machHandover c.val, rfl⟩
  | machHandoverTimeout c => exact .inl ⟨State.machHoTimeout c.val, rfl⟩
  | carrierPeriodStart c h off => exact .inl ⟨State.periodRow c.val h.val off, rfl⟩
  | reload c h peak w => exact .inl ⟨State.reloadRow c.val h.val peak w, rfl⟩
  | pulseEdge c h rise off => exact .inl ⟨State.pulseEdge c.val h.val rise off, rfl⟩
  | deadTimeEnd c h off => exact .inl ⟨State.deadEnd c.val h.val off, rfl⟩
  | delayLineCalibration c taps => exact .inl ⟨State.delayCal c.val taps, rfl⟩
  | pwmShhiWrite c h w => exact .inr (.inr (.inl (regRow_shape w (A.PWM_SHHI c.val h.val) s)))
  | pwmCarWrite c w => exact .inr (.inr (.inl (regRow_shape w (A.PWM_CAR c.val) s)))
  | pwmForceWrite c w => exact .inr (.inr (.inl (regRow_shape w (A.PWM_FORCE c.val) s)))
  | linkCheckFault c h => exact .inr (.inl ⟨State.linkFault c.val h.val, rfl, rfl⟩)
  | linkFaultEnd c h => exact .inr (.inl ⟨State.linkEnd c.val h.val, rfl, rfl⟩)
  | linkTrip c h off => exact .inr (.inl ⟨State.linkTrip c.val h.val off, rfl, rfl⟩)
  | shootThroughBlock c h => exact .inr (.inl ⟨State.shootBlock c.val h.val, rfl, rfl⟩)
  | phaseGroupInterlock c g v => exact .inr (.inl ⟨State.phaseGroup c.val g.val v, rfl, rfl⟩)
  | l2Crossing c h off => exact .inr (.inl ⟨State.l2Crossing c.val h.val off, rfl, rfl⟩)
  | l1Crossing c h off => exact .inr (.inl ⟨State.l1Crossing c.val h.val off, rfl, rfl⟩)
  | l1BlankingEnd c h off => exact .inr (.inl ⟨State.l1BlankingEnd c.val h.val off, rfl, rfl⟩)
  | offDriveEnd c => exact .inr (.inl ⟨State.offDriveEnd c.val, rfl, rfl⟩)
  | swTrip c ses => exact .inr (.inr (.inl (bitRow_shape ses (A.GDI_CTRL c.val) 8 s)))
  | chnEnaFall c off => exact .inr (.inl ⟨State.enaFall c.val off, rfl, rfl⟩)
  | enableRisingEdge c off => exact .inr (.inl ⟨State.enaRise c.val off, rfl, rfl⟩)
  | gdiSwEnWrite c w => exact .inr (.inr (.inl (regRow_shape w (A.GDI_CTRL c.val) s)))
  | comparatorSelfCheck c h => exact .inr (.inl ⟨State.chkStart c.val h.val, rfl, rfl⟩)
  | selfCheckEnd c h pass => exact .inr (.inl ⟨State.chkEnd c.val h.val pass, rfl, rfl⟩)
  | meterCfgWrite p w => exact .inr (.inr (.inl (regRow_shape w (A.METER_CFG p.val) s)))
  | calWrite p off w => exact .inr (.inr (.inl (addrRow_shape w (A.CAL_VGAIN p.val 0 + off.val) s)))
  | calSave p ses => exact .inr (.inr (.inl (bitRow_shape ses (A.METER_CTRL p.val) 0 s)))
  | calSaveDone ok => exact .inl ⟨State.calSaveRow ok, rfl⟩
  | harmonicWindowEnd p x => exact .inl ⟨State.windowRow p.val x, rfl⟩
  | tenMinBoundary xs => exact .inl ⟨State.tenMinRow xs, rfl⟩
  | freq10sEnd p f => exact .inl ⟨State.freq10s p.val f, rfl⟩
  | epulCfgWrite j k w => exact .inr (.inr (.inl (regRow_shape w (if k then A.EPUL_K j.val else A.EPUL_CFG j.val) s)))
  | pulseEmission j => exact .inl ⟨State.pulseEmission j.val, rfl⟩
  | pulseEnd j => exact .inl ⟨State.pulseEnd j.val, rfl⟩
  | periodicCommit => exact .inl ⟨State.periodicCommit, rfl⟩
  | writeThroughCommit => exact .inl ⟨State.writeThroughCommit, rfl⟩
  | recordWriteComplete ok => exact .inl ⟨State.recordWrite ok, rfl⟩
  | pointerFlipComplete => exact .inl ⟨State.pointerFlip, rfl⟩
  | tailCommit => exact .inl ⟨State.tailCommit, rfl⟩
  | powerFailResume => exact .inr (.inl ⟨State.powerResume, rfl, rfl⟩)
  | attestedReadoutSigned => exact .inl ⟨State.readSigned, rfl⟩
  | safeInDemand b => exact .inr (.inl ⟨State.safeDemand b, rfl, rfl⟩)
  | safeInDiscrepancy => exact .inr (.inl ⟨State.safeDisc, rfl, rfl⟩)
  | discRelease => exact .inr (.inl ⟨State.discRelease, rfl, rfl⟩)
  | slcViolation c => exact .inr (.inl ⟨State.slcViolation c.val, rfl, rfl⟩)
  | sldViolation c => exact .inr (.inl ⟨State.sldViolation c.val, rfl, rfl⟩)
  | slsViolation c => exact .inr (.inl ⟨State.slsViolation c.val, rfl, rfl⟩)
  | slsSigFault c => exact .inr (.inl ⟨State.slsSigFault c.val, rfl, rfl⟩)
  | islandInputStuck c m => exact .inr (.inl ⟨State.islandInputStuck c.val m.val, rfl, rfl⟩)
  | islandMclkFault c => exact .inr (.inl ⟨State.islandMclk c.val, rfl, rfl⟩)
  | crossCheckMissed => exact .inr (.inl ⟨State.xMissed, rfl, rfl⟩)
  | oscFault => exact .inr (.inl ⟨State.oscFault, rfl, rfl⟩)
  | fbFault b => exact .inr (.inl ⟨State.fbFault b, rfl, rfl⟩)
  | offPulseTest b => exact .inr (.inl ⟨State.offPulse b, rfl, rfl⟩)
  | offPulseRestore b ok => exact .inr (.inl ⟨State.offPulseRestore b ok, rfl, rfl⟩)
  | safeRstFallingEdge us x => exact .inr (.inl ⟨State.safeRstFall us x, rfl, rfl⟩)
  | safeRstStuck => exact .inr (.inl ⟨State.safeRstStuck, rfl, rfl⟩)
  | resetFeedbackCheck fbA fbB => exact .inr (.inl ⟨State.resetFeedback fbA fbB, rfl, rfl⟩)
  | safeCtrlSgiReq w => exact .inr (.inr (.inl (regRow_shape w A.SAFE_CTRL s)))
  | safeUnlockExpiry => exact .inl ⟨State.unlockExpiry, rfl⟩
  | unlockBlockEnd => exact .inl ⟨State.blockEnd, rfl⟩
  | safeCommitDone ok => exact .inl ⟨State.safeCommitRow ok, rfl⟩
  | temperatureRead t v => exact .inl ⟨State.temperatureRead t v, rfl⟩
  | sensorExclusion i => exact .inl ⟨State.sensorExclude i.val, rfl⟩
  | sensorReadmission i => exact .inl ⟨State.sensorReadmit i.val, rfl⟩
  | ageingMeasurement ro days => exact .inl ⟨State.ageing ro days.toNat, rfl⟩
  | logRecordWrite => exact .inl ⟨State.logWrite, rfl⟩
  | mgsWatchdogRestart => exact .inl ⟨State.mgsRestart, rfl⟩
  | poolAuditCheck => exact .inl ⟨State.poolAudit, rfl⟩
  | sessionTimeout i => exact .inl ⟨State.sessionTimeout i.val, rfl⟩
  | portLost l => exact .inl ⟨State.portLost l, rfl⟩
  | nop p => exact .inl ⟨State.submit 0x00 p true false, rfl⟩
  | openSes p => exact .inl ⟨State.submit 0x01 p true false, rfl⟩
  | close p => exact .inl ⟨State.submit 0x02 p true false, rfl⟩
  | audit p => exact .inl ⟨State.submit 0x03 p true false, rfl⟩
  | abortTag p => exact .inl ⟨State.submit 0x04 p true false, rfl⟩
  | sessions p => exact .inl ⟨State.submit 0x05 p true false, rfl⟩
  | status p => exact .inl ⟨State.submit 0x10 p true false, rfl⟩
  | modeSet p => exact .inl ⟨State.submit 0x11 p true false, rfl⟩
  | claim p => exact .inl ⟨State.submit 0x12 p true false, rfl⟩
  | release p => exact .inl ⟨State.submit 0x13 p true false, rfl⟩
  | roleSet p => exact .inl ⟨State.submit 0x14 p true false, rfl⟩
  | startCh p => exact .inl ⟨State.submit 0x15 p true false, rfl⟩
  | stopCh p => exact .inl ⟨State.submit 0x16 p true false, rfl⟩
  | submode p => exact .inl ⟨State.submit 0x17 p true false, rfl⟩
  | setpoint p => exact .inl ⟨State.submit 0x18 p true false, rfl⟩
  | setpointSet p => exact .inl ⟨State.submit 0x19 p true false, rfl⟩
  | ctxRead p => exact .inl ⟨State.submit 0x30 p true false, rfl⟩
  | ctxWrite p => exact .inl ⟨State.submit 0x31 p true false, rfl⟩
  | ctxWriteList p => exact .inl ⟨State.submit 0x32 p true false, rfl⟩
  | freeze p => exact .inl ⟨State.submit 0x33 p true false, rfl⟩
  | shadowSet p => exact .inl ⟨State.submit 0x50 p true false, rfl⟩
  | forceOff p => exact .inl ⟨State.submit 0x51 p true false, rfl⟩
  | tripRead p => exact .inl ⟨State.submit 0x52 p true false, rfl⟩
  | tripClear p => exact .inl ⟨State.submit 0x53 p true false, rfl⟩
  | accRead p => exact .inl ⟨State.submit 0x60 p true false, rfl⟩
  | windowRead p => exact .inl ⟨State.submit 0x61 p true false, rfl⟩
  | recordRead p => exact .inl ⟨State.submit 0x62 p true false, rfl⟩
  | snapList p => exact .inl ⟨State.submit 0x63 p true false, rfl⟩
  | attestRead p => exact .inl ⟨State.submit 0x64 p true false, rfl⟩
  | regRead p => exact .inl ⟨State.submit 0x80 p true false, rfl⟩
  | regWrite p => exact .inl ⟨State.submit 0x81 p true false, rfl⟩
  | regWriteList p => exact .inl ⟨State.submit 0x82 p true false, rfl⟩
  | regRmw p => exact .inl ⟨State.submit 0x83 p true false, rfl⟩
  | safeUnlock p => exact .inl ⟨State.submit 0x90 p true false, rfl⟩
  | safeLock p => exact .inl ⟨State.submit 0x91 p true false, rfl⟩
  | safeStage p => exact .inl ⟨State.submit 0x92 p true false, rfl⟩
  | safeCommit p => exact .inl ⟨State.submit 0x93 p true false, rfl⟩
  | safeSetPw p => exact .inl ⟨State.submit 0x94 p true false, rfl⟩
  | safeLogRead p => exact .inl ⟨State.submit 0x95 p true false, rfl⟩
  | sgiReq p => exact .inl ⟨State.submit 0x96 p true false, rfl⟩
  | logRead p => exact .inl ⟨State.submit 0xA0 p true false, rfl⟩
  | counters p => exact .inl ⟨State.submit 0xA1 p true false, rfl⟩
  | healthGet p => exact .inl ⟨State.submit 0xA2 p true false, rfl⟩
  | imgBegin p => exact .inl ⟨State.submit 0xB0 p true false, rfl⟩
  | imgData p => exact .inl ⟨State.submit 0xB1 p true false, rfl⟩
  | imgVerify p => exact .inl ⟨State.submit 0xB2 p true false, rfl⟩
  | imgVerifyDone ok => exact .inl ⟨State.imgVerifyDone ok, rfl⟩
  | imgActivate p => exact .inl ⟨State.submit 0xB3 p true false, rfl⟩
  | attest p => exact .inl ⟨State.submit 0xB4 p true false, rfl⟩
  | attestSigned => exact .inl ⟨State.attSigned, rfl⟩
  | ringStatus p => exact .inl ⟨State.submit 0xC0 p true false, rfl⟩
  | enumerate p => exact .inl ⟨State.submit 0xC1 p true false, rfl⟩
  | addrSet p => exact .inl ⟨State.submit 0xC2 p true false, rfl⟩
  | streamOpen p => exact .inl ⟨State.submit 0x70 p true false, rfl⟩
  | streamClose p => exact .inl ⟨State.submit 0x71 p true false, rfl⟩
  | streamAck p => exact .inl ⟨State.submit 0x72 p true false, rfl⟩
  | streamData i => exact .inl ⟨State.streamData i.val, rfl⟩
  | announce => exact .inl ⟨State.announceDue, rfl⟩
  | announceReceived addr => exact .inl ⟨State.announceSeen addr.toNat, rfl⟩
  | pktWr x => exact .inl ⟨State.pktWr x, rfl⟩
  | pktRd whole => exact .inl ⟨State.pktRd whole, rfl⟩
  | stat => exact .inl ⟨State.spiStat, rfl⟩
  | regRd addr n => exact .inl ⟨State.regOp 0x80 [addr, wd n.toNat], rfl⟩
  | regWr addr ws => exact .inl ⟨State.regOp 0x81 (addr :: ws), rfl⟩
  | regFetch => exact .inl ⟨State.regFetch, rfl⟩
  | spiInvalidCommand => exact .inl ⟨State.spiInvalid, rfl⟩
  | autoNegotiationComplete fullDuplex => exact .inl ⟨State.autoNeg fullDuplex, rfl⟩
  | arpNeighbourRequest v6 ours => exact .inl ⟨State.ethAnswer v6 ours .arp .neighbour, rfl⟩
  | icmpEchoRequest v6 ours => exact .inl ⟨State.ethAnswer v6 ours .echo4 .echo6, rfl⟩
  | fragmentReassemblyTimeout => exact .inl ⟨State.fragTimeout, rfl⟩
  | ptpEventMessage x => exact .inl ⟨State.ptpMessage x, rfl⟩
  | ptpLockLoss => exact .inl ⟨State.ptpLoss, rfl⟩
  | ptpLockRegain => exact .inl ⟨State.ptpRegain, rfl⟩
  | ringFrameArrival x => exact .inl ⟨State.ringFrame x, rfl⟩
  | tl1BurstTransmit => exact .inl ⟨State.tl1Burst, rfl⟩
  | ringLinkUp l => exact .inl ⟨State.ringUp l, rfl⟩
  | ringLinkDown l => exact .inl ⟨State.ringDown l, rfl⟩
  | ringUnwrap l => exact .inl ⟨State.ringUnwrap l, rfl⟩
  | hostMbdWrite m w => exact .inr (.inr (.inl (regRow_shape w (A.HOST_MBD m.val) s)))
  | hostMbsRead m ses => exact .inl (readRow_shape ses.val (A.HOST_MBS m.val) s)
  | mailboxTimeout m => exact .inl ⟨State.mbExpire m.val, rfl⟩
  | hostMblockRead k ses => exact .inl (readRow_shape ses.val (A.HOST_MBLOCK k.val) s)
  | hostMblockWrite k w => exact .inr (.inr (.inl (regRow_shape w (A.HOST_MBLOCK k.val) s)))
  | sequenceClearWrite addr w => exact .inr (.inr (.inl (addrRow_shape w addr.toNat s)))
  | registerWrite addr w => exact .inr (.inr (.inl (addrRow_shape w addr.toNat s)))
  | referenceLoss b => exact .inr (.inl ⟨State.referenceLoss b, rfl, rfl⟩)
  | lossOfLock b => exact .inr (.inl ⟨State.lossOfLock b, rfl, rfl⟩)
  | pllRelock b => exact .inr (.inl ⟨State.pllRelock b, rfl, rfl⟩)
  | clkCfgSwitch ses => exact .inr (.inr (.inl (bitRow_shape ses A.CLK_CFG 1 s)))
  | divCommit ses => exact .inr (.inr (.inl (bitRow_shape ses A.DIV_COMMIT 0 s)))
  | commitRelockTimeout b => exact .inr (.inl ⟨State.commitTimeout b, rfl, rfl⟩)
  | engineClockAbsent => exact .inr (.inl ⟨State.engineAbsent, rfl, rfl⟩)
  | doubleFaultRecovery b => exact .inr (.inl ⟨(fun s => (s.doubleRecovery b).when s.t.clkStop.isSome State.refuseService), rfl, rfl⟩)
  | pllLockTimeout b => exact .inr (.inl ⟨State.pllLockTimeout b, rfl, rfl⟩)
  | pllRetry x => exact .inr (.inl ⟨State.pllRetry x, rfl, rfl⟩)
  | resetRelease _ => exact .inr (.inr (.inr (.inl rfl)))
  | railBelowReset => exact .inr (.inr (.inr (.inr rfl)))
  | pwrfailAssert => exact .inr (.inl ⟨(fun s => (s.pwrfail).refuseService), rfl, rfl⟩)
  | railWarning r => exact .inr (.inl ⟨(fun s => (s.railWarning r.val).refuseService), rfl, rfl⟩)
  | railOverVoltage r => exact .inr (.inl ⟨(fun s => (s.railOver r.val).refuseService), rfl, rfl⟩)
  | domainStart => exact .inr (.inr (.inr (.inl rfl)))
  | domainReset => exact .inr (.inr (.inr (.inl rfl)))
  | keepAliveTick _ => exact .inr (.inr (.inr (.inl rfl)))
  | shockTrip _ => exact .inr (.inr (.inr (.inl rfl)))
  | rtcPtpSet => exact .inl ⟨State.rtcPtp, rfl⟩
  | kaRtcHiWrite w => exact .inr (.inr (.inl (regRow_shape w A.KA_RTC_HI s)))
  | kaCfgWrite w => exact .inr (.inr (.inl (regRow_shape w A.KA_CFG s)))
  | trialWatchdog => exact .inr (.inl ⟨State.trialWatchdog, rfl, rfl⟩)
  | sysCfgSave ses => exact .inr (.inr (.inl (bitRow_shape ses A.SYS_CFG_CTRL 0 s)))
  | cfgSaveDone ok => exact .inl ⟨State.cfgSaveRow ok, rfl⟩
  | h1LinkLoss => exact .inl ⟨State.h1LinkLoss, rfl⟩
  | badOpcodePacket p opc frameOk => exact .inl ⟨State.submit opc.toNat p frameOk false, rfl⟩
  | comparatorOutputFall c h l2 off => exact .inr (.inl ⟨State.comparatorFall c.val h.val l2 off, rfl, rfl⟩)
  | limitExcursionEnd c m => exact .inl ⟨State.limitEnd c.val m.val, rfl⟩
  | pccOverrangeEnd k => exact .inl ⟨State.pccOverEnd k.val, rfl⟩
  | pllCommitRelock b => exact .inr (.inl ⟨State.commitRelock b, rfl, rfl⟩)
  | mgsRestartComplete => exact .inl ⟨State.mgsComplete, rfl⟩
  | syncOutPulseEnd => exact .inl ⟨State.syncOutEnd, rfl⟩

end Sys2Proof.Machine
end

