-- ==== Sys2Proof/Tests/Slice0.lean ====
section
/-! SUPPORT. Tests of the model's own: ill-formed commands that the checks refuse, small runs, and for each statement a state
that meets its hypotheses. -/

namespace Sys2Proof.Tests

open Sys2Proof Sys2Proof.Machine

/-- A running device: WAKE complete, tick of 20,000 clocks. -/
def run : State := { State.reset with t := { woke := true, start := 8000000 } }
/-- A running device with these words. -/
def withRegs (l : List (Nat × Word)) : State := { run with regs := l }
def pkt (n : Nat) : Pkt := ⟨.h0, 0, 0, 0, 0, 0#32, List.replicate n 0#32⟩
def noWin : WindowIn := ⟨false, false, false, [], [], []⟩

/-! ### Small runs -/

/-- 15 R446, 01 R47: TICK_DIV resets to 20,000. -/
theorem test_tick_div_reset : State.reset.get F.SYS_TICK_TICK_DIV = 20000 := by decide
/-- 15 R439: a clear with the present SEQ clears the masked bits; with another, none. -/
theorem test_seq_clear : seqClear 0x05000003#32 0x05000001#32 0x7#32 = 0x05000002#32 ∧
    seqClear 0x05000003#32 0x04000001#32 0x7#32 = 0x05000003#32 := by decide
/-- 15 R519 example: 0x0012_D200 is the alias of GRID_FNOM, 0x0012_4C10 of PWM_STAT, 0x0007_0010 outside every block. -/
theorem test_alias_addresses : resolve false 0x12D200 = some 0x12C200 ∧ resolve false 0x124C10 = some 0x124010 ∧
    resolve false 0x70010 = none := by decide
/-- 15 R519 example: no register lies at 0x0012_4250. -/
theorem test_reserved_word : (resolve false 0x124250).map reserved = some true := by decide
/-- 14 R427: a take of an empty mailbox leaves FULL clear. -/
theorem test_shock_needs_domain : ∃ t, exec (.shockTrip 9000) run = .next t ∧ t.flag F.KA_STAT_SHOCK = false :=
  ⟨_, rfl, by decide⟩

/-! ### Well-formed commands -/

theorem pkt_wf (n : Nat) : (pkt n).wf = decide (n ≤ 1023) := by unfold Pkt.wf pkt; rw [List.length_replicate]

theorem test_packet_too_long_is_refused : (Instr.nop (pkt 1024)).wf = false := (pkt_wf _).trans rfl
theorem test_packet_of_full_length_is_well_formed : (Instr.nop (pkt 1023)).wf = true := (pkt_wf _).trans rfl
theorem test_spi_packet_with_wrong_word_count_is_refused : (Instr.pktWr ⟨4, true, 0#8, pkt 2⟩).wf = false := by decide
theorem test_ring_frame_too_long_is_refused :
    (Instr.ringFrameArrival ⟨none, 0, 0, 0, false, true, 0#8, pkt 1024⟩).wf = false :=
  show (pkt 1024).wf = false from (pkt_wf 1024).trans rfl
theorem test_window_with_too_many_words_is_refused :
    (Instr.harmonicWindowEnd 0 { noWin with ro := List.replicate 33 0#32 }).wf = false := by decide
theorem test_ten_minute_points_once : (Instr.tenMinBoundary [(0, noWin), (0, noWin)]).wf = false := by decide
theorem test_guard_channels_once : (Instr.guardPoint [(1, 0), (1, 2)]).wf = false := by decide
theorem test_temperatures_of_all_sensors : (Instr.temperatureRead [1, 2] []).wf = false := by decide
theorem test_ageing_of_all_rings : (Instr.ageingMeasurement [] 3).wf = false := by decide
theorem test_register_operation_has_words : (Instr.regWr 0#32 []).wf = false := by decide

end Sys2Proof.Tests
end

section
/-! SUPPORT. Completions read through: how a row that may act completes, and what a completion leaves readable. -/

namespace Sys2Proof.Machine

theorem completes_clocked {i : Instr} {f : State → State} {s : State} {P : State → Prop} (h : exec i s = State.clocked f s)
    (hr : s.runs = true) (hp : P (settle s (f s))) : completes i s P :=
  completes_of (h.trans (clocked_runs hr f)) hp

theorem completes_byHost {i : Instr} {f : State → State} {s : State} {P : State → Prop} (h : exec i s = State.byHost f s)
    (hh : s.hosted = true) (hp : P (settle s (f s))) : completes i s P :=
  completes_of (h.trans (byHost_acts hh f)) hp

variable (s u : State)

@[simp] theorem settle_t : (settle s u).t = u.t := rfl
@[simp] theorem settle_ch : (settle s u).ch = u.ch := rfl
@[simp] theorem settle_chn (c : Nat) : (settle s u).chn c = u.chn c := rfl
@[simp] theorem settle_mdi (c m : Nat) : (settle s u).mdi c m = u.mdi c m := rfl
@[simp] theorem settle_host : (settle s u).host = u.host := rfl
@[simp] theorem settle_log : (settle s u).log = u.log := rfl
@[simp] theorem settle_ride : (settle s u).ride = u.ride := rfl
@[simp] theorem settle_surv : (settle s u).surv = u.surv := rfl
@[simp] theorem settle_seqOf (inj : Bool) : (settle s u).seqOf inj = u.seqOf inj := rfl
@[simp] theorem settle_flag (f : Fld) : (settle s u).flag f = u.flag f := by simp only [State.flag, settle_get]
@[simp] theorem settle_bitOf (f : Fld) (i : Nat) : (settle s u).bitOf f i = u.bitOf f i := by simp only [State.bitOf, settle_get]
@[simp] theorem settle_cx (c k w : Nat) : (settle s u).cx c k w = u.cx c k w := by simp only [State.cx, settle_rd]

/-- A 64-bit pair of full words reads as written, modulo its width. -/
theorem State.get64_put64 {a : Nat} (hl : implMask a = 0xFFFFFFFF#32) (hh : implMask (a + 4) = 0xFFFFFFFF#32) (n : Nat) :
    (s.put64 a n).get64 a = n % 2 ^ 64 := by
  have full : ∀ v : Word, v &&& 0xFFFFFFFF#32 = v := fun _ => BitVec.and_allOnes
  simp only [State.get64, State.put64, State.rd_wr_same, State.rd_wr_ne _ (show a ≠ a + 4 by omega), hl, hh, full, wd,
    BitVec.toNat_ofNat]
  omega

end Sys2Proof.Machine
end

section
/-! SUPPORT. The step, the reset, and the tick that TICK_BOUNDARY opens (01 R27). -/

namespace Sys2Proof.Machine

/-- Settles O1: by the two cases of the queue. -/
theorem stepRunsTheFrontCommand : Obligations.StepRunsTheFrontCommand := by
  refine ⟨fun c q s h => ?_, fun s h => ?_⟩ <;> simp only [step, h]

/-- Settles O2: no word is listed after reset, so each register reads its reset value. -/
theorem resetLeavesTheStatedValues : Obligations.ResetLeavesTheStatedValues :=
  ⟨rfl, rfl, by decide, by decide, by decide, by decide, by decide, by decide⟩

theorem nextTick_tickCnt (s : State) : s.nextTick.tickCnt = (s.tickCnt + 1) % 2 ^ 64 :=
  State.get64_put64 _ (by decide) (by decide) _

/-- Settles O6: the count that opens the tick, then the restart that is due or the phases in their order. -/
theorem tickBoundaryRunsTheSixPhases : Obligations.TickBoundaryRunsTheSixPhases := by
  intro x s hr hw
  have acts : exec (.tickBoundary x) s = complete s (s.tickBoundary x) := clocked_runs hr _
  have on : (s.t.held || !s.t.woke || s.t.clkStop.isSome) = false := by
    simp only [State.runs, Bool.and_eq_true, Bool.not_eq_true', Option.isNone_iff_eq_none] at hr
    simp [hr, hw]
  refine ⟨nextTick_tickCnt s, rfl, rfl, rfl, fun hb => ?_, fun hb => ?_⟩
  · rw [acts]; simp [State.tickBoundary, on, hb]
  · refine completes_of acts ⟨_, _, _, rfl, rfl, rfl, fun a => ?_⟩
    rw [settle_rd]
    simp [State.tickBoundary, on, hb, State.phases, State.when]

end Sys2Proof.Machine
end

section
/-! SUPPORT. Folds and choices seen through a view of the state; bursts, alignment and carriers at a frame boundary (01 R36–R45). -/

namespace Sys2Proof.Machine

variable {α : Type} {ev : Bool} {ps : List Part} {W : Nat → Prop} {s u : State}

theorem State.each_unseen (g : State → α) {f : Nat → State → State} {l : List Nat} (h : ∀ d ∈ l, ∀ x, g (f d x) = g x)
    (s : State) : g (s.each l f) = g s := by
  induction l generalizing s with
  | nil => rfl
  | cons d t ih => exact (ih (fun e he => h e (List.mem_cons_of_mem d he)) (f d s)).trans (h d (by simp) s)

/-- A view of the state that only turn `c` of a fold changes, and from which that turn's effect on it follows, is after the
fold what turn `c` makes of it. -/
theorem State.each_turn (g : State → α) {f : Nat → State → State} {l : List Nat} {c : Nat} (hc : c ∈ l) (hn : l.Nodup)
    (hother : ∀ d ∈ l, d ≠ c → ∀ x, g (f d x) = g x) (hturn : ∀ x y, g x = g y → g (f c x) = g (f c y)) (s : State) :
    g (s.each l f) = g (f c s) := by
  induction l generalizing s with
  | nil => simp at hc
  | cons d t ih =>
    obtain ⟨hd, ht⟩ := List.nodup_cons.mp hn
    have rest : ∀ e ∈ t, e ≠ c → ∀ x, g (f e x) = g x := fun e he => hother e (List.mem_cons_of_mem d he)
    by_cases h : d = c
    · subst h
      exact State.each_unseen g (fun e he => rest e he fun hed => hd (hed ▸ he)) (f d s)
    · have hct : c ∈ t := (List.mem_cons.mp hc).resolve_left (Ne.symm h)
      exact (ih hct ht rest (f d s)).trans (hturn _ _ (hother d (by simp) h s))

theorem State.when_unseen (g : State → α) {f : State → State} (h : ∀ x, g (f x) = g x) (s : State) (b : Bool) :
    g (s.when b f) = g s := by
  cases b
  · rfl
  · exact h s

theorem State.raise_t (s : State) {f : Fld} (h : f.addr < 0x180000) (det : List Word) : (s.raise f det).t = s.t :=
  (kept_raiseAt s f.lo h det).t

theorem carFrame_chn (s : State) {c : Nat} (hc : c < 8) :
    s.carFrame.chn c = if (s.chn c).carWait then { s.chn c with carWait := false, car := s.rd (A.PWM_CAR c) } else s.chn c := by
  have hl : c ∈ chans := by simp only [chans, List.mem_cons]; omega
  have h := State.each_turn (fun x => (x.chn c, x.rd (A.PWM_CAR c)))
    (f := fun d x => x.modCh d fun y => if y.carWait then { y with carWait := false, car := x.rd (A.PWM_CAR d) } else y)
    hl (by decide) (fun d _ hd x => by simp [State.chn_modCh_ne x (Ne.symm hd)])
    (fun x y hxy => by
      obtain ⟨h1, h2⟩ := Prod.mk.inj hxy
      simp [State.chn_modCh_same _ hc, h1, h2]) s
  exact (congrArg Prod.fst h).trans (State.chn_modCh_same s hc _)

theorem mem_chanParts {c : Nat} (hc : c ∈ chans) : Part.chan c ∈ chanParts := by
  simp only [chans, List.mem_cons, List.not_mem_nil, or_false] at hc
  simp only [chanParts, List.mem_map, List.mem_range, Part.chan.injEq, exists_eq_right]
  omega

theorem Frame.carFrame (h : Frame ev ps W s u) (hp : ∀ c ∈ chans, .chan c ∈ ps) : Frame ev ps W s u.carFrame :=
  Frame.each _ (fun c hc _ => (Frame.refl ..).modCh (hp c hc) _) h

theorem Frame.burstCharge (h : Frame ev ps W s u) (hp : .t ∈ ps) (hw : W A.SYS_BURST_BUD) (t : Nat) :
    Frame ev ps W s (u.burstCharge t) := (h.modT hp _).put (f := F.SYS_BURST_BUD_REMAIN_US) hw _

theorem Frame.burstFrame (h : Frame true ps W s u) (hp : .t ∈ ps) (hbud : W A.SYS_BURST_BUD) (hb : W A.SYS_BURST)
    (hs : W A.SYS_BURST_STAT) (t : Nat) : Frame true ps W s (u.burstFrame t) := by
  have charged : Frame true ps W s (u.burstCharge t) := h.burstCharge hp hbud t
  have event : ∀ {x : State} {f : Fld}, f.addr = A.SYS_BURST_STAT → Frame true ps W s x → Frame true ps W s (x.raise f) :=
    fun {x f} hf hx => hx.raise (hf ▸ hs) (hf ▸ by decide) _
  unfold State.burstFrame
  dsimp only
  split
  · split
    · refine Frame.when (Frame.when (Frame.when ?_ _ ?_) _ ?_) _ ?_
      · exact (charged.putb hb _).modT hp _
      all_goals exact fun x => (Frame.refl ..).raise hs (by decide) _
    · exact charged
  · split
    · split
      · refine Frame.when (Frame.when charged _ ?_) _ ?_
        all_goals exact fun x => ((Frame.refl ..).modT hp _).raise hs (by decide) _
      · exact ((charged.putb hb _).modT hp _).raise hs (by decide) _
    · exact charged

theorem Frame.setSync (h : Frame ev ps W s u) (hp : .t ∈ ps) (hw : W A.SYS_SYNC_STAT) (st : Nat) :
    Frame ev ps W s (u.setSync st) := by
  have base := (h.put (f := F.SYS_SYNC_STAT_STATE) hw st).modT hp fun t => { t with good := 0, bad := 0 }
  unfold State.setSync
  dsimp only
  split
  · exact base.modT hp _
  · split
    · exact base.modT hp _
    · exact base

/-- The error is shown, and counted as within or beyond the lock window (01 R45). -/
def State.syncCount (e : Int) (s : State) : State :=
  (s.put F.SYS_SYNC_STAT_ERR (sat16 e)).modT fun t =>
    { t with good := if e.natAbs ≤ 16 then t.good + 1 else 0, bad := if e.natAbs ≤ 16 then 0 else t.bad + 1 }

/-- ACQUIRE and LOCKED follow from the counts (01 R45). -/
def State.syncJudge (s : State) : State :=
  if s.syncSt = yACQUIRE ∧ 16 ≤ s.t.good then s.setSync yLOCKED
  else if s.syncSt = yLOCKED ∧ 4 ≤ s.t.bad then s.setSync yACQUIRE else s

/-- The error is corrected by the one step after acquisition, or by slewing (01 R44). -/
def State.syncCorrect (e : Int) (s : State) : State :=
  if !s.t.stepped && s.syncSt == yACQUIRE && s.flag F.SYS_SYNC_STEP_OK && s.noneSwitches &&
      (s.mode == mWAKE || s.mode == mSTANDBY || s.mode == mSERVICE) then
    s.modT fun t => { t with stepped := true, step := (-e) % (s.frameLen : Int), slew := 0 }
  else s.modT fun t => { t with slew := -e }

theorem syncFrame_some (s : State) (e : Int) : s.syncFrame (some e) =
    if s.syncSt = yFREE ∨ s.syncSt = yHOLDOVER then s else ((s.syncCount e).syncJudge).syncCorrect e := rfl

theorem Frame.syncFrame (h : Frame ev ps W s u) (hp : .t ∈ ps) (hw : W A.SYS_SYNC_STAT) (err : Option Int) :
    Frame ev ps W s (u.syncFrame err) := by
  cases err with
  | none => exact h
  | some e =>
    have counted : Frame ev ps W s (u.syncCount e) := (h.put (f := F.SYS_SYNC_STAT_ERR) hw _).modT hp _
    have judged : Frame ev ps W s (u.syncCount e).syncJudge := by
      unfold State.syncJudge
      split
      · exact counted.setSync hp hw _
      · split
        · exact counted.setSync hp hw _
        · exact counted
    rw [syncFrame_some]
    split
    · exact h
    · unfold State.syncCorrect
      split
      · exact judged.modT hp _
      · exact judged.modT hp _

theorem setSync_syncOut (s : State) (st : Nat) : (s.setSync st).t.syncOut = s.t.syncOut := by
  unfold State.setSync
  dsimp only
  split
  · rfl
  · split <;> rfl

theorem syncFrame_syncOut (s : State) (err : Option Int) : (s.syncFrame err).t.syncOut = s.t.syncOut := by
  cases err with
  | none => rfl
  | some e =>
    have judged : ∀ x : State, x.syncJudge.t.syncOut = x.t.syncOut := fun x => by
      unfold State.syncJudge
      split
      · exact setSync_syncOut x _
      · split
        · exact setSync_syncOut x _
        · rfl
    have corrected : ∀ x : State, (x.syncCorrect e).t.syncOut = x.t.syncOut := fun x => by
      unfold State.syncCorrect
      split <;> rfl
    rw [syncFrame_some]
    split
    · rfl
    · rw [corrected, judged]; rfl

theorem burstFrame_syncOut (s : State) (t : Nat) : (s.burstFrame t).t.syncOut = s.t.syncOut := by
  have event : ∀ (x : State) {f : Fld}, f.addr = A.SYS_BURST_STAT → (x.raise f).t.syncOut = x.t.syncOut := fun x f hf =>
    congrArg TickSt.syncOut (State.raise_t x (hf ▸ by decide) _)
  have kept : ∀ (b : Bool) {f : State → State}, (∀ x, (f x).t.syncOut = x.t.syncOut) → ∀ x : State, (x.when b f).t.syncOut = x.t.syncOut :=
    fun b f hf x => State.when_unseen (fun y => y.t.syncOut) hf x b
  unfold State.burstFrame
  dsimp only
  split
  · split
    · rw [kept _ fun x => event x rfl, kept _ fun x => event x rfl, kept _ fun x => event x rfl]; rfl
    · rfl
  · split
    · split
      · exact (kept _ (fun x => event (x.modT _) (f := F.SYS_BURST_STAT_REFUSED_THERMAL) rfl) _).trans
          (kept _ (fun x => event (x.modT _) (f := F.SYS_BURST_STAT_REFUSED_BUDGET) rfl) _)
      · rw [event _ rfl]; rfl
    · rfl

end Sys2Proof.Machine
end

section
/-! SUPPORT. FRAME_BOUNDARY where no table takes effect (01 R35). -/

namespace Sys2Proof.Machine

variable {α : Type} {ev : Bool} {ps : List Part} {W : Nat → Prop} {s u : State}

/-- Words that a frame boundary without a new table may change. -/
abbrev frameWords : List Nat := [A.SYS_BURST_BUD, A.SYS_BURST, A.SYS_BURST_STAT, A.SYS_SYNC_STAT]

theorem rebuildApply_nil (h : s.t.rebuilds = []) : s.rebuildApply = (s, []) := by simp [State.rebuildApply, h]

/-- Bursts and alignment at a frame boundary stay within the tick generator and its status words. -/
theorem frame_burst_sync (s : State) (t : Nat) (err : Option Int) :
    Frame true [.t] (· ∈ frameWords) s ((s.burstFrame t).syncFrame err) :=
  Frame.syncFrame (Frame.burstFrame (Frame.refl ..) (by simp) (by simp) (by simp) (by simp) t) (by simp) (by simp) err

/-- FRAME_BOUNDARY in its turn, where no table takes effect. -/
theorem frameRow_acts {err : Option Int} (hr : s.runs = true) (hw : s.t.woke = true)
    (hi : (if s.burstOn then 8 else 4) ≤ s.t.inFrame) (hq : s.t.rebuilds = []) :
    s.frameRow err = ((s.carFrame.burstFrame (s.t.start + s.t.len)).syncFrame err).modT fun x =>
      { x with inFrame := 0,
               syncOut := x.syncOut || ((s.carFrame.burstFrame (s.t.start + s.t.len)).syncFrame err).flag F.SYS_SYNC_OUT_EN } := by
  simp only [State.runs, Bool.and_eq_true, Bool.not_eq_true', Option.isNone_iff_eq_none] at hr
  have on : (s.t.held || !s.t.woke || s.t.clkStop.isSome || s.t.inFrame < (if s.burstOn then 8 else 4)) = false := by
    simp [hr, hw, hi]
  simp [State.frameRow, on, State.frameBoundary, rebuildApply_nil hq]

theorem completes_frameBoundary {err : Option Int} (hr : s.runs = true) (hw : s.t.woke = true)
    (hi : (if s.burstOn then 8 else 4) ≤ s.t.inFrame) (hq : s.t.rebuilds = []) :
    completes (.frameBoundary err) s fun t => t.t.inFrame = 0 ∧ t.t.syncOut = (s.t.syncOut || s.flag F.SYS_SYNC_OUT_EN) ∧
      (∀ c : Fin 8, (s.chn c.val).carWait = true → (t.chn c.val).car = s.rd (A.PWM_CAR c.val) ∧ (t.chn c.val).carWait = false) ∧
      Frame true (.t :: chanParts) (· ∈ frameWords) s t := by
  have fr := frame_burst_sync s.carFrame (s.t.start + s.t.len) err
  have out : ((s.carFrame.burstFrame (s.t.start + s.t.len)).syncFrame err).flag F.SYS_SYNC_OUT_EN = s.flag F.SYS_SYNC_OUT_EN :=
    State.flag_congr (State.get_congr ((fr.words _ (by decide) (fun _ => by decide)).trans
      (((Frame.refl false chanParts (fun _ => False) s).carFrame fun c hc => mem_chanParts hc).words _ id (by simp))))
  refine completes_clocked rfl hr ?_
  rw [frameRow_acts hr hw hi hq]
  refine ⟨rfl, ?_, fun c hc => ?_, Frame.settle (Frame.modT ?_ (by simp) _)⟩
  · simp only [settle_t, State.modT_same, out, syncFrame_syncOut, burstFrame_syncOut]
    rfl
  · have hch := (fr.parts (.chan c.val) (by simp)).trans (carFrame_chn s c.isLt)
    rw [if_pos hc] at hch
    exact ⟨congrArg Ch.car hch, congrArg Ch.carWait hch⟩
  · exact ((Frame.refl ..).carFrame fun c hc => List.mem_cons_of_mem _ (mem_chanParts hc)).trans
      (fr.mono (by simp) fun _ => id)

end Sys2Proof.Machine
end

section
/-! SUPPORT. The rebuild check, the burst bins and the alignment rows (01 R30, R37, R45, R46). -/

namespace Sys2Proof.Machine

variable {ev : Bool} {ps : List Part} {W : Nat → Prop} {s u : State}

theorem guardPoint_nil (s : State) : s.guardPoint [] = s.modT fun t => { t with open6 := false } := rfl

/-- The oldest change is judged with nothing accepted before it (01 R30). -/
theorem rebuildCheck_cons {r : Rebuild} {l : List Rebuild} (hq : s.t.rebuilds = r :: l) (hr : r.ok = false) :
    s.rebuildCheck =
      ((s.modT fun x => { x with rebuilds := if (s.applyChange r.chg).tableFits then { r with ok := true } :: l else l }).putb
        F.SYS_TT_STAT_BUILDING ((if (s.applyChange r.chg).tableFits then { r with ok := true } :: l else l).any fun x => !x.ok),
        if (s.applyChange r.chg).tableFits then none else some r.wid) := by
  have front : splitRebuild s.t.rebuilds = ([], some (r, l)) := by simp [splitRebuild, hq, hr]
  rw [State.rebuildCheck, front]
  rfl

theorem completes_rebuild_fits {r : Rebuild} {l : List Rebuild} (hs : s.runs = true) (hq : s.t.rebuilds = r :: l)
    (hr : r.ok = false) (hf : (s.applyChange r.chg).tableFits = true) : completes .tickTableRebuild s fun t =>
      t.t.rebuilds = { r with ok := true } :: l ∧ Frame false [.t] (· = A.SYS_TT_STAT) s t := by
  refine completes_clocked rfl hs ?_
  simp only [State.rebuildRow, rebuildCheck_cons hq hr, hf, if_true]
  exact ⟨rfl, Frame.settle (((Frame.refl _ [.t] (· = A.SYS_TT_STAT) s).modT (by simp) _).putb (f := F.SYS_TT_STAT_BUILDING) rfl _)⟩

theorem wordFailed_zero (st : Nat) (s : State) : s.wordFailed 0 st = s := rfl

theorem completes_rebuild_dropped {r : Rebuild} {l : List Rebuild} (hs : s.runs = true) (hq : s.t.rebuilds = r :: l)
    (hr : r.ok = false) (hw : r.wid = 0) (hf : (s.applyChange r.chg).tableFits = false) : completes .tickTableRebuild s fun t =>
      t.t.rebuilds = l ∧ Frame false [.t] (· = A.SYS_TT_STAT) s t := by
  refine completes_clocked rfl hs ?_
  simp only [State.rebuildRow, rebuildCheck_cons hq hr, hf, hw, Bool.false_eq_true, if_false, wordFailed_zero]
  exact ⟨rfl, Frame.settle (((Frame.refl _ [.t] (· = A.SYS_TT_STAT) s).modT (by simp) _).putb (f := F.SYS_TT_STAT_BUILDING) rfl _)⟩

/-- The burst time since the last charge, added to the partial bin (01 R37). -/
theorem binRoll_bins (s : State) : s.binRoll.t.bins = (0 :: (match s.t.bins with
    | [] => [if s.burstOn then s.clk - s.t.burstAt else 0]
    | b :: l => (b + if s.burstOn then s.clk - s.t.burstAt else 0) :: l)).take 61 := rfl

theorem binRoll_remain (s : State) : s.binRoll.get F.SYS_BURST_BUD_REMAIN_US =
    (1600000000 - s.binRoll.t.bins.foldl (· + ·) 0) / 800 % 2 ^ 21 :=
  State.get_put_same _ (by decide) _

theorem Frame.binRoll (h : Frame ev ps W s u) (hp : .t ∈ ps) (hw : W A.SYS_BURST_BUD) : Frame ev ps W s u.binRoll :=
  ((h.burstCharge hp hw _).modT hp _).put (f := F.SYS_BURST_BUD_REMAIN_US) hw _

theorem setSync_syncSt (s : State) {st : Nat} (h : st < 4) : (s.setSync st).syncSt = st := by
  have put : (s.put F.SYS_SYNC_STAT_STATE st).get F.SYS_SYNC_STAT_STATE = st := by
    rw [State.get_put_same s (by decide)]; exact Nat.mod_eq_of_lt h
  unfold State.setSync State.syncSt
  dsimp only
  split
  · exact put
  · split <;> exact put

/-- The alignment state moves, and the move is logged (12 R365). -/
theorem setSync_logged {st : Nat} (h : st < 4) : ((s.setSync st).bare 4).syncSt = st ∧
    Frame true [.t] (· = A.SYS_SYNC_STAT) s ((s.setSync st).bare 4) := by
  have kept := kept_bare (s.setSync st) (src := 4) (by decide) []
  exact ⟨(State.get_congr (kept.rd A.SYS_SYNC_STAT (by decide))).trans (setSync_syncSt s h),
    ((Frame.refl _ [.t] (· = A.SYS_SYNC_STAT) s).setSync (by simp) rfl st).of_kept kept⟩

theorem syncEdge_rejects {err : Int} (h : s.get F.SYS_SYNC_SRC = 1) (hl : s.syncSt = yLOCKED) (he : 800 < err.natAbs) :
    s.syncEdge err = s.inc F.SYS_SYNC_STAT_REJECT := by simp [State.syncEdge, h, hl, he]

theorem syncEdge_reacquires {err : Int} (h : s.get F.SYS_SYNC_SRC = 1) (hl : s.syncSt = yHOLDOVER) :
    s.syncEdge err = (s.setSync yACQUIRE).bare 4 := by simp [State.syncEdge, h, hl, yHOLDOVER, yLOCKED]

theorem syncHoldover_acts (h : s.syncSt = yACQUIRE ∨ s.syncSt = yLOCKED) : s.syncHoldover = (s.setSync yHOLDOVER).bare 4 := by
  rcases h with h | h <;> simp [State.syncHoldover, h, yACQUIRE, yLOCKED, yFREE, yHOLDOVER]

/-- Settles O7: clause by clause, each row by the law of what it does and by its frame. -/
theorem tickRowsActOnTheTickGenerator : Obligations.TickRowsActOnTheTickGenerator := by
  intro s hr
  refine ⟨?guard, ?fault, fun r l hq ho => completes_rebuild_fits hr hq ho,
    fun r l hq ho => completes_rebuild_dropped hr hq ho, fun err => completes_frameBoundary hr, ?bins, fun err hs hl he => ?reject,
    fun err hs hl => ?reacquire, fun h => ?holdover, ?out⟩
  case guard =>
    refine completes_clocked rfl hr ?_
    rw [guardPoint_nil]
    exact ⟨rfl, Frame.settle (Frame.modT (Frame.refl ..) (by simp) _)⟩
  case fault =>
    intro h8
    refine completes_clocked rfl hr ?_
    simp only [State.metFault, if_pos h8]
    exact ⟨rfl, Frame.settle (Frame.modT (Frame.refl ..) (by simp) _)⟩
  case bins =>
    refine completes_clocked rfl hr ⟨binRoll_bins s, ?_, Frame.settle ((Frame.refl _ [.t] (· = A.SYS_BURST_BUD) s).binRoll (by simp) rfl)⟩
    rw [settle_get]
    exact binRoll_remain s
  case reject =>
    refine completes_clocked rfl hr ?_
    simp only [syncEdge_rejects hs hl he]
    refine ⟨?_, ?_, Frame.settle ((Frame.refl _ [] (· = A.SYS_SYNC_STAT) s).inc (f := F.SYS_SYNC_STAT_REJECT) rfl _)⟩
    · rw [settle_get, State.inc, State.get_put_same s (by decide)]
      exact Nat.mod_mod _ _
    · exact (settle_get ..).trans ((State.get_put_field s (f := F.SYS_SYNC_STAT_REJECT) (g := F.SYS_SYNC_STAT_STATE)
        (by decide) (by decide) rfl (by decide) _).trans hl)
  case reacquire =>
    refine completes_clocked rfl hr ?_
    simp only [syncEdge_reacquires hs hl]
    obtain ⟨moved, fr⟩ := setSync_logged (s := s) (st := yACQUIRE) (by decide)
    exact ⟨(settle_get ..).trans moved, congrArg TickSt.stepped (kept_bare (s.setSync yACQUIRE) (src := 4) (by decide) []).t, fr.settle⟩
  case holdover =>
    refine completes_clocked rfl hr ?_
    simp only [syncHoldover_acts h]
    obtain ⟨moved, fr⟩ := setSync_logged (s := s) (st := yHOLDOVER) (by decide)
    exact ⟨(settle_get ..).trans moved, fr.settle⟩
  case out =>
    exact completes_clocked rfl hr ⟨rfl, Frame.settle (Frame.modT (Frame.refl ..) (by simp) _)⟩

end Sys2Proof.Machine
end

section
/-! SUPPORT. The host side is not read by what decides a write: a change of the planned configuration, and every check of
R516 but the one on open streams, gives the same answer whoever acts (12 R366, 15 R516). -/

namespace Sys2Proof.Machine

variable {g : HostSt → HostSt}

/-- `f` neither reads nor changes the host side. -/
def Hostless (f : State → State) : Prop := ∀ (g : HostSt → HostSt) (s : State), f (s.modHost g) = (f s).modHost g

theorem Hostless.comp {f k : State → State} (hf : Hostless f) (hk : Hostless k) : Hostless fun s => f (k s) := fun g s =>
  (congrArg f (hk g s)).trans (hf g (k s))

theorem Hostless.foldl {β : Type} {f : State → β → State} (h : ∀ b, Hostless fun s => f s b) (l : List β) :
    Hostless fun s => l.foldl f s := fun g s => by
  induction l generalizing s with
  | nil => rfl
  | cons b t ih => exact (congrArg (t.foldl f) (h b g s)).trans (ih (f s b))

theorem Hostless.each {f : Nat → State → State} (h : ∀ i, Hostless (f i)) (l : List Nat) : Hostless fun s => s.each l f :=
  Hostless.foldl (f := fun s i => f i s) h l

/-- A choice on what the host side does not enter. -/
theorem Hostless.ite {p : State → Prop} [DecidablePred p] {f k : State → State} (hp : ∀ g s, p (s.modHost g) ↔ p s)
    (hf : Hostless f) (hk : Hostless k) : Hostless fun s => if p s then f s else k s := fun g s => by
  by_cases h : p s
  · simp only [if_pos h, if_pos ((hp g s).mpr h)]; exact hf g s
  · simp only [if_neg h, if_neg (fun h' => h ((hp g s).mp h'))]; exact hk g s

theorem Hostless.when {b : State → Bool} {f : State → State} (hb : ∀ g s, b (s.modHost g) = b s) (hf : Hostless f) :
    Hostless fun s => s.when (b s) f :=
  Hostless.ite (p := fun s => b s = true) (fun g s => by rw [hb g s]) hf fun _ _ => rfl

theorem hostless_gateUpdate (c h : Nat) : Hostless (State.gateUpdate c h) := fun _ _ => rfl

/-- What forcing does to the slots, once the masks of the forced ones, now and before, are known (07 R233). -/
def State.forceSlots (c now old : Nat) (s : State) : State :=
  (s.each hbs fun h s =>
    if now.testBit h then s.modHb c h fun x => { x with p := false, e := false, relWait := false, nRel := 0, vpWait := false, vpNext := false, vpMean := none }
    else if old.testBit h then
      (s.modHb c h fun x => { x with relWait := true }).modGate c h fun g =>
        { g with settle := g.checking, checking := false, refreshDue := true }
    else s).each hbs (State.gateUpdate c)

/-- The half-bridges with `f`, as a bit mask. -/
def hbMask (f : Nat → Bool) : Nat := hbs.foldl (fun m h => if f h then m + 2 ^ h else m) 0

theorem applyForce_eq (c : Nat) (s : State) : s.applyForce c =
    (((s.put (F.PWM_FSTAT_OFF_EFF c) (hbMask (s.forced c))).put (F.PWM_FSTAT_ROLE c) (hbMask (s.roleHolds c))).putb
      (F.PWM_FSTAT_MODE c) (s.modeHolds c)).forceSlots c (hbMask (s.forced c)) (s.get (F.PWM_FSTAT_OFF_EFF c)) := rfl

theorem hostless_forceSlots (c now old : Nat) : Hostless (State.forceSlots c now old) :=
  (Hostless.each (hostless_gateUpdate c) hbs).comp (Hostless.each (fun _ =>
    Hostless.ite (fun _ _ => Iff.rfl) (fun _ _ => rfl) (Hostless.ite (fun _ _ => Iff.rfl) (fun _ _ => rfl) fun _ _ => rfl)) hbs)

theorem modHost_put (s : State) (f : Fld) (v : Nat) : (s.modHost g).put f v = (s.put f v).modHost g := rfl
theorem modHost_putb (s : State) (f : Fld) (b : Bool) : (s.modHost g).putb f b = (s.putb f b).modHost g := rfl
theorem modHost_role (s : State) (c : Nat) : (s.modHost g).role c = s.role c := rfl
theorem modHost_forced (s : State) (c : Nat) : (s.modHost g).forced c = s.forced c := rfl
theorem modHost_roleHolds (s : State) (c : Nat) : (s.modHost g).roleHolds c = s.roleHolds c := rfl
theorem modHost_modeHolds (s : State) (c : Nat) : (s.modHost g).modeHolds c = s.modeHolds c := rfl

theorem hostless_applyForce (c : Nat) : Hostless (State.applyForce c) := by
  intro g s
  rw [applyForce_eq, applyForce_eq, modHost_forced, modHost_roleHolds, modHost_modeHolds, State.modHost_get,
    modHost_put, modHost_put, modHost_putb, hostless_forceSlots]

theorem hostless_put (f : Fld) (v : Nat) : Hostless fun s => s.put f v := fun _ _ => rfl
theorem hostless_modCh (c : Nat) (f : Ch → Ch) : Hostless fun s => s.modCh c f := fun _ _ => rfl

/-- RATIO of the carrier, for a channel in role `r` (07 R219). -/
def State.ratioFor (c r : Nat) (s : State) : State :=
  if r = rDCB ∨ r = rDCP then s.put (F.PWM_CAR_RATIO c) (s.get (F.DC_CFG_RATIO c))
  else if r = rMACH then s.put (F.PWM_CAR_RATIO c) (s.get (F.MACH_CFG_RATIO c)) else s

/-- Carrier offsets of half-bridges in role `r`, for carrier period `prd` (07 R219). -/
def State.offsetsFor (c r prd : Nat) (s : State) : State :=
  (s.each hbs fun h s =>
    s.put (F.PWM_OFS_OFS c h) (if r = rDCB ∨ r = rDCP then (if h < s.legs c then h * prd / s.legs c else 0) else 0)).modCh c
      fun x => { x with carWait := true }

theorem ownCarrier_eq (c : Nat) (s : State) : s.ownCarrier c =
    let u := (s.put (F.PWM_CAR_VP c) (if s.role c = rDCB ∨ s.role c = rDCP then s.get (F.DC_CFG_CAR c) else 0)).ratioFor c (s.role c)
    if s.role c = rIDLE then u
    else u.offsetsFor c (s.role c) (prdOf (u.get F.SYS_TICK_TICK_DIV) (u.get (F.PWM_CAR_RATIO c))) := rfl

theorem hostless_ratioFor (c r : Nat) : Hostless (State.ratioFor c r) :=
  Hostless.ite (fun _ _ => Iff.rfl) (fun _ _ => rfl) (Hostless.ite (fun _ _ => Iff.rfl) (fun _ _ => rfl) fun _ _ => rfl)

theorem hostless_offsetsFor (c r prd : Nat) : Hostless (State.offsetsFor c r prd) :=
  (hostless_modCh c _).comp (Hostless.each (fun _ _ _ => rfl) hbs)

theorem hostless_ownCarrier (c : Nat) : Hostless (State.ownCarrier c) := by
  intro g s
  rw [ownCarrier_eq, ownCarrier_eq, modHost_role, State.modHost_get, modHost_put, hostless_ratioFor]
  dsimp only
  split
  · rfl
  · exact hostless_offsetsFor c _ _ g _

theorem hostless_installCtx (c k : Nat) (t : Tmpl) : Hostless (State.installCtx c k t) :=
  (hostless_modCh c fun x => { x with firstRun := setBits x.firstRun k k 1 }).comp
    (Hostless.foldl (fun _ _ _ => rfl) (List.range 64))

/-- The contexts of a role's template (04 R108, 06 R181). -/
def State.templateOf (s : State) (c r : Nat) : List Tmpl :=
  if r = rGRID then s.gridTemplate c else if r = rMACH then s.machTemplate c else if r = rIDLE then [] else s.dcTemplate c r

/-- The channel is freed of its role's contexts, and its role named (04 R107). -/
def State.leaveRole (c r : Nat) (s : State) : State :=
  ((List.range (tmplSize (s.role c))).foldl (fun s k => s.setCx c k 0 (setBits (s.cx c k 0) 0 0 0)) s).put (F.ROLE_SEL_ROLE c) r

/-- The contexts are there; the channel stands in OFF with nothing begun (04 R120, 06 R181). -/
def State.enterRole (c : Nat) (s : State) : State :=
  (((s.when (s.cst c != sTAIL) fun s => s.put (F.ROLE_STAT_CH_STATE c) sOFF).modCh c fun x =>
    { x with startNext := false, grid := {}, dc := {}, mach := {} }).ownCarrier c).applyForce c

theorem applyRole_eq (c r : Nat) (s : State) : s.applyRole c r =
    ((((s.leaveRole c r).templateOf c r).zipIdx).foldl (fun s x => s.installCtx c x.2 x.1) (s.leaveRole c r)).enterRole c := rfl

theorem modHost_templateOf (s : State) (c r : Nat) : (s.modHost g).templateOf c r = s.templateOf c r := rfl

theorem hostless_leaveRole (c r : Nat) : Hostless (State.leaveRole c r) := fun g s =>
  ((hostless_put (F.ROLE_SEL_ROLE c) r).comp (Hostless.foldl (f := fun s k => s.setCx c k 0 (setBits (s.cx c k 0) 0 0 0))
    (fun _ _ _ => rfl) (List.range (tmplSize (s.role c))))) g s

theorem hostless_enterRole (c : Nat) : Hostless (State.enterRole c) :=
  (hostless_applyForce c).comp ((hostless_ownCarrier c).comp ((hostless_modCh c _).comp
    (Hostless.when (fun _ _ => rfl) (hostless_put _ _))))

theorem hostless_applyRole (c r : Nat) : Hostless (State.applyRole c r) := by
  intro g s
  rw [applyRole_eq, applyRole_eq, hostless_leaveRole, modHost_templateOf]
  exact ((hostless_enterRole c).comp (Hostless.foldl (f := fun s (x : Tmpl × Nat) => s.installCtx c x.2 x.1)
    (fun x => hostless_installCtx c x.2 x.1) _)) g _

/-- The context of leg `h` of `n` (06 R187). -/
def State.legCtx (c n h : Nat) (s : State) : State :=
  ((s.setCx c h 0 (setBits (s.cx c h 0) 0 0 (b2n (h < n)))).setCx c h 1
    (setBits (s.cx c h 1) 15 8 (s.legIn c h))).when
      (!bit (s.cx c h 0) 0 && h < n) fun s => s.modCh c fun x => { x with firstRun := setBits x.firstRun h h 1 }

theorem applyLegs_eq (c : Nat) (v : Word) (s : State) : s.applyLegs c v =
    ((((s.wr (A.DC_CFG c) v).each [0, 1, 2, 3] (State.legCtx c ((s.wr (A.DC_CFG c) v).legs c))).ownCarrier c).applyForce c) := rfl

theorem hostless_legCtx (c n h : Nat) : Hostless (State.legCtx c n h) :=
  Hostless.ite (p := fun s => (!bit (s.cx c h 0) 0 && h < n) = true) (fun _ _ => Iff.rfl) (fun _ _ => rfl) fun _ _ => rfl

theorem hostless_applyLegs (c : Nat) (v : Word) : Hostless (State.applyLegs c v) := fun g s => by
  rw [applyLegs_eq, applyLegs_eq]
  exact ((hostless_applyForce c).comp ((hostless_ownCarrier c).comp
    (Hostless.each (hostless_legCtx c ((s.wr (A.DC_CFG c) v).legs c)) [0, 1, 2, 3]))) g (s.wr (A.DC_CFG c) v)

/-- What a change of the tick table does to the configuration does not depend on the host side. -/
theorem hostless_applyChange (x : Change) : Hostless (State.applyChange x) := by
  cases x with
  | ctxWord c k w v =>
    exact Hostless.ite (p := fun s => (!bit (s.cx c k 0) 0 && bit ((s.setCx c k w v).cx c k 0) 0) = true) (fun _ _ => Iff.rfl)
      (fun _ _ => rfl) fun _ _ => rfl
  | tickDiv v => exact (Hostless.each hostless_ownCarrier chans).comp (hostless_put F.SYS_TICK_TICK_DIV v)
  | role c r => exact hostless_applyRole c r
  | legs c v => exact hostless_applyLegs c v

theorem hostless_changes (l : List Rebuild) : Hostless fun s => l.foldl (fun s r => s.applyChange r.chg) s :=
  Hostless.foldl (fun r => hostless_applyChange r.chg) l

theorem hostless_planned : Hostless State.planned := fun g s => hostless_changes s.t.rebuilds g s

/-! ### The checks of a write -/

theorem modHost_condOk (s : State) (a : Nat) (k : WrCond) : (s.modHost g).condOk a k = s.condOk a k := by cases k <;> rfl

theorem modHost_wholeStatus (s : State) (a : Nat) (act : RegAct) (v : Word) :
    (s.modHost g).wholeStatus a act v = s.wholeStatus a act v := by cases act <;> rfl

theorem modHost_chopOk (s : State) (c : Nat) (gain mx rel : Word) : (s.modHost g).chopOk c gain mx rel = s.chopOk c gain mx rel := by
  unfold State.chopOk
  rw [hostless_planned]
  rfl

/-- The value of a field is judged the same by every actor: only open streams of the host side enter (02 R77). -/
theorem modHost_valStatus (hg : ∀ h, (g h).streams = h.streams) (s : State) (a : Nat) (f : RegField) (v : Word) :
    (s.modHost g).valStatus a f v = s.valStatus a f v := by
  obtain ⟨hi, lo, acc, rst, cond, chk⟩ := f
  cases chk with
  | burstEn => simp only [State.valStatus, State.modHost_t, hostless_changes _ g s]; rfl
  | chopGain => simp only [State.valStatus, modHost_chopOk]; rfl
  | chopMax => simp only [State.valStatus, modHost_chopOk]; rfl
  | chopRel => simp only [State.valStatus, modHost_chopOk]; rfl
  | chopMode => simp only [State.valStatus, modHost_chopOk]; rfl
  | survRd => simp only [State.valStatus, State.modHost_same, hg]
  | _ => rfl

end Sys2Proof.Machine
end

section
/-! SUPPORT. A register write through the checks of R516: what each answer leaves, and what a write that passes does. -/

namespace Sys2Proof.Machine

variable {s u : State} {i a wid k : Nat} {v : Word} {r : Row}

/-! ### The actor and the answer -/

/-- Session `i` acts (12 R366). -/
def State.acting (s : State) (i : Nat) : State := s.modHost fun h => { h with actor := i }

/-- The write of `s` has led to `u` and is answered `k`: nobody acts any longer than before. -/
def State.answered (s u : State) (k : Nat) : State := u.modHost fun h => { h with actor := s.host.actor, ans := k }

theorem answered_host (h : u.host = (s.acting i).host) (k : Nat) : (s.answered u k).host = { s.host with ans := k } := by
  simp only [State.answered, State.modHost_same, h, State.acting]

theorem State.each_id {f : Nat → State → State} {l : List Nat} (h : ∀ j ∈ l, f j s = s) : s.each l f = s := by
  induction l with
  | nil => rfl
  | cons j t ih =>
    have hj := h j (by simp)
    simp only [State.each, List.foldl_cons, hj]
    exact ih fun k hk => h k (List.mem_cons_of_mem j hk)

/-- No mailbox has been filled: none times out late (14 R428). -/
theorem mbLate_id (h : ∀ m < 16, u.flag (F.HOST_MBS_FULL m) = s.flag (F.HOST_MBS_FULL m)) : s.mbLate u = u := by
  refine State.each_id fun m hm => ?_
  have full := h m (List.mem_range.mp hm)
  cases hs : s.flag (F.HOST_MBS_FULL m)
  · have timeout : u.mbTimeout m = u := by simp [State.mbTimeout, full, hs]
    unfold State.when
    split
    · exact timeout
    · rfl
  · simp [State.when]

theorem acting_session (hi : i < 16) (s : State) : (s.modHost fun h => { h with actor := if i < 16 then i else 255 }) = s.acting i := by
  simp only [hi, if_true]; rfl

/-- A write that holds the claim comes to the row of its register. -/
theorem writeReg_row (hi : i < 16) (hc : s.claimOk i a v = true) (hx : isCtx a = false) (hr : rowAt a = some r)
    (h : (s.acting i).writeRow r i a v wid = (u, k)) :
    s.writeReg i a v wid = (u.modHost fun h => { h with actor := s.host.actor }, k) := by
  unfold State.writeReg
  simp only [hc, hx, hr, acting_session hi, h, Bool.not_true, Bool.false_eq_true, if_false]

/-- A row's write by an open session, where it fills no mailbox. -/
theorem rowWrite_row {w : RegWr} (ho : s.sesOpen w.ses.val = true) (hc : s.claimOk w.ses.val a v = true) (hx : isCtx a = false)
    (hr : rowAt a = some r) (h : (s.acting w.ses.val).writeRow r w.ses.val a v 0 = (u, k))
    (hm : ∀ m < 16, u.flag (F.HOST_MBS_FULL m) = s.flag (F.HOST_MBS_FULL m)) : s.rowWrite w a v = s.answered u k := by
  unfold State.rowWrite
  simp only [ho, writeReg_row w.ses.isLt hc hx hr h, Bool.not_true, Bool.false_eq_true, if_false]
  exact mbLate_id hm

/-! ### The checks -/

/-- Fields of `r` that a write of `v` to `a` changes (15 R519). -/
def State.changed (s : State) (r : Row) (a : Nat) (v : Word) : List RegField :=
  r.fields.filter fun f => fieldWritten r.act f (s.rd a) v

theorem mem_changed {f : RegField} : f ∈ s.changed r a v ↔ f ∈ r.fields ∧ fieldWritten r.act f (s.rd a) v = true := List.mem_filter

/-- The action of `r` follows the write: a field changes, or the register acts on every write. -/
def State.acts (s : State) (r : Row) (a : Nat) (v : Word) : Bool := !(s.changed r a v).isEmpty || actAlways r.act

/-- The status that checks 5 of R516 give: the first changed field with a refused value, then the register as a whole. -/
def State.rowStatus (s : State) (r : Row) (a : Nat) (v : Word) : Nat :=
  (((s.changed r a v).map fun f => s.valStatus a f v).find? (· != OK)).getD (if s.acts r a v then s.wholeStatus a r.act v else OK)

/-- The word that a write of `v` stores in the register of row `r`. -/
def storedWord (r : Row) (old v : Word) : Word :=
  let new := (old &&& ~~~(rowWritable r)) ||| (v &&& rowWritable r)
  if rowSc r = 0#32 then new else seqClear new v (rowSc r)

/-- The register holds the word, and the session's action follows. -/
def State.effect (s : State) (r : Row) (i a : Nat) (v : Word) (wid : Nat) : State × Nat :=
  let u := if actStores r.act then (s.acting i).wr a (storedWord r (s.rd a) v) else s.acting i
  if s.acts r a v then u.regAct r.act i a (s.rd a) v wid else (u, OK)

/-- Checks 3 to 5 and the effect (15 R516), judged on the state as it stood before the session acts. -/
theorem writeRow_acting (s : State) (r : Row) (i a : Nat) (v : Word) (wid : Nat) : (s.acting i).writeRow r i a v wid =
    if v &&& ~~~(rowMask r) ≠ 0#32 then (s.acting i, BAD_PARAM)
    else if !((s.changed r a v).all fun f => s.condOk a f.cond) then (s.acting i, NOT_IN_MODE)
    else if s.rowStatus r a v ≠ OK then (s.acting i, s.rowStatus r a v)
    else s.effect r i a v wid := by
  unfold State.writeRow
  simp only [State.acting, State.modHost_rd, modHost_condOk, modHost_wholeStatus, modHost_valStatus (g := fun h => { h with actor := i }) fun _ => rfl]
  rfl

/-- Check 4: a changed field whose condition does not hold. -/
theorem writeRow_notInMode (hv : v &&& ~~~(rowMask r) = 0#32) {f : RegField} (hf : f ∈ s.changed r a v)
    (hc : s.condOk a f.cond = false) : (s.acting i).writeRow r i a v wid = (s.acting i, NOT_IN_MODE) := by
  have no : ((s.changed r a v).all fun f => s.condOk a f.cond) = false := List.all_eq_false.mpr ⟨f, hf, by simp [hc]⟩
  rw [writeRow_acting, if_neg (not_not.mpr hv), no]
  rfl

/-- Check 5, at the only changed field. -/
theorem writeRow_badValue (hv : v &&& ~~~(rowMask r) = 0#32) {f : RegField} (hf : s.changed r a v = [f])
    (hc : s.condOk a f.cond = true) (hst : s.valStatus a f v ≠ OK) :
    (s.acting i).writeRow r i a v wid = (s.acting i, s.valStatus a f v) := by
  have st : s.rowStatus r a v = s.valStatus a f v := by simp [State.rowStatus, hf, hst]
  rw [writeRow_acting, if_neg (not_not.mpr hv), st, if_pos hst]
  simp [hf, hc]

/-- Every check passed. -/
theorem writeRow_effect (hv : v &&& ~~~(rowMask r) = 0#32) (hc : ∀ f ∈ s.changed r a v, s.condOk a f.cond = true)
    (hst : ∀ f ∈ s.changed r a v, s.valStatus a f v = OK) (hw : s.acts r a v = true → s.wholeStatus a r.act v = OK) :
    (s.acting i).writeRow r i a v wid = s.effect r i a v wid := by
  have all : ((s.changed r a v).all fun f => s.condOk a f.cond) = true := List.all_eq_true.mpr hc
  have none : ((s.changed r a v).map fun f => s.valStatus a f v).find? (· != OK) = none := by
    simp only [List.find?_eq_none, List.mem_map, forall_exists_index, and_imp, forall_apply_eq_imp_iff₂]
    exact fun f hf => by simp [hst f hf]
  have st : s.rowStatus r a v = OK := by
    rw [State.rowStatus, none, Option.getD_none]
    split
    · exact hw ‹_›
    · rfl
  rw [writeRow_acting, if_neg (not_not.mpr hv), all, st]
  rfl

/-- What `State.passes` says, check by check. -/
theorem passes_iff (hr : rowAt a = some r) : s.passes i a v = true ↔
    s.hosted = true ∧ s.sesOpen i = true ∧ s.claimOk i a v = true ∧ v &&& ~~~(rowMask r) = 0#32 ∧
      (∀ f ∈ s.changed r a v, s.condOk a f.cond = true ∧ s.valStatus a f v = OK) ∧
      (s.acts r a v = true → s.wholeStatus a r.act v = OK) := by
  unfold State.passes
  rw [hr]
  simp only [Bool.and_eq_true, List.all_eq_true, beq_iff_eq, Bool.or_eq_true, and_assoc, Bool.not_eq_true', State.changed, State.acts]
  have whole : ∀ (b c : Bool) (p : Prop), (b = true ∧ c = false ∨ p) ↔ (b = false ∨ c = true → p) := fun b c p => by
    cases b <;> cases c <;> simp
  rw [whole]

/-- Every check passed: the row's write is its effect. -/
theorem writeRow_passes (hr : rowAt a = some r) (hp : s.passes i a v = true) :
    (s.acting i).writeRow r i a v wid = s.effect r i a v wid := by
  obtain ⟨-, -, -, hv, hf, hw⟩ := (passes_iff hr).mp hp
  exact writeRow_effect hv (fun f h => (hf f h).1) (fun f h => (hf f h).2) hw

/-! ### What a write that passes leaves -/

section
variable (s u : State) (k : Nat)

@[simp] theorem answered_rd (a : Nat) : (s.answered u k).rd a = u.rd a := rfl
@[simp] theorem answered_get (f : Fld) : (s.answered u k).get f = u.get f := rfl
@[simp] theorem answered_flag (f : Fld) : (s.answered u k).flag f = u.flag f := rfl
@[simp] theorem answered_bitOf (f : Fld) (j : Nat) : (s.answered u k).bitOf f j = u.bitOf f j := rfl
@[simp] theorem answered_cx (c j w : Nat) : (s.answered u k).cx c j w = u.cx c j w := rfl
@[simp] theorem answered_t : (s.answered u k).t = u.t := rfl
@[simp] theorem answered_chn (c : Nat) : (s.answered u k).chn c = u.chn c := rfl
@[simp] theorem answered_ride : (s.answered u k).ride = u.ride := rfl
@[simp] theorem answered_surv : (s.answered u k).surv = u.surv := rfl
@[simp] theorem answered_ans : (s.answered u k).host.ans = k := rfl

end

variable {ev : Bool} {ps : List Part} {W : Nat → Prop}

theorem Frame.acting (hp : .host ∈ ps) (s : State) (i : Nat) : Frame ev ps W s (s.acting i) := Frame.modHost (Frame.refl ..) hp _

theorem Frame.answered (h : Frame ev ps W s u) (hp : .host ∈ ps) (k : Nat) : Frame ev ps W s (s.answered u k) := h.modHost hp _

theorem Frame.full_kept (h : Frame ev ps W s u) (hW : ∀ m < 16, ¬ W (A.HOST_MBS m)) :
    ∀ m < 16, u.flag (F.HOST_MBS_FULL m) = s.flag (F.HOST_MBS_FULL m) := fun m hm =>
  State.flag_congr (State.get_congr (f := F.HOST_MBS_FULL m) (h.words (A.HOST_MBS m) (hW m hm) fun _ => by
    rw [Bool.eq_false_iff, Ne, bookAddr_iff, A.HOST_MBS]; omega))

/-- A write that holds the claim completes as its row answers it. -/
theorem completes_row {x : Instr} {w : RegWr} {P : State → Prop} (he : exec x s = State.byHost (State.rowWrite w a v) s)
    (hh : s.hosted = true) (ho : s.sesOpen w.ses.val = true) (hc : s.claimOk w.ses.val a v = true)
    (hr : rowAt a = some r) (hx : isCtx a = false) (h : (s.acting w.ses.val).writeRow r w.ses.val a v 0 = (u, k))
    (hf : Frame ev ps W s u) (hW : ∀ m < 16, ¬ W (A.HOST_MBS m)) (hs : .host ∈ ps)
    (hP : Frame ev ps W s (settle s (s.answered u k)) → P (settle s (s.answered u k))) : completes x s P := by
  refine completes_byHost he hh ?_
  rw [rowWrite_row ho hc hx hr h (hf.full_kept hW)]
  exact hP (hf.answered hs k).settle

/-- A write that its row answers without an effect. -/
theorem completes_onlyAnswered {x : Instr} {w : RegWr} (he : exec x s = State.byHost (State.rowWrite w a v) s)
    (hh : s.hosted = true) (ho : s.sesOpen w.ses.val = true) (hc : s.claimOk w.ses.val a v = true)
    (hr : rowAt a = some r) (hx : isCtx a = false) (h : (s.acting w.ses.val).writeRow r w.ses.val a v 0 = (s.acting w.ses.val, k)) :
    completes x s fun t => OnlyAnswered k s t :=
  completes_row he hh ho hc hr hx h (Frame.acting (ps := [.host]) (by simp) ..) (fun _ _ => id) (by simp)
    fun hf => ⟨answered_host rfl k, hf⟩

/-- A write that passes completes with its effect, answered. -/
theorem completes_effect {x : Instr} {w : RegWr} {P : State → Prop} (he : exec x s = State.byHost (State.rowWrite w a v) s)
    (hr : rowAt a = some r) (hx : isCtx a = false) (hp : s.passes w.ses.val a v = true)
    (hu : s.effect r w.ses.val a v 0 = (u, k)) (hf : Frame ev ps W s u) (hW : ∀ m < 16, ¬ W (A.HOST_MBS m)) (hs : .host ∈ ps)
    (hP : Frame ev ps W s (settle s (s.answered u k)) → P (settle s (s.answered u k))) : completes x s P := by
  obtain ⟨hh, ho, hc, -⟩ := (passes_iff hr).mp hp
  exact completes_row he hh ho hc hr hx ((writeRow_passes hr hp).trans hu) hf hW hs hP

/-- The state in which the action of a register that stores its word begins. -/
def State.written (s : State) (r : Row) (i a : Nat) (v : Word) : State := (s.acting i).wr a (storedWord r (s.rd a) v)

theorem effect_acts (hst : actStores r.act = true) (ha : s.acts r a v = true) :
    s.effect r i a v wid = (s.written r i a v).regAct r.act i a (s.rd a) v wid := by
  simp [State.effect, hst, ha, State.written]

theorem effect_idle (hst : actStores r.act = true) (ha : s.acts r a v = false) :
    s.effect r i a v wid = (s.written r i a v, OK) := by
  simp [State.effect, hst, ha, State.written]

/-- An action that does nothing where no field changes is the effect of every write. -/
theorem effect_eq (hst : actStores r.act = true)
    (h : s.acts r a v = false → (s.written r i a v).regAct r.act i a (s.rd a) v wid = (s.written r i a v, OK)) :
    s.effect r i a v wid = (s.written r i a v).regAct r.act i a (s.rd a) v wid := by
  cases ha : s.acts r a v
  · exact (effect_idle hst ha).trans (h ha).symm
  · exact effect_acts hst ha

theorem kept_of_idle (h : s.acts r a v = false) {f : RegField} (hf : f ∈ r.fields) (hrw : f.acc = .rw) :
    bits v f.hi f.lo = bits (s.rd a) f.hi f.lo := by
  simp only [State.acts, Bool.or_eq_false_iff, Bool.not_eq_false', List.isEmpty_iff, State.changed, List.filter_eq_nil_iff] at h
  have := h.1 f hf
  simp only [fieldWritten, hrw, Bool.or_eq_true, bne_iff_ne, not_or, not_not] at this
  exact this.1

theorem acts_of_ne {f : RegField} (hf : f ∈ r.fields) (hrw : f.acc = .rw) (h : bits v f.hi f.lo ≠ bits (s.rd a) f.hi f.lo) :
    s.acts r a v = true := by
  by_contra hn
  exact h (kept_of_idle (Bool.eq_false_iff.mpr hn) hf hrw)

theorem merged_eq (hr : rowAt a = some r) (hsc : rowSc r = 0#32) : s.merged a v = storedWord r (s.rd a) v := by
  simp [State.merged, storedWord, hr, hsc]

theorem written_rd_ne {b : Nat} (h : b ≠ a) : (s.written r i a v).rd b = s.rd b := State.rd_wr_ne _ h _

theorem written_stored (hr : rowAt a = some r) (hsc : rowSc r = 0#32) : Stored a v s (s.written r i a v) := by
  rw [Stored, merged_eq hr hsc]
  exact State.rd_wr_same ..

/-- A bit is a field of its own. -/
theorem bit_eq_bits (w : Word) (j : Nat) : bit w j = (bits w j j == 1) := by
  rw [bit, Nat.testBit_eq_decide_div_mod_eq, bits, Nat.shiftRight_eq_div_pow, Nat.add_sub_cancel_left, pow_one]
  rfl

/-- A field within the mask of a merge comes from the masked side. -/
theorem bits_merge {hi lo : Nat} (h : hi < 32) {m : Word} (hm : bitMask hi lo &&& m = bitMask hi lo) (x y : Word) :
    bits ((x &&& ~~~m) ||| (y &&& m)) hi lo = bits y hi lo := by
  apply Nat.eq_of_testBit_eq; intro j
  rw [bits_testBit, bits_testBit]
  by_cases hj : j < hi + 1 - lo
  · have inField : (bitMask hi lo).toNat.testBit (j + lo) = true := by
      rw [bitMask_testBit h]; simp; omega
    have inMask : m.getLsbD (j + lo) = true := by
      have both : (bitMask hi lo &&& m).toNat.testBit (j + lo) = true := by rw [hm, inField]
      rw [BitVec.toNat_and, Nat.testBit_and, inField, Bool.true_and] at both
      exact both
    change (_ && BitVec.getLsbD _ _) = (_ && BitVec.getLsbD _ _)
    simp [inMask]
  · simp [hj]

theorem bits_storedWord {hi lo : Nat} (h : hi < 32) (hsc : rowSc r = 0#32) (hm : bitMask hi lo &&& rowWritable r = bitMask hi lo)
    (old v : Word) : bits (storedWord r old v) hi lo = bits v hi lo := by
  simp only [storedWord, hsc, if_true]
  exact bits_merge h hm old v

/-- A writable field of a register that was just written reads as in the written word. -/
theorem written_get {f : Fld} (hf : f.ok = true) (ha : f.addr = a) (hsc : rowSc r = 0#32)
    (hm : bitMask f.hi f.lo &&& rowWritable r = bitMask f.hi f.lo) : (s.written r i a v).get f = bits v f.hi f.lo := by
  subst ha
  have h32 : f.hi < 32 := by simp only [Fld.ok, Bool.and_eq_true, decide_eq_true_eq] at hf; exact hf.1
  exact (State.get_wr_same _ hf _).trans (bits_storedWord h32 hsc hm _ v)

theorem written_flag {f : Fld} (hf : f.ok = true) (ha : f.addr = a) (h1 : f.hi = f.lo) (hsc : rowSc r = 0#32)
    (hm : bitMask f.hi f.lo &&& rowWritable r = bitMask f.hi f.lo) : (s.written r i a v).flag f = bit v f.lo := by
  rw [State.flag, written_get hf ha hsc hm, h1, bit_eq_bits]

theorem Frame.written (hp : .host ∈ ps) (hw : W a) (s : State) (r : Row) (i : Nat) (v : Word) :
    Frame ev ps W s (s.written r i a v) := (Frame.acting hp s i).wr hw _

end Sys2Proof.Machine
end

section
/-! SUPPORT. Fields as they make up a word, and a set of bits with one of them cleared or set. -/

namespace Sys2Proof.Machine

theorem foldl_bitMask_getLsbD (l : List RegField) (w : Word) (j : Nat) :
    (l.foldl (fun w f => w ||| bitMask f.hi f.lo) w).getLsbD j =
      (w.getLsbD j || l.any fun f => (bitMask f.hi f.lo).getLsbD j) := by
  induction l generalizing w with
  | nil => simp
  | cons f t ih => simp only [List.foldl_cons, ih, BitVec.getLsbD_or, List.any_cons, Bool.or_assoc]

/-- Words with equal fields are equal on the implemented bits. -/
theorem masked_eq_of_fields {r : Row} (h32 : ∀ f ∈ r.fields, f.hi < 32) {v w : Word}
    (h : ∀ f ∈ r.fields, bits v f.hi f.lo = bits w f.hi f.lo) : v &&& rowMask r = w &&& rowMask r := by
  apply BitVec.eq_of_getLsbD_eq; intro j _
  rw [BitVec.getLsbD_and, BitVec.getLsbD_and]
  cases hm : (rowMask r).getLsbD j
  · simp
  · rw [rowMask, foldl_bitMask_getLsbD] at hm
    simp only [BitVec.getLsbD_zero, Bool.false_or, List.any_eq_true] at hm
    obtain ⟨f, hf, hj⟩ := hm
    rw [BitVec.getLsbD, bitMask_testBit (h32 f hf), Bool.and_eq_true, decide_eq_true_eq, decide_eq_true_eq] at hj
    have same := congrArg (fun n : Nat => n.testBit (j - f.lo)) (h f hf)
    have inside : j - f.lo < f.hi + 1 - f.lo := by omega
    simp only [bits_testBit, inside, decide_true, Bool.true_and, Nat.sub_add_cancel hj.1] at same
    simpa [BitVec.getLsbD] using same

/-- A word without reserved bits is its implemented part. -/
theorem and_eq_self_of_and_not {v m : Word} (h : v &&& ~~~m = 0#32) : v &&& m = v := by
  have split : v &&& m ||| v &&& ~~~m = v := by
    rw [← BitVec.and_or_distrib_left, BitVec.or_not_self, BitVec.and_allOnes]
  rwa [h, BitVec.or_zero] at split

/-- A word that differs from the implemented part of another differs from it in a field. -/
theorem exists_field_ne {r : Row} (h32 : ∀ f ∈ r.fields, f.hi < 32) {v w : Word} (hv : v &&& ~~~(rowMask r) = 0#32)
    (hne : v ≠ w &&& rowMask r) : ∃ f ∈ r.fields, bits v f.hi f.lo ≠ bits w f.hi f.lo := by
  by_contra hn
  push Not at hn
  exact hne ((and_eq_self_of_and_not hv).symm.trans (masked_eq_of_fields h32 hn))

/-- Clearing bit `j` of a set of bits leaves the others. -/
theorem State.bitOf_putBit_false (s : State) {f : Fld} (hf : f.ok = true) {j : Nat} (hj : j < f.hi + 1 - f.lo) (m : Nat) :
    (s.putBit f j false).bitOf f m = (s.bitOf f m && m != j) := by
  have others : ∀ w, j < w → (2 ^ w - 1 - 2 ^ j).testBit m = (decide (m < w) && m != j) := fun w hw => by
    rw [Nat.sub_sub, Nat.add_comm, Nat.testBit_two_pow_sub_succ (Nat.pow_lt_pow_right (by omega) hw), Nat.testBit_two_pow]
    by_cases h : j = m
    · simp [h]
    · simp [h, Ne.symm h]
  have inside : (s.get f).testBit m = (decide (m < f.hi + 1 - f.lo) && (s.get f).testBit m) := by
    simp [State.get, bits_testBit]
  rw [State.bitOf, State.putBit, State.get_put_same s hf, if_neg (by simp), Nat.testBit_mod_two_pow, Nat.testBit_and, others _ hj,
    State.bitOf, inside]
  cases decide (m < f.hi + 1 - f.lo) <;> simp

end Sys2Proof.Machine
end

section
/-! SUPPORT. Settling of the modulator inputs (02 R57). -/

namespace Sys2Proof.Machine

variable {ev : Bool} {ps : List Part} {W : Nat → Prop} {s u : State} {c : Nat}

theorem Frame.settleAll (h : Frame ev ps W s u) (hp : .chan c ∈ ps) (hw : W (A.FLT_VALID c)) : Frame ev ps W s (u.settleAll c) :=
  Frame.each _ (fun _ _ _ => Frame.when (Frame.refl ..) _ fun y =>
    ((Frame.refl _ _ W y).putBit (f := F.FLT_VALID_VALID c) hw _ _).modMd hp _ _) h

theorem State.mdi_modMd_same (s : State) {m : Nat} (hc : c < 8) (hm : m < 12) (f : MdSt → MdSt) :
    (s.modMd c m f).mdi c m = f (s.mdi c m) := by
  simp [State.mdi, State.modMd, State.chn_modCh_same s hc, hm]

theorem State.mdi_modMd_ne (s : State) {m j : Nat} (hc : c < 8) (h : j ≠ m) (f : MdSt → MdSt) :
    (s.modMd c j f).mdi c m = s.mdi c m := by
  simp [State.mdi, State.modMd, State.chn_modCh_same s hc, h]

theorem FLT_VALID_ok (hc : c < 8) : (F.FLT_VALID_VALID c).ok = true ∧ (F.FLT_VALID_MCLK_OK c).ok = true :=
  ⟨chanFld_ok hc (by decide), chanFld_ok hc (by decide)⟩

/-- Settling begins on input `d`, where it is enabled (02 R57). -/
def State.settleOne (c d : Nat) (s : State) : State :=
  s.when (s.mdOn c d) fun s => (s.putBit (F.FLT_VALID_VALID c) d false).modMd c d fun x => { x with settling := true }

theorem settleAll_eq (s : State) (c : Nat) : s.settleAll c = s.each mds (State.settleOne c) := rfl

theorem mdOn_putBit_valid (s : State) (d j : Nat) (b : Bool) : (s.putBit (F.FLT_VALID_VALID c) j b).mdOn c d = s.mdOn c d :=
  State.flag_put_ne s (by simp only [F.FLT_IN_CFG_EN, F.FLT_VALID_VALID, A.FLT_IN_CFG, A.FLT_VALID]; omega) _

/-- What the host sees of input `m`: whether it is enabled, its path, whether it is valid. -/
def State.inputView (c m : Nat) (s : State) : Bool × MdSt × Bool := (s.mdOn c m, s.mdi c m, s.bitOf (F.FLT_VALID_VALID c) m)

theorem settleOne_view_ne (s : State) (hc : c < 8) {d m : Nat} (hd : d < 12) (h : d ≠ m) :
    (s.settleOne c d).inputView c m = s.inputView c m := by
  refine State.when_unseen (State.inputView c m) (fun x => ?_) s _
  have bit : (x.putBit (F.FLT_VALID_VALID c) d false).bitOf (F.FLT_VALID_VALID c) m = x.bitOf (F.FLT_VALID_VALID c) m := by
    rw [State.bitOf_putBit_false x (FLT_VALID_ok hc).1 hd, (bne_iff_ne (a := m)).mpr (Ne.symm h), Bool.and_true]
  exact Prod.ext (mdOn_putBit_valid x m d false) (Prod.ext (State.mdi_modMd_ne _ hc h _) bit)

theorem settleOne_view_same (s : State) (hc : c < 8) {m : Nat} (hm : m < 12) : (s.settleOne c m).inputView c m =
    if s.mdOn c m then (true, { s.mdi c m with settling := true }, false) else s.inputView c m := by
  unfold State.settleOne State.when
  split
  · rename_i on
    have bit : (s.putBit (F.FLT_VALID_VALID c) m false).bitOf (F.FLT_VALID_VALID c) m = false := by
      rw [State.bitOf_putBit_false s (FLT_VALID_ok hc).1 hm]; simp
    exact Prod.ext ((mdOn_putBit_valid s m m false).trans on) (Prod.ext (State.mdi_modMd_same _ hc hm _) bit)
  · rfl

theorem settleAll_view (s : State) (hc : c < 8) {m : Nat} (hm : m < 12) : (s.settleAll c).inputView c m =
    if s.mdOn c m then (true, { s.mdi c m with settling := true }, false) else s.inputView c m := by
  rw [settleAll_eq, ← settleOne_view_same s hc hm]
  refine State.each_turn (State.inputView c m) (by simpa [mds] using hm) List.nodup_range
    (fun d hd h x => settleOne_view_ne x hc (List.mem_range.mp hd) h) (fun x y h => ?_) s
  obtain ⟨hon, hrest⟩ := Prod.mk.inj h
  obtain ⟨hmd, -⟩ := Prod.mk.inj hrest
  rw [settleOne_view_same x hc hm, settleOne_view_same y hc hm, hon, hmd, h]

/-- After settling began, an enabled input settles and is not valid. -/
theorem settleAll_enabled (s : State) (hc : c < 8) {m : Nat} (hm : m < 12) (hon : (s.settleAll c).mdOn c m = true) :
    ((s.settleAll c).mdi c m).settling = true ∧ (s.settleAll c).bitOf (F.FLT_VALID_VALID c) m = false := by
  have view := settleAll_view s hc hm
  split at view
  · obtain ⟨-, hrest⟩ := Prod.mk.inj view
    obtain ⟨hmd, hbit⟩ := Prod.mk.inj hrest
    exact ⟨congrArg MdSt.settling hmd, hbit⟩
  · rename_i off
    exact absurd ((Prod.mk.inj view).1.symm.trans hon) off

theorem settleOne_mclkOk (s : State) (hc : c < 8) (d : Nat) :
    (s.settleOne c d).flag (F.FLT_VALID_MCLK_OK c) = s.flag (F.FLT_VALID_MCLK_OK c) := by
  refine State.when_unseen (fun x => x.flag (F.FLT_VALID_MCLK_OK c)) (fun x => ?_) s _
  rw [State.modMd_flag, State.putBit]
  exact State.flag_congr (State.get_put_field x (f := F.FLT_VALID_VALID c) (g := F.FLT_VALID_MCLK_OK c) (FLT_VALID_ok hc).2
    (show 11 < 32 by decide) rfl (show 11 < 12 ∨ 12 < 0 by decide) _)

theorem settleAll_mclkOk (s : State) (hc : c < 8) :
    (s.settleAll c).flag (F.FLT_VALID_MCLK_OK c) = s.flag (F.FLT_VALID_MCLK_OK c) := by
  rw [settleAll_eq]
  exact State.each_unseen (fun x => x.flag (F.FLT_VALID_MCLK_OK c)) (fun d _ x => settleOne_mclkOk x hc d) s

end Sys2Proof.Machine
end

section
/-! SUPPORT. The tick divisor and the modulator clock settings (01 R26, R31; 02 R48, R49, R57). -/

namespace Sys2Proof.Machine

variable {s : State} {a i : Nat} {v : Word} {r : Row}

variable {ev : Bool} {ps : List Part} {W : Nat → Prop} {u : State} in
theorem Frame.queueRebuild (h : Frame ev ps W s u) (hp : .t ∈ ps) (hw : W A.SYS_TT_STAT) (x : Change) (wid : Nat) :
    Frame ev ps W s (u.queueRebuild x wid) := (h.modT hp _).putb (f := F.SYS_TT_STAT_BUILDING) hw _

theorem implMask_row (hx : isCtx a = false) (hr : rowAt a = some r) : implMask a = rowMask r := by
  simp [implMask, hx, hr]

/-- The effect on a register whose word a write does not store. -/
theorem effect_unstored (hst : actStores r.act = false) (wid : Nat) : s.effect r i a v wid =
    if s.acts r a v then (s.acting i).regAct r.act i a (s.rd a) v wid else (s.acting i, OK) := by
  simp [State.effect, hst]

/-! ### SYS_TICK -/

def fieldTickDiv : RegField := rw 16 0 0x4E20 .stdbySvc .tickDiv
def rowTick : Row := ⟨0x100, 4, 1, [fieldTickDiv], .tick⟩

theorem rowAt_tick : rowAt A.SYS_TICK = some rowTick := by decide

theorem tick_changed (h : bits v 16 0 ≠ s.get F.SYS_TICK_TICK_DIV) : s.changed rowTick A.SYS_TICK v = [fieldTickDiv] := by
  have ne : bits v 16 0 ≠ bits (s.rd A.SYS_TICK) 16 0 := h
  simp [State.changed, rowTick, fieldTickDiv, rw, fieldWritten, ne]

theorem tick_unchanged (h : bits v 16 0 = s.get F.SYS_TICK_TICK_DIV) : s.changed rowTick A.SYS_TICK v = [] := by
  have eq : bits v 16 0 = bits (s.rd A.SYS_TICK) 16 0 := h
  simp [State.changed, rowTick, fieldTickDiv, rw, fieldWritten, eq]

theorem condOk_stdbySvc : s.condOk a .stdbySvc = true ↔ s.mode = mSTANDBY ∨ s.mode = mSERVICE := by
  simp [State.condOk]

theorem valStatus_tickDiv : s.valStatus A.SYS_TICK fieldTickDiv v = if s.tickDivOk (bits v 16 0) then OK else BAD_PARAM := rfl

/-- A change of TICK_DIV to a value that the register takes: the rebuild is queued (01 R30). -/
theorem effect_tick (h : bits v 16 0 ≠ s.get F.SYS_TICK_TICK_DIV) : s.effect rowTick i A.SYS_TICK v 0 =
    ((s.acting i).queueRebuild (.tickDiv (bits v 16 0)) 0, ACCEPTED) := by
  have ne : v ≠ s.rd A.SYS_TICK := fun he => h (by rw [he]; rfl)
  have acts : s.acts rowTick A.SYS_TICK v = true := by simp [State.acts, tick_changed h]
  rw [effect_unstored rfl, if_pos acts]
  exact if_neg ne

section
variable {w : RegWr} (hh : s.hosted = true) (ho : s.sesOpen w.ses.val = true) (hc : s.claimOk w.ses.val A.SYS_TICK w.val = true)
  (hv : w.val &&& ~~~(implMask A.SYS_TICK) = 0#32)
include hh ho hc hv

theorem completes_tick_notInMode (hd : bits w.val 16 0 ≠ s.get F.SYS_TICK_TICK_DIV) (h1 : s.mode ≠ mSTANDBY) (h2 : s.mode ≠ mSERVICE) :
    completes (.sysTickWrite w) s fun t => OnlyAnswered NOT_IN_MODE s t := by
  have cond : s.condOk A.SYS_TICK fieldTickDiv.cond = false := Bool.eq_false_iff.mpr fun h => (condOk_stdbySvc.mp h).elim h1 h2
  exact completes_onlyAnswered rfl hh ho hc rowAt_tick (by decide)
    (writeRow_notInMode hv (f := fieldTickDiv) (by simp [tick_changed hd]) cond)

theorem completes_tick_badParam (hd : bits w.val 16 0 ≠ s.get F.SYS_TICK_TICK_DIV) (hm : s.mode = mSTANDBY ∨ s.mode = mSERVICE)
    (hk : s.tickDivOk (bits w.val 16 0) = false) : completes (.sysTickWrite w) s fun t => OnlyAnswered BAD_PARAM s t := by
  have st : s.valStatus A.SYS_TICK fieldTickDiv w.val = BAD_PARAM := by simp [valStatus_tickDiv, hk]
  exact completes_onlyAnswered rfl hh ho hc rowAt_tick (by decide)
    (st ▸ writeRow_badValue hv (tick_changed hd) (condOk_stdbySvc.mpr hm) (by simp [st, BAD_PARAM, OK]))

theorem completes_tick_restated (hd : bits w.val 16 0 = s.get F.SYS_TICK_TICK_DIV) :
    completes (.sysTickWrite w) s fun t => OnlyAnswered OK s t := by
  have idle : s.acts rowTick A.SYS_TICK w.val = false := by simp [State.acts, tick_unchanged hd]; rfl
  have none : ∀ f, f ∉ s.changed rowTick A.SYS_TICK w.val := by simp [tick_unchanged hd]
  refine completes_onlyAnswered rfl hh ho hc rowAt_tick (by decide) ((writeRow_effect (r := rowTick) hv (fun f hf => absurd hf (none f))
    (fun f hf => absurd hf (none f)) fun h => absurd h (Bool.eq_false_iff.mp idle)).trans ?_)
  rw [effect_unstored rfl, if_neg (Bool.eq_false_iff.mp idle)]

theorem completes_tick_accepted (hd : bits w.val 16 0 ≠ s.get F.SYS_TICK_TICK_DIV) (hm : s.mode = mSTANDBY ∨ s.mode = mSERVICE)
    (hk : s.tickDivOk (bits w.val 16 0) = true) : completes (.sysTickWrite w) s fun t =>
      Answered ACCEPTED s t ∧ t.t = { s.t with rebuilds := s.t.rebuilds ++ [⟨.tickDiv (bits w.val 16 0), 0, false⟩] } ∧
      t.get F.SYS_TICK_TICK_DIV = s.get F.SYS_TICK_TICK_DIV ∧ Edited A.SYS_TT_STAT [(F.SYS_TT_STAT_BUILDING, 1)] s t ∧
      Frame false [.t, .host] (· = A.SYS_TT_STAT) s t := by
  have only : ∀ f ∈ s.changed rowTick A.SYS_TICK w.val, f = fieldTickDiv := by simp [tick_changed hd]
  have checked := (writeRow_effect (i := w.ses.val) (wid := 0) hv (fun f hf => only f hf ▸ condOk_stdbySvc.mpr hm)
    (fun f hf => by rw [only f hf, valStatus_tickDiv, if_pos hk]) fun _ => rfl).trans (effect_tick hd)
  have queued : Frame false [.t, .host] (· = A.SYS_TT_STAT) s ((s.acting w.ses.val).queueRebuild (.tickDiv (bits w.val 16 0)) 0) :=
    Frame.queueRebuild (W := (· = A.SYS_TT_STAT)) (Frame.acting (by simp) s _) (by simp) rfl _ 0
  refine completes_row rfl hh ho hc rowAt_tick (by decide) checked queued (fun m hm => ?_) (by simp) fun hf =>
    ⟨answered_host rfl _, rfl, State.get_congr (hf.words _ (by decide) (by simp)), ?_, hf⟩
  · simp only [A.HOST_MBS, A.SYS_TT_STAT]; omega
  · rw [Edited, settle_rd, answered_rd]
    exact State.rd_wr_same ..

end

/-! ### FLT_MCLK and FLT_CFG -/

/-- A row of the modulator clock and filter settings: every field changes in STANDBY and SERVICE alone (02 R49). -/
structure ModulatorRow (r : Row) : Prop where
  act : r.act = .flt
  sc : rowSc r = 0#32
  field : ∀ f ∈ r.fields, f.hi < 32 ∧ f.acc = .rw ∧ f.cond = .stdbySvc

def rowMclk : Row := ⟨0x8000, 4, 1, [rw 7 0 0x28 .stdbySvc .mclkDiv, rw 15 8 0 .stdbySvc .any, rw 16 16 0 .stdbySvc .any], .flt⟩
def rowFltCfg : Row :=
  ⟨0x8004, 4, 1, [rw 6 0 0x20 .stdbySvc (.range 8 64), rw 8 7 2 .stdbySvc .any, rw 19 10 0x80 .stdbySvc (.range 16 1023)], .flt⟩

theorem rowAt_mclk (c : Chan) : rowAt (A.FLT_MCLK c.val) = some rowMclk := by revert c; decide
theorem rowAt_fltCfg (c : Chan) : rowAt (A.FLT_CFG c.val) = some rowFltCfg := by revert c; decide
theorem modulatorRow_mclk : ModulatorRow rowMclk := ⟨rfl, by decide, by decide⟩
theorem modulatorRow_fltCfg : ModulatorRow rowFltCfg := ⟨rfl, by decide, by decide⟩

/-- A write that differs from what stands changes a field. -/
theorem modulator_changed (hrow : ModulatorRow r) (hv : v &&& ~~~(rowMask r) = 0#32) (hne : v ≠ s.rd a &&& rowMask r) :
    ∃ f ∈ s.changed r a v, f.cond = .stdbySvc := by
  obtain ⟨f, hf, hb⟩ := exists_field_ne (fun f hf => (hrow.field f hf).1) hv hne
  obtain ⟨-, hacc, hcond⟩ := hrow.field f hf
  exact ⟨f, mem_changed.mpr ⟨hf, by simp [fieldWritten, hacc, hb]⟩, hcond⟩

theorem modulator_acts (hrow : ModulatorRow r) (hv : v &&& ~~~(rowMask r) = 0#32) (hne : v ≠ s.rd a &&& rowMask r) :
    s.acts r a v = true := by
  obtain ⟨f, hf, -⟩ := modulator_changed hrow hv hne
  have : (s.changed r a v).isEmpty = false := by rw [List.isEmpty_eq_false_iff]; exact List.ne_nil_of_mem hf
  simp [State.acts, this]

theorem completes_modulator_notInMode {x : Instr} {w : RegWr} (he : exec x s = State.byHost (State.rowWrite w a w.val) s)
    (hh : s.hosted = true) (ho : s.sesOpen w.ses.val = true) (hc : s.claimOk w.ses.val a w.val = true) (hr : rowAt a = some r)
    (hx : isCtx a = false) (hrow : ModulatorRow r) (hv : w.val &&& ~~~(rowMask r) = 0#32) (hne : w.val ≠ s.rd a &&& rowMask r)
    (h1 : s.mode ≠ mSTANDBY) (h2 : s.mode ≠ mSERVICE) : completes x s fun t => OnlyAnswered NOT_IN_MODE s t := by
  obtain ⟨f, hf, hcond⟩ := modulator_changed hrow hv hne
  have cond : s.condOk a f.cond = false := hcond ▸ Bool.eq_false_iff.mpr fun h => (condOk_stdbySvc.mp h).elim h1 h2
  exact completes_onlyAnswered he hh ho hc hr hx (writeRow_notInMode hv hf cond)

/-- A write that passes was made in STANDBY or SERVICE. -/
theorem modulator_mode (hr : rowAt a = some r) (hrow : ModulatorRow r) (hne : v ≠ s.rd a &&& rowMask r)
    (hp : s.passes i a v = true) : s.mode = mSTANDBY ∨ s.mode = mSERVICE := by
  obtain ⟨-, -, -, hv, hf, -⟩ := (passes_iff hr).mp hp
  obtain ⟨f, hmem, hcond⟩ := modulator_changed hrow hv hne
  exact condOk_stdbySvc.mp (hcond ▸ (hf f hmem).1)

/-- What the write of a modulator setting does: settling, and for FLT_MCLK the clock as OUT_EN says (02 R48, R57). -/
theorem effect_modulator (hrow : ModulatorRow r) (ha : s.acts r a v = true) : s.effect r i a v 0 =
    (if a = A.FLT_MCLK (chanOf a) then (s.written r i a v).mclkWritten (chanOf a) else (s.written r i a v).settleAll (chanOf a), OK) := by
  rw [effect_acts (by rw [hrow.act]; rfl) ha, hrow.act]
  rfl

theorem isCtx_flt (c : Chan) : isCtx (A.FLT_MCLK c.val) = false ∧ isCtx (A.FLT_CFG c.val) = false := by revert c; decide

theorem flt_ne (c : Chan) : A.FLT_MCLK c.val ≠ A.FLT_VALID c.val ∧ A.FLT_CFG c.val ≠ A.FLT_VALID c.val ∧
    A.FLT_CFG c.val ≠ A.FLT_MCLK c.val := by
  simp only [A.FLT_MCLK, A.FLT_CFG, A.FLT_VALID]; omega

theorem chanOf_flt (c : Chan) : chanOf (A.FLT_MCLK c.val) = c.val ∧ chanOf (A.FLT_CFG c.val) = c.val := by
  simp only [chanOf, A.FLT_MCLK, A.FLT_CFG, chBase]; omega

theorem settle_mdOn (s u : State) (c m : Nat) : (settle s u).mdOn c m = u.mdOn c m := settle_flag s u _
theorem answered_mdOn (s u : State) (k c m : Nat) : (s.answered u k).mdOn c m = u.mdOn c m := rfl
theorem answered_mdi (s u : State) (k c m : Nat) : (s.answered u k).mdi c m = u.mdi c m := rfl

theorem settleOne_host (u : State) (c d : Nat) : (u.settleOne c d).host = u.host :=
  State.when_unseen State.host (fun x => by rw [State.modMd_host, State.putBit_host]) u _

theorem settleAll_host (u : State) (c : Nat) : (u.settleAll c).host = u.host := by
  rw [settleAll_eq]
  exact State.each_unseen State.host (fun d _ x => settleOne_host x c d) u

theorem settleOne_rd (u : State) {c : Nat} (ha : a ≠ A.FLT_VALID c) (d : Nat) : (u.settleOne c d).rd a = u.rd a :=
  State.when_unseen (fun x => x.rd a) (fun x => by rw [State.modMd_rd, State.putBit]; exact State.rd_put_ne x ha _) u _

theorem settleAll_rd (u : State) {c : Nat} (ha : a ≠ A.FLT_VALID c) : (u.settleAll c).rd a = u.rd a := by
  rw [settleAll_eq]
  exact State.each_unseen (fun x => x.rd a) (fun d _ x => settleOne_rd x ha d) u

/-- The settings of a channel's modulators are no mailbox. -/
theorem flt_not_mailbox {c m : Nat} (hm : m < 16) {a : Nat} (ha : 0x100000 ≤ a) : A.HOST_MBS m ∉ [a, A.FLT_VALID c] := by
  simp only [List.mem_cons, List.not_mem_nil, or_false, A.HOST_MBS, A.FLT_VALID, chBase]; omega

/-- A write that passes, and has led to `u` before settling begins. -/
theorem completes_settling {x : Instr} {w : RegWr} {c : Chan} {u : State} (he : exec x s = State.byHost (State.rowWrite w a w.val) s)
    (hr : rowAt a = some r) (hx : isCtx a = false) (hp : s.passes w.ses.val a w.val = true)
    (heff : s.effect r w.ses.val a w.val 0 = (u.settleAll c.val, OK)) (hh : u.host = (s.acting w.ses.val).host)
    (hst : Stored a w.val s u) (ha : a ≠ A.FLT_VALID c.val) (hlo : 0x100000 ≤ a)
    (hf : Frame false [.host, .chan c.val] (· ∈ [a, A.FLT_VALID c.val]) s u) : completes x s fun t =>
      Answered OK s t ∧ Stored a w.val s t ∧
      (∀ m : MdIx, t.mdOn c.val m.val = true → (t.mdi c.val m.val).settling = true ∧ t.bitOf (F.FLT_VALID_VALID c.val) m.val = false) ∧
      t.flag (F.FLT_VALID_MCLK_OK c.val) = u.flag (F.FLT_VALID_MCLK_OK c.val) ∧
      Frame false [.host, .chan c.val] (· ∈ [a, A.FLT_VALID c.val]) s t := by
  have settled : Frame false [.host, .chan c.val] (· ∈ [a, A.FLT_VALID c.val]) s (u.settleAll c.val) :=
    hf.settleAll (by simp) (by simp)
  have host : (u.settleAll c.val).host = (s.acting w.ses.val).host := (settleAll_host u c.val).trans hh
  refine completes_effect he hr hx hp heff settled (fun m hm => flt_not_mailbox hm hlo) (by simp)
    fun hf => ⟨answered_host host OK, ?stored, fun m hon => ?input, ?clock, hf⟩
  case stored =>
    rw [Stored, settle_rd, answered_rd, settleAll_rd u ha]
    exact hst
  case input =>
    rw [settle_mdOn, answered_mdOn] at hon
    rw [settle_mdi, answered_mdi, settle_bitOf, answered_bitOf]
    exact settleAll_enabled u c.isLt m.isLt hon
  case clock =>
    rw [settle_flag, answered_flag]
    exact settleAll_mclkOk u c.isLt

/-- The write of FLT_MCLK. -/
theorem completes_mclk {c : Chan} {w : RegWr} (hne : w.val ≠ s.rd (A.FLT_MCLK c.val) &&& rowMask rowMclk)
    (hp : s.passes w.ses.val (A.FLT_MCLK c.val) w.val = true) : completes (.fltMclkWrite c w) s fun t =>
      Answered OK s t ∧ Stored (A.FLT_MCLK c.val) w.val s t ∧
      (∀ m : MdIx, t.mdOn c.val m.val = true → (t.mdi c.val m.val).settling = true ∧ t.bitOf (F.FLT_VALID_VALID c.val) m.val = false) ∧
      t.flag (F.FLT_VALID_MCLK_OK c.val) = bit w.val 16 ∧
      Frame false [.host, .chan c.val] (· ∈ [A.FLT_MCLK c.val, A.FLT_VALID c.val]) s t := by
  obtain ⟨-, -, -, hv, -⟩ := (passes_iff (rowAt_mclk c)).mp hp
  have outEn : (s.written rowMclk w.ses.val (A.FLT_MCLK c.val) w.val).flag (F.FLT_MCLK_OUT_EN c.val) = bit w.val 16 :=
    written_flag (chanFld_ok c.isLt (by decide)) rfl rfl (by decide) (show bitMask 16 16 &&& rowWritable rowMclk = bitMask 16 16 by decide)
  have heff := effect_modulator (s := s) (i := w.ses.val) modulatorRow_mclk (modulator_acts modulatorRow_mclk hv hne)
  rw [(chanOf_flt c).1, if_pos rfl, State.mclkWritten, outEn] at heff
  have clock : ((s.written rowMclk w.ses.val (A.FLT_MCLK c.val) w.val).putb (F.FLT_VALID_MCLK_OK c.val) (bit w.val 16)).flag
      (F.FLT_VALID_MCLK_OK c.val) = bit w.val 16 := State.flag_putb_same _ (FLT_VALID_ok c.isLt).2 (Nat.le_refl 12) _
  have base := Frame.putb (Frame.written (ev := false) (ps := [.host, .chan c.val]) (a := A.FLT_MCLK c.val)
    (W := (· ∈ [A.FLT_MCLK c.val, A.FLT_VALID c.val])) (by simp) (by simp) s rowMclk w.ses.val w.val) (f := F.FLT_VALID_MCLK_OK c.val)
    (show A.FLT_VALID c.val ∈ [A.FLT_MCLK c.val, A.FLT_VALID c.val] by simp) (bit w.val 16)
  have done := completes_settling (x := .fltMclkWrite c w) rfl (rowAt_mclk c) (isCtx_flt c).1 hp heff rfl
    ((State.rd_put_ne _ (flt_ne c).1 _).trans (written_stored (rowAt_mclk c) (by decide))) (flt_ne c).1 (by simp only [A.FLT_MCLK, chBase]; omega) base
  rwa [clock] at done

/-- The write of FLT_CFG. -/
theorem completes_fltCfg {c : Chan} {w : RegWr} (hne : w.val ≠ s.rd (A.FLT_CFG c.val) &&& rowMask rowFltCfg)
    (hp : s.passes w.ses.val (A.FLT_CFG c.val) w.val = true) : completes (.fltCfgWrite c w) s fun t =>
      Answered OK s t ∧ Stored (A.FLT_CFG c.val) w.val s t ∧
      (∀ m : MdIx, t.mdOn c.val m.val = true → (t.mdi c.val m.val).settling = true ∧ t.bitOf (F.FLT_VALID_VALID c.val) m.val = false) ∧
      Frame false [.host, .chan c.val] (· ∈ [A.FLT_CFG c.val, A.FLT_VALID c.val]) s t := by
  obtain ⟨-, -, -, hv, -⟩ := (passes_iff (rowAt_fltCfg c)).mp hp
  have heff := effect_modulator (s := s) (i := w.ses.val) modulatorRow_fltCfg (modulator_acts modulatorRow_fltCfg hv hne)
  rw [(chanOf_flt c).2, if_neg (flt_ne c).2.2] at heff
  have base := Frame.written (ev := false) (ps := [.host, .chan c.val]) (a := A.FLT_CFG c.val)
    (W := (· ∈ [A.FLT_CFG c.val, A.FLT_VALID c.val])) (by simp) (by simp) s rowFltCfg w.ses.val w.val
  obtain ⟨t, ht, answer, stored, settling, -, frame⟩ := completes_settling (x := .fltCfgWrite c w) rfl (rowAt_fltCfg c) (isCtx_flt c).2 hp heff rfl
    (written_stored (rowAt_fltCfg c) (by decide)) (flt_ne c).2.1 (by simp only [A.FLT_CFG, chBase]; omega) base
  exact ⟨t, ht, answer, stored, settling, frame⟩

/-- Settles O42: SYS_TICK by its four answers, each modulator setting by its refusal and by its settling. -/
theorem tickAndModulatorSettingsChangeInStandbyAndService : Obligations.TickAndModulatorSettingsChangeInStandbyAndService := by
  intro s w hh ho
  refine ⟨fun hc hv => ⟨fun hd => ⟨completes_tick_notInMode hh ho hc hv hd, completes_tick_accepted hh ho hc hv hd,
    completes_tick_badParam hh ho hc hv hd⟩, completes_tick_restated hh ho hc hv⟩, fun c x hx hc hv hne => ?_⟩
  simp only [List.mem_cons, List.not_mem_nil, or_false] at hx
  rcases hx with rfl | rfl
  · rw [implMask_row (isCtx_flt c).1 (rowAt_mclk c)] at hv hne
    refine ⟨completes_modulator_notInMode rfl hh ho hc (rowAt_mclk c) (isCtx_flt c).1 modulatorRow_mclk hv hne, fun hp =>
      ⟨modulator_mode (rowAt_mclk c) modulatorRow_mclk hne hp, ?_⟩⟩
    obtain ⟨t, ht, answer, stored, settling, clock, frame⟩ := completes_mclk hne hp
    exact ⟨t, ht, answer, stored, settling, fun _ => clock, frame⟩
  · rw [implMask_row (isCtx_flt c).2 (rowAt_fltCfg c)] at hv hne
    refine ⟨completes_modulator_notInMode rfl hh ho hc (rowAt_fltCfg c) (isCtx_flt c).2 modulatorRow_fltCfg hv hne, fun hp =>
      ⟨modulator_mode (rowAt_fltCfg c) modulatorRow_fltCfg hne hp, ?_⟩⟩
    obtain ⟨t, ht, answer, stored, settling, frame⟩ := completes_fltCfg hne hp
    exact ⟨t, ht, answer, stored, settling, fun he => absurd he (flt_ne c).2.2, frame⟩

end Sys2Proof.Machine
end

section
/-! SUPPORT. A setting's write that passes is stored and answered OK; the settings of the tick, of the engine and of the survey buffer. -/

namespace Sys2Proof.Machine

variable {s u : State} {a b i : Nat} {v : Word} {r : Row} {ev : Bool} {ps : List Part} {W : Nat → Prop}

/-- Words that are no mailbox. -/
theorem mailbox_ne (h : a < 0x10100 ∨ 0x10180 ≤ a) {m : Nat} (hm : m < 16) : A.HOST_MBS m ≠ a := by
  simp only [A.HOST_MBS]; omega

theorem mailbox_not_mem {l : List Nat} (h : ∀ a ∈ l, a < 0x10100 ∨ 0x10180 ≤ a) {m : Nat} (hm : m < 16) : A.HOST_MBS m ∉ l :=
  fun hmem => mailbox_ne (h _ hmem) hm rfl

/-- A write that passes, whose action keeps the register's word and the host side: it is answered OK and stored (15 R516). -/
theorem completes_setting {x : Instr} {w : RegWr} {P : State → Prop} (he : exec x s = State.byHost (State.rowWrite w a v) s)
    (hr : rowAt a = some r) (hx : isCtx a = false) (hsc : rowSc r = 0#32) (hp : s.passes w.ses.val a v = true)
    (hu : s.effect r w.ses.val a v 0 = (u, OK)) (hh : u.host = (s.acting w.ses.val).host)
    (hst : u.rd a = (s.written r w.ses.val a v).rd a) (hf : Frame ev ps W s u) (hW : ∀ m < 16, ¬ W (A.HOST_MBS m)) (hs : .host ∈ ps)
    (hP : Answered OK s (settle s (s.answered u OK)) → Stored a v s (settle s (s.answered u OK)) →
      Frame ev ps W s (settle s (s.answered u OK)) → P (settle s (s.answered u OK))) : completes x s P :=
  completes_effect he hr hx hp hu hf hW hs fun hf => hP (answered_host hh OK)
    (by rw [Stored, settle_rd, answered_rd, hst]; exact written_stored hr hsc) hf

/-! ### SYS_BURST and SYS_SYNC -/

def rowBurst : Row := ⟨0x110, 4, 1, [rw 0 0 0 .always .burstEn, rw 1 1 1 .always .any, rw 2 2 0 .always .any, ro 8 8 0, ro 9 9 0], .burst⟩
def rowSync : Row :=
  ⟨0x120, 4, 1, [rw 1 0 0 .always .syncSrc, rw 2 2 0 .always .any, rw 3 3 1 .always .any, rw 31 8 0 .always .phaseOfs], .sync⟩

theorem rowAt_burst : rowAt A.SYS_BURST = some rowBurst := by decide
theorem rowAt_sync : rowAt A.SYS_SYNC = some rowSync := by decide

/-- A bit that an idle write restates. -/
theorem bit_kept_of_idle (h : s.acts r a v = false) {f : RegField} (hf : f ∈ r.fields) (hrw : f.acc = .rw) (h1 : f.hi = f.lo) :
    bit v f.lo = bit (s.rd a) f.lo := by
  have same := kept_of_idle h hf hrw
  rw [h1] at same
  rw [bit_eq_bits, bit_eq_bits, same]

/-- A rise of TRIG makes the trigger new (01 R36). -/
theorem effect_burst : s.effect rowBurst i A.SYS_BURST v 0 =
    ((s.written rowBurst i A.SYS_BURST v).when (bit v 2 && !bit (s.rd A.SYS_BURST) 2) State.burstTrigger, OK) :=
  effect_eq rfl fun idle => by
    have same : bit v 2 = bit (s.rd A.SYS_BURST) 2 := bit_kept_of_idle idle (f := rw 2 2 0 .always .any) (by decide) rfl rfl
    show (State.when _ (bit v 2 && !bit (s.rd A.SYS_BURST) 2) _, OK) = _
    simp [same, State.when]

/-- A change of SRC leaves the alignment in FREE or acquires (01 R43). -/
theorem effect_sync : s.effect rowSync i A.SYS_SYNC v 0 =
    ((s.written rowSync i A.SYS_SYNC v).when (bits (s.rd A.SYS_SYNC) 1 0 != bits v 1 0) State.syncSrcWritten, OK) :=
  effect_eq rfl fun idle => by
    have same : bits v 1 0 = bits (s.rd A.SYS_SYNC) 1 0 := kept_of_idle idle (f := rw 1 0 0 .always .syncSrc) (by decide) rfl
    show (State.when _ (bits (s.rd A.SYS_SYNC) 1 0 != bits v 1 0) _, OK) = _
    simp [same, State.when]

theorem when_burstTrigger (s : State) (b : Bool) : s.when b State.burstTrigger =
    s.modT fun t => if b then { t with exited := false, refBud := false, refTherm := false } else t := by
  cases b <;> rfl

theorem completes_burst {w : RegWr} (hp : s.passes w.ses.val A.SYS_BURST w.val = true) :
    completes (.sysBurstWrite w) s fun t => Answered OK s t ∧ Stored A.SYS_BURST w.val s t ∧
      t.t = (if bit w.val 2 && !bit (s.rd A.SYS_BURST) 2 then { s.t with exited := false, refBud := false, refTherm := false } else s.t) ∧
      Frame false [.host, .t] (· = A.SYS_BURST) s t := by
  have heff := effect_burst (s := s) (i := w.ses.val) (v := w.val)
  rw [when_burstTrigger] at heff
  exact completes_setting rfl rowAt_burst (by decide) (by decide) hp heff rfl rfl
    (Frame.modT (Frame.written (ps := [.host, .t]) (W := (· = A.SYS_BURST)) (by simp) rfl ..) (by simp) _)
    (fun _ => mailbox_ne (by decide)) (by simp) fun answer stored frame => ⟨answer, stored, rfl, frame⟩

theorem setSync_rd (s : State) (st : Nat) (h : a ≠ A.SYS_SYNC_STAT) : (s.setSync st).rd a = s.rd a := by
  have put : ((s.put F.SYS_SYNC_STAT_STATE st).modT fun t => { t with good := 0, bad := 0 }).rd a = s.rd a := State.rd_put_ne s h _
  unfold State.setSync
  split
  · exact put
  · split <;> exact put

theorem setSync_host (s : State) (st : Nat) : (s.setSync st).host = s.host := by
  unfold State.setSync
  split
  · rfl
  · split <;> rfl

theorem completes_sync {w : RegWr} (hp : s.passes w.ses.val A.SYS_SYNC w.val = true) :
    completes (.sysSyncWrite w) s fun t => Answered OK s t ∧ Stored A.SYS_SYNC w.val s t ∧
      t.syncSt = (if bits w.val 1 0 = bits (s.rd A.SYS_SYNC) 1 0 then s.syncSt else if bits w.val 1 0 = 0 then yFREE else yACQUIRE) ∧
      Frame false [.host, .t] (· ∈ [A.SYS_SYNC, A.SYS_SYNC_STAT]) s t := by
  have src : (s.written rowSync w.ses.val A.SYS_SYNC w.val).get F.SYS_SYNC_SRC = bits w.val 1 0 :=
    written_get (by decide) rfl (by decide) (by decide)
  have stored := Frame.written (ev := false) (ps := [.host, .t]) (W := (· ∈ [A.SYS_SYNC, A.SYS_SYNC_STAT])) (a := A.SYS_SYNC)
    (by simp) (by simp) s rowSync w.ses.val w.val
  have heff := effect_sync (s := s) (i := w.ses.val) (v := w.val)
  by_cases hsame : bits w.val 1 0 = bits (s.rd A.SYS_SYNC) 1 0
  · rw [hsame, bne_self_eq_false] at heff
    refine completes_setting rfl rowAt_sync (by decide) (by decide) hp heff rfl rfl stored
      (fun _ => mailbox_not_mem (by decide)) (by simp) fun answer stored frame => ⟨answer, stored, ?_, frame⟩
    rw [if_pos hsame]
    exact State.get_congr (f := F.SYS_SYNC_STAT_STATE) ((settle_rd ..).trans (written_rd_ne (by decide)))
  · rw [bne_iff_ne.mpr (Ne.symm hsame)] at heff
    refine completes_setting rfl rowAt_sync (by decide) (by decide) hp heff (setSync_host ..) (setSync_rd _ _ (by decide))
      (stored.setSync (by simp) (by simp) _) (fun _ => mailbox_not_mem (by decide)) (by simp)
      fun answer stored frame => ⟨answer, stored, ?_, frame⟩
    rw [if_neg hsame]
    refine (settle_get ..).trans ((setSync_syncSt _ ?_).trans (by rw [src]))
    split <;> decide

/-! ### SURV_BUF_RD and ENG_FREEZE -/

def rowBufRd : Row := ⟨0x50024, 4, 1, [rw 12 0 0 .always .survRd], .none⟩
def rowFreeze : Row := ⟨0x2004, 4, 1, [rw 15 0 0 .always .any], .none⟩

theorem rowAt_bufRd : rowAt A.SURV_BUF_RD = some rowBufRd := by decide
theorem rowAt_freeze (c : Chan) : rowAt (A.ENG_FREEZE c.val) = some rowFreeze := by revert c; decide
theorem isCtx_freeze (c : Chan) : isCtx (A.ENG_FREEZE c.val) = false := by revert c; decide

/-- A write without an action: the word is stored. -/
theorem completes_stored {x : Instr} {w : RegWr} (he : exec x s = State.byHost (State.rowWrite w a w.val) s)
    (hr : rowAt a = some r) (hx : isCtx a = false) (hsc : rowSc r = 0#32) (hact : r.act = .none)
    (hmb : a < 0x10100 ∨ 0x10180 ≤ a) (hp : s.passes w.ses.val a w.val = true) : completes x s fun t =>
      Answered OK s t ∧ Stored a w.val s t ∧ Frame false [.host] (· = a) s t := by
  have heff : s.effect r w.ses.val a w.val 0 = (s.written r w.ses.val a w.val, OK) := by
    refine (effect_eq (by rw [hact]; rfl) fun _ => ?_).trans ?_ <;> rw [hact] <;> rfl
  exact completes_setting he hr hx hsc hp heff rfl rfl (Frame.written (ps := [.host]) (W := (· = a)) (by simp) rfl ..)
    (fun _ => mailbox_ne hmb) (by simp) fun answer stored frame => ⟨answer, stored, frame⟩

end Sys2Proof.Machine
end

section
/-! SUPPORT. The writes of the ride bank and of the recorder (05 R159, R162, R163). -/

namespace Sys2Proof.Machine

variable {s u : State} {a b i : Nat} {v w : Word} {r : Row} {ev : Bool} {ps : List Part} {W : Nat → Prop}

/-! ### Bits and fields of words -/

theorem bits_congr {hi lo : Nat} (h : ∀ j, lo ≤ j → j ≤ hi → bit v j = bit w j) : bits v hi lo = bits w hi lo := by
  apply Nat.eq_of_testBit_eq; intro j
  rw [bits_testBit, bits_testBit]
  by_cases hj : j < hi + 1 - lo
  · rw [show v.toNat.testBit (j + lo) = w.toNat.testBit (j + lo) from h (j + lo) (by omega) (by omega)]
  · simp [hj]

/-- A command bit that an idle write leaves at 0. -/
theorem bit_clear_of_idle (h : s.acts r a v = false) {f : RegField} (hf : f ∈ r.fields) (hwo : f.acc = .wo) (h1 : f.hi = f.lo) :
    bit v f.lo = false := by
  simp only [State.acts, Bool.or_eq_false_iff, Bool.not_eq_false', List.isEmpty_iff, State.changed, List.filter_eq_nil_iff] at h
  have clear := h.1 f hf
  simp only [fieldWritten, hwo, Bool.or_eq_true, bne_iff_ne, not_or, not_not] at clear
  obtain ⟨⟨zero, -⟩, -⟩ := clear
  rw [h1] at zero
  rw [bit_eq_bits, zero]
  rfl

theorem withBit_row (hr : rowAt a = some r) (s : State) (b : Nat) : s.withBit a b = setBits (s.rd a &&& rowWritable r) b b 1 := by
  simp [State.withBit, hr]

theorem bit_withBit (hr : rowAt a = some r) (s : State) {b : Nat} (hb : b < 32) (j : Nat) :
    bit (s.withBit a b) j = if j = b then true else bit (s.rd a) j && bit (rowWritable r) j := by
  rw [withBit_row hr, bit, setBits_testBit hb]
  by_cases hj : j = b
  · simp [hj]
  · have out : ¬ (b ≤ j ∧ j ≤ b) := by omega
    simp [hj, out, bit]

/-- A writable field beside the command bit is as it stands. -/
theorem bits_withBit (hr : rowAt a = some r) (s : State) {b hi lo : Nat} (hb : b < 32) (hn : hi < b ∨ b < lo)
    (hm : ∀ j, lo ≤ j → j ≤ hi → bit (rowWritable r) j = true) : bits (s.withBit a b) hi lo = bits (s.rd a) hi lo :=
  bits_congr fun j h1 h2 => by rw [bit_withBit hr s hb, if_neg (by omega), hm j h1 h2, Bool.and_true]

/-- The command bit of a register as a host sets it alone. -/
theorem bitRow_eq (ses : Ix16) (a b : Nat) (s : State) :
    State.bitRow ses a b s = State.byHost (State.rowWrite ⟨ses, 0#32⟩ a (s.withBit a b)) s := by
  unfold State.bitRow State.withBit State.byHost
  cases rowAt a <;> rfl

/-! ### SYS_RIDE_CFG -/

def rowRide : Row := ⟨0x200, 4, 1, [rw 0 0 0 .always .any, rw 1 1 0 .always .any, rw 2 2 0 .always .rideBank], .rideCfg⟩

theorem rowAt_ride : rowAt A.SYS_RIDE_CFG = some rowRide := by decide

/-- A fall of EN ends ARMED (05 R162). -/
def State.disarm (b : Bool) (s : State) : State := s.when b fun s => s.putb F.SYS_RIDE_STAT_ARMED false

/-- A change of the ride configuration (05 R159, R162). -/
theorem effect_ride (h : bits v 2 0 ≠ bits (s.rd A.SYS_RIDE_CFG) 2 0) : s.effect rowRide i A.SYS_RIDE_CFG v 0 =
    (((s.written rowRide i A.SYS_RIDE_CFG v).disarm (bit (s.rd A.SYS_RIDE_CFG) 0 && !bit v 0)).putb F.SYS_RIDE_STAT_BANK_PEND
      (bits v 2 2 != ((s.written rowRide i A.SYS_RIDE_CFG v).disarm (bit (s.rd A.SYS_RIDE_CFG) 0 && !bit v 0)).bank), OK) := by
  have acts : s.acts rowRide A.SYS_RIDE_CFG v = true := by
    by_contra idle
    rw [Bool.not_eq_true] at idle
    refine h (bits_congr fun j _ hj => ?_)
    have kept : ∀ f ∈ rowRide.fields, f.acc = .rw ∧ f.hi = f.lo := by decide
    have field : ∃ f ∈ rowRide.fields, f.lo = j := by
      match j, hj with
      | 0, _ | 1, _ | 2, _ => decide
    obtain ⟨f, hf, rfl⟩ := field
    exact bit_kept_of_idle idle hf (kept f hf).1 (kept f hf).2
  exact (effect_acts rfl acts).trans rfl

theorem Frame.disarm (h : Frame ev ps W s u) (hw : W A.SYS_RIDE_STAT) (b : Bool) : Frame ev ps W s (u.disarm b) :=
  h.when b fun x => (Frame.refl _ _ W x).putb (f := F.SYS_RIDE_STAT_ARMED) hw _

theorem disarm_bank (s : State) (b : Bool) : (s.disarm b).bank = s.bank :=
  State.when_unseen State.bank (fun x => State.get_put_field x (f := F.SYS_RIDE_STAT_ARMED) (g := F.SYS_RIDE_STAT_BANK_ACT)
    (by decide) (by decide) rfl (by decide) _) s b

theorem disarm_armed (s : State) (b : Bool) : (s.disarm b).flag F.SYS_RIDE_STAT_ARMED = (s.flag F.SYS_RIDE_STAT_ARMED && !b) := by
  cases b
  · exact (Bool.and_true _).symm
  · exact (State.flag_putb_same s (by decide) (by decide) false).trans (Bool.and_false _).symm

theorem disarm_host (s : State) (b : Bool) : (s.disarm b).host = s.host := by cases b <;> rfl

theorem disarm_rd (s : State) (b : Bool) (h : a ≠ A.SYS_RIDE_STAT) : (s.disarm b).rd a = s.rd a :=
  State.when_unseen (fun x => x.rd a) (fun x => State.rd_put_ne x h _) s b

theorem completes_ride {w : RegWr} (hp : s.passes w.ses.val A.SYS_RIDE_CFG w.val = true)
    (hne : bits w.val 2 0 ≠ bits (s.rd A.SYS_RIDE_CFG) 2 0) : completes (.sysRideBankWrite w) s fun t =>
      Answered OK s t ∧ Stored A.SYS_RIDE_CFG w.val s t ∧
      t.flag F.SYS_RIDE_STAT_BANK_PEND = (bits w.val 2 2 != s.bank) ∧ t.bank = s.bank ∧
      t.flag F.SYS_RIDE_STAT_ARMED = (s.flag F.SYS_RIDE_STAT_ARMED && (bit w.val 0 || !bit (s.rd A.SYS_RIDE_CFG) 0)) ∧
      Frame false [.host] (· ∈ [A.SYS_RIDE_CFG, A.SYS_RIDE_STAT]) s t := by
  have heff := effect_ride (i := w.ses.val) hne
  rw [disarm_bank] at heff
  have stat : ∀ f : Fld, f.addr = A.SYS_RIDE_STAT → (s.written rowRide w.ses.val A.SYS_RIDE_CFG w.val).get f = s.get f := fun f hf =>
    State.get_congr (written_rd_ne (by rw [hf]; decide))
  have bank : (s.written rowRide w.ses.val A.SYS_RIDE_CFG w.val).bank = s.bank := stat F.SYS_RIDE_STAT_BANK_ACT rfl
  have armed : (s.written rowRide w.ses.val A.SYS_RIDE_CFG w.val).flag F.SYS_RIDE_STAT_ARMED = s.flag F.SYS_RIDE_STAT_ARMED :=
    State.flag_congr (stat F.SYS_RIDE_STAT_ARMED rfl)
  rw [bank] at heff
  refine completes_setting rfl rowAt_ride (by decide) (by decide) hp heff (disarm_host ..)
    ((State.rd_put_ne _ (by decide) _).trans (disarm_rd _ _ (by decide)))
    (Frame.putb (f := F.SYS_RIDE_STAT_BANK_PEND) (Frame.disarm (Frame.written (ev := false) (ps := [.host])
      (W := (· ∈ [A.SYS_RIDE_CFG, A.SYS_RIDE_STAT])) (by simp) (by simp) ..) (by simp) _)
      (show A.SYS_RIDE_STAT ∈ [A.SYS_RIDE_CFG, A.SYS_RIDE_STAT] by simp) _)
    (fun _ => mailbox_not_mem (by decide)) (by simp) fun answer stored frame => ⟨answer, stored, ?pending, ?bank, ?armed, frame⟩
  case pending => exact (settle_flag ..).trans (State.flag_putb_same _ (by decide) (by decide) _)
  case bank =>
    refine (settle_get ..).trans ((State.get_put_field _ (f := F.SYS_RIDE_STAT_BANK_PEND) (g := F.SYS_RIDE_STAT_BANK_ACT)
      (by decide) (by decide) rfl (by decide) _).trans ?_)
    exact (disarm_bank ..).trans bank
  case armed =>
    refine (settle_flag ..).trans ((State.flag_congr (State.get_put_field _ (f := F.SYS_RIDE_STAT_BANK_PEND)
      (g := F.SYS_RIDE_STAT_ARMED) (by decide) (by decide) rfl (by decide) _)).trans ?_)
    rw [disarm_armed, armed, Bool.not_and, Bool.not_not, Bool.or_comm]

/-! ### REC_CFG -/

def rowRec : Row := ⟨0x600, 4, 1, [rw 0 0 0 .always .any, rw 1 1 0 .recOff .any, wo 2 2 .always .any, rw 7 3 0xF .recOff .any,
  rw 15 8 1 .recOff .any, rw 27 16 0x3E8 .recOff (.range 0 2000)], .recCfg⟩

theorem rowAt_rec : rowAt A.REC_CFG = some rowRec := by decide

/-- RELEASE, then EN := 1, then EN := 0 act, as the write says (05 R163). -/
theorem effect_rec : s.effect rowRec i A.REC_CFG v 0 =
    ((((s.written rowRec i A.REC_CFG v).when (bit v 2) State.recRelease).when (bit v 0 && !bit (s.rd A.REC_CFG) 0) State.recFill).when
      (bit (s.rd A.REC_CFG) 0 && !bit v 0) State.recStop, OK) :=
  effect_eq rfl fun idle => by
    have release : bit v 2 = false := bit_clear_of_idle idle (f := wo 2 2 .always .any) (by decide) rfl rfl
    have enable : bit v 0 = bit (s.rd A.REC_CFG) 0 := bit_kept_of_idle idle (f := rw 0 0 0 .always .any) (by decide) rfl rfl
    show (State.when (State.when (State.when _ (bit v 2) _) (bit v 0 && !bit (s.rd A.REC_CFG) 0) _) (bit (s.rd A.REC_CFG) 0 && !bit v 0) _, OK) = _
    simp [release, enable, State.when]

/-- The recorder returns to the state `st` with an empty buffer. -/
def State.recEmptied (st : Nat) (s : State) : State :=
  (s.put F.REC_STAT_STATE st).modRide fun r => { r with recs := [], recDiv := 0, recLeft := 0, recTrig := false, recMark := false }

theorem recFill_eq (s : State) : s.recFill = s.recEmptied 1 := rfl
theorem recStop_eq (s : State) : s.recStop = s.recEmptied 0 := rfl

theorem recEmptied_state (s : State) {st : Nat} (h : st < 8) : (s.recEmptied st).recState = st :=
  (State.get_put_same s (f := F.REC_STAT_STATE) (by decide) st).trans (Nat.mod_eq_of_lt h)

theorem Frame.recEmptied (h : Frame ev ps W s u) (hp : .ride ∈ ps) (hw : W A.REC_STAT) (st : Nat) :
    Frame ev ps W s (u.recEmptied st) := (h.put (f := F.REC_STAT_STATE) hw _).modRide hp _

/-- A write that empties the recorder. -/
theorem completes_recEmptied {x : Instr} {w : RegWr} {st : Nat} (he : exec x s = State.byHost (State.rowWrite w A.REC_CFG v) s)
    (hp : s.passes w.ses.val A.REC_CFG v = true) (h : st < 8)
    (heff : s.effect rowRec w.ses.val A.REC_CFG v 0 = ((s.written rowRec w.ses.val A.REC_CFG v).recEmptied st, OK)) :
    completes x s fun t => Answered OK s t ∧ Stored A.REC_CFG v s t ∧ Frame false [.host, .ride] (· ∈ [A.REC_CFG, A.REC_STAT]) s t ∧
      t.recState = st ∧ t.ride.recs = [] :=
  completes_setting he rowAt_rec (by decide) (by decide) hp heff rfl (State.rd_put_ne _ (by decide) _)
    (Frame.recEmptied (Frame.written (ev := false) (ps := [.host, .ride]) (W := (· ∈ [A.REC_CFG, A.REC_STAT])) (by simp) (by simp) ..)
      (by simp) (by simp) st)
    (fun _ => mailbox_not_mem (by decide)) (by simp) fun answer stored frame =>
      ⟨answer, stored, frame, (settle_get ..).trans (recEmptied_state _ h), rfl⟩

/-- A write that leaves the recorder as it is. -/
theorem completes_recKept {x : Instr} {w : RegWr} (he : exec x s = State.byHost (State.rowWrite w A.REC_CFG v) s)
    (hp : s.passes w.ses.val A.REC_CFG v = true)
    (heff : s.effect rowRec w.ses.val A.REC_CFG v 0 = (s.written rowRec w.ses.val A.REC_CFG v, OK)) :
    completes x s fun t => Answered OK s t ∧ Stored A.REC_CFG v s t ∧ Frame false [.host] (· = A.REC_CFG) s t :=
  completes_setting he rowAt_rec (by decide) (by decide) hp heff rfl rfl
    (Frame.written (ev := false) (ps := [.host]) (W := (· = A.REC_CFG)) (by simp) rfl ..)
    (fun _ => mailbox_ne (by decide)) (by simp) fun answer stored frame => ⟨answer, stored, frame⟩

theorem written_recState : (s.written rowRec i A.REC_CFG v).recState = s.recState :=
  State.get_congr (f := F.REC_STAT_STATE) (written_rd_ne (by decide))

/-- RELEASE alone. -/
theorem completes_recRelease {ses : Ix16} (hp : s.passes ses.val A.REC_CFG (s.withBit A.REC_CFG 2) = true) :
    completes (.recCfgRelease ses) s fun t => Answered OK s t ∧
      (s.recState = 4 → t.recState = 1 ∧ t.ride.recs = [] ∧ Frame false [.host, .ride] (· ∈ [A.REC_CFG, A.REC_STAT]) s t) ∧
      (s.recState ≠ 4 → Frame false [.host] (· = A.REC_CFG) s t) := by
  have he : exec (.recCfgRelease ses) s = State.byHost (State.rowWrite ⟨ses, 0#32⟩ A.REC_CFG (s.withBit A.REC_CFG 2)) s := bitRow_eq ..
  have release : bit (s.withBit A.REC_CFG 2) 2 = true := (bit_withBit rowAt_rec s (by decide) 2).trans rfl
  have enable : bit (s.withBit A.REC_CFG 2) 0 = bit (s.rd A.REC_CFG) 0 :=
    (bit_withBit rowAt_rec s (by decide) 0).trans (by rw [if_neg (by decide), show bit (rowWritable rowRec) 0 = true by decide, Bool.and_true])
  have heff := effect_rec (s := s) (i := ses.val) (v := s.withBit A.REC_CFG 2)
  rw [release, enable, Bool.and_not_self] at heff
  by_cases held : s.recState = 4
  · obtain ⟨t, ht, answer, -, frame, state, empty⟩ := completes_recEmptied he hp (st := 1) (by decide)
      (heff.trans (congrArg (·, OK) (if_pos (written_recState.trans held))))
    exact ⟨t, ht, answer, fun _ => ⟨state, empty, frame⟩, fun h => absurd held h⟩
  · obtain ⟨t, ht, answer, -, frame⟩ := completes_recKept he hp
      (heff.trans (congrArg (·, OK) (if_neg (written_recState.trans_ne held))))
    exact ⟨t, ht, answer, fun h => absurd h held, fun _ => frame⟩

/-- A write of EN, without RELEASE. -/
theorem completes_recEn {w : RegWr} (hp : s.passes w.ses.val A.REC_CFG w.val = true) (hrel : bit w.val 2 = false) :
    completes (.recCfgEnWrite w) s fun t => Answered OK s t ∧ Stored A.REC_CFG w.val s t ∧
      Frame false [.host, .ride] (· ∈ [A.REC_CFG, A.REC_STAT]) s t ∧
      (bit w.val 0 = true → s.flag F.REC_CFG_EN = false → t.recState = 1 ∧ t.ride.recs = []) ∧
      (bit w.val 0 = false → s.flag F.REC_CFG_EN = true → t.recState = 0 ∧ t.ride.recs = []) ∧
      (bit w.val 0 = s.flag F.REC_CFG_EN → t.recState = s.recState ∧ t.ride = s.ride) := by
  have heff := effect_rec (s := s) (i := w.ses.val) (v := w.val)
  have old : bit (s.rd A.REC_CFG) 0 = s.flag F.REC_CFG_EN := bit_eq_bits ..
  rw [hrel, old] at heff
  cases hnew : bit w.val 0 <;> cases hold : s.flag F.REC_CFG_EN <;> rw [hnew, hold] at heff
  case true.false =>
    obtain ⟨t, ht, answer, stored, frame, state, empty⟩ := completes_recEmptied (x := .recCfgEnWrite w) rfl hp (st := 1) (by decide)
      (heff.trans (congrArg (·, OK) (recFill_eq _)))
    exact ⟨t, ht, answer, stored, frame, fun _ _ => ⟨state, empty⟩, nofun, nofun⟩
  case false.true =>
    obtain ⟨t, ht, answer, stored, frame, state, empty⟩ := completes_recEmptied (x := .recCfgEnWrite w) rfl hp (st := 0) (by decide)
      (heff.trans (congrArg (·, OK) (recStop_eq _)))
    exact ⟨t, ht, answer, stored, frame, nofun, fun _ _ => ⟨state, empty⟩, nofun⟩
  all_goals
    obtain ⟨t, ht, answer, stored, frame⟩ := completes_recKept (x := .recCfgEnWrite w) rfl hp heff
    have state : t.recState = s.recState := State.get_congr (f := F.REC_STAT_STATE) (frame.words _ (by decide) (by simp))
    have wider : Frame false [.host, .ride] (· ∈ [A.REC_CFG, A.REC_STAT]) s t :=
      frame.mono (by simp) fun a ha => by simp [ha]
    exact ⟨t, ht, answer, stored, wider, nofun, nofun, fun _ => ⟨state, frame.parts .ride (by simp)⟩⟩

end Sys2Proof.Machine
end

section
/-! SUPPORT. The writes of the grid settings (04 R138, R141). -/

namespace Sys2Proof.Machine

variable {s u : State} {a b i c : Nat} {v : Word} {r : Row} {ev : Bool} {ps : List Part} {W : Nat → Prop}

/-! ### GRID_CTRL -/

def rowGridCtrl : Row :=
  ⟨0xC104, 4, 1, [rw 0 0 0 .always .any, wo 8 8 .always .any, wo 9 9 .always .any, wo 10 10 .always .any], .gridCtrl⟩

theorem rowAt_gridCtrl (c : Chan) : rowAt (A.GRID_CTRL c.val) = some rowGridCtrl := by revert c; decide
theorem isCtx_grid (c : Chan) : isCtx (A.GRID_CTRL c.val) = false ∧ isCtx (A.GRID_FNOM c.val) = false := by revert c; decide
theorem chanOf_grid (c : Chan) : chanOf (A.GRID_CTRL c.val) = c.val ∧ chanOf (A.GRID_FNOM c.val) = c.val := by
  simp only [chanOf, A.GRID_CTRL, A.GRID_FNOM, chBase]; omega

/-- Command bits at 0 in their field. -/
theorem bit_clear_of_bits {hi lo : Nat} (h : bits v hi lo = 0) {j : Nat} (h1 : lo ≤ j) (h2 : j ≤ hi) : bit v j = false := by
  have zero := congrArg (Nat.testBit · (j - lo)) h
  have inside : j - lo < hi + 1 - lo := by omega
  simpa [bits_testBit, inside, Nat.sub_add_cancel h1, bit] using zero

theorem startStop_idle (s : State) (c : Nat) (h8 : bit v 8 = false) (h9 : bit v 9 = false) : s.startStop c v = (s, OK) := by
  simp [State.startStop, h8, h9]

/-- The action of GRID_CTRL without a command bit (04 R138). -/
theorem regAct_gridSub (s : State) (old : Word) (h : bits v 10 8 = 0) : s.regAct .gridCtrl i a old v 0 =
    (s.when (s.role (chanOf a) == rGRID) (State.subApplied (chanOf a) (bit v 0)), OK) := by
  have b8 : bit v 8 = false := bit_clear_of_bits h (by decide) (by decide)
  have b9 : bit v 9 = false := bit_clear_of_bits h (by decide) (by decide)
  have b10 : bit v 10 = false := bit_clear_of_bits h (by decide) (by decide)
  simp only [State.regAct, startStop_idle _ _ b8 b9, b10, Bool.false_and, ite_self]
  rfl

/-- A write of SUB without a command bit. -/
theorem effect_gridSub (c : Chan) (h : bits v 10 8 = 0) : s.effect rowGridCtrl i (A.GRID_CTRL c.val) v 0 =
    ((s.written rowGridCtrl i (A.GRID_CTRL c.val) v).when (s.role c.val == rGRID) (State.subApplied c.val (bit v 0)), OK) := by
  have acts : s.acts rowGridCtrl (A.GRID_CTRL c.val) v = true := Bool.or_true _
  have role : (s.written rowGridCtrl i (A.GRID_CTRL c.val) v).role c.val = s.role c.val :=
    State.get_congr (f := F.ROLE_SEL_ROLE c.val) (written_rd_ne (by simp only [F.ROLE_SEL_ROLE, A.ROLE_SEL, A.GRID_CTRL]; omega))
  rw [effect_acts rfl acts]
  refine (regAct_gridSub _ _ h).trans ?_
  rw [(chanOf_grid c).1, role]

theorem subApplied_eq (s : State) (c : Nat) (b : Bool) : s.subApplied c b = if s.cst c ≠ sACTIVE then s else
    s.setPend c (if s.sub c = mISLAND ∨ b ≠ (s.sub c != mFOLLOW) then some b else none) := by
  unfold State.subApplied
  by_cases active : s.cst c ≠ sACTIVE
  · rw [if_pos active, if_pos active]
  · rw [if_neg active, if_neg active]
    by_cases island : s.sub c = mISLAND
    · rw [if_pos island, if_pos (.inl island)]
    · rw [if_neg island]
      by_cases same : b = (s.sub c != mFOLLOW)
      · rw [if_pos (beq_iff_eq.mpr same), if_neg (by simp [island, same])]
      · rw [if_neg (mt beq_iff_eq.mp same), if_pos (.inr same)]

theorem Frame.setPend (h : Frame ev ps W s u) (hp : .chan c ∈ ps) (hw : W (A.GRID_STAT c)) (p : Option Bool) :
    Frame ev ps W s (u.setPend c p) := (h.modGrid hp _).putb (f := F.GRID_STAT_PEND c) hw _

theorem setPend_pend (s : State) (hc : c < 8) (p : Option Bool) : ((s.setPend c p).chn c).grid.pend = p :=
  congrArg (fun x : Ch => x.grid.pend) (State.chn_modCh_same s hc fun x => { x with grid := { x.grid with pend := p } })

theorem setPend_flag (s : State) (hc : c < 8) (p : Option Bool) : (s.setPend c p).flag (F.GRID_STAT_PEND c) = p.isSome :=
  State.flag_putb_same _ (chanFld_ok hc (by decide)) (Nat.le_refl 5) _

/-- Words of the grid's settings are no mailbox. -/
theorem chan_mailbox {o : Nat} : chBase c + o < 0x10100 ∨ 0x10180 ≤ chBase c + o := by simp only [chBase]; omega

theorem completes_gridSub {c : Chan} {w : RegWr} (hp : s.passes w.ses.val (A.GRID_CTRL c.val) w.val = true)
    (hb : bits w.val 10 8 = 0) : completes (.gridSubWrite c w) s fun t =>
      Answered OK s t ∧ Stored (A.GRID_CTRL c.val) w.val s t ∧
      (s.role c.val = rGRID → s.cst c.val = sACTIVE →
        (t.chn c.val).grid.pend = (if s.sub c.val = mISLAND ∨ bit w.val 0 ≠ (s.sub c.val != mFOLLOW) then some (bit w.val 0) else none) ∧
        t.flag (F.GRID_STAT_PEND c.val) = (t.chn c.val).grid.pend.isSome ∧
        Frame false [.host, .chan c.val] (· ∈ [A.GRID_CTRL c.val, A.GRID_STAT c.val]) s t) ∧
      (s.role c.val ≠ rGRID ∨ s.cst c.val ≠ sACTIVE → Frame false [.host] (· = A.GRID_CTRL c.val) s t) := by
  have ne : A.GRID_STAT c.val ≠ A.GRID_CTRL c.val ∧ A.ROLE_STAT c.val ≠ A.GRID_CTRL c.val := by
    simp only [A.GRID_STAT, A.GRID_CTRL, A.ROLE_STAT]; omega
  have cst : (s.written rowGridCtrl w.ses.val (A.GRID_CTRL c.val) w.val).cst c.val = s.cst c.val :=
    State.get_congr (f := F.ROLE_STAT_CH_STATE c.val) (written_rd_ne ne.2)
  have sub : (s.written rowGridCtrl w.ses.val (A.GRID_CTRL c.val) w.val).sub c.val = s.sub c.val :=
    State.get_congr (f := F.GRID_STAT_SUB_NOW c.val) (written_rd_ne ne.1)
  have heff := effect_gridSub (s := s) (i := w.ses.val) c hb
  simp only [State.when, subApplied_eq, cst, sub, beq_iff_eq] at heff
  by_cases hact : s.role c.val = rGRID ∧ s.cst c.val = sACTIVE
  · obtain ⟨grid, active⟩ := hact
    rw [if_pos grid, if_neg (not_not.mpr active)] at heff
    exact completes_setting rfl (rowAt_gridCtrl c) (isCtx_grid c).1 (by decide) hp heff rfl (State.rd_put_ne _ ne.1.symm _)
      (Frame.setPend (Frame.written (ev := false) (ps := [.host, .chan c.val]) (W := (· ∈ [A.GRID_CTRL c.val, A.GRID_STAT c.val]))
        (by simp) (by simp) ..) (by simp) (by simp) _)
      (fun _ => mailbox_not_mem (by simp only [List.mem_cons, List.not_mem_nil, or_false, forall_eq_or_imp, forall_eq]; exact ⟨chan_mailbox, chan_mailbox⟩))
      (by simp) fun answer stored frame => ⟨answer, stored, fun _ _ => ⟨setPend_pend _ c.isLt _,
        (settle_flag ..).trans ((setPend_flag _ c.isLt _).trans (congrArg Option.isSome (setPend_pend _ c.isLt _)).symm), frame⟩,
        fun h => absurd h (by simp [grid, active])⟩
  · have idle : s.effect rowGridCtrl w.ses.val (A.GRID_CTRL c.val) w.val 0 =
        (s.written rowGridCtrl w.ses.val (A.GRID_CTRL c.val) w.val, OK) := by
      rw [heff]
      split
      · rename_i grid
        rw [if_pos fun active => hact ⟨grid, active⟩]
      · rfl
    exact completes_setting rfl (rowAt_gridCtrl c) (isCtx_grid c).1 (by decide) hp idle rfl rfl
      (Frame.written (ev := false) (ps := [.host]) (W := (· = A.GRID_CTRL c.val)) (by simp) rfl ..)
      (fun _ => mailbox_ne chan_mailbox) (by simp) fun answer stored frame =>
        ⟨answer, stored, fun grid active => absurd ⟨grid, active⟩ hact, fun _ => frame⟩

/-! ### GRID_FNOM -/

def rowFnom : Row := ⟨0xC200, 4, 1, [rw 31 0 0x42480000 .chOff .fnom], .gridFnom⟩

theorem rowAt_fnom (c : Chan) : rowAt (A.GRID_FNOM c.val) = some rowFnom := by revert c; decide

theorem bits_word (v : Word) : bits v 31 0 = v.toNat := Nat.mod_eq_of_lt v.isLt

/-- The register holds the whole word. -/
theorem stored_fnom (c : Chan) (h : Stored (A.GRID_FNOM c.val) v s u) : u.rd (A.GRID_FNOM c.val) = v := by
  have all : rowWritable rowFnom = BitVec.allOnes 32 ∧ rowMask rowFnom = BitVec.allOnes 32 := by decide
  rw [Stored, merged_eq (rowAt_fnom c) (by decide), implMask_row (isCtx_grid c).2 (rowAt_fnom c), storedWord, all.1, all.2,
    if_pos (by decide)] at h
  simpa only [BitVec.not_allOnes, BitVec.and_zero, BitVec.zero_or, BitVec.and_allOnes] using h

/-- The nominal angular frequency `x` in contexts 0, 8 and 10 of channel `c` (04 R141). -/
def State.setNominal (c : Nat) (x : F32) (s : State) : State := ((s.setCx c 0 18 x).setCx c 8 19 x).setCx c 10 19 x

theorem regAct_fnom (s : State) (old : Word) : s.regAct .gridFnom i a old v 0 =
    (s.when (s.role (chanOf a) == rGRID) fun x => x.setNominal (chanOf a) (x.wNom (chanOf a)), OK) := rfl

theorem effect_fnom (c : Chan) (hne : v ≠ s.rd (A.GRID_FNOM c.val)) : s.effect rowFnom i (A.GRID_FNOM c.val) v 0 =
    ((s.written rowFnom i (A.GRID_FNOM c.val) v).when (s.role c.val == rGRID) (State.setNominal c.val (fMul f2Pi v)), OK) := by
  have acts : s.acts rowFnom (A.GRID_FNOM c.val) v = true := acts_of_ne (f := rw 31 0 0x42480000 .chOff .fnom) (by decide) rfl
    (by simpa only [rw, bits_word] using fun h => hne (BitVec.eq_of_toNat_eq h))
  have role : (s.written rowFnom i (A.GRID_FNOM c.val) v).role c.val = s.role c.val :=
    State.get_congr (f := F.ROLE_SEL_ROLE c.val) (written_rd_ne (by simp only [F.ROLE_SEL_ROLE, A.ROLE_SEL, A.GRID_FNOM]; omega))
  have nominal : (s.written rowFnom i (A.GRID_FNOM c.val) v).wNom c.val = fMul f2Pi v := by
    rw [State.wNom, stored_fnom c (written_stored (rowAt_fnom c) (by decide))]
  rw [effect_acts rfl acts]
  refine (regAct_fnom _ _).trans ?_
  simp only [(chanOf_grid c).2, role, State.when, nominal]

theorem nominal_ne (c : Chan) : ctxAddr c.val 0 18 ≠ ctxAddr c.val 8 19 ∧ ctxAddr c.val 0 18 ≠ ctxAddr c.val 10 19 ∧
    ctxAddr c.val 8 19 ≠ ctxAddr c.val 10 19 ∧ A.GRID_FNOM c.val ≠ ctxAddr c.val 0 18 ∧ A.GRID_FNOM c.val ≠ ctxAddr c.val 8 19 ∧
    A.GRID_FNOM c.val ≠ ctxAddr c.val 10 19 := by
  simp only [ctxAddr, A.GRID_FNOM]; omega

theorem implMask_nominal (c : Chan) : implMask (ctxAddr c.val 0 18) = BitVec.allOnes 32 ∧
    implMask (ctxAddr c.val 8 19) = BitVec.allOnes 32 ∧ implMask (ctxAddr c.val 10 19) = BitVec.allOnes 32 := by
  revert c; decide

theorem setNominal_cx (s : State) (c : Chan) (x : F32) : (s.setNominal c.val x).cx c.val 0 18 = x ∧
    (s.setNominal c.val x).cx c.val 8 19 = x ∧ (s.setNominal c.val x).cx c.val 10 19 = x := by
  obtain ⟨h1, h2, h3, -⟩ := nominal_ne c
  obtain ⟨m1, m2, m3⟩ := implMask_nominal c
  refine ⟨?_, ?_, ?_⟩ <;> simp only [State.cx, State.setNominal, State.setCx]
  · rw [State.rd_wr_ne _ h2, State.rd_wr_ne _ h1, State.rd_wr_same, m1, BitVec.and_allOnes]
  · rw [State.rd_wr_ne _ h3, State.rd_wr_same, m2, BitVec.and_allOnes]
  · rw [State.rd_wr_same, m3, BitVec.and_allOnes]

theorem setNominal_fnom (s : State) (c : Chan) (x : F32) :
    (s.setNominal c.val x).rd (A.GRID_FNOM c.val) = s.rd (A.GRID_FNOM c.val) := by
  obtain ⟨-, -, -, h1, h2, h3⟩ := nominal_ne c
  rw [State.setNominal, State.setCx, State.rd_wr_ne _ h3, State.setCx, State.rd_wr_ne _ h2, State.setCx, State.rd_wr_ne _ h1]

theorem Frame.setNominal (h : Frame ev ps W s u) (h1 : W (ctxAddr c 0 18)) (h2 : W (ctxAddr c 8 19)) (h3 : W (ctxAddr c 10 19))
    (x : F32) : Frame ev ps W s (u.setNominal c x) := ((h.setCx h1 x).setCx h2 x).setCx h3 x

theorem completes_fnom {c : Chan} {w : RegWr} (hp : s.passes w.ses.val (A.GRID_FNOM c.val) w.val = true)
    (hne : w.val ≠ s.rd (A.GRID_FNOM c.val)) : completes (.gridFnomWrite c w) s fun t =>
      Answered OK s t ∧ t.rd (A.GRID_FNOM c.val) = w.val ∧
      (s.role c.val = rGRID → t.cx c.val 0 18 = fMul f2Pi w.val ∧ t.cx c.val 8 19 = fMul f2Pi w.val ∧ t.cx c.val 10 19 = fMul f2Pi w.val ∧
        Frame false [.host] (· ∈ [A.GRID_FNOM c.val, ctxAddr c.val 0 18, ctxAddr c.val 8 19, ctxAddr c.val 10 19]) s t) ∧
      (s.role c.val ≠ rGRID → Frame false [.host] (· = A.GRID_FNOM c.val) s t) := by
  have heff := effect_fnom (i := w.ses.val) c hne
  by_cases grid : s.role c.val = rGRID
  · rw [beq_iff_eq.mpr grid] at heff
    refine completes_setting rfl (rowAt_fnom c) (isCtx_grid c).2 (by decide) hp heff rfl (setNominal_fnom ..)
      (Frame.setNominal (Frame.written (ev := false) (ps := [.host])
        (W := (· ∈ [A.GRID_FNOM c.val, ctxAddr c.val 0 18, ctxAddr c.val 8 19, ctxAddr c.val 10 19])) (by simp) (by simp) ..)
        (by simp) (by simp) (by simp) _)
      (fun _ => mailbox_not_mem ?_) (by simp) fun answer stored frame => ?_
    · simp only [List.mem_cons, List.not_mem_nil, or_false, A.GRID_FNOM, ctxAddr, chBase]; omega
    · simp only [settle_cx, answered_cx]
      obtain ⟨h1, h2, h3⟩ := setNominal_cx (s.written rowFnom w.ses.val (A.GRID_FNOM c.val) w.val) c (fMul f2Pi w.val)
      exact ⟨answer, stored_fnom c stored, fun _ => ⟨h1, h2, h3, frame⟩, fun h => absurd grid h⟩
  · rw [beq_eq_false_iff_ne.mpr grid] at heff
    exact completes_setting rfl (rowAt_fnom c) (isCtx_grid c).2 (by decide) hp heff rfl rfl
      (Frame.written (ev := false) (ps := [.host]) (W := (· = A.GRID_FNOM c.val)) (by simp) rfl ..)
      (fun _ => mailbox_ne chan_mailbox) (by simp) fun answer stored frame =>
        ⟨answer, stored_fnom c stored, fun h => absurd h grid, fun _ => frame⟩

end Sys2Proof.Machine
end

section
/-! SUPPORT. The writes of SURV_CTRL: the software triggers and EN (02 R71, R72). -/

namespace Sys2Proof.Machine

variable {s u : State} {a b i c : Nat} {v : Word} {r : Row} {ev : Bool} {ps : List Part} {W : Nat → Prop} {inj : Bool}

/-! ### The triggers -/

theorem survKick_off (h : s.flag F.SURV_CTRL_EN = false) : s.survKick = s := by simp [State.survKick, State.when, h]

theorem survKick_busy (h : s.surv.conv.isSome = true) : s.survKick = s := by
  have busy : s.surv.conv.isNone = false := by rw [← Option.not_isSome, h]; rfl
  simp [State.survKick, State.when, busy]

theorem survKick_otherSource (h : s.get F.SURV_TRG_REG_SRC ≠ 3) : s.survKick = s := by simp [State.survKick, State.when, h]

theorem survKick_starts (hen : s.flag F.SURV_CTRL_EN = true) (hsrc : s.get F.SURV_TRG_REG_SRC = 3) (hc : s.surv.conv = none)
    (hn : s.seqLen false ≠ 0) : s.survKick = s.seqStart false := by
  simp [State.survKick, State.when, hen, hsrc, hc, hn]

theorem survTrigger_off (h : s.flag F.SURV_CTRL_EN = false) : s.survTrigger inj = s := by simp [State.survTrigger, h]

theorem survTrigger_starts (hen : s.flag F.SURV_CTRL_EN = true) (hn : s.seqLen inj ≠ 0) (hrun : (s.seqOf inj).run = false)
    (hfree : inj = true ∨ s.surv.inj.run = false) : s.survTrigger inj = s.seqStart inj := by
  cases inj
  · have other : s.surv.inj.run = false := hfree.resolve_left (by decide)
    have idle : s.surv.reg.run = false := hrun
    simp [State.survTrigger, hen, hn, idle, other]
  · have idle : s.surv.inj.run = false := hrun
    simp [State.survTrigger, hen, hn, idle]

theorem survTrigger_lost (hen : s.flag F.SURV_CTRL_EN = true) (hn : s.seqLen inj ≠ 0) (hrun : (s.seqOf inj).run = true) :
    s.survTrigger inj = s.trigLost inj := by
  cases inj
  · have runs : s.surv.reg.run = true := hrun
    simp [State.survTrigger, hen, hn, runs]
  · have runs : s.surv.inj.run = true := hrun
    simp [State.survTrigger, hen, hn, runs]

theorem Frame.seqStart (h : Frame ev ps W s u) (hp : .surv ∈ ps) (inj : Bool) : Frame ev ps W s (u.seqStart inj) := by
  unfold State.seqStart State.convStart
  exact (h.modSeq hp inj _).modSurv hp _

theorem Frame.survStop (h : Frame ev ps W s u) (hp : .surv ∈ ps) : Frame ev ps W s u.survStop := h.modSurv hp _

theorem Frame.survKick (h : Frame ev ps W s u) (hp : .surv ∈ ps) : Frame ev ps W s u.survKick :=
  h.when _ fun x => (Frame.refl _ _ W x).seqStart hp false

theorem survKick_rd (s : State) (a : Nat) : s.survKick.rd a = s.rd a :=
  State.when_unseen (f := State.seqStart false) (fun x => x.rd a) (fun _ => rfl) s _

theorem survKick_host (s : State) : s.survKick.host = s.host := State.when_unseen (f := State.seqStart false) State.host (fun _ => rfl) s _

/-! ### A lost trigger -/

/-- The status bit and the counter of a lost trigger (02 R71). -/
def lostStat (inj : Bool) : Fld := if inj then F.SURV_STAT_INJ_LOST else F.SURV_STAT_REG_LOST
def lostCnt (inj : Bool) : Fld := if inj then F.SURV_LOST_INJ_LOST_CNT else F.SURV_LOST_REG_LOST_CNT

theorem trigLost_eq (s : State) (inj : Bool) : s.trigLost inj = (s.inc (lostCnt inj)).raise (lostStat inj) := by cases inj <;> rfl

theorem lostStat_addr (inj : Bool) : (lostStat inj).addr = A.SURV_STAT := by cases inj <;> rfl
theorem lostCnt_addr (inj : Bool) : (lostCnt inj).addr = A.SURV_LOST := by cases inj <;> rfl
theorem lostCnt_ok (inj : Bool) : (lostCnt inj).ok = true := by cases inj <;> decide
theorem lostCnt_width (inj : Bool) : (lostCnt inj).hi + 1 - (lostCnt inj).lo = 16 := by cases inj <;> rfl

theorem trigLost_kept (s : State) (inj : Bool) :
    Kept ((s.inc (lostCnt inj)).wr A.SURV_STAT (raised ((s.inc (lostCnt inj)).rd A.SURV_STAT) (lostStat inj).lo)) (s.trigLost inj) := by
  rw [trigLost_eq, State.raise, lostStat_addr]
  exact kept_raiseAt _ _ (by decide) _

theorem trigLost_surv (s : State) (inj : Bool) : (s.trigLost inj).surv = s.surv := (trigLost_kept s inj).surv

theorem trigLost_raised (s : State) (inj : Bool) : Raised (lostStat inj) s (s.trigLost inj) := by
  have stat : (s.inc (lostCnt inj)).rd A.SURV_STAT = s.rd A.SURV_STAT := State.rd_put_ne s (by rw [lostCnt_addr]; decide) _
  rw [Raised, trigLost_eq, State.raise, lostStat_addr, rd_raiseAt_same _ _ (by decide) (by decide), stat]

theorem trigLost_count (s : State) (inj : Bool) : (s.trigLost inj).get (lostCnt inj) = (s.get (lostCnt inj) + 1) % 65536 := by
  have kept : (s.trigLost inj).get (lostCnt inj) = (s.inc (lostCnt inj)).get (lostCnt inj) := State.get_congr (by
    rw [trigLost_eq, State.raise, lostStat_addr]
    exact rd_raiseAt_ne _ _ (by decide) (by rw [lostCnt_addr]; decide) (by rw [lostCnt_addr]; decide) _)
  rw [kept, State.inc, State.get_put_same s (lostCnt_ok inj), lostCnt_width]
  exact Nat.mod_mod _ _

theorem Frame.trigLost (h : Frame true ps W s u) (h1 : W A.SURV_LOST) (h2 : W A.SURV_STAT) (inj : Bool) :
    Frame true ps W s (u.trigLost inj) := by
  rw [trigLost_eq]
  exact (h.inc (f := lostCnt inj) (by rwa [lostCnt_addr]) 1).raise (by rwa [lostStat_addr]) (by rw [lostStat_addr]; decide) _

/-! ### SURV_CTRL -/

def rowSurvCtrl : Row := ⟨0x50000, 4, 1, [rw 5 0 0 .always (.range 0 32), rw 9 6 0 .always (.range 0 8), rw 10 10 0 .always .any,
  wo 11 11 .always .any, wo 12 12 .always .any, rw 13 13 0 .always .any], .survCtrl⟩

theorem rowAt_survCtrl : rowAt A.SURV_CTRL = some rowSurvCtrl := by decide

/-- The state in which a write of `v` to SURV_CTRL acts. -/
def State.survWritten (s : State) (i : Nat) (v : Word) : State := s.written rowSurvCtrl i A.SURV_CTRL v

theorem survWritten_rd (h : a ≠ A.SURV_CTRL) : (s.survWritten i v).rd a = s.rd a := written_rd_ne h
theorem survWritten_en : (s.survWritten i v).flag F.SURV_CTRL_EN = bit v 13 :=
  written_flag (by decide) rfl rfl (by decide) (by decide)
theorem survWritten_src : (s.survWritten i v).get F.SURV_TRG_REG_SRC = s.get F.SURV_TRG_REG_SRC :=
  State.get_congr (survWritten_rd (by decide))
theorem survWritten_len (inj : Bool) : (s.survWritten i v).seqLen inj = if inj then bits v 9 6 else bits v 5 0 := by
  cases inj
  · exact written_get (f := F.SURV_CTRL_REG_LEN) (by decide) rfl (by decide) (by decide)
  · exact written_get (f := F.SURV_CTRL_INJ_LEN) (by decide) rfl (by decide) (by decide)

theorem Frame.survWritten (hp : .host ∈ ps) (hw : W A.SURV_CTRL) (s : State) (i : Nat) (v : Word) :
    Frame ev ps W s (s.survWritten i v) := Frame.written hp hw ..

/-- EN := 0, then the triggers act, as the write says; then a continuous sequence starts (02 R71, R72). -/
theorem effect_survCtrl (ha : s.acts rowSurvCtrl A.SURV_CTRL v = true) : s.effect rowSurvCtrl i A.SURV_CTRL v 0 =
    (((((s.survWritten i v).when (s.flag F.SURV_CTRL_EN && !bit v 13) State.survStop).when (bit v 12) (State.survTrigger true)).when
      (bit v 11) (State.survTrigger false)).survKick, OK) := by
  have en : s.flag F.SURV_CTRL_EN = bit (s.rd A.SURV_CTRL) 13 := (bit_eq_bits ..).symm
  rw [effect_acts rfl ha, en]
  rfl

/-! ### SW_REG and SW_INJ -/

/-- The command bit of the software trigger (02 R70). -/
def trigBit (inj : Bool) : Nat := if inj then 12 else 11

theorem bit_trig (inj : Bool) (s : State) : bit (s.withBit A.SURV_CTRL (trigBit inj)) 12 = inj ∧
    bit (s.withBit A.SURV_CTRL (trigBit inj)) 11 = !inj ∧
    bit (s.withBit A.SURV_CTRL (trigBit inj)) 13 = s.flag F.SURV_CTRL_EN := by
  have writable : bit (rowWritable rowSurvCtrl) 12 = false ∧ bit (rowWritable rowSurvCtrl) 11 = false ∧
    bit (rowWritable rowSurvCtrl) 13 = true := by decide
  have en : s.flag F.SURV_CTRL_EN = bit (s.rd A.SURV_CTRL) 13 := (bit_eq_bits ..).symm
  have small : trigBit inj < 32 := by cases inj <;> decide
  simp only [bit_withBit rowAt_survCtrl s small, writable, Bool.and_false, Bool.and_true, en]
  cases inj <;> simp [trigBit]

theorem survWritten_trig_len (inj : Bool) : (s.survWritten i (s.withBit A.SURV_CTRL (trigBit inj))).seqLen inj = s.seqLen inj := by
  have small : trigBit inj < 32 := by cases inj <;> decide
  have lens : (∀ j, 0 ≤ j → j ≤ 5 → bit (rowWritable rowSurvCtrl) j = true) ∧
      ∀ j, 6 ≤ j → j ≤ 9 → bit (rowWritable rowSurvCtrl) j = true := by
    constructor <;> (intro j h1 h2; interval_cases j <;> decide)
  have above : 9 < trigBit inj := by cases inj <;> decide
  rw [survWritten_len, bits_withBit rowAt_survCtrl s small (.inl above) lens.2,
    bits_withBit rowAt_survCtrl s small (.inl (by omega)) lens.1]
  cases inj <;> rfl

/-- A software trigger is a trigger instant at once. -/
theorem effect_trig (s : State) (i : Nat) (inj : Bool) :
    s.effect rowSurvCtrl i A.SURV_CTRL (s.withBit A.SURV_CTRL (trigBit inj)) 0 =
      (((s.survWritten i (s.withBit A.SURV_CTRL (trigBit inj))).survTrigger inj).survKick, OK) := by
  obtain ⟨b12, b11, b13⟩ := bit_trig inj s
  have acts : s.acts rowSurvCtrl A.SURV_CTRL (s.withBit A.SURV_CTRL (trigBit inj)) = true := by
    by_contra idle
    rw [Bool.not_eq_true] at idle
    have h12 := bit_clear_of_idle idle (f := wo 12 12 .always .any) (by decide) rfl rfl
    have h11 := bit_clear_of_idle idle (f := wo 11 11 .always .any) (by decide) rfl rfl
    exact absurd (b11.symm.trans h11) (by rw [b12.symm.trans h12]; decide)
  rw [effect_survCtrl acts, b12, b11, b13, Bool.and_not_self]
  cases inj <;> rfl

theorem exec_trig (ses : Ix16) (inj : Bool) (s : State) : exec (if inj then .swInj ses else .swReg ses) s =
    State.byHost (State.rowWrite ⟨ses, 0#32⟩ A.SURV_CTRL (s.withBit A.SURV_CTRL (trigBit inj))) s := by
  cases inj <;> exact bitRow_eq ..

section
variable {ses : Ix16} (hp : s.passes ses.val A.SURV_CTRL (s.withBit A.SURV_CTRL (trigBit inj)) = true)
include hp

theorem completes_trig_starts (hen : s.flag F.SURV_CTRL_EN = true) (hn : s.seqLen inj ≠ 0) (hrun : (s.seqOf inj).run = false)
    (hfree : inj = true ∨ s.surv.inj.run = false) : completes (if inj then .swInj ses else .swReg ses) s fun t =>
      Answered OK s t ∧ (t.seqOf inj).run = true ∧ (t.seqOf inj).ix = 0 ∧ t.surv.conv = some inj ∧
      (t.seqOf inj).ents = (List.range (s.seqLen inj)).map (fun j => s.rd (if inj then A.SURV_INJ j else A.SURV_REG j)) ∧
      t.seqOf (!inj) = s.seqOf (!inj) ∧ Frame false [.host, .surv] (· = A.SURV_CTRL) s t := by
  have heff := effect_trig s ses.val inj
  have len := survWritten_trig_len (s := s) (i := ses.val) inj
  rw [survTrigger_starts (survWritten_en.trans ((bit_trig inj s).2.2.trans hen)) (len.trans_ne hn) hrun hfree,
    survKick_busy rfl] at heff
  refine completes_setting (w := ⟨ses, 0#32⟩) (exec_trig ses inj s) rowAt_survCtrl (by decide) (by decide) hp heff rfl rfl
    (Frame.seqStart (Frame.survWritten (ev := false) (ps := [.host, .surv]) (W := (· = A.SURV_CTRL)) (by simp) rfl ..) (by simp) inj)
    (fun _ => mailbox_ne (by decide)) (by simp) fun answer _ frame => ⟨answer, ?_, ?_, rfl, ?_, ?_, frame⟩
  case refine_3 =>
    have entry : ∀ j, (s.survWritten ses.val (s.withBit A.SURV_CTRL (trigBit inj))).rd (if inj then A.SURV_INJ j else A.SURV_REG j) =
        s.rd (if inj then A.SURV_INJ j else A.SURV_REG j) := fun j => survWritten_rd (by
      cases inj <;> simp only [if_true, Bool.false_eq_true, if_false, A.SURV_INJ, A.SURV_REG, A.SURV_CTRL] <;> omega)
    simp only [← entry, ← len]
    cases inj <;> rfl
  all_goals cases inj <;> rfl

theorem completes_trig_lost (hen : s.flag F.SURV_CTRL_EN = true) (hn : s.seqLen inj ≠ 0) (hrun : (s.seqOf inj).run = true)
    (hc : s.surv.conv.isSome = true) : completes (if inj then .swInj ses else .swReg ses) s fun t =>
      t.host.ans = OK ∧ t.surv = s.surv ∧ Raised (lostStat inj) s t ∧
      t.get (lostCnt inj) = (s.get (lostCnt inj) + 1) % 65536 ∧
      Frame true [.host] (· ∈ [A.SURV_CTRL, A.SURV_LOST, A.SURV_STAT]) s t := by
  have heff := effect_trig s ses.val inj
  have trig : (s.survWritten ses.val (s.withBit A.SURV_CTRL (trigBit inj))).survTrigger inj =
      (s.survWritten ses.val (s.withBit A.SURV_CTRL (trigBit inj))).trigLost inj :=
    survTrigger_lost (survWritten_en.trans ((bit_trig inj s).2.2.trans hen)) ((survWritten_trig_len inj).trans_ne hn) hrun
  have busy : ((s.survWritten ses.val (s.withBit A.SURV_CTRL (trigBit inj))).trigLost inj).surv.conv.isSome = true := by
    rw [trigLost_surv]; exact hc
  rw [trig, survKick_busy busy] at heff
  have stat : (s.survWritten ses.val (s.withBit A.SURV_CTRL (trigBit inj))).rd (lostStat inj).addr = s.rd (lostStat inj).addr :=
    survWritten_rd (by rw [lostStat_addr]; decide)
  have cnt : (s.survWritten ses.val (s.withBit A.SURV_CTRL (trigBit inj))).get (lostCnt inj) = s.get (lostCnt inj) :=
    State.get_congr (survWritten_rd (by rw [lostCnt_addr]; decide))
  refine completes_effect (w := ⟨ses, 0#32⟩) (exec_trig ses inj s) rowAt_survCtrl (by decide) hp heff
    (Frame.trigLost (Frame.survWritten (ps := [.host]) (W := (· ∈ [A.SURV_CTRL, A.SURV_LOST, A.SURV_STAT])) (by simp) (by simp) ..)
      (by simp) (by simp) inj)
    (fun _ => mailbox_not_mem (by decide)) (by simp) fun frame => ⟨rfl, trigLost_surv .., ?_, ?_, frame⟩
  · rw [Raised, settle_rd, answered_rd, ← stat]
    exact trigLost_raised ..
  · rw [settle_get, answered_get, ← cnt]
    exact trigLost_count ..

theorem completes_trig_off (hen : s.flag F.SURV_CTRL_EN = false) : completes (if inj then .swInj ses else .swReg ses) s fun t =>
    Answered OK s t ∧ Frame false [.host] (· = A.SURV_CTRL) s t := by
  have heff := effect_trig s ses.val inj
  have off : (s.survWritten ses.val (s.withBit A.SURV_CTRL (trigBit inj))).flag F.SURV_CTRL_EN = false :=
    survWritten_en.trans ((bit_trig inj s).2.2.trans hen)
  rw [survTrigger_off off, survKick_off off] at heff
  exact completes_setting (w := ⟨ses, 0#32⟩) (exec_trig ses inj s) rowAt_survCtrl (by decide) (by decide) hp heff rfl rfl
    (Frame.survWritten (ev := false) (ps := [.host]) (W := (· = A.SURV_CTRL)) (by simp) rfl ..)
    (fun _ => mailbox_ne (by decide)) (by simp) fun answer _ frame => ⟨answer, frame⟩

end

/-! ### EN -/

/-- A write of EN without a trigger (02 R72). -/
theorem effect_survEn (h : bits v 12 11 = 0) (ha : s.acts rowSurvCtrl A.SURV_CTRL v = true) :
    s.effect rowSurvCtrl i A.SURV_CTRL v 0 =
      (((s.survWritten i v).when (s.flag F.SURV_CTRL_EN && !bit v 13) State.survStop).survKick, OK) := by
  have b12 : bit v 12 = false := bit_clear_of_bits h (by decide) (by decide)
  have b11 : bit v 11 = false := bit_clear_of_bits h (by decide) (by decide)
  rw [effect_survCtrl ha, b12, b11]
  rfl

/-- What a write of EN makes of the converter `x`: EN before, the written word, the source of the regular sequence. -/
def EnWritten (en : Bool) (v : Word) (src : Nat) (x y : Surv) : Prop :=
  (en = true → bit v 13 = false → y.conv = none ∧ y.reg.run = false ∧ y.inj.run = false ∧ y.reg.pend = false ∧ y.buf = x.buf) ∧
  (bit v 13 = true → src ≠ 3 ∨ x.conv.isSome = true → y = x) ∧
  (bit v 13 = true → en = false → src = 3 → x.conv = none → bits v 5 0 ≠ 0 → y.reg.run = true ∧ y.conv = some false)

theorem enWritten_idle {b : Bool} (h : bit v 13 = b) (src : Nat) (x : Surv) : EnWritten b v src x x := by
  subst h
  exact ⟨fun h1 h2 => absurd (h1.symm.trans h2) (by decide), fun _ _ => rfl, fun h1 h2 => absurd (h1.symm.trans h2) (by decide)⟩

theorem enWritten_acts (s : State) (i : Nat) (v : Word) : EnWritten (s.flag F.SURV_CTRL_EN) v (s.get F.SURV_TRG_REG_SRC) s.surv
    ((s.survWritten i v).when (s.flag F.SURV_CTRL_EN && !bit v 13) State.survStop).survKick.surv := by
  have en := survWritten_en (s := s) (i := i) (v := v)
  have src := survWritten_src (s := s) (i := i) (v := v)
  refine ⟨fun h1 h2 => ?stop, fun h h2 => ?busy, fun h h1 hsrc hc hn => ?start⟩
  case stop =>
    have off : (s.survWritten i v).survStop.flag F.SURV_CTRL_EN = false := en.trans h2
    rw [h1, h2, show (s.survWritten i v).when (true && !false) State.survStop = (s.survWritten i v).survStop from rfl, survKick_off off]
    exact ⟨rfl, rfl, rfl, rfl, rfl⟩
  case busy =>
    rw [h, Bool.not_true, Bool.and_false, show (s.survWritten i v).when false State.survStop = s.survWritten i v from rfl]
    rcases h2 with h2 | h2
    · rw [survKick_otherSource (src.trans_ne h2)]; rfl
    · rw [survKick_busy (s := s.survWritten i v) h2]; rfl
  case start =>
    have len : (s.survWritten i v).seqLen false ≠ 0 := (survWritten_len false).trans_ne hn
    rw [h, Bool.not_true, Bool.and_false, show (s.survWritten i v).when false State.survStop = s.survWritten i v from rfl,
      survKick_starts (en.trans h) (src.trans hsrc) hc len]
    exact ⟨rfl, rfl⟩

/-- A write of EN completes in the converter's state `u`. -/
theorem completes_survEn_of {w : RegWr} (hp : s.passes w.ses.val A.SURV_CTRL w.val = true)
    (heff : s.effect rowSurvCtrl w.ses.val A.SURV_CTRL w.val 0 = (u, OK)) (hh : u.host = (s.acting w.ses.val).host)
    (hrd : u.rd A.SURV_CTRL = (s.survWritten w.ses.val w.val).rd A.SURV_CTRL) (hf : Frame false [.host, .surv] (· = A.SURV_CTRL) s u)
    (hen : EnWritten (s.flag F.SURV_CTRL_EN) w.val (s.get F.SURV_TRG_REG_SRC) s.surv u.surv) : completes (.survCtrlEnWrite w) s fun t =>
      Answered OK s t ∧ Stored A.SURV_CTRL w.val s t ∧ Frame false [.host, .surv] (· = A.SURV_CTRL) s t ∧
      EnWritten (s.flag F.SURV_CTRL_EN) w.val (s.get F.SURV_TRG_REG_SRC) s.surv t.surv :=
  completes_setting rfl rowAt_survCtrl (by decide) (by decide) hp heff hh hrd hf (fun _ => mailbox_ne (by decide)) (by simp)
    fun answer stored frame => ⟨answer, stored, frame, hen⟩

theorem completes_survEn {w : RegWr} (hp : s.passes w.ses.val A.SURV_CTRL w.val = true) (hb : bits w.val 12 11 = 0) :
    completes (.survCtrlEnWrite w) s fun t =>
      Answered OK s t ∧ Stored A.SURV_CTRL w.val s t ∧ Frame false [.host, .surv] (· = A.SURV_CTRL) s t ∧
      EnWritten (s.flag F.SURV_CTRL_EN) w.val (s.get F.SURV_TRG_REG_SRC) s.surv t.surv := by
  have stored := Frame.survWritten (ev := false) (ps := [.host, .surv]) (W := (· = A.SURV_CTRL)) (by simp) rfl s w.ses.val w.val
  cases ha : s.acts rowSurvCtrl A.SURV_CTRL w.val
  · have same : bit w.val 13 = s.flag F.SURV_CTRL_EN :=
      (bit_kept_of_idle ha (f := rw 13 13 0 .always .any) (by decide) rfl rfl).trans (bit_eq_bits ..)
    exact completes_survEn_of hp (effect_idle rfl ha) rfl rfl stored (enWritten_idle same ..)
  · refine completes_survEn_of hp (effect_survEn hb ha) ((survKick_host _).trans ?host) ((survKick_rd ..).trans ?word)
      (Frame.survKick (stored.when _ fun x => (Frame.refl _ _ _ x).survStop (by simp)) (by simp)) (enWritten_acts ..)
    case host => exact State.when_unseen (f := State.survStop) State.host (fun _ => rfl) _ _
    case word => exact State.when_unseen (f := State.survStop) (fun x => x.rd A.SURV_CTRL) (fun _ => rfl) _ _

end Sys2Proof.Machine
end

section
/-! SUPPORT. The settings of chapters 01 to 05 that act when they are written (15 R516). -/

namespace Sys2Proof.Machine

/-- Settles O47: each setting by the law of its write, the software triggers by their three outcomes. -/
theorem deviceSettingWritesAct : Obligations.DeviceSettingWritesAct := by
  intro s c w
  refine ⟨completes_burst, completes_sync, fun inj x hx hp => ?triggers, completes_survEn,
    completes_stored rfl rowAt_bufRd (by decide) (by decide) rfl (by decide), completes_ride, completes_recRelease, completes_recEn,
    completes_stored rfl (rowAt_freeze c) (isCtx_freeze c) (by decide) rfl chan_mailbox, completes_gridSub, completes_fnom⟩
  case triggers =>
    subst hx
    refine ⟨completes_trig_starts hp, fun hen hn hrun hc => ?_, completes_trig_off hp⟩
    have lost := completes_trig_lost hp hen hn hrun hc
    cases inj <;> exact lost

end Sys2Proof.Machine
end

section
/-! SUPPORT. What the operations of a channel leave of its modulator input paths (02 R53–R61; 08 R255, R260). -/

namespace Sys2Proof.Machine

variable {ev : Bool} {ps : List Part} {W : Nat → Prop} {s u v : State} {c : Nat}

/-- The modulator input paths of every channel are as they were. -/
structure MdKept (s u : State) : Prop where
  md : ∀ d, (u.chn d).md = (s.chn d).md

theorem MdKept.refl (s : State) : MdKept s s := ⟨fun _ => rfl⟩

theorem MdKept.trans (h : MdKept s u) (k : MdKept u v) : MdKept s v := ⟨fun d => (k.md d).trans (h.md d)⟩

theorem MdKept.mdi (h : MdKept s u) (c m : Nat) : u.mdi c m = s.mdi c m := by simp only [State.mdi, h.md c]

theorem MdKept.of_ch (h : MdKept s u) (he : v.ch = u.ch) : MdKept s v := ⟨fun d => by rw [← h.md d, State.chn, State.chn, he]⟩

theorem MdKept.modCh (h : MdKept s u) (c : Nat) {f : Ch → Ch} (hf : ∀ x, (f x).md = x.md) : MdKept s (u.modCh c f) := ⟨fun d => by
  by_cases hd : d = c
  · subst hd
    by_cases h8 : d < 8
    · rw [State.chn_modCh_same u h8, hf, h.md d]
    · rw [← h.md d]; simp [State.chn, State.modCh, h8]
  · rw [State.chn_modCh_ne u hd, h.md d]⟩

theorem MdKept.modHb (h : MdKept s u) (c k : Nat) (f : HbSt → HbSt) : MdKept s (u.modHb c k f) := h.modCh c fun _ => rfl
theorem MdKept.modGate (h : MdKept s u) (c k : Nat) (f : GateSt → GateSt) : MdKept s (u.modGate c k f) := h.modCh c fun _ => rfl

theorem MdKept.wr (h : MdKept s u) (a : Nat) (x : Word) : MdKept s (u.wr a x) := h.of_ch rfl
theorem MdKept.put (h : MdKept s u) (f : Fld) (n : Nat) : MdKept s (u.put f n) := h.of_ch rfl
theorem MdKept.putb (h : MdKept s u) (f : Fld) (b : Bool) : MdKept s (u.putb f b) := h.of_ch rfl
theorem MdKept.inc (h : MdKept s u) (f : Fld) (n : Nat) : MdKept s (u.inc f n) := h.of_ch rfl
theorem MdKept.incSat (h : MdKept s u) (f : Fld) : MdKept s (u.incSat f) := h.of_ch rfl

theorem MdKept.when (h : MdKept s u) (b : Bool) {f : State → State} (hf : ∀ x, MdKept x (f x)) : MdKept s (u.when b f) := by
  cases b
  · exact h
  · exact h.trans (hf u)

theorem MdKept.each {f : Nat → State → State} (l : List Nat) (hf : ∀ i x, MdKept x (f i x)) (h : MdKept s u) :
    MdKept s (u.each l f) := by
  induction l generalizing u with
  | nil => exact h
  | cons i t ih => exact ih (h.trans (hf i u))

theorem MdKept.raise (h : MdKept s u) {f : Fld} (ha : f.addr < 0x180000) (det : List Word) : MdKept s (u.raise f det) :=
  h.of_ch (kept_raiseAt u f.lo ha det).ch

theorem MdKept.gateUpdate (h : MdKept s u) (c k : Nat) : MdKept s (u.gateUpdate c k) := by
  unfold State.gateUpdate
  split
  exact h.modGate _ _ _

theorem MdKept.applyForce (h : MdKept s u) (c : Nat) : MdKept s (u.applyForce c) := by
  refine MdKept.each hbs (fun k x => (MdKept.refl x).gateUpdate c k) (MdKept.each hbs (fun k x => ?_) (((h.put _ _).put _ _).putb _ _))
  dsimp only
  split
  · exact (MdKept.refl x).modHb _ _ _
  · split
    · exact ((MdKept.refl x).modHb _ _ _).modGate _ _ _
    · exact MdKept.refl x

theorem MdKept.refuse (hc : c < 8) (h : MdKept s u) (k : Nat) : MdKept s (u.refuse c k) := by
  have event : ∀ (f : Fld) {g : Fld}, g.addr < 0x180000 → MdKept s ((u.put f k).raise g) := fun f g hg =>
    (h.put f k).raise hg _
  unfold State.refuse
  dsimp only
  split
  · exact event _ (chBase_lt hc (by decide))
  · split
    · exact event _ (chBase_lt hc (by decide))
    · split
      · exact event _ (chBase_lt hc (by decide))
      · exact h

theorem MdKept.setKm (h : MdKept s u) (c : Nat) (b : Bool) : MdKept s (u.setKm c b) := by
  refine MdKept.gateUpdate ?_ c 6
  split
  · exact h.putb _ _
  · split
    · exact h.putb _ _
    · exact h

theorem MdKept.toOff (hc : c < 8) (h : MdKept s u) (k : Nat) : MdKept s (u.toOff c k) := by
  have moved := MdKept.setKm (h.put (F.ROLE_STAT_CH_STATE c) sOFF) c false
  unfold State.toOff
  refine MdKept.applyForce (MdKept.refuse hc ?_ k) c
  refine MdKept.putb (MdKept.putb ?_ _ _) _ _
  refine MdKept.putb (MdKept.putb (MdKept.putb ?_ _ _) _ _) _ _
  refine MdKept.put (MdKept.putb (MdKept.putb ?_ _ _) _ _) _ _
  exact MdKept.modCh moved c (by intro; rfl)

theorem MdKept.exitToOff (hc : c < 8) (h : MdKept s u) (k : Nat) : MdKept s (u.exitToOff c k) := by
  unfold State.exitToOff
  split
  · exact h.toOff hc k
  · exact h

theorem MdKept.trqEntry (h : MdKept s u) (c code inp off : Nat) : MdKept s (u.trqEntry c code inp off) := by
  unfold State.trqEntry
  dsimp only
  split
  · exact (((h.wr _ _).wr _ _).wr _ _).put _ _
  · exact (h.wr _ _).incSat _

theorem MdKept.trip (hc : c < 8) (h : MdKept s u) (code inp off : Nat) : MdKept s (u.trip c code inp off) := by
  unfold State.trip
  split
  · exact h.trqEntry c code inp off
  · refine MdKept.raise (MdKept.applyForce (MdKept.exitToOff hc ?_ _) c) (chBase_lt hc (by decide)) _
    have cleared : MdKept s (((((u.putb (F.GDI_STAT_TRIPPED c) true).modCh c fun x => { x with offDrive := true }).wr
        (A.GDI_SRC c) 0#32).wr (A.GDI_TRQ_N c) 0#32).each [0, 1, 2, 3, 4, 5, 6, 7] fun k s =>
          (s.wr (A.GDI_TRQ_A c k) 0#32).wr (A.GDI_TRQ_B c k) 0#32) :=
      MdKept.each _ (fun _ x => ((MdKept.refl x).wr _ _).wr _ _) ((((h.putb _ _).modCh c (by intro; rfl)).wr _ _).wr _ _)
    have entered := (cleared.trqEntry c code inp off).inc (F.GDI_CNT_TRIP_CNT c) 1
    split
    · exact entered.put _ _
    · exact entered

theorem MdKept.tripIn (h : MdKept s u) (c code : Nat) (act : Bool) (off : Nat) : MdKept s (u.tripIn c code act off) := by
  unfold State.tripIn
  dsimp only
  split
  · exact ((h.wr _ _).putb _ _).modCh c (by intro; rfl)
  · exact (h.wr _ _).putb _ _

end Sys2Proof.Machine
end

section
/-! SUPPORT. A source of the trip inputs turns, and trips the channel where its action says so (02 R55, R61; 08 R255, R260). -/

namespace Sys2Proof.Machine

variable {ev : Bool} {ps : List Part} {W : Nat → Prop} {s u : State} {c : Nat}

/-! ### The trip input -/

theorem tripIn_rd (s : State) (c code : Nat) (act : Bool) (off a : Nat) : (s.tripIn c code act off).rd a =
    ((s.wr (A.GDI_IN c) (setBits (s.rd (A.GDI_IN c)) (srcBit code) (srcBit code) (b2n act))).putb (F.GDI_STAT_IN_ACTIVE c)
      ((s.wr (A.GDI_IN c) (setBits (s.rd (A.GDI_IN c)) (srcBit code) (srcBit code) (b2n act))).rd (A.GDI_IN c) != 0#32)).rd a := by
  unfold State.tripIn
  dsimp only
  split
  · exact State.modCh_rd ..
  · rfl

theorem tripIn_tripped (hc : c < 8) (s : State) (code : Nat) (act : Bool) (off : Nat) :
    (s.tripIn c code act off).flag (F.GDI_STAT_TRIPPED c) = s.flag (F.GDI_STAT_TRIPPED c) := by
  refine State.flag_congr ((State.get_congr (tripIn_rd ..)).trans ?_)
  rw [State.putb, State.get_put_field _ (f := F.GDI_STAT_IN_ACTIVE c) (g := F.GDI_STAT_TRIPPED c) (chanFld_ok hc (by decide))
    (show 3 < 32 by decide) rfl (show 3 < 0 ∨ 0 < 3 by decide)]
  exact State.get_wr_ne s (by simp only [F.GDI_STAT_TRIPPED, A.GDI_STAT, A.GDI_IN]; omega) _

theorem bit_setBits (w : Word) {b : Nat} (hb : b < 32) (act : Bool) : bit (setBits w b b (b2n act)) b = act := by
  rw [bit, setBits_testBit hb, if_pos ⟨Nat.le_refl b, Nat.le_refl b⟩, Nat.sub_self]
  cases act <;> rfl

/-- The bit of the trip inputs shows whether the source is active, where GDI_IN implements it. -/
theorem tripIn_bit (s : State) (c : Nat) {code : Nat} (hb : bit (implMask (A.GDI_IN c)) (srcBit code) = true) (h32 : srcBit code < 32)
    (act : Bool) (off : Nat) : bit ((s.tripIn c code act off).rd (A.GDI_IN c)) (srcBit code) = act := by
  rw [tripIn_rd, State.putb, State.rd_put_ne _ (by simp only [F.GDI_STAT_IN_ACTIVE, A.GDI_IN, A.GDI_STAT]; omega), State.rd_wr_same, bit,
    BitVec.toNat_and, Nat.testBit_and]
  exact (congrArg₂ and (bit_setBits _ h32 act) hb).trans (Bool.and_true _)

theorem GDI_IN_implements (hc : c < 8) : ∀ code ∈ [0x20, 0x21], bit (implMask (A.GDI_IN c)) (srcBit code) = true := by
  have all : ∀ d : Fin 8, ∀ code ∈ [0x20, 0x21], bit (implMask (A.GDI_IN d.val)) (srcBit code) = true := by decide
  exact all ⟨c, hc⟩

/-! ### The trip -/

/-- The words of a trip lie outside the modulator inputs and the trip inputs. -/
theorem not_tripWords {o : Nat} (h : o = 0x6014 ∨ 0x8000 ≤ o ∧ o < 0xC000) : ¬ tripWords c (chBase c + o) := by
  rintro (hw | ⟨k, hk, hw | hw⟩)
  · simp only [List.mem_cons, List.not_mem_nil, or_false, A.GDI_STAT, A.GDI_SRC, A.GDI_TRQ_N, A.GDI_CNT, A.GDI_EVT, A.PWM_FORCE,
      A.PWM_FSTAT, A.ROLE_STAT, A.GRID_STAT, A.GRID_EVT, A.DC_STAT, A.DC_EVT, A.MACH_STAT, A.MACH_EVT, A.RIDE_CH_STAT] at hw
    omega
  all_goals simp only [A.GDI_TRQ_A, A.GDI_TRQ_B] at hw; omega

theorem trip_rd (hc : c < 8) (s : State) {o : Nat} (h : o = 0x6014 ∨ 0x8000 ≤ o ∧ o < 0xC000) (code inp off : Nat) :
    (s.trip c code inp off).rd (chBase c + o) = s.rd (chBase c + o) :=
  (Frame.trip hc (Frame.refl true [.chan c] (tripWords c) s) (by simp) (fun _ h => h) code inp off).words _ (not_tripWords h) fun _ =>
    bookAddr_chan (by unfold chBase; omega)

/-! ### A source -/

/-- Input `m` makes source `code` of the trip inputs active or not, and trips the channel where `trips` says so. -/
def State.tripSource (c code m : Nat) (act trips : Bool) (s : State) : State :=
  (s.tripIn c code act 0).when trips fun s => s.trip c code m 0

theorem Frame.tripSource (hc : c < 8) (h : Frame true ps W s u) (hp : .chan c ∈ ps) (h1 : W (A.GDI_IN c)) (h2 : W (A.GDI_STAT c))
    {trips : Bool} (ht : trips = true → ∀ a, tripWords c a → W a) (code m : Nat) (act : Bool) :
    Frame true ps W s (u.tripSource c code m act trips) := by
  have turned : Frame true ps W s (u.tripIn c code act 0) := h.tripIn hp h1 h2 code act 0
  cases trips
  · exact turned
  · exact turned.trip hc hp (ht rfl) code m 0

theorem MdKept.tripSource (hc : c < 8) (h : MdKept s u) (code m : Nat) (act trips : Bool) :
    MdKept s (u.tripSource c code m act trips) :=
  MdKept.when (h.tripIn c code act 0) trips fun x => (MdKept.refl x).trip hc code m 0

/-- The words of the modulator inputs stay. -/
theorem tripSource_rd (hc : c < 8) (s : State) {o : Nat} (h : 0x8000 ≤ o ∧ o < 0xC000) (code m : Nat) (act trips : Bool) :
    (s.tripSource c code m act trips).rd (chBase c + o) = s.rd (chBase c + o) := by
  have turned : (s.tripIn c code act 0).rd (chBase c + o) = s.rd (chBase c + o) := by
    rw [tripIn_rd, State.putb, State.rd_put_ne _ (by simp only [F.GDI_STAT_IN_ACTIVE, A.GDI_STAT]; omega),
      State.rd_wr_ne _ (by simp only [A.GDI_IN]; omega)]
  exact (State.when_unseen (fun x => x.rd (chBase c + o)) (fun x => trip_rd hc x (.inr h) code m 0) _ trips).trans turned

theorem tripSource_bit (hc : c < 8) (s : State) {code : Nat} (hcode : code ∈ [0x20, 0x21]) (m : Nat) (act trips : Bool) :
    bit ((s.tripSource c code m act trips).rd (A.GDI_IN c)) (srcBit code) = act := by
  have low : ∀ k ∈ [0x20, 0x21], srcBit k < 32 := by decide
  have kept : (s.tripSource c code m act trips).rd (A.GDI_IN c) = (s.tripIn c code act 0).rd (A.GDI_IN c) :=
    State.when_unseen (fun x => x.rd (A.GDI_IN c)) (fun x => trip_rd hc x (.inl rfl) code m 0) _ trips
  rw [kept, tripIn_bit s c (GDI_IN_implements hc code hcode) (low code hcode)]

theorem tripSource_trips (hc : c < 8) (s : State) (code m : Nat) (act : Bool) :
    (s.tripSource c code m act true).flag (F.GDI_STAT_TRIPPED c) = true := trip_latches hc _ code m 0

theorem tripSource_latched (hc : c < 8) (h : s.flag (F.GDI_STAT_TRIPPED c) = true) (code m : Nat) (act trips : Bool) :
    (s.tripSource c code m act trips).flag (F.GDI_STAT_TRIPPED c) = true := by
  cases trips
  · exact (tripIn_tripped hc s code act 0).trans h
  · exact tripSource_trips hc s code m act

end Sys2Proof.Machine
end

section
/-! SUPPORT. Faults of a modulator input: stuck, a lost clock, valid again, settled (02 R53–R57). -/

namespace Sys2Proof.Machine

variable {ev : Bool} {ps : List Part} {W : Nat → Prop} {s u : State} {c m : Nat}

/-! ### The words of an input -/

theorem FLT_IN_CFG_offset (hm : m < 12) : 0x8000 ≤ 0x8100 + 0x20 * m ∧ 0x8100 + 0x20 * m < 0xC000 := by omega

theorem FLT_IN_CFG_ne_valid (c m : Nat) : A.FLT_IN_CFG c m ≠ A.FLT_VALID c := by simp only [A.FLT_IN_CFG, A.FLT_VALID]; omega
theorem FLT_IN_CFG_ne_stat (c m : Nat) : A.FLT_IN_CFG c m ≠ A.FLT_STAT c := by simp only [A.FLT_IN_CFG, A.FLT_STAT]; omega
theorem FLT_IN_CFG_ne_limstat (c m : Nat) : A.FLT_IN_CFG c m ≠ A.FLT_LIMSTAT c := by simp only [A.FLT_IN_CFG, A.FLT_LIMSTAT]; omega

theorem mdOn_congr (h : u.rd (A.FLT_IN_CFG c m) = s.rd (A.FLT_IN_CFG c m)) : u.mdOn c m = s.mdOn c m :=
  State.flag_congr (State.get_congr (f := F.FLT_IN_CFG_EN c m) h)

theorem faultAct_congr (h : u.rd (A.FLT_IN_CFG c m) = s.rd (A.FLT_IN_CFG c m)) :
    u.get (F.FLT_IN_CFG_FAULT_ACT c m) = s.get (F.FLT_IN_CFG_FAULT_ACT c m) := State.get_congr h

theorem tripSource_cfg (hc : c < 8) (hm : m < 12) (s : State) (code inp : Nat) (act trips : Bool) :
    (s.tripSource c code inp act trips).rd (A.FLT_IN_CFG c m) = s.rd (A.FLT_IN_CFG c m) := by
  rw [A.FLT_IN_CFG, Nat.add_assoc]
  exact tripSource_rd hc s (FLT_IN_CFG_offset hm) code inp act trips

/-- Setting bit `j` of a set of bits leaves the others. -/
theorem State.bitOf_putBit_true (s : State) {f : Fld} (hf : f.ok = true) {j : Nat} (hj : j < f.hi + 1 - f.lo) (m : Nat) :
    (s.putBit f j true).bitOf f m = (s.bitOf f m || m == j) := by
  have inside : (s.get f).testBit m = (decide (m < f.hi + 1 - f.lo) && (s.get f).testBit m) := by
    simp [State.get, bits_testBit]
  rw [State.bitOf, State.putBit, State.get_put_same s hf, if_pos rfl, Nat.testBit_mod_two_pow, Nat.testBit_or, Nat.testBit_two_pow,
    State.bitOf, inside]
  by_cases h : j = m
  · subst h; simp [hj]
  · have h' : (m == j) = false := beq_eq_false_iff_ne.mpr (Ne.symm h)
    cases decide (m < f.hi + 1 - f.lo) <;> simp [h, h']

theorem putBit_valid_mclkOk (hc : c < 8) (s : State) (j : Nat) (b : Bool) :
    (s.putBit (F.FLT_VALID_VALID c) j b).flag (F.FLT_VALID_MCLK_OK c) = s.flag (F.FLT_VALID_MCLK_OK c) :=
  State.flag_congr (State.get_put_field s (f := F.FLT_VALID_VALID c) (g := F.FLT_VALID_MCLK_OK c) (FLT_VALID_ok hc).2
    (show 11 < 32 by decide) rfl (show 11 < 12 ∨ 12 < 0 by decide) _)

/-! ### An input becomes invalid by a fault -/

/-- Input `m` is not valid and held by a fault. -/
def State.faulted (c m : Nat) (s : State) : State := (s.putBit (F.FLT_VALID_VALID c) m false).modMd c m fun x => { x with stuck := true }

theorem faulted_rd (s : State) {a : Nat} (h : a ≠ A.FLT_VALID c) (m : Nat) : (s.faulted c m).rd a = s.rd a := State.rd_put_ne s h _

theorem faulted_valid (hc : c < 8) {d : Nat} (hd : d < 12) (s : State) (m : Nat) :
    (s.faulted c d).bitOf (F.FLT_VALID_VALID c) m = (s.bitOf (F.FLT_VALID_VALID c) m && m != d) :=
  State.bitOf_putBit_false s (FLT_VALID_ok hc).1 hd m

theorem faulted_cfg (s : State) (c d m : Nat) : (s.faulted c d).rd (A.FLT_IN_CFG c m) = s.rd (A.FLT_IN_CFG c m) :=
  faulted_rd s (FLT_IN_CFG_ne_valid c m) d

theorem inputFault_eq (hc : c < 8) (hm : m < 12) (s : State) : s.inputFault c m =
    (s.faulted c m).tripSource c 0x21 m ((s.faulted c m).invalidInput c) (s.get (F.FLT_IN_CFG_FAULT_ACT c m) == 0) := by
  have act : ((s.faulted c m).invalidUpdate c 0).get (F.FLT_IN_CFG_FAULT_ACT c m) = s.get (F.FLT_IN_CFG_FAULT_ACT c m) :=
    faultAct_congr ((tripSource_cfg hc hm _ 0x21 m _ false).trans (faulted_cfg s c m m))
  rw [← act]
  rfl

theorem inputFault_cfg (hc : c < 8) {d : Nat} (hd : d < 12) (hm : m < 12) (s : State) :
    (s.inputFault c d).rd (A.FLT_IN_CFG c m) = s.rd (A.FLT_IN_CFG c m) := by
  rw [inputFault_eq hc hd, tripSource_cfg hc hm, faulted_cfg]

theorem inputFault_stat (hc : c < 8) {d : Nat} (hd : d < 12) (s : State) : (s.inputFault c d).rd (A.FLT_STAT c) = s.rd (A.FLT_STAT c) := by
  rw [inputFault_eq hc hd]
  exact (tripSource_rd hc _ (by decide) ..).trans (faulted_rd s (by simp only [A.FLT_VALID]; omega) d)

theorem inputFault_valid (hc : c < 8) {d : Nat} (hd : d < 12) (s : State) :
    (s.inputFault c d).rd (A.FLT_VALID c) = (s.faulted c d).rd (A.FLT_VALID c) := by
  rw [inputFault_eq hc hd]
  exact tripSource_rd hc _ (by decide) ..

theorem inputFault_mdi (hc : c < 8) {d : Nat} (hd : d < 12) (s : State) (m : Nat) :
    (s.inputFault c d).mdi c m = (s.faulted c d).mdi c m := by
  rw [inputFault_eq hc hd]
  exact ((MdKept.refl _).tripSource hc ..).mdi c m

/-- INVALID turns active with an input that trips (02 R56). -/
theorem faulted_invalid (hc : c < 8) (hm : m < 12) (hon : s.mdOn c m = true) (hact : s.get (F.FLT_IN_CFG_FAULT_ACT c m) = 0) :
    (s.faulted c m).invalidInput c = true := by
  have stuck : ((s.faulted c m).mdi c m).stuck = true := congrArg MdSt.stuck (State.mdi_modMd_same _ hc hm _)
  have on : (s.faulted c m).mdOn c m = true := (mdOn_putBit_valid s m m false).trans hon
  have act : (s.faulted c m).get (F.FLT_IN_CFG_FAULT_ACT c m) = 0 := (faultAct_congr (faulted_cfg s c m m)).trans hact
  exact List.any_eq_true.mpr ⟨m, List.mem_range.mpr hm, by simp [on, stuck, act]⟩

/-- Input `m` is held by a fault: not valid, and the channel tripped where its action is to trip (02 R55). -/
def InputFaulted (c m : Nat) (u : State) : Prop :=
  u.bitOf (F.FLT_VALID_VALID c) m = false ∧ (u.mdi c m).stuck = true ∧
    (u.get (F.FLT_IN_CFG_FAULT_ACT c m) = 0 → u.flag (F.GDI_STAT_TRIPPED c) = true)

theorem inputFault_faults (hc : c < 8) (hm : m < 12) (s : State) : InputFaulted c m (s.inputFault c m) := by
  refine ⟨?_, ?_, fun hact => ?_⟩
  · rw [State.bitOf_congr (State.get_congr (f := F.FLT_VALID_VALID c) (inputFault_valid hc hm s)), faulted_valid hc hm]
    simp
  · rw [inputFault_mdi hc hm]
    exact congrArg MdSt.stuck (State.mdi_modMd_same _ hc hm _)
  · have trips : s.get (F.FLT_IN_CFG_FAULT_ACT c m) = 0 := (faultAct_congr (inputFault_cfg hc hm hm s)).symm.trans hact
    rw [inputFault_eq hc hm, trips]
    exact tripSource_trips hc _ 0x21 m _

/-- A fault of another input, or once more of this one, leaves it held. -/
theorem inputFault_keeps (hc : c < 8) (hm : m < 12) {d : Nat} (hd : d < 12) (h : InputFaulted c m s) :
    InputFaulted c m (s.inputFault c d) := by
  obtain ⟨hvalid, hstuck, htrip⟩ := h
  refine ⟨?_, ?_, fun hact => ?_⟩
  · rw [State.bitOf_congr (State.get_congr (f := F.FLT_VALID_VALID c) (inputFault_valid hc hd s)), faulted_valid hc hd, hvalid,
      Bool.false_and]
  · rw [inputFault_mdi hc hd]
    by_cases hdm : d = m
    · subst hdm; exact congrArg MdSt.stuck (State.mdi_modMd_same _ hc hm _)
    · exact (congrArg MdSt.stuck (State.mdi_modMd_ne _ hc hdm _)).trans hstuck
  · have kept : (s.faulted c d).flag (F.GDI_STAT_TRIPPED c) = s.flag (F.GDI_STAT_TRIPPED c) :=
      State.flag_congr (State.get_congr (faulted_rd s (by simp only [F.GDI_STAT_TRIPPED, A.GDI_STAT, A.FLT_VALID]; omega) d))
    rw [inputFault_eq hc hd]
    exact tripSource_latched hc (kept.trans (htrip ((faultAct_congr (inputFault_cfg hc hd hm s)).symm.trans hact))) 0x21 d _ _

theorem Frame.inputFault (hc : c < 8) (hm : m < 12) (h : Frame true ps W s u) (hp : .chan c ∈ ps) (hv : W (A.FLT_VALID c))
    (h1 : W (A.GDI_IN c)) (h2 : W (A.GDI_STAT c)) (ht : u.get (F.FLT_IN_CFG_FAULT_ACT c m) = 0 → ∀ a, tripWords c a → W a) :
    Frame true ps W s (u.inputFault c m) := by
  rw [inputFault_eq hc hm]
  exact Frame.tripSource hc ((h.putBit (f := F.FLT_VALID_VALID c) hv m false).modMd hp m _) hp h1 h2 (fun h => ht (beq_iff_eq.mp h)) ..

/-! ### INPUT_STUCK -/

/-- INPUT_STUCK completes in the fault of the input, its status bit recorded. -/
theorem inputStuck_eq (hon : s.mdOn c m = true) (hclk : s.flag (F.FLT_MCLK_OUT_EN c) = true) :
    s.inputStuck c m = (s.raiseAt (A.FLT_STAT c) m).inputFault c m := by
  simp [State.inputStuck, hon, hclk]

theorem FLT_STAT_lt (hc : c < 8) : A.FLT_STAT c < 0x180000 := chBase_lt hc (by decide)

theorem FLT_STAT_quiet (c : Nat) : bookAddr (A.FLT_STAT c) = false := bookAddr_chan (by simp only [A.FLT_STAT, chBase]; omega)
theorem FLT_IN_CFG_quiet (c m : Nat) : bookAddr (A.FLT_IN_CFG c m) = false := bookAddr_chan (by simp only [A.FLT_IN_CFG, chBase]; omega)

theorem completes_inputStuck (c : Chan) (m : MdIx) (hr : s.runs = true) (hon : s.mdOn c.val m.val = true)
    (hclk : s.flag (F.FLT_MCLK_OUT_EN c.val) = true) :
    completes (.inputStuck c m) s fun t => Raised ⟨A.FLT_STAT c.val, m.val, m.val⟩ s t ∧
        t.bitOf (F.FLT_VALID_VALID c.val) m.val = false ∧ (t.mdi c.val m.val).stuck = true ∧
        (s.get (F.FLT_IN_CFG_FAULT_ACT c.val m.val) = 0 →
          bit (t.rd (A.GDI_IN c.val)) (srcBit 0x21) = true ∧ t.flag (F.GDI_STAT_TRIPPED c.val) = true) ∧
        Frame true [.chan c.val] (fun a => a ∈ [A.FLT_STAT c.val, A.FLT_VALID c.val, A.GDI_IN c.val, A.GDI_STAT c.val] ∨
          (s.get (F.FLT_IN_CFG_FAULT_ACT c.val m.val) = 0 ∧ tripWords c.val a)) s t := by
  have recorded : (s.raiseAt (A.FLT_STAT c.val) m.val).rd (A.FLT_IN_CFG c.val m.val) = s.rd (A.FLT_IN_CFG c.val m.val) :=
    rd_raiseAt_ne s m.val (FLT_STAT_lt c.isLt) (FLT_IN_CFG_ne_stat _ _) (FLT_IN_CFG_quiet ..) _
  have act : (s.raiseAt (A.FLT_STAT c.val) m.val).get (F.FLT_IN_CFG_FAULT_ACT c.val m.val) = s.get (F.FLT_IN_CFG_FAULT_ACT c.val m.val) :=
    faultAct_congr recorded
  obtain ⟨invalid, stuck, trips⟩ := inputFault_faults c.isLt m.isLt (s.raiseAt (A.FLT_STAT c.val) m.val)
  refine completes_clocked rfl hr ?_
  rw [inputStuck_eq hon hclk]
  refine ⟨?status, (settle_bitOf ..).trans invalid, stuck, fun hact => ⟨?input, ?latch⟩, Frame.settle ?frame⟩
  case status =>
    rw [Raised, settle_rd, inputFault_stat c.isLt m.isLt]
    exact rd_raiseAt_same s m.val (FLT_STAT_lt c.isLt) (FLT_STAT_quiet c.val) []
  case input =>
    rw [settle_rd, inputFault_eq c.isLt m.isLt, tripSource_bit c.isLt _ (by decide)]
    exact faulted_invalid c.isLt m.isLt ((mdOn_congr recorded).trans hon) (act.trans hact)
  case latch =>
    rw [settle_flag]
    exact trips ((faultAct_congr (inputFault_cfg c.isLt m.isLt m.isLt _)).trans (act.trans hact))
  case frame =>
    exact Frame.inputFault c.isLt m.isLt ((Frame.refl ..).raiseAt (.inl (by simp)) (FLT_STAT_lt c.isLt) m.val []) (by simp)
      (.inl (by simp)) (.inl (by simp)) (.inl (by simp)) fun h a ha => .inr ⟨act.symm.trans h, ha⟩

theorem completes_inputStuck_unchecked (c : Chan) (m : MdIx) (hr : s.runs = true)
    (hoff : (s.mdOn c.val m.val && s.flag (F.FLT_MCLK_OUT_EN c.val)) = false) :
    completes (.inputStuck c m) s fun t => Frame false [] (fun _ => False) s t := by
  refine completes_clocked rfl hr (Frame.settle ?_)
  rw [State.inputStuck, hoff, if_neg Bool.false_ne_true]
  exact Frame.refl ..

end Sys2Proof.Machine
end

section
/-! SUPPORT. The loss of the modulator clock, and inputs that become valid again or settle (02 R54, R56, R57). -/

namespace Sys2Proof.Machine

variable {ev : Bool} {ps : List Part} {W : Nat → Prop} {s u : State} {c m : Nat}

/-! ### MCLK_LOSS -/

/-- A property that turn `c` of a fold brings about and no turn ends holds after the fold; `Q` is what the turns rest on. -/
theorem State.each_establishes {P Q : State → Prop} {f : Nat → State → State} {l : List Nat} {c : Nat} (hc : c ∈ l)
    (hQ : ∀ d ∈ l, ∀ x, Q x → Q (f d x)) (hP : ∀ d ∈ l, ∀ x, P x → P (f d x)) (hest : ∀ x, Q x → P (f c x))
    (h : Q s) : P (s.each l f) := by
  induction l generalizing s with
  | nil => simp at hc
  | cons d t ih =>
    have tailP : ∀ e ∈ t, ∀ x, P x → P (f e x) := fun e he => hP e (List.mem_cons_of_mem d he)
    rcases List.mem_cons.mp hc with rfl | hct
    · exact List.foldlRecOn t _ (hest s h) fun x hx e he => tailP e he x hx
    · exact ih hct (fun e he => hQ e (List.mem_cons_of_mem d he)) tailP (hQ d (by simp) s h)

/-- The clock of the modulators is lost; then every enabled input is held (02 R54). -/
def State.clockLost (c : Nat) (s : State) : State := (s.raise (F.FLT_STAT_MCLK_LOSS c)).putb (F.FLT_VALID_MCLK_OK c) false

/-- Input `d` is held, where it is enabled. -/
def State.holdOne (c d : Nat) (s : State) : State := s.when (s.mdOn c d) (State.inputFault c d)

theorem mclkLoss_eq (h : s.flag (F.FLT_MCLK_OUT_EN c) = true) : s.mclkLoss c = (s.clockLost c).each mds (State.holdOne c) := by
  rw [State.mclkLoss, h, Bool.not_true, if_neg Bool.false_ne_true]
  rfl

/-- A view that no fault of an input changes, the holding of the inputs leaves. -/
theorem holdAll_unseen {α : Type} (g : State → α) (h : ∀ d < 12, ∀ x, g (State.inputFault c d x) = g x) (s : State) :
    g (s.each mds (State.holdOne c)) = g s :=
  State.each_unseen g (fun d hd x => State.when_unseen g (h d (List.mem_range.mp hd)) x _) s

theorem holdAll_faults (hc : c < 8) (hm : m < 12) (hon : s.mdOn c m = true) : InputFaulted c m (s.each mds (State.holdOne c)) := by
  refine State.each_establishes (P := InputFaulted c m) (Q := fun x => x.mdOn c m = true) (List.mem_range.mpr hm)
    (fun d hd x hx => ?_) (fun d hd x hx => ?_) (fun x hx => ?_) hon
  · exact (State.when_unseen (fun y => y.mdOn c m) (fun y => mdOn_congr (inputFault_cfg hc (List.mem_range.mp hd) hm y)) x _).trans hx
  · unfold State.holdOne State.when
    split
    · exact inputFault_keeps hc hm (List.mem_range.mp hd) hx
    · exact hx
  · rw [State.holdOne, hx]
    exact inputFault_faults hc hm x

theorem inputFault_mclkOk (hc : c < 8) {d : Nat} (hd : d < 12) (s : State) :
    (s.inputFault c d).flag (F.FLT_VALID_MCLK_OK c) = s.flag (F.FLT_VALID_MCLK_OK c) :=
  (State.flag_congr (State.get_congr (inputFault_valid hc hd s))).trans (putBit_valid_mclkOk hc s d false)

theorem clockLost_rd (hc : c < 8) (s : State) {a : Nat} (h1 : a ≠ A.FLT_STAT c) (h2 : a ≠ A.FLT_VALID c) (hb : bookAddr a = false) :
    (s.clockLost c).rd a = s.rd a :=
  (State.rd_put_ne _ h2 _).trans (rd_raiseAt_ne s 12 (FLT_STAT_lt hc) h1 hb [])

theorem clockLost_cfg (hc : c < 8) (s : State) (m : Nat) : (s.clockLost c).rd (A.FLT_IN_CFG c m) = s.rd (A.FLT_IN_CFG c m) :=
  clockLost_rd hc s (FLT_IN_CFG_ne_stat _ _) (FLT_IN_CFG_ne_valid _ _) (FLT_IN_CFG_quiet ..)

theorem clockLost_raised (hc : c < 8) (s : State) : Raised (F.FLT_STAT_MCLK_LOSS c) s (s.clockLost c) :=
  (State.rd_put_ne _ (by simp only [F.FLT_STAT_MCLK_LOSS, F.FLT_VALID_MCLK_OK, A.FLT_STAT, A.FLT_VALID]; omega) _).trans
    (rd_raiseAt_same s 12 (FLT_STAT_lt hc) (FLT_STAT_quiet c) [])

theorem Frame.clockLost (hc : c < 8) (h : Frame true ps W s u) (h1 : W (A.FLT_STAT c)) (h2 : W (A.FLT_VALID c)) :
    Frame true ps W s (u.clockLost c) := (h.raise h1 (FLT_STAT_lt hc) _).putb (f := F.FLT_VALID_MCLK_OK c) h2 _

theorem Frame.holdAll (hc : c < 8) (h : Frame true ps W s u) (hp : .chan c ∈ ps) (hv : W (A.FLT_VALID c)) (h1 : W (A.GDI_IN c))
    (ht : ∀ a, tripWords c a → W a) : Frame true ps W s (u.each mds (State.holdOne c)) :=
  Frame.each mds (fun _ hd _ => Frame.when (Frame.refl ..) _ fun y => Frame.inputFault hc (List.mem_range.mp hd) (Frame.refl true ps W y)
    hp hv h1 (ht _ (by simp [tripWords])) fun _ => ht) h

theorem completes_mclkLoss (c : Chan) (m : MdIx) (hr : s.runs = true) (hclk : s.flag (F.FLT_MCLK_OUT_EN c.val) = true) :
    completes (.mclkLoss c) s fun t => Raised (F.FLT_STAT_MCLK_LOSS c.val) s t ∧ t.flag (F.FLT_VALID_MCLK_OK c.val) = false ∧
        (s.mdOn c.val m.val = true → t.bitOf (F.FLT_VALID_VALID c.val) m.val = false ∧ (t.mdi c.val m.val).stuck = true) ∧
        (s.mdOn c.val m.val = true → s.get (F.FLT_IN_CFG_FAULT_ACT c.val m.val) = 0 → t.flag (F.GDI_STAT_TRIPPED c.val) = true) ∧
        Frame true [.chan c.val] (fun a => a ∈ [A.FLT_STAT c.val, A.FLT_VALID c.val, A.GDI_IN c.val] ∨ tripWords c.val a) s t := by
  have hc := c.isLt
  have held : s.mdOn c.val m.val = true → InputFaulted c.val m.val ((s.clockLost c.val).each mds (State.holdOne c.val)) := fun hon =>
    holdAll_faults hc m.isLt ((mdOn_congr (clockLost_cfg hc s m.val)).trans hon)
  have cfg : ((s.clockLost c.val).each mds (State.holdOne c.val)).rd (A.FLT_IN_CFG c.val m.val) = s.rd (A.FLT_IN_CFG c.val m.val) :=
    (holdAll_unseen (fun x => x.rd (A.FLT_IN_CFG c.val m.val)) (fun _ hd x => inputFault_cfg hc hd m.isLt x) _).trans
      (clockLost_cfg hc s m.val)
  refine completes_clocked rfl hr ?_
  rw [mclkLoss_eq hclk]
  refine ⟨?status, ?clock, fun hon => ?valid, fun hon hact => ?trip, Frame.settle ?frame⟩
  case status =>
    exact (settle_rd ..).trans ((holdAll_unseen (fun x => x.rd (A.FLT_STAT c.val)) (fun _ hd x => inputFault_stat hc hd x) _).trans
      (clockLost_raised hc s))
  case clock =>
    rw [settle_flag]
    exact (holdAll_unseen (fun x => x.flag (F.FLT_VALID_MCLK_OK c.val)) (fun _ hd x => inputFault_mclkOk hc hd x) _).trans
      (State.flag_putb_same _ (FLT_VALID_ok hc).2 (Nat.le_refl 12) false)
  case valid =>
    obtain ⟨invalid, stuck, -⟩ := held hon
    exact ⟨(settle_bitOf ..).trans invalid, (congrArg MdSt.stuck (settle_mdi ..)).trans stuck⟩
  case trip =>
    obtain ⟨-, -, trips⟩ := held hon
    exact (settle_flag ..).trans (trips ((faultAct_congr cfg).trans hact))
  case frame =>
    exact Frame.holdAll hc (Frame.clockLost hc (Frame.refl ..) (.inl (by simp)) (.inl (by simp))) (by simp) (.inl (by simp))
      (.inl (by simp)) fun _ h => .inr h

/-! ### The valid bit returns -/

/-- The valid bit of input `m` is set where `b` holds. -/
def State.showValid (c m : Nat) (b : Bool) (s : State) : State := s.when b fun s => s.putBit (F.FLT_VALID_VALID c) m true

theorem showValid_mdi (s : State) (c m : Nat) (b : Bool) : (s.showValid c m b).mdi c m = s.mdi c m :=
  State.when_unseen (f := fun s => s.putBit (F.FLT_VALID_VALID c) m true) (fun x => x.mdi c m) (fun _ => rfl) s b

theorem showValid_mclkOk (hc : c < 8) (s : State) (m : Nat) (b : Bool) :
    (s.showValid c m b).flag (F.FLT_VALID_MCLK_OK c) = s.flag (F.FLT_VALID_MCLK_OK c) :=
  State.when_unseen (fun x => x.flag (F.FLT_VALID_MCLK_OK c)) (fun x => putBit_valid_mclkOk hc x m true) s b

theorem showValid_valid (hc : c < 8) (hm : m < 12) (s : State) : (s.showValid c m true).bitOf (F.FLT_VALID_VALID c) m = true := by
  rw [State.showValid, State.when, if_pos rfl, State.bitOf_putBit_true _ (FLT_VALID_ok hc).1 hm, beq_self_eq_true, Bool.or_true]

theorem showValid_flag (s : State) (m : Nat) (b : Bool) {f : Fld} (h : f.addr ≠ A.FLT_VALID c) :
    (s.showValid c m b).flag f = s.flag f :=
  State.when_unseen (fun x => x.flag f) (fun x => State.flag_put_ne x h _) s b

theorem Frame.showValid (h : Frame ev ps W s u) (hw : W (A.FLT_VALID c)) (m : Nat) (b : Bool) : Frame ev ps W s (u.showValid c m b) :=
  h.when b fun x => (Frame.refl _ _ W x).putBit (f := F.FLT_VALID_VALID c) hw m true

/-! ### INPUT_VALID_AGAIN -/

/-- The fault of input `m` is over, and its clock is seen. -/
def State.released (c m : Nat) (s : State) : State :=
  (s.putb (F.FLT_VALID_MCLK_OK c) true).modMd c m fun x => { x with stuck := false }

theorem released_mdi (hc : c < 8) (hm : m < 12) (s : State) : (s.released c m).mdi c m = { s.mdi c m with stuck := false } :=
  State.mdi_modMd_same _ hc hm _

theorem inputValid_eq (hc : c < 8) (hm : m < 12) (hon : s.mdOn c m = true) (hclk : s.flag (F.FLT_MCLK_OUT_EN c) = true)
    (hst : (s.mdi c m).stuck = true) :
    s.inputValid c m = ((s.released c m).showValid c m (!(s.mdi c m).settling)).invalidUpdate c 0 := by
  rw [← show ((s.released c m).mdi c m).settling = (s.mdi c m).settling by rw [released_mdi hc hm]]
  simp only [State.inputValid, hon, hclk, hst, Bool.and_true, if_true]
  rfl

theorem invalidUpdate_valid (hc : c < 8) (s : State) : (s.invalidUpdate c 0).rd (A.FLT_VALID c) = s.rd (A.FLT_VALID c) :=
  tripSource_rd hc s (by decide) 0x21 0 _ false

theorem completes_inputValidAgain (c : Chan) (m : MdIx) (hr : s.runs = true) (hon : s.mdOn c.val m.val = true)
    (hclk : s.flag (F.FLT_MCLK_OUT_EN c.val) = true) (hst : (s.mdi c.val m.val).stuck = true) :
    completes (.inputValidAgain c m) s fun t => t.flag (F.FLT_VALID_MCLK_OK c.val) = true ∧ (t.mdi c.val m.val).stuck = false ∧
        ((s.mdi c.val m.val).settling = false → t.bitOf (F.FLT_VALID_VALID c.val) m.val = true) ∧
        t.flag (F.GDI_STAT_TRIPPED c.val) = s.flag (F.GDI_STAT_TRIPPED c.val) ∧
        Frame false [.chan c.val] (· ∈ [A.FLT_VALID c.val, A.GDI_IN c.val, A.GDI_STAT c.val]) s t := by
  have hc := c.isLt
  have stays := invalidUpdate_valid hc ((s.released c.val m.val).showValid c.val m.val (!(s.mdi c.val m.val).settling))
  refine completes_clocked rfl hr ?_
  rw [inputValid_eq hc m.isLt hon hclk hst]
  refine ⟨?clock, ?stuck, fun hset => ?valid, ?latch, Frame.settle ?frame⟩
  case clock =>
    rw [settle_flag, State.flag_congr (State.get_congr (f := F.FLT_VALID_MCLK_OK c.val) stays), showValid_mclkOk hc]
    exact State.flag_putb_same s (FLT_VALID_ok hc).2 (Nat.le_refl 12) true
  case stuck =>
    rw [settle_mdi, State.invalidUpdate, ((MdKept.refl _).tripIn ..).mdi, showValid_mdi, released_mdi hc m.isLt]
  case valid =>
    rw [settle_bitOf, State.bitOf_congr (State.get_congr (f := F.FLT_VALID_VALID c.val) stays), hset]
    exact showValid_valid hc m.isLt _
  case latch =>
    have ne : (F.GDI_STAT_TRIPPED c.val).addr ≠ A.FLT_VALID c.val := by
      simp only [F.GDI_STAT_TRIPPED, A.GDI_STAT, A.FLT_VALID]; omega
    rw [settle_flag, State.invalidUpdate, tripIn_tripped hc, showValid_flag _ _ _ ne]
    exact State.flag_put_ne s (f := F.FLT_VALID_MCLK_OK c.val) ne _
  case frame =>
    have released : Frame false [.chan c.val] (· ∈ [A.FLT_VALID c.val, A.GDI_IN c.val, A.GDI_STAT c.val]) s (s.released c.val m.val) :=
      ((Frame.refl ..).putb (f := F.FLT_VALID_MCLK_OK c.val) (List.mem_cons_self ..) true).modMd (by simp) m.val _
    exact Frame.tripIn (released.showValid (by simp) m.val _) (by simp) (by simp) (by simp) ..

/-! ### FILTER_SETTLED -/

/-- The filter of input `m` has settled. -/
def State.settled (c m : Nat) (s : State) : State := s.modMd c m fun x => { x with settling := false }

theorem settled_mdi (hc : c < 8) (hm : m < 12) (s : State) : (s.settled c m).mdi c m = { s.mdi c m with settling := false } :=
  State.mdi_modMd_same _ hc hm _

theorem filterSettled_eq (hc : c < 8) (hm : m < 12) (hon : s.mdOn c m = true) (hclk : s.flag (F.FLT_MCLK_OUT_EN c) = true)
    (hset : (s.mdi c m).settling = true) : s.filterSettled c m = (s.settled c m).showValid c m (!(s.mdi c m).stuck) := by
  rw [← show ((s.settled c m).mdi c m).stuck = (s.mdi c m).stuck by rw [settled_mdi hc hm]]
  simp only [State.filterSettled, hon, hclk, hset, Bool.and_true, if_true]
  rfl

theorem completes_filterSettled (c : Chan) (m : MdIx) (hr : s.runs = true) (hon : s.mdOn c.val m.val = true)
    (hclk : s.flag (F.FLT_MCLK_OUT_EN c.val) = true) (hset : (s.mdi c.val m.val).settling = true) :
    completes (.filterSettled c m) s fun t => (t.mdi c.val m.val).settling = false ∧
        ((s.mdi c.val m.val).stuck = false → t.bitOf (F.FLT_VALID_VALID c.val) m.val = true) ∧
        Frame false [.chan c.val] (· = A.FLT_VALID c.val) s t := by
  refine completes_clocked rfl hr ?_
  rw [filterSettled_eq c.isLt m.isLt hon hclk hset]
  refine ⟨?settled, fun hst => ?valid, Frame.settle ?frame⟩
  case settled => rw [settle_mdi, showValid_mdi, settled_mdi c.isLt m.isLt]
  case valid => rw [settle_bitOf, hst]; exact showValid_valid c.isLt m.isLt _
  case frame =>
    have settled : Frame false [.chan c.val] (· = A.FLT_VALID c.val) s (s.settled c.val m.val) :=
      (Frame.refl ..).modMd (List.mem_singleton.mpr rfl) m.val _
    exact settled.showValid rfl m.val _

end Sys2Proof.Machine
end

section
/-! SUPPORT. Digital limits and the over-range of the PCC converters (02 R61, R65). -/

namespace Sys2Proof.Machine

variable {ev : Bool} {ps : List Part} {W : Nat → Prop} {s u : State} {c m : Nat}

/-! ### DIGITAL_LIMIT_EXCURSION -/

/-- Output `x` of input `m` begins the excursions above HI and below LO that `hi` and `lo` say. -/
def State.limitSeen (c m : Nat) (hi lo : Bool) (x : Word) (s : State) : State :=
  s.modMd c m fun y => { y with above := y.above || hi, below := y.below || lo, x := some x }

theorem limitSeen_mdi (hc : c < 8) (hm : m < 12) (s : State) (hi lo : Bool) (x : Word) : (s.limitSeen c m hi lo x).mdi c m =
    { s.mdi c m with above := (s.mdi c m).above || hi, below := (s.mdi c m).below || lo, x := some x } :=
  State.mdi_modMd_same s hc hm _

/-- An excursion is recorded in bit `b` of FLT_LIMSTAT. -/
def State.limitRecorded (c m b : Nat) (hi lo : Bool) (x : Word) (s : State) : State :=
  (s.limitSeen c m hi lo x).raiseAt (A.FLT_LIMSTAT c) b

theorem FLT_LIMSTAT_lt (hc : c < 8) : A.FLT_LIMSTAT c < 0x180000 := chBase_lt hc (by decide)
theorem FLT_LIMSTAT_quiet (c : Nat) : bookAddr (A.FLT_LIMSTAT c) = false := bookAddr_chan (by simp only [A.FLT_LIMSTAT, chBase]; omega)

theorem limitRecorded_cfg (hc : c < 8) (s : State) (b : Nat) (hi lo : Bool) (x : Word) :
    (s.limitRecorded c m b hi lo x).rd (A.FLT_IN_CFG c m) = s.rd (A.FLT_IN_CFG c m) :=
  rd_raiseAt_ne (s.limitSeen c m hi lo x) b (FLT_LIMSTAT_lt hc) (FLT_IN_CFG_ne_limstat c m) (FLT_IN_CFG_quiet c m) []

/-- LIMIT of the trip inputs is active (02 R61). -/
def State.limitActive (s : State) (c : Nat) : Bool :=
  mds.any fun m => s.flag (F.FLT_IN_CFG_LIM_EN c m) && s.flag (F.FLT_IN_CFG_LIM_TRIP c m) && ((s.mdi c m).above || (s.mdi c m).below)

theorem limitUpdate_eq (s : State) (c off : Nat) : s.limitUpdate c off = s.tripIn c 0x20 (s.limitActive c) off := rfl

/-- The trip input of the limits is re-formed, and the channel trips where LIM_TRIP of the input says so. -/
theorem limitUpdate_trip (hc : c < 8) (hm : m < 12) (s : State) :
    ((s.limitUpdate c 0).when ((s.limitUpdate c 0).flag (F.FLT_IN_CFG_LIM_TRIP c m)) fun s => s.trip c 0x20 m 0) =
      s.tripSource c 0x20 m (s.limitActive c) (s.flag (F.FLT_IN_CFG_LIM_TRIP c m)) := by
  have trips : (s.limitUpdate c 0).flag (F.FLT_IN_CFG_LIM_TRIP c m) = s.flag (F.FLT_IN_CFG_LIM_TRIP c m) :=
    State.flag_congr (State.get_congr (tripSource_cfg hc hm s 0x20 m _ false))
  rw [trips, limitUpdate_eq]
  rfl

/-- What an excursion recorded in bit `b` does: LIMIT is re-formed, and the channel trips where LIM_TRIP says so. -/
def State.limitActs (c m b : Nat) (hi lo : Bool) (x : Word) (s : State) : State :=
  (s.limitRecorded c m b hi lo x).tripSource c 0x20 m ((s.limitRecorded c m b hi lo x).limitActive c) (s.flag (F.FLT_IN_CFG_LIM_TRIP c m))

/-- The excursions that begin are recorded, and act. -/
def State.limitBegins (c m : Nat) (hi lo : Bool) (x : Word) (s : State) : State :=
  let r := ((s.limitSeen c m hi lo x).when hi fun s => State.raiseAt (A.FLT_LIMSTAT c) m s).when lo fun s =>
    State.raiseAt (A.FLT_LIMSTAT c) (12 + m) s
  (r.limitUpdate c 0).when ((r.limitUpdate c 0).flag (F.FLT_IN_CFG_LIM_TRIP c m)) fun s => s.trip c 0x20 m 0

theorem limitExcursion_eq (s : State) (c m : Nat) (x : Word) : s.limitExcursion c m x =
    if !s.flag (F.FLT_IN_CFG_LIM_EN c m) || !s.flag (F.FLT_MCLK_OUT_EN c) then s
    else if !(fLt (limVal (s.get (F.FLT_LIM_HI c m))) x && !(s.mdi c m).above ||
      fLt x (limVal (s.get (F.FLT_LIM_LO c m))) && !(s.mdi c m).below) then s
    else s.limitBegins c m (fLt (limVal (s.get (F.FLT_LIM_HI c m))) x && !(s.mdi c m).above)
      (fLt x (limVal (s.get (F.FLT_LIM_LO c m))) && !(s.mdi c m).below) x := rfl

theorem limitBegins_one (hc : c < 8) (hm : m < 12) (s : State) {b : Nat} {hi lo : Bool} (x : Word)
    (h : hi = true ∧ lo = false ∧ b = m ∨ hi = false ∧ lo = true ∧ b = 12 + m) :
    s.limitBegins c m hi lo x = s.limitActs c m b hi lo x := by
  have trips : ∀ b hi lo, (s.limitRecorded c m b hi lo x).flag (F.FLT_IN_CFG_LIM_TRIP c m) = s.flag (F.FLT_IN_CFG_LIM_TRIP c m) :=
    fun b hi lo => State.flag_congr (State.get_congr (limitRecorded_cfg hc s b hi lo x))
  have recorded : (((s.limitSeen c m hi lo x).when hi fun s => State.raiseAt (A.FLT_LIMSTAT c) m s).when lo fun s =>
      State.raiseAt (A.FLT_LIMSTAT c) (12 + m) s) = s.limitRecorded c m b hi lo x := by
    rcases h with ⟨rfl, rfl, rfl⟩ | ⟨rfl, rfl, rfl⟩ <;> simp [State.when, State.limitRecorded]
  rw [State.limitActs, ← trips b hi lo, ← limitUpdate_trip hc hm, State.limitBegins, recorded]

section
variable {x : Word} (hc : c < 8) (hm : m < 12) (hen : s.flag (F.FLT_IN_CFG_LIM_EN c m) = true) (hclk : s.flag (F.FLT_MCLK_OUT_EN c) = true)
include hc hm hen hclk

theorem limitExcursion_above (hx : fLt (limVal (s.get (F.FLT_LIM_HI c m))) x = true) (hn : (s.mdi c m).above = false)
    (hlo : fLt x (limVal (s.get (F.FLT_LIM_LO c m))) = false) : s.limitExcursion c m x = s.limitActs c m m true false x := by
  rw [limitExcursion_eq, hen, hclk, hx, hn, hlo]
  exact limitBegins_one hc hm s x (.inl ⟨rfl, rfl, rfl⟩)

theorem limitExcursion_below (hx : fLt x (limVal (s.get (F.FLT_LIM_LO c m))) = true) (hn : (s.mdi c m).below = false)
    (hhi : fLt (limVal (s.get (F.FLT_LIM_HI c m))) x = false) : s.limitExcursion c m x = s.limitActs c m (12 + m) false true x := by
  rw [limitExcursion_eq, hen, hclk, hx, hn, hhi]
  exact limitBegins_one hc hm s x (.inr ⟨rfl, rfl, rfl⟩)

end

theorem completes_limitExcursion {c : Chan} {m : MdIx} {b : Nat} {hi lo : Bool} {x : Word} (hr : s.runs = true)
    (he : s.limitExcursion c.val m.val x = s.limitActs c.val m.val b hi lo x) :
    completes (.digitalLimitExcursion c m x) s fun t => Raised ⟨A.FLT_LIMSTAT c.val, b, b⟩ s t ∧
      ((t.mdi c.val m.val).above = ((s.mdi c.val m.val).above || hi) ∧ (t.mdi c.val m.val).below = ((s.mdi c.val m.val).below || lo)) ∧
      (s.flag (F.FLT_IN_CFG_LIM_TRIP c.val m.val) = true → t.flag (F.GDI_STAT_TRIPPED c.val) = true) ∧
      Frame true [.chan c.val] (fun a => a ∈ [A.FLT_LIMSTAT c.val, A.GDI_IN c.val, A.GDI_STAT c.val] ∨
        (s.flag (F.FLT_IN_CFG_LIM_TRIP c.val m.val) = true ∧ tripWords c.val a)) s t := by
  have hc := c.isLt
  have path : (s.limitActs c.val m.val b hi lo x).mdi c.val m.val = (s.limitSeen c.val m.val hi lo x).mdi c.val m.val :=
    (((MdKept.refl (s.limitSeen c.val m.val hi lo x)).raise (f := ⟨A.FLT_LIMSTAT c.val, b, b⟩) (FLT_LIMSTAT_lt hc) []).tripSource
      hc ..).mdi ..
  refine completes_clocked rfl hr ?_
  rw [he]
  refine ⟨?status, ?sides, fun ht => ?trip, Frame.settle ?frame⟩
  case status =>
    exact (settle_rd ..).trans ((tripSource_rd hc _ (by decide) ..).trans
      (rd_raiseAt_same (s.limitSeen c.val m.val hi lo x) b (FLT_LIMSTAT_lt hc) (FLT_LIMSTAT_quiet c.val) []))
  case sides =>
    rw [settle_mdi, path, limitSeen_mdi hc m.isLt]
    exact ⟨rfl, rfl⟩
  case trip =>
    rw [settle_flag, State.limitActs, ht]
    exact tripSource_trips hc ..
  case frame =>
    exact Frame.tripSource hc (((Frame.refl ..).modMd (by simp) m.val _).raiseAt (.inl (by simp)) (FLT_LIMSTAT_lt hc) b []) (by simp)
      (.inl (by simp)) (.inl (by simp)) (fun ht _ ha => .inr ⟨ht, ha⟩) ..

/-! ### LIMIT_EXCURSION_END -/

theorem completes_limitExcursionEnd (c : Chan) (m : MdIx) (hr : s.runs = true) :
    completes (.limitExcursionEnd c m) s fun t => (t.mdi c.val m.val).above = false ∧ (t.mdi c.val m.val).below = false ∧
      Frame false [.chan c.val] (· ∈ [A.GDI_IN c.val, A.GDI_STAT c.val]) s t := by
  have path : (s.limitEnd c.val m.val).mdi c.val m.val = { s.mdi c.val m.val with above := false, below := false } :=
    (((MdKept.refl _).tripIn ..).mdi ..).trans (State.mdi_modMd_same s c.isLt m.isLt _)
  refine completes_clocked rfl hr ⟨?above, ?below, Frame.settle ?frame⟩
  case above => rw [settle_mdi, path]
  case below => rw [settle_mdi, path]
  case frame => exact Frame.tripIn ((Frame.refl ..).modMd (by simp) m.val _) (by simp) (by simp) (by simp) ..

/-! ### PCC_OVERRANGE -/

/-- Converter `k` is marked as beyond its range. -/
def State.pccMarked (k : Nat) (s : State) : State := s.modT fun t => { t with pccOver := t.pccOver ||| BitVec.ofNat 8 (2 ^ k) }

theorem getLsbD_ofNat_two_pow {k : Nat} (hk : k < 8) : (BitVec.ofNat 8 (2 ^ k)).getLsbD k = true := by
  rw [BitVec.getLsbD_ofNat, Nat.testBit_two_pow_self, Bool.and_true, decide_eq_true hk]

theorem pccOver_eq (s : State) (k : Nat) : s.pccOver k = if s.t.pccOver.toNat.testBit k then s
    else (s.pccMarked k).when (s.bitOf F.PCC_ADC_CFG_EN k) fun s => State.raiseAt A.PCC_ADC_STAT k s := rfl

theorem PCC_ADC_STAT_event (s : State) (k : Nat) : Raised ⟨A.PCC_ADC_STAT, k, k⟩ s (s.raiseAt A.PCC_ADC_STAT k) :=
  rd_raiseAt_same s k (by decide) (by decide) []

theorem completes_pccOverrange (k : Fin 8) (hr : s.runs = true) (hin : s.t.pccOver.toNat.testBit k.val = false)
    (hen : s.bitOf F.PCC_ADC_CFG_EN k.val = true) :
    completes (.pccOverrange k) s fun t => t.t.pccOver.toNat.testBit k.val = true ∧ Raised ⟨A.PCC_ADC_STAT, k.val, k.val⟩ s t ∧
          Frame true [.t] (· = A.PCC_ADC_STAT) s t := by
  refine completes_clocked rfl hr ?_
  rw [pccOver_eq, hin, hen, if_neg Bool.false_ne_true, State.when, if_pos rfl]
  refine ⟨?mark, ?status, Frame.settle ?frame⟩
  case mark =>
    rw [settle_t, (kept_raiseAt _ k.val (by decide) []).t]
    exact (BitVec.getLsbD_or ..).trans (by rw [getLsbD_ofNat_two_pow k.isLt, Bool.or_true])
  case status => exact (settle_rd ..).trans (PCC_ADC_STAT_event ..)
  case frame =>
    have marked : Frame true [.t] (· = A.PCC_ADC_STAT) s (s.pccMarked k.val) :=
      (Frame.refl ..).modT (List.mem_singleton.mpr rfl) _
    exact marked.raiseAt rfl (by decide) k.val []

theorem completes_pccOverrange_again (k : Fin 8) (hr : s.runs = true) (hin : s.t.pccOver.toNat.testBit k.val = true) :
    completes (.pccOverrange k) s fun t => Frame false [] (fun _ => False) s t := by
  refine completes_clocked rfl hr (Frame.settle ?_)
  rw [pccOver_eq, if_pos hin]
  exact Frame.refl ..

theorem completes_pccOverrangeEnd (k : Fin 8) (hr : s.runs = true) :
    completes (.pccOverrangeEnd k) s fun t => t.t.pccOver.toNat.testBit k.val = false ∧ Frame false [.t] (fun _ => False) s t := by
  refine completes_clocked rfl hr ⟨?mark, Frame.settle ((Frame.refl ..).modT (List.mem_singleton.mpr rfl) _)⟩
  case mark =>
    rw [settle_t]
    exact (BitVec.getLsbD_and ..).trans (by
      rw [BitVec.getLsbD_not, getLsbD_ofNat_two_pow k.isLt, Bool.not_true, Bool.and_false, Bool.and_false])

/-- Settles O8: each row by the law of its effect on the one input or converter, the rest by the frame of that effect. -/
theorem sensingFaultsActOnTheirInput : Obligations.SensingFaultsActOnTheirInput := by
  intro s c m hr
  refine ⟨completes_inputStuck c m hr, completes_inputStuck_unchecked c m hr, completes_mclkLoss c m hr,
    completes_inputValidAgain c m hr, completes_filterSettled c m hr,
    fun x hen hclk => ⟨fun hx hn hlo => ?above, fun hx hn hhi => ?below⟩, completes_limitExcursionEnd c m hr,
    fun k => ⟨completes_pccOverrange k hr, completes_pccOverrange_again k hr, completes_pccOverrangeEnd k hr⟩⟩
  case above =>
    obtain ⟨t, ht, status, ⟨above, -⟩, trips, frame⟩ :=
      completes_limitExcursion hr (limitExcursion_above c.isLt m.isLt hen hclk hx hn hlo)
    exact ⟨t, ht, status, above.trans (Bool.or_true _), trips, frame⟩
  case below =>
    obtain ⟨t, ht, status, ⟨-, below⟩, trips, frame⟩ :=
      completes_limitExcursion hr (limitExcursion_below c.isLt m.isLt hen hclk hx hn hhi)
    exact ⟨t, ht, status, below.trans (Bool.or_true _), trips, frame⟩

end Sys2Proof.Machine
end

section
/-! SUPPORT. Source events and trigger instants of the survey converter (02 R68–R71). -/

namespace Sys2Proof.Machine

variable {ev : Bool} {ps : List Part} {W : Nat → Prop} {s u : State} {inj : Bool}

theorem seqOf_modSeq_same (s : State) (inj : Bool) (f : SeqSt → SeqSt) : (s.modSeq inj f).seqOf inj = f (s.seqOf inj) := by
  cases inj <;> rfl

theorem seqOf_modSeq_other (s : State) (inj : Bool) (f : SeqSt → SeqSt) : (s.modSeq inj f).seqOf (!inj) = s.seqOf (!inj) := by
  cases inj <;> rfl

theorem modSeq_conv (s : State) (inj : Bool) (f : SeqSt → SeqSt) : (s.modSeq inj f).surv.conv = s.surv.conv := by cases inj <;> rfl

/-! ### SURVEY_SOURCE_EVENT -/

/-- The divider of a sequence (02 R70). -/
def State.seqDiv (s : State) (inj : Bool) : Nat := if inj then s.get F.SURV_DLY_INJ_DIV else s.get F.SURV_DLY_REG_DIV

/-- An event counted towards the divider `n`; on the last one the delay starts. -/
def SeqSt.counted (n : Nat) (q : SeqSt) : SeqSt := if q.cnt < n then { q with cnt := q.cnt + 1 } else { q with cnt := 0, dly := true }

theorem counted_spec (n : Nat) (q : SeqSt) : if q.cnt < n then (q.counted n).cnt = q.cnt + 1 ∧ (q.counted n).dly = q.dly
    else (q.counted n).cnt = 0 ∧ (q.counted n).dly = true := by
  unfold SeqSt.counted
  split <;> exact ⟨rfl, rfl⟩

theorem survSource_counts (hen : s.flag F.SURV_CTRL_EN = true) (hn : s.seqLen inj ≠ 0) (hsrc : s.seqSrc inj = 1 ∨ s.seqSrc inj = 2) :
    s.survSource inj = s.modSeq inj (SeqSt.counted (s.seqDiv inj)) := by
  have src : (s.seqSrc inj == 1 || s.seqSrc inj == 2) = true := by simpa using hsrc
  rw [State.survSource, hen, beq_eq_false_iff_ne.mpr hn, src]
  rfl

theorem completes_surveySourceEvent (hr : s.runs = true) (hen : s.flag F.SURV_CTRL_EN = true) (hn : s.seqLen inj ≠ 0)
    (hsrc : s.seqSrc inj = 1 ∨ s.seqSrc inj = 2) : completes (.surveySourceEvent inj) s fun t =>
      (if (s.seqOf inj).cnt < (if inj then s.get F.SURV_DLY_INJ_DIV else s.get F.SURV_DLY_REG_DIV)
        then (t.seqOf inj).cnt = (s.seqOf inj).cnt + 1 ∧ (t.seqOf inj).dly = (s.seqOf inj).dly
        else (t.seqOf inj).cnt = 0 ∧ (t.seqOf inj).dly = true) ∧
      t.seqOf (!inj) = s.seqOf (!inj) ∧ t.surv.conv = s.surv.conv ∧ Frame false [.surv] (fun _ => False) s t := by
  refine completes_clocked rfl hr ?_
  rw [survSource_counts hen hn hsrc]
  refine ⟨?_, seqOf_modSeq_other .., modSeq_conv .., ((Frame.refl ..).modSeq (by simp) inj _).settle⟩
  rw [settle_seqOf, seqOf_modSeq_same]
  exact counted_spec (s.seqDiv inj) (s.seqOf inj)

/-! ### SURVEY_TRIGGER_INSTANT -/

/-- The trigger delay of a sequence has ended. -/
def State.delayEnded (inj : Bool) (s : State) : State := s.modSeq inj fun q => { q with dly := false }

theorem survInstant_acts (h : (s.seqOf inj).dly = true) : s.survInstant inj = (s.delayEnded inj).survTrigger inj := by
  rw [State.survInstant, if_pos h]; rfl

theorem delayEnded_seqOf (s : State) (inj : Bool) : (s.delayEnded inj).seqOf inj = { s.seqOf inj with dly := false } :=
  seqOf_modSeq_same ..

theorem delayEnded_run (s : State) (inj k : Bool) : ((s.delayEnded inj).seqOf k).run = (s.seqOf k).run := by
  cases inj <;> cases k <;> rfl

theorem Frame.delayEnded (h : Frame ev ps W s u) (hp : .surv ∈ ps) (inj : Bool) : Frame ev ps W s (u.delayEnded inj) :=
  h.modSeq hp inj _

section
variable (hr : s.runs = true) (hen : s.flag F.SURV_CTRL_EN = true) (hn : s.seqLen inj ≠ 0) (hdly : (s.seqOf inj).dly = true)
include hr hen hn hdly

theorem completes_trigger_starts (hrun : (s.seqOf inj).run = false) (hfree : inj = true ∨ s.surv.inj.run = false) :
    completes (.surveyTriggerInstant inj) s fun t => (t.seqOf inj).run = true ∧ (t.seqOf inj).ix = 0 ∧ (t.seqOf inj).dly = false ∧
      (t.seqOf inj).ents = (List.range (s.seqLen inj)).map (fun j => s.rd (if inj then A.SURV_INJ j else A.SURV_REG j)) ∧
      (t.seqOf inj).wins = (List.range (s.seqLen inj)).map (fun j => s.rd (if inj then A.SURV_WIN_INJ j else A.SURV_WIN_REG j)) ∧
      t.surv.conv = some inj ∧ t.surv.convTick = s.rd A.SYS_TICK_CNT_LO ∧ t.seqOf (!inj) = s.seqOf (!inj) ∧
      Frame false [.surv] (fun _ => False) s t := by
  have starts : s.survInstant inj = (s.delayEnded inj).seqStart inj :=
    (survInstant_acts hdly).trans (survTrigger_starts hen hn ((delayEnded_run s inj inj).trans hrun)
      (hfree.imp_right (delayEnded_run s inj true).trans))
  refine completes_clocked rfl hr ?_
  rw [starts]
  refine ⟨?_, ?_, ?_, ?_, ?_, rfl, rfl, ?_, (((Frame.refl ..).delayEnded (by simp) inj).seqStart (by simp) inj).settle⟩ <;>
    cases inj <;> rfl

theorem completes_trigger_lost (hrun : (s.seqOf inj).run = true) :
    completes (.surveyTriggerInstant inj) s fun t => (t.seqOf inj) = { s.seqOf inj with dly := false } ∧ t.surv.conv = s.surv.conv ∧
      Raised (lostStat inj) s t ∧ t.get (lostCnt inj) = (s.get (lostCnt inj) + 1) % 65536 ∧
      Frame true [.surv] (· ∈ [A.SURV_LOST, A.SURV_STAT]) s t := by
  have lost : s.survInstant inj = (s.delayEnded inj).trigLost inj :=
    (survInstant_acts hdly).trans (survTrigger_lost hen hn ((delayEnded_run s inj inj).trans hrun))
  have same : ((s.delayEnded inj).trigLost inj).surv = (s.delayEnded inj).surv := trigLost_surv ..
  refine completes_clocked rfl hr ?_
  rw [lost]
  refine ⟨?seq, ?conv, ?status, ?count, (((Frame.refl ..).delayEnded (by simp) inj).trigLost (by simp) (by simp) inj).settle⟩
  case seq => rw [settle_seqOf, State.seqOf, same]; exact delayEnded_seqOf s inj
  case conv => rw [settle_surv, same]; exact modSeq_conv ..
  case status => exact (settle_rd ..).trans (trigLost_raised (s.delayEnded inj) inj)
  case count => exact (settle_get ..).trans (trigLost_count (s.delayEnded inj) inj)

end

theorem completes_trigger_pends (hr : s.runs = true) (hen : s.flag F.SURV_CTRL_EN = true) (hn : s.seqLen false ≠ 0)
    (hdly : s.surv.reg.dly = true) (hrun : s.surv.reg.run = false) (hinj : s.surv.inj.run = true) (hpend : s.surv.reg.pend = false) :
    completes (.surveyTriggerInstant false) s fun t => t.surv.reg = { s.surv.reg with dly := false, pend := true } ∧
      t.surv.inj = s.surv.inj ∧ t.surv.conv = s.surv.conv ∧ Frame false [.surv] (fun _ => False) s t := by
  have pends : s.survInstant false = (s.delayEnded false).modSeq false fun q => { q with pend := true } := by
    have en : (s.delayEnded false).flag F.SURV_CTRL_EN = true := hen
    have len : (s.delayEnded false).seqLen false ≠ 0 := hn
    have idle : (s.delayEnded false).surv.reg.run = false := hrun
    have other : (s.delayEnded false).surv.inj.run = true := hinj
    have free : (s.delayEnded false).surv.reg.pend = false := hpend
    rw [survInstant_acts (inj := false) hdly]
    simp [State.survTrigger, en, len, idle, other, free]
  refine completes_clocked rfl hr ?_
  rw [pends]
  exact ⟨rfl, rfl, rfl, (((Frame.refl ..).delayEnded (by simp) false).modSeq (by simp) false _).settle⟩

/-! ### SURV_DATA_READ -/

theorem completes_survDataRead (hh : s.hosted = true) : completes .survDataRead s fun t => t.host.out = [s.rd A.SURV_DATA] ∧
    Edited A.SURV_DATA [(F.SURV_DATA_VALID, 0)] s t ∧ Frame false [.host] (· = A.SURV_DATA) s t := by
  have read : Frame false [.host] (· = A.SURV_DATA) s s.survRead :=
    (Frame.refl _ _ (· = A.SURV_DATA) s).putb (f := F.SURV_DATA_VALID) rfl false
  exact completes_byHost rfl hh ⟨rfl, (settle_rd ..).trans (State.rd_wr_same ..), (read.setOut (by simp) _).settle⟩

end Sys2Proof.Machine
end

section
/-! SUPPORT. The result word of a survey conversion, its status bits and the SRAM buffer (02 R74–R76). -/

namespace Sys2Proof.Machine

variable {ev : Bool} {ps : List Part} {W : Nat → Prop} {s u v : State} {inj : Bool}

/-! ### The status bits of a conversion -/

/-- The status bits of the survey converter that were set are set. -/
structure StatGrows (s u : State) : Prop where
  stays : ∀ f : Fld, f.ok = true → f.addr = A.SURV_STAT → f.lo < 24 → f.hi = f.lo → s.flag f = true → u.flag f = true

theorem StatGrows.refl (s : State) : StatGrows s s := ⟨fun _ _ _ _ _ h => h⟩

theorem StatGrows.trans (h : StatGrows s u) (k : StatGrows u v) : StatGrows s v :=
  ⟨fun f h1 h2 h3 h4 h5 => k.stays f h1 h2 h3 h4 (h.stays f h1 h2 h3 h4 h5)⟩

theorem StatGrows.of_rd (h : u.rd A.SURV_STAT = s.rd A.SURV_STAT) : StatGrows s u :=
  ⟨fun _ _ ha _ _ hf => (State.flag_congr (State.get_congr (ha ▸ h))).trans hf⟩

/-- A one-bit field of a status word after an event in bit `b`. -/
theorem flag_raise (s : State) {f g : Fld} (hg : g.ok = true) (ha : g.addr = f.addr) (hlt : f.addr < 0x180000)
    (hq : bookAddr f.addr = false) (hg1 : g.hi = g.lo) (hg24 : g.lo < 24) (hf24 : f.lo < 24) (det : List Word) :
    (s.raise f det).flag g = (s.flag g || g.lo == f.lo) := by
  have hmask := hg
  simp only [Fld.ok, Bool.and_eq_true, decide_eq_true_eq, beq_iff_eq] at hmask
  have word : (s.raise f det).rd g.addr = raised (s.rd g.addr) f.lo &&& implMask g.addr := by
    rw [ha]; exact rd_raiseAt_same s f.lo hlt hq det
  have one : ∀ w : Word, (bits w g.hi g.lo == 1) = bit w g.lo := fun w => by rw [hg1]; exact (bit_eq_bits w g.lo).symm
  rw [State.flag, State.get, word, bits_and hmask.1 hmask.2, one, State.flag, State.get, one, raised, bit, setBits_testBit (by omega),
    if_neg (by omega), setBits_testBit (by omega)]
  by_cases h : g.lo = f.lo
  · rw [if_pos (by omega), h, Nat.sub_self]; simp
  · rw [if_neg (by omega), beq_eq_false_iff_ne.mpr h, Bool.or_false]; rfl

section
variable {f : Fld} (ha : f.addr = A.SURV_STAT) (hf : f.lo < 24)
include ha hf

theorem StatGrows.raise (h : StatGrows s u) : StatGrows s (u.raise f) := ⟨fun g h1 h2 h3 h4 h5 => by
  rw [flag_raise u h1 (h2.trans ha.symm) (by rw [ha]; decide) (by rw [ha]; decide) h4 h3 hf, h.stays g h1 h2 h3 h4 h5, Bool.true_or]⟩

theorem stat_raise (s : State) (hok : f.ok = true) (h1 : f.hi = f.lo) : (s.raise f).flag f = true := by
  rw [flag_raise s hok rfl (by rw [ha]; decide) (by rw [ha]; decide) h1 hf hf, beq_self_eq_true, Bool.or_true]

end

theorem raise_stat_surv (s : State) {f : Fld} (ha : f.addr = A.SURV_STAT) : (s.raise f).surv = s.surv :=
  (kept_raiseAt s f.lo (by rw [ha]; decide) []).surv

/-! ### The result word -/

/-- The result `v` is outside its window, or below it where the entry watches a bootstrap supply (02 R75). -/
abbrev windowHit (e w : Word) (v : Nat) : Prop :=
  (bits e 11 10 = 1 ∧ (v < bits w 15 0 ∨ bits w 31 16 < v)) ∨ (bits e 11 10 = 2 ∧ v < bits w 15 0)

/-- The present entry and window of a sequence. -/
def SeqSt.ent (q : SeqSt) : Word := q.ents[q.ix]?.getD 0#32
def SeqSt.win (q : SeqSt) : Word := q.wins[q.ix]?.getD 0#32

/-- The result word without DATA_OVR (02 R74). -/
def SeqSt.result (q : SeqSt) (inj : Bool) (code : Nat) : Nat :=
  code + q.ix * 2 ^ 20 + b2n inj * 2 ^ 25 + 2 ^ 26 + (if windowHit q.ent q.win (code / 16) then 2 ^ 27 else 0)

/-- A result that was not read is lost under a new one, where the buffer does not keep them (02 R74). -/
def State.overruns (s : State) : Bool := s.flag F.SURV_DATA_VALID && !s.flag F.SURV_CTRL_BUF_EN

/-- The number whose fields are those of SURV_DATA (02 R74). -/
def resultNat (code ix : Nat) (i w o : Bool) : Nat := code + ix * 2 ^ 20 + b2n i * 2 ^ 25 + 2 ^ 26 + b2n w * 2 ^ 27 + b2n o * 2 ^ 28

theorem resultNat_lt {code ix : Nat} (hc : code < 2 ^ 20) (hix : ix < 32) (i w o : Bool) : resultNat code ix i w o < 2 ^ 29 := by
  cases i <;> cases w <;> cases o <;> simp only [resultNat, b2n, if_true, Bool.false_eq_true, if_false] <;> omega

theorem result_eq (q : SeqSt) (inj : Bool) (code : Nat) (o : Bool) : q.result inj code + b2n o * 2 ^ 28 =
    resultNat code q.ix inj (decide (windowHit q.ent q.win (code / 16))) o := by
  unfold SeqSt.result resultNat
  by_cases h : windowHit q.ent q.win (code / 16) <;> simp [h, b2n]

theorem wd_masked {n : Nat} (h : n < 2 ^ 29) : wd n &&& implMask A.SURV_DATA = wd n := by
  have mask : implMask A.SURV_DATA = 0x1FFFFFFF#32 := by decide
  apply BitVec.eq_of_toNat_eq
  rw [mask, BitVec.toNat_and, wd, BitVec.toNat_ofNat, Nat.mod_eq_of_lt (by omega)]
  exact (Nat.and_two_pow_sub_one_eq_mod n 29).trans (Nat.mod_eq_of_lt h)

theorem bits_wd {n : Nat} (h : n < 2 ^ 29) (hi lo : Nat) : bits (wd n) hi lo = n / 2 ^ lo % 2 ^ (hi + 1 - lo) := by
  simp only [bits, wd, BitVec.toNat_ofNat, Nat.mod_eq_of_lt (show n < 2 ^ 32 by omega), Nat.shiftRight_eq_div_pow]

theorem resultNat_fields {code ix : Nat} (hc : code < 2 ^ 20) (hix : ix < 32) (i w o : Bool) :
    resultNat code ix i w o % 2 ^ 20 = code ∧ resultNat code ix i w o / 2 ^ 20 % 2 ^ 5 = ix ∧
    resultNat code ix i w o / 2 ^ 25 % 2 = b2n i ∧ resultNat code ix i w o / 2 ^ 26 % 2 = 1 ∧
    resultNat code ix i w o / 2 ^ 27 % 2 = b2n w ∧ resultNat code ix i w o / 2 ^ 28 % 2 = b2n o := by
  have small : b2n i < 2 ∧ b2n w < 2 ∧ b2n o < 2 := by cases i <;> cases w <;> cases o <;> decide
  unfold resultNat
  omega

theorem flag_of_get {f : Fld} {b : Bool} (h : u.get f = b2n b) : u.flag f = b := by
  rw [State.flag, h]
  cases b <;> rfl

/-- What a host reads in the fields of a result word. -/
theorem result_fields {code ix : Nat} {i w o : Bool} (hd : u.rd A.SURV_DATA = wd (resultNat code ix i w o)) (hc : code < 2 ^ 20)
    (hix : ix < 32) : u.get F.SURV_DATA_CODE = code ∧ u.get F.SURV_DATA_ENTRY = ix ∧ u.flag F.SURV_DATA_INJ = i ∧
      u.flag F.SURV_DATA_VALID = true ∧ u.flag F.SURV_DATA_WIN = w ∧ u.flag F.SURV_DATA_DATA_OVR = o := by
  have field : ∀ f : Fld, f.addr = A.SURV_DATA → u.get f = resultNat code ix i w o / 2 ^ f.lo % 2 ^ (f.hi + 1 - f.lo) := fun f ha => by
    rw [State.get, ha, hd, bits_wd (resultNat_lt hc hix i w o)]
  obtain ⟨code', entry, inj, valid, win, ovr⟩ := resultNat_fields hc hix i w o
  exact ⟨(field F.SURV_DATA_CODE rfl).trans ((congrArg (· % 2 ^ 20) (Nat.div_one _)).trans code'),
    (field F.SURV_DATA_ENTRY rfl).trans entry, flag_of_get ((field F.SURV_DATA_INJ rfl).trans inj),
    flag_of_get (b := true) ((field F.SURV_DATA_VALID rfl).trans valid), flag_of_get ((field F.SURV_DATA_WIN rfl).trans win),
    flag_of_get ((field F.SURV_DATA_DATA_OVR rfl).trans ovr)⟩

/-- A result is shown in SURV_DATA, over one that was not read (02 R74). -/
def State.resultShown (q : SeqSt) (inj : Bool) (code : Nat) (s : State) : State :=
  (s.wr A.SURV_DATA (wd (q.result inj code + b2n s.overruns * 2 ^ 28))).when s.overruns fun s => s.raise F.SURV_STAT_DATA_OVR

theorem Frame.resultShown (h : Frame true ps W s u) (h1 : W A.SURV_DATA) (h2 : W A.SURV_STAT) (q : SeqSt) (inj : Bool) (code : Nat) :
    Frame true ps W s (u.resultShown q inj code) :=
  (h.wr h1 _).when _ fun x => (Frame.refl _ _ W x).raise (f := F.SURV_STAT_DATA_OVR) h2 (by decide) _

theorem resultShown_surv (s : State) (q : SeqSt) (inj : Bool) (code : Nat) : (s.resultShown q inj code).surv = s.surv :=
  State.when_unseen (f := fun s => s.raise F.SURV_STAT_DATA_OVR) State.surv (fun x => raise_stat_surv x rfl) _ _

theorem resultShown_rd (s : State) (q : SeqSt) (inj : Bool) (code : Nat) {a : Nat} (h1 : a ≠ A.SURV_STAT) (h2 : bookAddr a = false) :
    (s.resultShown q inj code).rd a = (s.wr A.SURV_DATA (wd (q.result inj code + b2n s.overruns * 2 ^ 28))).rd a :=
  State.when_unseen (f := fun s => s.raise F.SURV_STAT_DATA_OVR) (fun x => x.rd a)
    (fun x => rd_raiseAt_ne x 0 (by decide) h1 h2 []) _ _

theorem resultShown_other (s : State) (q : SeqSt) (inj : Bool) (code : Nat) {a : Nat} (h : a ≠ A.SURV_DATA) (h1 : a ≠ A.SURV_STAT)
    (h2 : bookAddr a = false) : (s.resultShown q inj code).rd a = s.rd a :=
  (resultShown_rd s q inj code h1 h2).trans (State.rd_wr_ne s h _)

theorem resultShown_data (s : State) {q : SeqSt} (hix : q.ix < 32) (inj : Bool) {code : Nat} (hc : code < 2 ^ 20) :
    (s.resultShown q inj code).rd A.SURV_DATA =
      wd (resultNat code q.ix inj (decide (windowHit q.ent q.win (code / 16))) s.overruns) := by
  rw [resultShown_rd s q inj code (by decide) (by decide), State.rd_wr_same, result_eq, wd_masked (resultNat_lt hc hix ..)]

theorem resultShown_overrun (q : SeqSt) (inj : Bool) (code : Nat) (h : s.overruns = true) :
    (s.resultShown q inj code).flag F.SURV_STAT_DATA_OVR = true := by
  rw [State.resultShown, h, State.when, if_pos rfl]
  exact stat_raise (f := F.SURV_STAT_DATA_OVR) rfl (by decide) _ (by decide) rfl

/-! ### The buffer -/

theorem Frame.bufPut (h : Frame ev ps W s u) (hp : .surv ∈ ps) (hw : W A.SURV_BUF_WR) (a b : Word) : Frame ev ps W s (u.bufPut a b) :=
  (h.modSurv hp _).put (f := F.SURV_BUF_WR_WR_IDX) hw _

theorem Frame.bufDrop (h : Frame true ps W s u) (hp : .surv ∈ ps) (hd : W A.SURV_BUF_DROP) (hs : W A.SURV_STAT) :
    Frame true ps W s u.bufDrop :=
  ((h.inc (f := F.SURV_BUF_DROP_DROP) hd 1).modSurv hp _).raise (f := F.SURV_STAT_BUF_DROP) hs (by decide) []

theorem bufPut_surv (s : State) (a b : Word) : (s.bufPut a b).surv = { s.surv with
    buf := (s.get F.SURV_BUF_WR_WR_IDX, a, b) :: s.surv.buf.filter fun x => x.1 != s.get F.SURV_BUF_WR_WR_IDX } := rfl

theorem bufDrop_surv (s : State) : s.bufDrop.surv = { s.surv with gap := s.surv.gap + 1 } := raise_stat_surv _ rfl

/-- A buffer operation leaves the sequences, and the status bits that are set. -/
structure BufKept (s u : State) : Prop where
  seqOf : ∀ k, u.seqOf k = s.seqOf k
  stat : StatGrows s u

theorem BufKept.trans (h : BufKept s u) (k : BufKept u v) : BufKept s v :=
  ⟨fun i => (k.seqOf i).trans (h.seqOf i), h.stat.trans k.stat⟩

theorem bufKept_put (s : State) (a b : Word) : BufKept s (s.bufPut a b) :=
  ⟨fun k => by cases k <;> rfl, .of_rd (State.rd_put_ne (s.modSurv _) (f := F.SURV_BUF_WR_WR_IDX) (by decide) _)⟩

theorem bufKept_drop (s : State) : BufKept s s.bufDrop := by
  refine ⟨fun k => by cases k <;> simp only [State.seqOf, bufDrop_surv], ?_⟩
  exact StatGrows.raise rfl (by decide) (.of_rd (State.rd_put_ne s (f := F.SURV_BUF_DROP_DROP) (by decide) _))

/-- A gap record stands for the results dropped before (02 R76). -/
def State.gapPut (s : State) : State := (s.bufPut 0x80000000#32 (wd s.surv.gap)).modSurv fun v => { v with gap := 0 }

/-- A result is dropped, put, or put or dropped behind a gap record (02 R76). -/
theorem bufResult_eq (s : State) (a b : Word) : s.bufResult a b = if s.bufRoom = 0 then s.bufDrop else
    if s.surv.gap = 0 then s.bufPut a b else if 2 ≤ s.bufRoom then s.gapPut.bufPut a b else s.gapPut.bufDrop := rfl

theorem bufKept_result (s : State) (a b : Word) : BufKept s (s.bufResult a b) := by
  have gap : BufKept s s.gapPut := (bufKept_put s _ _).trans ⟨fun k => by cases k <;> rfl, .of_rd rfl⟩
  rw [bufResult_eq]
  split
  · exact bufKept_drop s
  · split
    · exact bufKept_put s a b
    · split
      · exact gap.trans (bufKept_put ..)
      · exact gap.trans (bufKept_drop _)

theorem Frame.bufResult (h : Frame true ps W s u) (hp : .surv ∈ ps) (hw : W A.SURV_BUF_WR) (hd : W A.SURV_BUF_DROP) (hs : W A.SURV_STAT)
    (a b : Word) : Frame true ps W s (u.bufResult a b) := by
  have gap : Frame true ps W s u.gapPut := (h.bufPut hp hw _ _).modSurv hp _
  rw [bufResult_eq]
  split
  · exact h.bufDrop hp hd hs
  · split
    · exact h.bufPut hp hw a b
    · split
      · exact gap.bufPut hp hw a b
      · exact gap.bufDrop hp hd hs

end Sys2Proof.Machine
end

section
/-! SUPPORT. The end of a survey conversion: the result is shown, kept and judged, and the next conversion begins (02 R72–R76). -/

namespace Sys2Proof.Machine

variable {ev : Bool} {ps : List Part} {W : Nat → Prop} {s u v : State} {inj : Bool} {code : Nat}

/-! ### What a result acts on -/

/-- The result is shown and, where BUF_EN says so, goes to the buffer (02 R74, R76). -/
def State.resultStored (q : SeqSt) (inj : Bool) (code : Nat) (s : State) : State :=
  (s.resultShown q inj code).when (s.flag F.SURV_CTRL_BUF_EN) (State.bufResult (wd (q.result inj code)) s.surv.convTick)

/-- The self-check inputs of the converter are out of their limits (02 R67). -/
abbrev selfFails (e : Word) (code : Nat) : Prop :=
  (bits e 5 0 = 48 ∧ (code + 64 < 0x80000 ∨ 0x80040 < code)) ∨ (bits e 5 0 = 49 ∧ 64 < code)

/-- The window and the self-check of a result are judged. -/
def State.resultJudged (e w : Word) (code : Nat) (s : State) : State :=
  let s := if windowHit e w (code / 16) then s.raise F.SURV_STAT_WIN else s
  if selfFails e code then s.raise F.SURV_STAT_SELF_FAIL else s

/-- An entry that watches a bootstrap supply tells its half-bridge (02 R75, 06 R209). -/
def State.bootWatched (e w : Word) (v : Nat) (s : State) : State :=
  if bits e 11 10 = 2 ∧ bits e 18 15 < 10 then
    (if v < bits w 15 0 then s.bootBelow (bits e 14 12) (bits e 18 15) else s.bootAbove (bits e 14 12) (bits e 18 15))
  else s

/-! ### The result stored -/

theorem Frame.resultStored (h : Frame true ps W s u) (hp : .surv ∈ ps) (hr : W A.SURV_DATA) (hw : W A.SURV_BUF_WR)
    (hd : W A.SURV_BUF_DROP) (hs : W A.SURV_STAT) (q : SeqSt) (inj : Bool) (code : Nat) :
    Frame true ps W s (u.resultStored q inj code) :=
  (h.resultShown hr hs q inj code).when _ fun x => (Frame.refl _ _ W x).bufResult hp hw hd hs _ _

/-- Storing a result leaves the sequences and the status bits that showing it left. -/
theorem resultStored_kept (s : State) (q : SeqSt) (inj : Bool) (code : Nat) :
    BufKept (s.resultShown q inj code) (s.resultStored q inj code) := by
  unfold State.resultStored State.when
  split
  · exact bufKept_result ..
  · exact ⟨fun _ => rfl, .refl _⟩

theorem resultStored_seqOf (s : State) (q : SeqSt) (inj : Bool) (code : Nat) (k : Bool) : (s.resultStored q inj code).seqOf k = s.seqOf k :=
  ((resultStored_kept s q inj code).seqOf k).trans (by rw [State.seqOf, resultShown_surv]; rfl)

theorem resultStored_data (s : State) {q : SeqSt} (hix : q.ix < 32) (inj : Bool) (hc : code < 2 ^ 20) :
    (s.resultStored q inj code).rd A.SURV_DATA =
      wd (resultNat code q.ix inj (decide (windowHit q.ent q.win (code / 16))) s.overruns) := by
  have buffered : ∀ x : State, (x.bufResult (wd (q.result inj code)) s.surv.convTick).rd A.SURV_DATA = x.rd A.SURV_DATA := fun x =>
    (Frame.bufResult (Frame.refl true [.surv] (· ∈ [A.SURV_BUF_WR, A.SURV_BUF_DROP, A.SURV_STAT]) x) (by simp) (by simp) (by simp)
      (by simp) _ _).words _ (by decide) fun _ => by decide
  rw [State.resultStored, State.when_unseen (fun x => x.rd A.SURV_DATA) buffered, resultShown_data s hix inj hc]

theorem resultShown_room (s : State) (q : SeqSt) (inj : Bool) (code : Nat) : (s.resultShown q inj code).bufRoom = s.bufRoom := by
  rw [State.bufRoom, State.get_congr (f := F.SURV_BUF_WR_WR_IDX) (resultShown_other s q inj code (by decide) (by decide) (by decide)),
    State.get_congr (f := F.SURV_BUF_RD_RD_IDX) (resultShown_other s q inj code (by decide) (by decide) (by decide))]
  rfl

section
variable (q : SeqSt) (inj : Bool) (code : Nat)

theorem resultStored_off (h : s.flag F.SURV_CTRL_BUF_EN = false) : s.resultStored q inj code = s.resultShown q inj code := by
  rw [State.resultStored, h]; rfl

theorem resultStored_put (h : s.flag F.SURV_CTRL_BUF_EN = true) (hroom : s.bufRoom ≠ 0) (hgap : s.surv.gap = 0) :
    s.resultStored q inj code = (s.resultShown q inj code).bufPut (wd (q.result inj code)) s.surv.convTick := by
  rw [State.resultStored, h, State.when, if_pos rfl, bufResult_eq, resultShown_room, if_neg hroom, resultShown_surv, if_pos hgap]

theorem resultStored_drop (h : s.flag F.SURV_CTRL_BUF_EN = true) (hroom : s.bufRoom = 0) :
    s.resultStored q inj code = (s.resultShown q inj code).bufDrop := by
  rw [State.resultStored, h, State.when, if_pos rfl, bufResult_eq, resultShown_room, if_pos hroom]

end

/-! ### The result judged -/

theorem Frame.resultJudged (h : Frame true ps W s u) (hs : W A.SURV_STAT) (e w : Word) (code : Nat) :
    Frame true ps W s (u.resultJudged e w code) := by
  have event : ∀ {x : State} {f : Fld}, f.addr = A.SURV_STAT → Frame true ps W s x → Frame true ps W s (x.raise f) :=
    fun {x f} hf hx => hx.raise (hf ▸ hs) (hf ▸ by decide) _
  unfold State.resultJudged
  dsimp only
  split <;> split
  · exact event rfl (event rfl h)
  · exact event rfl h
  · exact event rfl h
  · exact h

theorem StatGrows.resultJudged (s : State) (e w : Word) (code : Nat) : StatGrows s (s.resultJudged e w code) := by
  have event : ∀ {x : State} {f : Fld}, f.addr = A.SURV_STAT → f.lo < 24 → StatGrows s x → StatGrows s (x.raise f) :=
    fun hf hl hx => hx.raise hf hl
  unfold State.resultJudged
  dsimp only
  split <;> split
  · exact event rfl (by decide) (event rfl (by decide) (.refl s))
  · exact event rfl (by decide) (.refl s)
  · exact event rfl (by decide) (.refl s)
  · exact .refl s

theorem resultJudged_win (s : State) {e w : Word} (h : windowHit e w (code / 16)) :
    (s.resultJudged e w code).flag F.SURV_STAT_WIN = true := by
  have win : (s.raise F.SURV_STAT_WIN).flag F.SURV_STAT_WIN = true := stat_raise rfl (by decide) s (by decide) rfl
  unfold State.resultJudged
  simp only [if_pos h]
  split
  · exact ((StatGrows.refl _).raise (f := F.SURV_STAT_SELF_FAIL) rfl (by decide)).stays F.SURV_STAT_WIN (by decide) rfl (by decide) rfl win
  · exact win

/-! ### The half-bridge that a survey entry watches -/

theorem Frame.bootBelow {c : Nat} (hc : c < 8) (h : Frame true ps W s u) (hp : .chan c ∈ ps)
    (hw : ∀ a ∈ [A.BOOT_STAT c, A.BOOT_CNT c, A.BOOT_EVT c], W a) (k : Nat) : Frame true ps W s (u.bootBelow c k) := by
  unfold State.bootBelow
  split
  · exact h
  · split
    · exact h.modGate hp _ _
    · have held := (h.putBit (f := F.BOOT_STAT_HOLD c) (hw _ (by simp [F.BOOT_STAT_HOLD])) k true).modGate hp k
        fun g => { g with above := false, refresh := false }
      exact ((held.inc (f := F.BOOT_CNT_HOLD_CNT c) (hw _ (by simp [F.BOOT_CNT_HOLD_CNT])) 1).raise (f := F.BOOT_EVT_HOLD_EVT c)
        (hw _ (by simp [F.BOOT_EVT_HOLD_EVT])) (chBase_lt hc (by decide)) []).gateUpdate hp k

theorem Frame.bootAbove {c : Nat} (h : Frame ev ps W s u) (hp : .chan c ∈ ps) (k : Nat) : Frame ev ps W s (u.bootAbove c k) :=
  h.when _ fun x => (Frame.refl _ _ W x).modGate hp k _

/-- Words that an entry with action 2 may change, of the channel it watches. -/
def watchedWords (e : Word) (a : Nat) : Prop :=
  bits e 11 10 = 2 ∧ a ∈ (let c := bits e 14 12; [A.BOOT_STAT c, A.BOOT_CNT c, A.BOOT_EVT c])

theorem Frame.bootWatched (h : Frame true ps W s u) {e : Word} (hp : .chan (bits e 14 12) ∈ ps) (hw : ∀ a, watchedWords e a → W a)
    (w : Word) (v : Nat) : Frame true ps W s (u.bootWatched e w v) := by
  have hc : bits e 14 12 < 8 := Nat.mod_lt _ (by decide)
  unfold State.bootWatched
  split
  · rename_i act
    split
    · exact h.bootBelow hc hp (fun a ha => hw a ⟨act.1, ha⟩) _
    · exact h.bootAbove hp _
  · exact h

theorem not_watchedWords {a : Nat} (h : a < 0x100000) (e : Word) : ¬ watchedWords e a := by
  rintro ⟨-, ha⟩
  simp only [List.mem_cons, List.not_mem_nil, or_false, A.BOOT_STAT, A.BOOT_CNT, A.BOOT_EVT, chBase] at ha
  omega

/-! ### The next conversion -/

theorem Frame.convStart (h : Frame ev ps W s u) (hp : .surv ∈ ps) (inj : Bool) : Frame ev ps W s (u.convStart inj) := h.modSurv hp _

/-- The sequence has no further entry, and no conversion runs (02 R72). -/
def State.seqEnded (inj : Bool) (s : State) : State :=
  (s.modSeq inj fun q => { q with run := false, ix := 0 }).modSurv fun v => { v with conv := none }

theorem survNext_eq (inj : Bool) (s : State) : s.survNext inj =
    if (s.seqOf inj).ix + 1 < (s.seqOf inj).ents.length then (s.modSeq inj fun q => { q with ix := q.ix + 1 }).convStart inj
    else if inj then
      (if (s.seqEnded inj).surv.reg.run then (s.seqEnded inj).convStart false
        else if (s.seqEnded inj).surv.reg.pend then (s.seqEnded inj).seqStart false else (s.seqEnded inj).survKick)
    else (s.seqEnded inj).survKick := rfl

/-- A property of the state that the steps to the next conversion keep, that of its end too. -/
theorem survNext_keeps {M : State → Prop} (inj : Bool) (hm : M s) (seq : ∀ x k f, M x → M (State.modSeq k f x))
    (surv : ∀ x k, M x → M (State.convStart k x)) (idle : ∀ x, M x → M (State.modSurv (fun v => { v with conv := none }) x)) :
    M (s.survNext inj) := by
  have start : ∀ x k, M x → M (State.seqStart k x) := fun x k hx => surv _ k (seq x k _ hx)
  have kick : ∀ x, M x → M (State.survKick x) := fun x hx => by
    unfold State.survKick State.when
    split
    · exact start x false hx
    · exact hx
  have ended : M (s.seqEnded inj) := idle _ (seq s inj _ hm)
  rw [survNext_eq]
  split
  · exact surv _ inj (seq s inj _ hm)
  · split
    · split
      · exact surv _ false ended
      · split
        · exact start _ false ended
        · exact kick _ ended
    · exact kick _ ended

theorem Frame.survNext (h : Frame ev ps W s u) (hp : .surv ∈ ps) (inj : Bool) : Frame ev ps W s (u.survNext inj) :=
  survNext_keeps (M := Frame ev ps W s) inj h (fun _ k f hx => hx.modSeq hp k f) (fun _ k hx => hx.convStart hp k)
    fun _ hx => hx.modSurv hp _

theorem survNext_buf (s : State) (inj : Bool) : (s.survNext inj).surv.buf = s.surv.buf :=
  survNext_keeps (M := fun x => x.surv.buf = s.surv.buf) inj rfl (fun _ k _ hx => by cases k <;> exact hx) (fun _ _ hx => hx) fun _ hx => hx

theorem survNext_rd (s : State) (inj : Bool) (a : Nat) : (s.survNext inj).rd a = s.rd a :=
  (Frame.survNext (Frame.refl false [.surv] (fun _ => False) s) (by simp) inj).words a id (by simp)

theorem survNext_goesOn (h : (s.seqOf inj).ix + 1 < (s.seqOf inj).ents.length) :
    ((s.survNext inj).seqOf inj).ix = (s.seqOf inj).ix + 1 ∧ (s.survNext inj).surv.conv = some inj := by
  rw [survNext_eq, if_pos h]
  cases inj <;> exact ⟨rfl, rfl⟩

theorem survNext_idles (h : ¬ (s.seqOf false).ix + 1 < (s.seqOf false).ents.length) (hsrc : s.get F.SURV_TRG_REG_SRC ≠ 3) :
    (s.survNext false).surv.reg.run = false ∧ (s.survNext false).surv.conv = none := by
  have other : (s.seqEnded false).get F.SURV_TRG_REG_SRC ≠ 3 := hsrc
  rw [survNext_eq, if_neg h, if_neg Bool.false_ne_true, survKick_otherSource other]
  exact ⟨rfl, rfl⟩

/-! ### SURVEY_CONVERSION_END -/

/-- The end of a conversion up to the choice of the next one. -/
def State.converted (inj : Bool) (code : Nat) (s : State) : State :=
  ((s.resultStored (s.seqOf inj) inj code).resultJudged (s.seqOf inj).ent (s.seqOf inj).win code).bootWatched (s.seqOf inj).ent
    (s.seqOf inj).win (code / 16)

theorem survEnd_eq (h : s.surv.conv = some inj) (code : Nat) : s.survEnd code = (s.converted inj code).survNext inj := by
  have tick : (s.resultShown (s.seqOf inj) inj code).surv.convTick = s.surv.convTick := by rw [resultShown_surv]
  rw [State.converted, State.resultStored, ← tick, State.survEnd, h]
  rfl

/-- What judging the result and telling the half-bridge may change. -/
theorem converted_frame (s : State) (inj : Bool) (code : Nat) : Frame true [.chan (bits (s.seqOf inj).ent 14 12)]
    (fun a => a = A.SURV_STAT ∨ watchedWords (s.seqOf inj).ent a) (s.resultStored (s.seqOf inj) inj code) (s.converted inj code) :=
  ((Frame.refl ..).resultJudged (.inl rfl) ..).bootWatched (List.mem_singleton.mpr rfl) (fun _ h => .inr h) ..

theorem converted_surv (s : State) (inj : Bool) (code : Nat) :
    (s.converted inj code).surv = (s.resultStored (s.seqOf inj) inj code).surv :=
  (converted_frame s inj code).parts .surv (by simp)

theorem converted_rd (s : State) (inj : Bool) (code : Nat) {a : Nat} (h : a < 0x100000) (h1 : a ≠ A.SURV_STAT) (h2 : bookAddr a = false) :
    (s.converted inj code).rd a = (s.resultStored (s.seqOf inj) inj code).rd a :=
  (converted_frame s inj code).words a (fun hw => hw.elim h1 (not_watchedWords h _)) fun _ => h2

theorem converted_seqOf (s : State) (inj : Bool) (code : Nat) : (s.converted inj code).seqOf inj = s.seqOf inj := by
  rw [← resultStored_seqOf s (s.seqOf inj) inj code inj, State.seqOf, converted_surv]; rfl

theorem StatGrows.bootWatched (s : State) (e w : Word) (v : Nat) : StatGrows s (s.bootWatched e w v) :=
  .of_rd ((Frame.bootWatched (Frame.refl true [.chan (bits e 14 12)] (watchedWords e) s) (List.mem_singleton.mpr rfl)
    (fun _ h => h) w v).words A.SURV_STAT (not_watchedWords (by decide) e) fun _ => by decide)

section
variable (hconv : s.surv.conv = some inj)
include hconv

theorem survEnd_rd (code : Nat) {a : Nat} (h : a < 0x100000) (h1 : a ≠ A.SURV_STAT) (h2 : bookAddr a = false) :
    (s.survEnd code).rd a = (s.resultStored (s.seqOf inj) inj code).rd a := by
  rw [survEnd_eq hconv, survNext_rd, converted_rd s inj code h h1 h2]

theorem survEnd_buf (code : Nat) : (s.survEnd code).surv.buf = (s.resultStored (s.seqOf inj) inj code).surv.buf := by
  rw [survEnd_eq hconv, survNext_buf, converted_surv]

/-- The status bits set by the judged result stand at the end. -/
theorem survEnd_stat (code : Nat) :
    StatGrows ((s.resultStored (s.seqOf inj) inj code).resultJudged (s.seqOf inj).ent (s.seqOf inj).win code) (s.survEnd code) := by
  rw [survEnd_eq hconv]
  exact (StatGrows.bootWatched ..).trans (.of_rd (survNext_rd ..))

theorem survEnd_fields (hix : (s.seqOf inj).ix < 32) (hc : code < 2 ^ 20) :
    (s.survEnd code).get F.SURV_DATA_CODE = code ∧ (s.survEnd code).get F.SURV_DATA_ENTRY = (s.seqOf inj).ix ∧
    (s.survEnd code).flag F.SURV_DATA_INJ = inj ∧ (s.survEnd code).flag F.SURV_DATA_VALID = true ∧
    (s.survEnd code).flag F.SURV_DATA_WIN = decide (windowHit (s.seqOf inj).ent (s.seqOf inj).win (code / 16)) ∧
    (s.survEnd code).flag F.SURV_DATA_DATA_OVR = s.overruns :=
  result_fields ((survEnd_rd hconv code (by decide) (by decide) (by decide)).trans (resultStored_data s hix inj hc)) hc hix

theorem survEnd_overrun (code : Nat) (h : s.overruns = true) : (s.survEnd code).flag F.SURV_STAT_DATA_OVR = true :=
  ((resultStored_kept s (s.seqOf inj) inj code).stat.trans ((StatGrows.resultJudged ..).trans (survEnd_stat hconv code))).stays
    F.SURV_STAT_DATA_OVR (by decide) rfl (by decide) rfl (resultShown_overrun _ _ _ h)

theorem survEnd_window (h : windowHit (s.seqOf inj).ent (s.seqOf inj).win (code / 16)) :
    (s.survEnd code).flag F.SURV_STAT_WIN = true :=
  (survEnd_stat hconv code).stays F.SURV_STAT_WIN (by decide) rfl (by decide) rfl (resultJudged_win _ h)

theorem survEnd_unbuffered (code : Nat) (h : s.flag F.SURV_CTRL_BUF_EN = false) : (s.survEnd code).surv.buf = s.surv.buf := by
  rw [survEnd_buf hconv, resultStored_off _ _ _ h, resultShown_surv]

theorem survEnd_put (hix : (s.seqOf inj).ix < 32) (hc : code < 2 ^ 20) (h : s.flag F.SURV_CTRL_BUF_EN = true) (hroom : s.bufRoom ≠ 0)
    (hgap : s.surv.gap = 0) : (s.survEnd code).get F.SURV_BUF_WR_WR_IDX = (s.get F.SURV_BUF_WR_WR_IDX + 1) % 8192 ∧
      (s.survEnd code).surv.buf = (s.get F.SURV_BUF_WR_WR_IDX, (s.survEnd code).rd A.SURV_DATA, s.surv.convTick) ::
        s.surv.buf.filter (fun x => x.1 != s.get F.SURV_BUF_WR_WR_IDX) := by
  have stored := resultStored_put (s.seqOf inj) inj code h hroom hgap
  have ix : (s.resultShown (s.seqOf inj) inj code).get F.SURV_BUF_WR_WR_IDX = s.get F.SURV_BUF_WR_WR_IDX :=
    State.get_congr (resultShown_other s _ inj code (by decide) (by decide) (by decide))
  have word : wd ((s.seqOf inj).result inj code) = (s.survEnd code).rd A.SURV_DATA := by
    have keeps : s.overruns = false := by rw [State.overruns, h, Bool.not_true, Bool.and_false]
    rw [survEnd_rd hconv code (by decide) (by decide) (by decide), resultStored_data s hix inj hc, ← result_eq, keeps, b2n,
      if_neg Bool.false_ne_true, Nat.zero_mul, Nat.add_zero]
  constructor
  · rw [State.get_congr (f := F.SURV_BUF_WR_WR_IDX) (survEnd_rd hconv code (by decide) (by decide) (by decide)), stored, State.bufPut, ix,
      State.get_put_same _ (by decide)]
    exact Nat.mod_mod _ _
  · rw [survEnd_buf hconv, stored, bufPut_surv, ix, resultShown_surv, word]

theorem survEnd_drop (code : Nat) (h : s.flag F.SURV_CTRL_BUF_EN = true) (hroom : s.bufRoom = 0) :
    (s.survEnd code).surv.buf = s.surv.buf ∧ (s.survEnd code).get F.SURV_BUF_DROP_DROP = (s.get F.SURV_BUF_DROP_DROP + 1) % 2 ^ 32 ∧
      (s.survEnd code).flag F.SURV_STAT_BUF_DROP = true := by
  have stored := resultStored_drop (s.seqOf inj) inj code h hroom
  refine ⟨?buf, ?count, ?status⟩
  case buf => rw [survEnd_buf hconv, stored, bufDrop_surv, resultShown_surv]
  case count =>
    have counted : ∀ x : State, x.bufDrop.get F.SURV_BUF_DROP_DROP = (x.inc F.SURV_BUF_DROP_DROP).get F.SURV_BUF_DROP_DROP := fun x =>
      State.get_congr (rd_raiseAt_ne ((x.inc F.SURV_BUF_DROP_DROP).modSurv _) 4 (by decide) (by decide) (by decide) [])
    rw [State.get_congr (f := F.SURV_BUF_DROP_DROP) (survEnd_rd hconv code (by decide) (by decide) (by decide)), stored, counted, State.inc,
      State.get_put_same _ (by decide),
      State.get_congr (f := F.SURV_BUF_DROP_DROP) (resultShown_other s (s.seqOf inj) inj code (by decide) (by decide) (by decide))]
    exact Nat.mod_mod _ _
  case status =>
    refine ((StatGrows.resultJudged ..).trans (survEnd_stat hconv code)).stays F.SURV_STAT_BUF_DROP (by decide) rfl (by decide) rfl ?_
    rw [stored]
    exact stat_raise (f := F.SURV_STAT_BUF_DROP) rfl (by decide) _ (by decide) rfl

theorem survEnd_goesOn (code : Nat) (h : (s.seqOf inj).ix + 1 < (s.seqOf inj).ents.length) :
    ((s.survEnd code).seqOf inj).ix = (s.seqOf inj).ix + 1 ∧ (s.survEnd code).surv.conv = some inj := by
  have seq := converted_seqOf s inj code
  rw [survEnd_eq hconv, ← seq]
  exact survNext_goesOn (by rw [seq]; exact h)

theorem survEnd_frame (code : Nat) : Frame true [.surv, .chan (bits (s.seqOf inj).ent 14 12)]
    (fun a => a ∈ [A.SURV_DATA, A.SURV_STAT, A.SURV_BUF_WR, A.SURV_BUF_DROP] ∨ watchedWords (s.seqOf inj).ent a) s
    (s.survEnd code) := by
  rw [survEnd_eq hconv]
  refine Frame.survNext (Frame.trans ?stored ((converted_frame s inj code).mono ?parts ?words)) (by simp) inj
  case stored =>
    exact (Frame.refl ..).resultStored (by simp) (.inl (by simp)) (.inl (by simp)) (.inl (by simp)) (.inl (by simp)) _ _ _
  case parts => exact fun p hp => List.mem_cons_of_mem _ hp
  case words => exact fun a ha => ha.imp_left fun h => by simp [h]

end

theorem survEnd_idles (hconv : s.surv.conv = some false) (code : Nat) (h : ¬ (s.seqOf false).ix + 1 < (s.seqOf false).ents.length)
    (hsrc : s.get F.SURV_TRG_REG_SRC ≠ 3) : (s.survEnd code).surv.reg.run = false ∧ (s.survEnd code).surv.conv = none := by
  have source : (s.resultStored (s.seqOf false) false code).rd A.SURV_TRG_REG = s.rd A.SURV_TRG_REG :=
    (Frame.resultStored (Frame.refl true [.surv] (· ∈ [A.SURV_DATA, A.SURV_STAT, A.SURV_BUF_WR, A.SURV_BUF_DROP]) s) (by simp) (by simp)
      (by simp) (by simp) (by simp) _ _ _).words _ (by decide) fun _ => by decide
  rw [survEnd_eq hconv]
  refine survNext_idles (by rw [converted_seqOf]; exact h) ?_
  rwa [State.get_congr (f := F.SURV_TRG_REG_SRC) ((converted_rd s false code (by decide) (by decide) (by decide)).trans source)]

/-- Settles O9: the triggers by their three outcomes, the end of a conversion by its result, its buffer record and its successor. -/
theorem surveyRunsItsSequences : Obligations.SurveyRunsItsSequences := by
  intro s inj hr
  refine ⟨completes_surveySourceEvent hr, fun hen hn hdly => ⟨completes_trigger_starts hr hen hn hdly, fun hrun => ?lost⟩,
    completes_trigger_pends hr, fun code hconv hix hlen => ?ends, completes_survDataRead⟩
  case lost =>
    have lost := completes_trigger_lost hr hen hn hdly hrun
    cases inj <;> exact lost
  case ends =>
    have hix32 : (s.seqOf inj).ix < 32 := Nat.lt_of_lt_of_le hix hlen
    obtain ⟨hcode, hentry, hinj, hvalid, hwin, hovr⟩ := survEnd_fields hconv hix32 code.isLt
    refine completes_clocked rfl hr ?_
    simp only [settle_get, settle_flag, settle_rd, settle_surv, settle_seqOf]
    refine ⟨hcode, hentry, hinj, hvalid, ?window, hovr, fun h => ?overrun, fun h => ?hit, survEnd_unbuffered hconv _,
      survEnd_put hconv hix32 code.isLt, survEnd_drop hconv _, survEnd_goesOn hconv _, fun hreg hlast hsrc => ?idles,
      (survEnd_frame hconv code.toNat).settle⟩
    case window => rw [hwin]; exact decide_eq_true_iff
    case overrun => exact survEnd_overrun hconv _ (hovr.symm.trans h)
    case hit => exact survEnd_window hconv (of_decide_eq_true (hwin.symm.trans h))
    case idles => subst hreg; exact survEnd_idles hconv _ (by omega) hsrc

end Sys2Proof.Machine
end

section
/-! SUPPORT. A request that is served at once: its admission, the command slot that serves it, and its final reply (13 R381–R386). -/

namespace Sys2Proof.Machine

variable {s u : State} {p : Pkt} {opc a : Nat} {ev : Bool} {ps : List Part} {W : Nat → Prop}

/-! ### Fields of the session words -/

theorem setBits_mod (w : Word) (hi lo v : Nat) : setBits w hi lo (v % 2 ^ (hi + 1 - lo)) = setBits w hi lo v := by
  simp only [setBits, Nat.mod_mod]

theorem State.inc_eq_put (s : State) (f : Fld) : s.inc f = s.put f (s.get f + 1) := by
  simp only [State.inc, State.put, setBits_mod]

theorem modSes_modSes (s : State) {i : Nat} (hi : i < 16) (f g : Ses → Ses) :
    (s.modSes i f).modSes i g = s.modSes i fun x => g (f x) := by
  simp [State.modSes, State.modHost, hi]

theorem sesOf_modSes (s : State) {i : Nat} (hi : i < 16) (f : Ses → Ses) : (s.modSes i f).sesOf i = f (s.sesOf i) := by
  simp [State.sesOf, State.modSes, State.modHost, hi]

/-- Words outside the block of the host ports keep no account of a request. -/
theorem not_reqWords {i : Nat} (hi : i < 16) (h : a < 0x10000 ∨ 0x11000 ≤ a) : ¬ reqWords i a := by
  simp only [reqWords, A.HOST_SES_SEQ, A.HOST_SES_CR, A.HOST_TAGS, A.HOST_SPI_STAT, List.mem_cons, List.not_mem_nil, or_false]
  omega

theorem fld_ok_held (i : Ix16) : (F.HOST_SES_CR_HELD i.val).ok = true := by revert i; decide
theorem implMask_seq (i : Ix16) : implMask (A.HOST_SES_SEQ i.val) = 0xFFFFFFFF#32 := by revert i; decide

/-! ### Admission -/

/-- What `State.ready` says, check by check. -/
theorem ready_iff : s.ready opc p = true ↔
    s.takes opc p = true ∧ opcLen opc p.pay.length = some true ∧ s.bound p = true ∧ p.seq = s.rd (A.HOST_SES_SEQ p.ses.val) ∧
    p.flg = 0 ∧ s.get (F.HOST_SES_STAT_TBASE p.ses.val) ≤ p.tag.val ∧
    p.tag.val < s.get (F.HOST_SES_STAT_TBASE p.ses.val) + s.get (F.HOST_SES_STAT_TCNT p.ses.val) ∧
    ((s.sesOf p.ses.val).tags.any fun t => t.1 == p.tag.val) = false ∧
    s.get (F.HOST_SES_CR_HELD p.ses.val) + credits p ≤ s.get (F.HOST_SES_CR_GRANT p.ses.val) ∧
    s.t.open6 = true ∧ s.host.work = [] ∧ (s.sesOf p.ses.val).ending = false := by
  simp only [State.ready, State.admits, Bool.and_eq_true, beq_iff_eq, decide_eq_true_eq, Bool.not_eq_true', List.isEmpty_iff, and_assoc]

/-- What `State.takes` says. -/
theorem takes_iff : s.takes opc p = true ↔
    s.serving = true ∧ (s.recovery = false ∨ recoveryOpc opc p.pay = true) ∧
    (p.port == .h1 && s.get F.HEALTH_MGS_PROF == 1 && !s.flag F.HEALTH_MGS_RUNNING && !s.recovery) = false ∧
    (opc == 0xC1 && p.port == .h2 && s.get F.HOST_RING_STAT_ADDR == 0) = false := by
  simp only [State.takes, Bool.and_eq_true, Bool.or_eq_true, Bool.not_eq_true', and_assoc]

theorem runs_of_ready (h : s.ready opc p = true) : s.runs = true := by
  have hs := (takes_iff.mp (ready_iff.mp h).1).1
  simp only [State.serving, Bool.and_eq_true] at hs
  simp [State.runs, hs.1.1.1, hs.1.1.2]

/-- The state in which an admitted request is served: its session acts. -/
def State.taken (s : State) (opc : Nat) (p : Pkt) : State := (s.admitted opc p).acting p.ses.val

/-- Admission takes the tag and the credits, and moves SEQ on (13 R382). -/
theorem accept_admitted (s : State) (opc : Nat) (p : Pkt) (h6 : s.t.open6 = true) :
    State.accept opc (credits p) p
      (((((s.modSes p.ses.val fun x => { x with lastReq := s.clk }).modSes p.ses.val fun x =>
        { x with tags := (p.tag.val, credits p) :: x.tags }).put (F.HOST_SES_CR_HELD p.ses.val)
          (s.get (F.HOST_SES_CR_HELD p.ses.val) + credits p)).put F.HOST_TAGS_IN_FLIGHT (s.get F.HOST_TAGS_IN_FLIGHT + 1)).wr
        (A.HOST_SES_SEQ p.ses.val) (s.rd (A.HOST_SES_SEQ p.ses.val) + 1)) = (s.admitted opc p).serve (s.host.lastWid + 1) := by
  have other : F.HOST_TAGS_IN_FLIGHT.addr ≠ (F.HOST_SES_CR_HELD p.ses.val).addr := by
    show 0x10504 ≠ 0x10404 + 0x10 * p.ses.val
    have := p.ses.isLt
    omega
  simp only [State.admitted, State.inc_eq_put, State.get_put_ne _ other, modSes_modSes s p.ses.isLt, State.accept]
  simp [State.when, h6]
  rfl

/-- A request that passes every check is put into the queue and, in an open slot, served (13 R381). -/
theorem submit_ready (h : s.ready opc p = true) (h1 : opc ≠ 1) :
    s.submit opc p true false = (s.admitted opc p).serve (s.host.lastWid + 1) := by
  obtain ⟨ht, hlen, hb, hseq, hflg, hlo, hhi, htag, hcr, h6, -, -⟩ := ready_iff.mp h
  obtain ⟨hs, hrec, hmgs, hring⟩ := takes_iff.mp ht
  have mgs : ¬(p.port = .h1 ∧ s.get F.HEALTH_MGS_PROF = 1 ∧ (!s.flag F.HEALTH_MGS_RUNNING) = true ∧ (!s.recovery) = true) := by
    rintro ⟨a, b, c, d⟩
    simp [a, b, c, d] at hmgs
  have ring : ¬(opc = 0xC1 ∧ p.port = .h2 ∧ s.get F.HOST_RING_STAT_ADDR = 0 ∧ (!false) = true) := by
    rintro ⟨a, b, c, -⟩
    simp [a, b, c] at hring
  have served : (s.recovery && !recoveryOpc opc p.pay) = false := by rcases hrec with a | a <;> simp [a]
  have cred : (p.pay.length + 2 + 63) / 64 = credits p := rfl
  rw [← accept_admitted s opc p h6]
  unfold State.submit
  have tagFree : ¬ (p.tag.val < s.get (F.HOST_SES_STAT_TBASE p.ses.val) ∨
      s.get (F.HOST_SES_STAT_TBASE p.ses.val) + s.get (F.HOST_SES_STAT_TCNT p.ses.val) ≤ p.tag.val) := by omega
  have room : ¬ s.get (F.HOST_SES_CR_GRANT p.ses.val) < s.get (F.HOST_SES_CR_HELD p.ses.val) + credits p := by omega
  have noTag : (((s.modSes p.ses.val fun x => { x with lastReq := s.clk }).sesOf p.ses.val).tags.any fun t => t.1 == p.tag.val) = false := by
    rw [sesOf_modSes s p.ses.isLt]; exact htag
  have noFlag : bit (wd p.flg.val) 2 = false := by rw [hflg]; rfl
  have noFlg : ¬ p.flg.val ≠ 0 := by simp [hflg]
  simp only [hs, noFlag, if_neg mgs, if_neg ring, hlen, served, h1, hb, cred, State.modSes_rd, State.modSes_get, hseq, BitVec.sub_self,
    if_neg noFlg, if_neg tagFree, if_neg room, noTag]
  rfl

theorem admitted_host (s : State) (opc : Nat) (p : Pkt) : (s.admitted opc p).host =
    { (s.modSes p.ses.val fun x => { x with lastReq := s.clk, tags := (p.tag.val, credits p) :: x.tags }).host with
      work := s.host.work ++ [s.workOf opc p], lastWid := s.host.lastWid + 1 } := rfl

/-- With nothing else waiting, the slot serves the request (13 R383, R387). -/
theorem serve_admitted (h : s.host.work = []) (h4 : opc ≠ 4) : (s.admitted opc p).serve (s.host.lastWid + 1) =
    ((s.taken opc p).serveReady (s.workOf opc p)).modHost fun h => { h with actor := 255 } := by
  have work : (s.admitted opc p).host.work = [s.workOf opc p] := by rw [admitted_host, h]; rfl
  have found : (s.admitted opc p).work (s.host.lastWid + 1) = some (s.workOf opc p) := by
    simp [State.work, work, State.workOf]
  have acts : ((s.admitted opc p).modHost fun h => { h with actor := if (s.workOf opc p).ses < 16 then (s.workOf opc p).ses else 255 }) =
      s.taken opc p := acting_session p.ses.isLt _
  have free : (s.taken opc p).blocked (s.workOf opc p) = false := by
    have work : (s.taken opc p).host.work = [s.workOf opc p] := work
    simp [State.blocked, work]
  have ready : (s.workOf opc p).phase = .ready := rfl
  have code : (s.workOf opc p).opc = opc := rfl
  unfold State.serve
  simp only [found, acts, ready, code, free, h4, decide_false, Bool.or_false, Bool.false_eq_true, if_false]

/-! ### The state in which the request is served -/

theorem taken_work (h : s.host.work = []) : (s.taken opc p).host.work = [s.workOf opc p] :=
  (congrArg HostSt.work (admitted_host s opc p)).trans (by rw [h]; rfl)

theorem taken_sesOf (s : State) (opc : Nat) (p : Pkt) : (s.taken opc p).sesOf p.ses.val =
    { s.sesOf p.ses.val with lastReq := s.clk, tags := (p.tag.val, credits p) :: (s.sesOf p.ses.val).tags } :=
  sesOf_modSes s p.ses.isLt fun x => { x with lastReq := s.clk, tags := (p.tag.val, credits p) :: x.tags }

theorem Frame.taken (hp : .host ∈ ps) (hW : ∀ a, reqWords p.ses.val a → W a) : Frame ev ps W s (s.taken opc p) := by
  unfold State.taken State.acting State.admitted
  dsimp only
  refine Frame.modHost (Frame.modHost (Frame.wr (Frame.inc (Frame.put ((Frame.refl ..).modSes hp _ _) ?held _) ?tags _) ?seq _) hp _) hp _ <;>
    exact hW _ (by simp [reqWords, F.HOST_SES_CR_HELD, F.HOST_TAGS_IN_FLIGHT])

theorem taken_rd (h : a < 0x10000 ∨ 0x11000 ≤ a) : (s.taken opc p).rd a = s.rd a :=
  (Frame.taken (ev := false) (ps := [.host]) (by simp) fun _ => id).words a (not_reqWords p.ses.isLt h) (by simp)

theorem taken_get {f : Fld} (h : f.addr < 0x10000 ∨ 0x11000 ≤ f.addr) : (s.taken opc p).get f = s.get f :=
  State.get_congr (taken_rd h)

theorem taken_seq (s : State) (opc : Nat) (p : Pkt) : (s.taken opc p).rd (A.HOST_SES_SEQ p.ses.val) = s.rd (A.HOST_SES_SEQ p.ses.val) + 1#32 := by
  refine (State.rd_wr_same ..).trans ?_
  rw [implMask_seq]
  exact BitVec.and_allOnes

theorem taken_held (h : s.ready opc p = true) :
    (s.taken opc p).get (F.HOST_SES_CR_HELD p.ses.val) = s.get (F.HOST_SES_CR_HELD p.ses.val) + credits p := by
  obtain ⟨-, -, -, -, -, -, -, -, hcr, -⟩ := ready_iff.mp h
  have lt : s.get (F.HOST_SES_CR_GRANT p.ses.val) < 2 ^ 11 := Nat.mod_lt _ (Nat.two_pow_pos _)
  have hi := p.ses.isLt
  refine (State.get_wr_ne (f := F.HOST_SES_CR_HELD p.ses.val) _ ?seq _).trans ((State.get_put_ne (g := F.HOST_SES_CR_HELD p.ses.val) _ ?tags _).trans
    ((State.get_put_same _ (fld_ok_held p.ses) _).trans (Nat.mod_eq_of_lt ?_)))
  case seq => show 0x10404 + 0x10 * p.ses.val ≠ 0x10408 + 0x10 * p.ses.val; omega
  case tags => show 0x10404 + 0x10 * p.ses.val ≠ 0x10504; omega
  show _ < 2 ^ 11
  omega

/-! ### The packets on their way out -/

/-- A queue of packets is known from the words that choose it and the host side. -/
theorem outbox_congr {t : State} (hw : ∀ a, a = A.HEALTH_MGS ∨ a = A.SYS_BOOT → t.rd a = s.rd a) {port : Port} {peer : Nat}
    (ht : t.host.held = s.host.held ∧ t.host.tx0 = s.host.tx0 ∧ t.host.tx1 = s.host.tx1 ∧ t.host.tl1 = s.host.tl1 ∧ t.host.tx2 = s.host.tx2) :
    t.outbox port peer = s.outbox port peer := by
  obtain ⟨h1, h2, h3, h4, h5⟩ := ht
  have prof : t.get F.HEALTH_MGS_PROF = s.get F.HEALTH_MGS_PROF := State.get_congr (hw _ (.inl rfl))
  have run : t.flag F.HEALTH_MGS_RUNNING = s.flag F.HEALTH_MGS_RUNNING := State.flag_congr (State.get_congr (hw _ (.inl rfl)))
  have rec' : t.flag F.SYS_BOOT_RECOVERY = s.flag F.SYS_BOOT_RECOVERY := State.flag_congr (State.get_congr (hw _ (.inr rfl)))
  unfold State.outbox
  rw [prof, run, rec', h1, h2, h3, h4, h5]

theorem taken_outbox (s : State) (opc : Nat) (p : Pkt) (port : Port) (peer : Nat) :
    (s.taken opc p).outbox port peer = s.outbox port peer :=
  outbox_congr (fun a h => taken_rd (by rcases h with rfl | rfl <;> decide)) ⟨rfl, rfl, rfl, rfl, rfl⟩

/-- A packet joins the queue of its port and peer, behind what was there. -/
theorem send_outbox (s : State) (q : OutPkt) : (s.send q).outbox q.port q.peer = s.outbox q.port q.peer ++ [q] := by
  have spi : ∀ x : State, (x.putb F.HOST_SPI_STAT_PKT_PEND true).outbox q.port q.peer = x.outbox q.port q.peer := fun x =>
    outbox_congr (fun a h => State.rd_wr_ne _ (by rcases h with rfl | rfl <;> decide) _) ⟨rfl, rfl, rfl, rfl, rfl⟩
  unfold State.send
  dsimp only
  split
  · rename_i hm
    simp only [State.outbox, State.modHost_get, State.modHost_flag, hm, if_true, State.modHost_same]
  · rename_i hm
    split
    · rename_i hport
      rw [spi]
      simp [State.outbox, hport]
    · rename_i hport
      simp only [hport] at hm ⊢
      simp only [State.outbox, State.modHost_get, State.modHost_flag, hm, State.modHost_same]
      rfl
    · rename_i hport
      split <;> rename_i hpeer <;> simp [State.outbox, hport, hpeer]

theorem send_work (s : State) (q : OutPkt) : (s.send q).host.work = s.host.work := by
  unfold State.send
  dsimp only
  repeat' split
  all_goals rfl

theorem send_sesOf (s : State) (q : OutPkt) (i : Nat) : (s.send q).sesOf i = s.sesOf i := by
  unfold State.send
  dsimp only
  repeat' split
  all_goals rfl

theorem Frame.sent (h : Frame ev ps W s u) (hp : .host ∈ ps) (hw : W A.HOST_SPI_STAT) (q : OutPkt) : Frame ev ps W s (u.send q) := by
  unfold State.send
  dsimp only
  split
  · exact h.modHost hp _
  · split
    · exact (h.modHost hp _).putb (f := F.HOST_SPI_STAT_PKT_PEND) hw _
    · exact h.modHost hp _
    · split <;> exact h.modHost hp _

theorem send_rd (s : State) (q : OutPkt) (h : a ≠ A.HOST_SPI_STAT) : (s.send q).rd a = s.rd a :=
  (Frame.sent (ev := false) (ps := [.host]) (W := (· = A.HOST_SPI_STAT)) (Frame.refl ..) (by simp) rfl q).words a h (by simp)

/-! ### The final reply -/

/-- A request in the slot that serves it: it alone is in the queue, its tag and its credits are taken (13 R382). -/
structure Served (opc : Nat) (p : Pkt) (s u : State) : Prop where
  work : u.host.work = [s.workOf opc p]
  tags : (u.sesOf p.ses.val).tags = (p.tag.val, credits p) :: (s.sesOf p.ses.val).tags
  fresh : ((s.sesOf p.ses.val).tags.any fun t => t.1 == p.tag.val) = false
  stays : (u.sesOf p.ses.val).ending = false
  held : u.get (F.HOST_SES_CR_HELD p.ses.val) = s.get (F.HOST_SES_CR_HELD p.ses.val) + credits p
  fits : s.get (F.HOST_SES_CR_HELD p.ses.val) + credits p < 2 ^ 11
  seq : u.rd (A.HOST_SES_SEQ p.ses.val) = s.rd (A.HOST_SES_SEQ p.ses.val) + 1#32

theorem served_taken (h : s.ready opc p = true) : Served opc p s (s.taken opc p) := by
  obtain ⟨-, -, -, -, -, -, -, htag, hcr, -, hwork, hend⟩ := ready_iff.mp h
  have lt : s.get (F.HOST_SES_CR_GRANT p.ses.val) < 2 ^ 11 := Nat.mod_lt _ (Nat.two_pow_pos _)
  exact {
    work := taken_work hwork
    tags := by rw [taken_sesOf]
    fresh := htag
    stays := by rw [taken_sesOf]; exact hend
    held := taken_held h
    fits := by omega
    seq := taken_seq s opc p }

/-- The tag `tag` of session `i` is free again, and its `n` credits return (13 R386). -/
def State.tagFreed (i tag n : Nat) (s : State) : State :=
  ((s.modSes i fun x => { x with tags := x.tags.filter fun y => y.1 != tag }).put (F.HOST_SES_CR_HELD i)
    (s.get (F.HOST_SES_CR_HELD i) - n)).put F.HOST_TAGS_IN_FLIGHT (s.get F.HOST_TAGS_IN_FLIGHT - 1)

theorem tagFreed_sesOf (s : State) {i : Nat} (hi : i < 16) (tag n : Nat) :
    (s.tagFreed i tag n).sesOf i = { s.sesOf i with tags := (s.sesOf i).tags.filter fun y => y.1 != tag } :=
  sesOf_modSes s hi fun x => { x with tags := x.tags.filter fun y => y.1 != tag }

/-- A tag of a session that goes on is freed; nothing of the session ends with it (13 R380, R386). -/
theorem dropTag_eq {i tag n : Nat} (hi : i < 16) {l : List (Nat × Nat)} (h : (s.sesOf i).tags = (tag, n) :: l)
    (hend : (s.sesOf i).ending = false) : s.dropTag i tag = s.tagFreed i tag n := by
  have first : ((s.sesOf i).tags.find? fun t => t.1 == tag) = some (tag, n) := by simp [h]
  have goesOn : ((s.tagFreed i tag n).sesOf i).ending = false := by rw [tagFreed_sesOf s hi]; exact hend
  unfold State.dropTag
  rw [first]
  show (s.tagFreed i tag n).freeSession i = _
  simp [State.freeSession, goesOn]

/-- The final reply has left, its request the queue (13 R386). -/
def State.replied (s : State) (opc st det : Nat) (pay : List Word) (p : Pkt) (u : State) : State :=
  (u.dropWork (s.host.lastWid + 1)).reply (s.workOf opc p) st det (credits p) pay false

section
variable (h : Served opc p s u) (st det : Nat) (pay : List Word)

theorem replied_sesOf (s u : State) (i : Nat) : (s.replied opc st det pay p u).sesOf i = u.sesOf i := send_sesOf ..

theorem replied_rd (s u : State) (ha : a ≠ A.HOST_SPI_STAT) : (s.replied opc st det pay p u).rd a = u.rd a := send_rd _ _ ha

include h

theorem replied_work : (s.replied opc st det pay p u).host.work = [] := by
  refine (send_work ..).trans ?_
  show u.host.work.filter _ = []
  simp [h.work, State.workOf]

/-- Nothing else waits: the final reply is sent, and the tag is free again. -/
theorem finish_eq (h1 : opc ≠ 1) : u.finish (s.workOf opc p) st det pay =
    (s.replied opc st det pay p u).tagFreed p.ses.val p.tag.val (credits p) := by
  have session : (s.workOf opc p).isReg = false := by
    have := p.tag.isLt
    simp [Work.isReg, State.workOf]
    omega
  have one : u.finish1 (s.workOf opc p) st det pay = (s.replied opc st det pay p u).tagFreed p.ses.val p.tag.val (credits p) := by
    have other : ((s.workOf opc p).opc != 1) = true := bne_iff_ne.mpr h1
    unfold State.finish1
    simp only [session, other, State.when, Bool.false_eq_true, if_false, if_true]
    exact dropTag_eq p.ses.isLt ((congrArg Ses.tags (send_sesOf ..)).trans h.tags) ((congrArg Ses.ending (send_sesOf ..)).trans h.stays)
  have empty : ((s.replied opc st det pay p u).tagFreed p.ses.val p.tag.val (credits p)).host.work = [] := replied_work h st det pay
  unfold State.finish
  simp only [one, empty, List.filter_nil, List.foldl_nil, List.find?_nil]

/-- The request is over. -/
theorem finish_settled (h1 : opc ≠ 1) : Settled p s (u.finish (s.workOf opc p) st det pay) := by
  have hi := p.ses.isLt
  rw [finish_eq h st det pay h1]
  refine ⟨replied_work h st det pay, ?seq, ?tags, ?held⟩
  case seq =>
    refine (State.rd_put_ne _ ?_ _).trans ((State.rd_put_ne _ ?_ _).trans ((replied_rd st det pay s u ?_).trans h.seq))
    · show 0x10408 + 0x10 * p.ses.val ≠ 0x10504; omega
    · show 0x10408 + 0x10 * p.ses.val ≠ 0x10404 + 0x10 * p.ses.val; omega
    · show 0x10408 + 0x10 * p.ses.val ≠ 0x10004; omega
  case tags =>
    have others : ∀ y ∈ (s.sesOf p.ses.val).tags, (y.1 != p.tag.val) = true := fun y hy => by
      simpa using List.any_eq_false.mp h.fresh y hy
    rw [tagFreed_sesOf _ hi, replied_sesOf]
    simp only [h.tags, List.filter_cons, bne_self_eq_false, Bool.false_eq_true, if_false]
    exact List.filter_eq_self.mpr others
  case held =>
    have same : (s.replied opc st det pay p u).get (F.HOST_SES_CR_HELD p.ses.val) = s.get (F.HOST_SES_CR_HELD p.ses.val) + credits p :=
      (State.get_congr (replied_rd st det pay s u (by show 0x10404 + 0x10 * p.ses.val ≠ 0x10004; omega))).trans h.held
    have fits := h.fits
    refine (State.get_put_ne (g := F.HOST_SES_CR_HELD p.ses.val) _ ?_ _).trans ((State.get_put_same _ (fld_ok_held p.ses) _).trans ?_)
    · show 0x10404 + 0x10 * p.ses.val ≠ 0x10504; omega
    · rw [same, Nat.add_sub_cancel]
      exact Nat.mod_eq_of_lt (by show _ < 2 ^ 11; omega)

theorem finish_rd (h1 : opc ≠ 1) (ha : ¬ reqWords p.ses.val a) : (u.finish (s.workOf opc p) st det pay).rd a = u.rd a := by
  simp only [reqWords, List.mem_cons, List.not_mem_nil, or_false, not_or] at ha
  obtain ⟨-, hcr, htags, hspi⟩ := ha
  rw [finish_eq h st det pay h1]
  exact (State.rd_put_ne _ htags _).trans ((State.rd_put_ne _ hcr _).trans (replied_rd st det pay s u hspi))

/-- The reply is the newest packet. -/
theorem finish_outbox (h1 : opc ≠ 1) : (u.finish (s.workOf opc p) st det pay).outbox p.port p.peer =
    u.outbox p.port p.peer ++ [replyTo opc st det (credits p) pay p (u.finish (s.workOf opc p) st det pay)] := by
  have level : (u.finish (s.workOf opc p) st det pay).get F.HEALTH_SRQ_LEVEL = u.get F.HEALTH_SRQ_LEVEL :=
    State.get_congr (finish_rd h st det pay h1 (not_reqWords p.ses.isLt (by decide)))
  have packet : replyTo opc st det (credits p) pay p (u.finish (s.workOf opc p) st det pay) = replyTo opc st det (credits p) pay p u := by
    simp only [replyTo, State.detail, level]
  have := p.ses.isLt
  have freed : ∀ x : State, (x.tagFreed p.ses.val p.tag.val (credits p)).outbox p.port p.peer = x.outbox p.port p.peer := fun x =>
    outbox_congr (fun a ha => (State.rd_put_ne _ (by rcases ha with rfl | rfl <;> decide) _).trans
      (State.rd_put_ne _ (by rcases ha with rfl | rfl <;> simp only [A.HEALTH_MGS, A.SYS_BOOT, F.HOST_SES_CR_HELD, A.HOST_SES_CR] <;> omega) _))
      ⟨rfl, rfl, rfl, rfl, rfl⟩
  rw [packet, finish_eq h st det pay h1, freed]
  exact send_outbox ..

theorem Frame.finish {v : State} (hf : Frame ev ps W v u) (h1 : opc ≠ 1) (hp : .host ∈ ps) (hW : ∀ a, reqWords p.ses.val a → W a) :
    Frame ev ps W v (u.finish (s.workOf opc p) st det pay) := by
  rw [finish_eq h st det pay h1]
  refine Frame.put (Frame.put (Frame.modSes ((hf.modWork hp _).sent hp ?spi _) hp _ _) ?held _) ?tags _ <;>
    exact hW _ (by simp [reqWords, F.HOST_SES_CR_HELD, F.HOST_TAGS_IN_FLIGHT])

end

/-- The slot is over: nobody acts any longer. -/
def State.slotEnd (s u : State) : State := settle s (u.modHost fun h => { h with actor := 255 })

theorem slotEnd_rd (s u : State) (a : Nat) : (s.slotEnd u).rd a = u.rd a := settle_rd ..
theorem slotEnd_get (s u : State) (f : Fld) : (s.slotEnd u).get f = u.get f := settle_get ..

theorem Frame.slotEnd (h : Frame ev ps W s u) (hp : .host ∈ ps) : Frame ev ps W s (s.slotEnd u) := (h.modHost hp _).settle

theorem slotEnd_outbox (s u : State) (port : Port) (peer : Nat) : (s.slotEnd u).outbox port peer = u.outbox port peer :=
  outbox_congr (fun _ _ => slotEnd_rd ..) ⟨rfl, rfl, rfl, rfl, rfl⟩

theorem slotEnd_replyTo (s u : State) (st det cred : Nat) (pay : List Word) :
    replyTo opc st det cred pay p (s.slotEnd u) = replyTo opc st det cred pay p u := by
  simp only [replyTo, State.detail, slotEnd_get]

theorem Settled.slotEnd (h : Settled p s u) : Settled p s (s.slotEnd u) := by
  obtain ⟨work, seq, tags, held⟩ := h
  exact ⟨work, (slotEnd_rd ..).trans seq, tags, (slotEnd_get ..).trans held⟩

/-- A request that is served at once completes with what its opcode does in the slot (13 R383). -/
theorem completes_served {x : Instr} {P : State → Prop} (he : exec x s = State.packet opc p s) (h : s.ready opc p = true) (h1 : opc ≠ 1)
    (h4 : opc ≠ 4) (hs : (s.taken opc p).serveReady (s.workOf opc p) = u) (hP : P (s.slotEnd u)) : completes x s P := by
  obtain ⟨-, -, -, -, -, -, -, -, -, -, hwork, -⟩ := ready_iff.mp h
  refine completes_clocked he (runs_of_ready h) ?_
  rw [submit_ready h h1, serve_admitted hwork h4, hs]
  exact hP

/-- A request that is served at once with its final reply alone changes nothing else (13 R386). -/
theorem completes_final {x : Instr} (he : exec x s = State.packet opc p s) (h : s.ready opc p = true) (h1 : opc ≠ 1) (h4 : opc ≠ 4)
    {st det : Nat} {pay : List Word}
    (hs : (s.taken opc p).serveReady (s.workOf opc p) = (s.taken opc p).finish (s.workOf opc p) st det pay) :
    completes x s fun t => OnlyFinal opc st det pay p s t := by
  have served := served_taken h
  refine completes_served he h h1 h4 hs ⟨⟨?reply, (finish_settled served st det pay h1).slotEnd⟩, ?frame⟩
  case reply => rw [Replied, slotEnd_outbox, slotEnd_replyTo, finish_outbox served st det pay h1, taken_outbox]
  case frame =>
    exact (Frame.finish served st det pay (Frame.taken (by simp) fun _ => id) h1 (by simp) fun _ => id).slotEnd (by simp)

end Sys2Proof.Machine
end

section
/-! SUPPORT. The requests that read: what each replies with, and what it refuses (13 R390, R393). -/

namespace Sys2Proof.Machine

variable {s u : State} {p : Pkt} {opc a n : Nat} {w : Work} {x : Rec}

/-! ### What the slot reads is what the request found -/

@[simp] theorem taken_mtr (s : State) (opc : Nat) (p : Pkt) (k : Nat) : (s.taken opc p).mtr k = s.mtr k := rfl
@[simp] theorem workOf_pay (s : State) (opc : Nat) (p : Pkt) : (s.workOf opc p).pay = p.pay := rfl

theorem within_iff {lo n hi : Nat} : within lo n hi = true ↔ lo ≤ n ∧ n ≤ hi := by simp [within]
theorem within_false_iff {lo n hi : Nat} : within lo n hi = false ↔ n < lo ∨ hi < n := by
  simp [within]; omega

theorem not_within {lo n hi : Nat} (h : n < lo ∨ hi < n) : within lo n hi = false := within_false_iff.mpr h

/-! ### CTX_READ -/

theorem ctxAddr_isCtx {c k j : Nat} (hc : c < 8) (hk : k < 16) (hj : j < 64) : isCtx (ctxAddr c k j) = true := by
  unfold isCtx ctxAddr chBase
  rw [Bool.and_eq_true, Bool.and_eq_true, decide_eq_true_iff, decide_eq_true_iff, decide_eq_true_iff]
  omega
theorem ctxAddr_chan {c k j : Nat} (hk : k < 16) (hj : j < 64) : chanOf (ctxAddr c k j) = c := by
  simp only [chanOf, ctxAddr, chBase]; omega
theorem ctxAddr_context {c k j : Nat} (hk : k < 16) (hj : j < 64) : ctxAddr c k j % 0x1000 / 0x100 = k := by
  simp only [ctxAddr, chBase]; omega
theorem ctxAddr_word {c k j : Nat} (hj : j < 64) : ctxAddr c k j % 0x100 / 4 = j := by
  simp only [ctxAddr, chBase]; omega

theorem word_ctxAddr (s : State) {c k j : Nat} (hc : c < 8) (hk : k < 16) (hj : j < 64) :
    s.word (ctxAddr c k j) = s.readCtx c k j := by
  simp only [State.word, ctxAddr_isCtx hc hk hj, if_true, ctxAddr_chan hk hj, ctxAddr_context hk hj, ctxAddr_word hj]

theorem taken_cx (c k j : Nat) : (s.taken opc p).cx c k j = s.cx c k j :=
  taken_rd (by simp only [ctxAddr, chBase]; omega)

theorem taken_readCtx (c k j : Nat) : (s.taken opc p).readCtx c k j = s.readCtx c k j := by
  simp only [State.readCtx, taken_cx]

theorem pf_lt (l : List Word) (i hi lo : Nat) : pf l i hi lo < 2 ^ (hi + 1 - lo) := Nat.mod_lt _ (Nat.two_pow_pos _)

theorem maskList_lt {n m k : Nat} (h : k ∈ maskList n m) : k < n := List.mem_range.mp (List.mem_filter.mp h).1

/-- The shape of a CTX_READ (13 R390). -/
abbrev CtxReadOk (l : List Word) : Prop :=
  pok l 0 0x1FFF07 = true ∧ pok l 1 0xFFFF = true ∧ 1 ≤ pf l 0 20 14 ∧ pf l 0 13 8 + pf l 0 20 14 ≤ 64 ∧
    pf l 0 20 14 * (maskList 16 (pf l 1 15 0)).length ≤ 1023

theorem ctxReadBad_iff (l : List Word) : (!pok l 0 0x1FFF07 || !pok l 1 0xFFFF || !within 1 (pf l 0 20 14) 64 ||
    64 < pf l 0 13 8 + pf l 0 20 14 || 1023 < pf l 0 20 14 * (maskList 16 (pf l 1 15 0)).length) = true ↔ ¬ CtxReadOk l := by
  simp only [Bool.or_eq_true, Bool.not_eq_true', within_false_iff, decide_eq_true_iff]
  constructor
  · rintro ((((h | h) | h) | h) | h) ⟨h0, h1, hn, hlast, hlen⟩
    · simp [h] at h0
    · simp [h] at h1
    all_goals omega
  · intro h
    by_contra hn
    simp only [not_or, Bool.not_eq_false, not_lt] at hn
    obtain ⟨⟨⟨⟨h0, h1⟩, hcount⟩, hlast⟩, hlen⟩ := hn
    exact h ⟨h0, h1, hcount.1, hlast, hlen⟩

theorem doCtxRead_eq (w : Work) (u : State) : u.doCtxRead w =
    if CtxReadOk w.pay then u.finish w OK 0 ((maskList 16 (pf w.pay 1 15 0)).flatMap fun k =>
      (List.range (pf w.pay 0 20 14)).map fun j => u.readCtx w.ch k (pf w.pay 0 13 8 + j))
    else u.finish w BAD_PARAM 0 [] := by
  by_cases h : CtxReadOk w.pay
  · rw [if_pos h]
    exact if_neg fun hb => (ctxReadBad_iff w.pay).mp hb h
  · rw [if_neg h]
    exact if_pos ((ctxReadBad_iff w.pay).mpr h)

/-- The words that a slot reads of the contexts are those that the request found. -/
theorem taken_ctxWords (s : State) (opc : Nat) (p : Pkt) {c i n : Nat} (hc : c < 8) (hlast : i + n ≤ 64) (m : Nat) :
    ((maskList 16 m).flatMap fun k => (List.range n).map fun j => (s.taken opc p).readCtx c k (i + j)) =
    (maskList 16 m).flatMap fun k => (List.range n).map fun j => s.word (ctxAddr c k (i + j)) := by
  refine List.flatMap_congr fun k hk => List.map_congr_left fun j hj => ?_
  have hj := List.mem_range.mp hj
  rw [taken_readCtx, word_ctxAddr s hc (maskList_lt hk) (by omega)]

theorem completes_ctxRead (h : s.ready 0x30 p = true) :
    (CtxReadOk p.pay → completes (.ctxRead p) s fun t => OnlyFinal 0x30 OK 0 ((maskList 16 (pf p.pay 1 15 0)).flatMap fun k =>
      (List.range (pf p.pay 0 20 14)).map fun j => s.word (ctxAddr (pf p.pay 0 2 0) k (pf p.pay 0 13 8 + j))) p s t) ∧
    (¬ CtxReadOk p.pay → completes (.ctxRead p) s fun t => OnlyFinal 0x30 BAD_PARAM 0 [] p s t) := by
  refine ⟨fun hok => ?_, fun hbad => ?_⟩
  · have words := taken_ctxWords s 0x30 p (pf_lt p.pay 0 2 0) hok.2.2.2.1 (pf p.pay 1 15 0)
    rw [← words]
    exact completes_final rfl h (by decide) (by decide) ((doCtxRead_eq ..).trans (if_pos hok))
  · exact completes_final rfl h (by decide) (by decide) ((doCtxRead_eq ..).trans (if_neg hbad))

/-! ### TRIP_READ, ACC_READ and WINDOW_READ -/

/-- A row that completes in one of two ways. -/
theorem completes_cases {x : Instr} {A B : Prop} {P Q : State → Prop} (hAB : B ↔ ¬ A) (ha : A → completes x s P)
    (hb : ¬ A → completes x s Q) : completes x s fun t => (A → P t) ∧ (B → Q t) := by
  by_cases h : A
  · obtain ⟨t, he, hp⟩ := ha h
    exact ⟨t, he, fun _ => hp, fun hB => absurd h (hAB.mp hB)⟩
  · obtain ⟨t, he, hq⟩ := hb h
    exact ⟨t, he, fun hA => absurd hA h, fun _ => hq⟩

theorem completes_tripRead (h : s.ready 0x52 p = true) : completes (.tripRead p) s fun t =>
    (pok p.pay 0 7 = true → OnlyFinal 0x52 OK 0 ([A.GDI_STAT, A.GDI_SRC, A.GDI_IN, A.GDI_TRQ_N].map (fun f => s.rd (f (pf p.pay 0 2 0))) ++
      (List.range 16).map fun j => s.rd ((if j % 2 = 0 then A.GDI_TRQ_A else A.GDI_TRQ_B) (pf p.pay 0 2 0) (j / 2))) p s t) ∧
    (pok p.pay 0 7 = false → OnlyFinal 0x52 BAD_PARAM 0 [] p s t) := by
  have words : ([A.GDI_STAT, A.GDI_SRC, A.GDI_IN, A.GDI_TRQ_N].map (fun f => s.rd (f (pf p.pay 0 2 0))) ++
      (List.range 16).map fun j => s.rd ((if j % 2 = 0 then A.GDI_TRQ_A else A.GDI_TRQ_B) (pf p.pay 0 2 0) (j / 2))) =
      [(s.taken 0x52 p).rd (A.GDI_STAT (pf p.pay 0 2 0)), (s.taken 0x52 p).rd (A.GDI_SRC (pf p.pay 0 2 0)),
        (s.taken 0x52 p).rd (A.GDI_IN (pf p.pay 0 2 0)), (s.taken 0x52 p).rd (A.GDI_TRQ_N (pf p.pay 0 2 0))] ++
      (List.range 8).flatMap fun k =>
        [(s.taken 0x52 p).rd (A.GDI_TRQ_A (pf p.pay 0 2 0) k), (s.taken 0x52 p).rd (A.GDI_TRQ_B (pf p.pay 0 2 0) k)] := by
    simp (disch := omega) only [A.GDI_STAT, A.GDI_SRC, A.GDI_IN, A.GDI_TRQ_N, A.GDI_TRQ_A, A.GDI_TRQ_B, chBase, taken_rd]
    rfl
  refine completes_cases Bool.eq_false_iff (fun hp => ?_) fun hp => ?_
  · rw [words]
    exact completes_final rfl h (by decide) (by decide) (if_neg (by simp [hp]))
  · exact completes_final rfl h (by decide) (by decide) (if_pos (by simp [hp]))

theorem taken_point (s : State) (opc : Nat) (p : Pkt) {k o : Nat} (ho : o < 0x1000) : (s.taken opc p).rd (ptBase k + o) = s.rd (ptBase k + o) :=
  taken_rd (by unfold ptBase; split <;> omega)

/-- The words that ACC_READ gives of accumulator `a`: the wrap counters stand in pairs (10 R302). -/
theorem taken_accWords (s : State) (opc : Nat) (p : Pkt) {k a : Nat} (ha : a < 16) :
    (let r := (s.taken opc p).rd (A.METER_WRAP k (a / 2))
     [(s.taken opc p).rd (A.METER_ACC_LO k a), (s.taken opc p).rd (A.METER_ACC_HI k a), if a % 2 = 0 then wd (bits r 15 0) else wd (bits r 31 16)]) =
    [s.rd (A.METER_ACC_LO k a), s.rd (A.METER_ACC_HI k a), wd (bits (s.rd (A.METER_WRAP k (a / 2))) (16 * (a % 2) + 15) (16 * (a % 2)))] := by
  have point : ∀ o, o < 0x1000 → (s.taken opc p).rd (ptBase k + o) = s.rd (ptBase k + o) := fun o ho => taken_point s opc p ho
  simp only [A.METER_WRAP, A.METER_ACC_LO, A.METER_ACC_HI, Nat.add_assoc, point _ (show 0x2C0 + 4 * (a / 2) < 0x1000 by omega),
    point _ (show 0x200 + 8 * a < 0x1000 by omega), point _ (show 0x204 + 8 * a < 0x1000 by omega)]
  rcases Nat.mod_two_eq_zero_or_one a with h | h <;> simp [h]

theorem completes_accRead (h : s.ready 0x60 p = true) : completes (.accRead p) s fun t =>
    (pok p.pay 0 0xFFFF000F = true → pf p.pay 0 3 0 ≤ 8 → OnlyFinal 0x60 OK 0 ((maskList 16 (pf p.pay 0 31 16)).flatMap fun a =>
      [s.rd (A.METER_ACC_LO (pf p.pay 0 3 0) a), s.rd (A.METER_ACC_HI (pf p.pay 0 3 0) a),
        wd (bits (s.rd (A.METER_WRAP (pf p.pay 0 3 0) (a / 2))) (16 * (a % 2) + 15) (16 * (a % 2)))]) p s t) ∧
    (pok p.pay 0 0xFFFF000F = false ∨ 8 < pf p.pay 0 3 0 → OnlyFinal 0x60 BAD_PARAM 0 [] p s t) := by
  have shape : (!pok p.pay 0 0xFFFF000F || 8 < pf p.pay 0 3 0) = true ↔ pok p.pay 0 0xFFFF000F = false ∨ 8 < pf p.pay 0 3 0 := by
    simp
  have words : ∀ a ∈ maskList 16 (pf p.pay 0 31 16), _ := fun a ha =>
    taken_accWords s 0x60 p (k := pf p.pay 0 3 0) (maskList_lt ha)
  simp only [← and_imp]
  refine completes_cases (by simp [imp_iff_not_or]) (fun hok => ?_) fun hbad => ?_
  · rw [← List.flatMap_congr words]
    exact completes_final rfl h (by decide) (by decide) (if_neg (by simp [hok.1, Nat.not_lt.mpr hok.2]))
  · exact completes_final rfl h (by decide) (by decide) (if_pos (shape.mpr (by simpa [imp_iff_not_or] using hbad)))

/-! ### RECORD_READ and SNAP_LIST -/

theorem doRecordRead_bad (h : pf w.pay 0 1 0 = 3 ∨ (pf w.pay 0 1 0 = 2 ∧ 20 ≤ (pw w.pay 1).toNat)) :
    u.doRecordRead w = u.finish w BAD_PARAM 0 [] := by
  refine if_pos ?_
  rcases h with h | ⟨h, hn⟩
  · simp [h]
  · simp [h, hn]

/-- A request for a record that may be named replies with it, or refuses where there is none (13 R393). -/
theorem doRecordRead_named (hok : pok w.pay 0 3 = true) (h3 : pf w.pay 0 1 0 ≠ 3)
    (h2 : ¬ (pf w.pay 0 1 0 = 2 ∧ 20 ≤ (pw w.pay 1).toNat)) : u.doRecordRead w =
    match u.recNamed (pf w.pay 0 1 0) (pw w.pay 1).toNat with
    | some r => u.finish w OK 0 (bytesToWords r.bytes)
    | none => u.finish w REFUSED_ENERGY 0 [] :=
  if_neg (by simp [hok, h3]; omega)

/-- The slot that a RECORD_READ of kind `k` and number `n` names: the newest record, the snapshot of a day, a slot of the ring. -/
abbrev ErSt.slotNamed (e : ErSt) (k n : Nat) : Option Rec :=
  if k = 0 then e.head else if k = 1 then e.at (0x8000 + n % 400) else e.at n

theorem recNamed_day (h : s.er.slotNamed 1 n = some x) : s.recNamed 1 n = if dayOf x.time = n then some x else none := by
  have slot : s.er.at (0x8000 + n % 400) = some x := h
  simp [State.recNamed, slot, Option.filter]

theorem recNamed_slot {k : Nat} (hk : k ≠ 1) : s.recNamed k n = s.er.slotNamed k n := by
  match k with
  | 0 => rfl
  | 1 => exact absurd rfl hk
  | k + 2 => rfl

theorem recNamed_none {k : Nat} (h : s.er.slotNamed k n = none) : s.recNamed k n = none := by
  by_cases hk : k = 1
  · subst hk
    have slot : s.er.at (0x8000 + n % 400) = none := h
    simp [State.recNamed, slot]
  · rw [recNamed_slot hk, h]

theorem completes_recordRead_bad (h : s.ready 0x62 p = true)
    (hbad : pf p.pay 0 1 0 = 3 ∨ (pf p.pay 0 1 0 = 2 ∧ 20 ≤ (pw p.pay 1).toNat)) :
    completes (.recordRead p) s fun t => OnlyFinal 0x62 BAD_PARAM 0 [] p s t :=
  completes_final rfl h (by decide) (by decide) (doRecordRead_bad hbad)

section
variable (h : s.ready 0x62 p = true) (hok : pok p.pay 0 3 = true) (h3 : pf p.pay 0 1 0 ≠ 3)
  (h2 : ¬ (pf p.pay 0 1 0 = 2 ∧ 20 ≤ (pw p.pay 1).toNat))
include h hok h3 h2

theorem completes_recordRead_some (hr : s.recNamed (pf p.pay 0 1 0) (pw p.pay 1).toNat = some x) :
    completes (.recordRead p) s fun t => OnlyFinal 0x62 OK 0 (bytesToWords x.bytes) p s t := by
  have named : (s.taken 0x62 p).recNamed (pf p.pay 0 1 0) (pw p.pay 1).toNat = some x := hr
  refine completes_final rfl h (by decide) (by decide) ((doRecordRead_named hok h3 h2).trans ?_)
  simp only [workOf_pay, named]

theorem completes_recordRead_none (hr : s.recNamed (pf p.pay 0 1 0) (pw p.pay 1).toNat = none) :
    completes (.recordRead p) s fun t => OnlyFinal 0x62 REFUSED_ENERGY 0 [] p s t := by
  have named : (s.taken 0x62 p).recNamed (pf p.pay 0 1 0) (pw p.pay 1).toNat = none := hr
  refine completes_final rfl h (by decide) (by decide) ((doRecordRead_named hok h3 h2).trans ?_)
  simp only [workOf_pay, named]

end

theorem completes_recordRead (h : s.ready 0x62 p = true) (hok : pok p.pay 0 3 = true) :
    ∀ n, (pw p.pay 1).toNat = n → ∀ r, s.er.slotNamed (pf p.pay 0 1 0) n = r →
      (pf p.pay 0 1 0 = 3 ∨ (pf p.pay 0 1 0 = 2 ∧ 20 ≤ n) → completes (.recordRead p) s fun t => OnlyFinal 0x62 BAD_PARAM 0 [] p s t) ∧
      (pf p.pay 0 1 0 ≠ 3 → ¬ (pf p.pay 0 1 0 = 2 ∧ 20 ≤ n) →
        (r = none → completes (.recordRead p) s fun t => OnlyFinal 0x62 REFUSED_ENERGY 0 [] p s t) ∧
        (∀ x ∈ r, (pf p.pay 0 1 0 = 1 → dayOf x.time = n) → completes (.recordRead p) s fun t =>
          OnlyFinal 0x62 OK 0 (bytesToWords x.bytes) p s t) ∧
        (∀ x ∈ r, pf p.pay 0 1 0 = 1 → dayOf x.time ≠ n → completes (.recordRead p) s fun t =>
          OnlyFinal 0x62 REFUSED_ENERGY 0 [] p s t)) := by
  rintro n rfl r rfl
  refine ⟨completes_recordRead_bad h, fun h3 h2 => ⟨fun hr => ?empty, fun x hr hd => ?named, fun x hr h1 hd => ?otherDay⟩⟩
  case empty => exact completes_recordRead_none h hok h3 h2 (recNamed_none hr)
  case named =>
    refine completes_recordRead_some h hok h3 h2 ?_
    by_cases h1 : pf p.pay 0 1 0 = 1
    · rw [h1] at hr ⊢
      rw [recNamed_day hr, if_pos (hd h1)]
    · rw [recNamed_slot h1, hr]
  case otherDay =>
    refine completes_recordRead_none h hok h3 h2 ?_
    rw [h1] at hr ⊢
    rw [recNamed_day hr, if_neg hd]

theorem completes_snapList (h : s.ready 0x63 p = true) : completes (.snapList p) s fun t => OnlyFinal 0x63 OK 0
    ((List.range 400).map fun j => ((s.er.at (0x8000 + j)).map fun r => wd (dayOf r.time)).getD 0xFFFFFFFF#32) p s t := by
  have days : ∀ j, (match s.er.at (0x8000 + j) with | some r => wd (dayOf r.time) | none => 0xFFFFFFFF#32) =
      ((s.er.at (0x8000 + j)).map fun r => wd (dayOf r.time)).getD 0xFFFFFFFF#32 := fun j => by
    cases s.er.at (0x8000 + j) <;> rfl
  simp only [← days]
  exact completes_final rfl h (by decide) (by decide) rfl

/-! ### WINDOW_READ -/

theorem windowPay_length (s : State) (v : Word) : (s.windowPay v).length = 34 + 229 * bits v 8 8 + 74 * bits v 9 9 := by
  have one : ∀ j, (if bit v j then 1 else 0) = bits v j j := fun j => by
    have := Nat.mod_lt (v.toNat >>> j) (Nat.two_pow_pos 1)
    rw [bit_eq_bits, bits, Nat.add_sub_cancel_left]
    grind
  rw [← one, ← one]
  simp only [State.windowPay, List.length_append, List.length_cons, List.length_nil, List.length_map, List.length_range]
  split <;> split <;> simp

section
variable (s : State) (opc : Nat) (p : Pkt) (k : Nat)

theorem chan_outside (c o : Nat) : chBase c + o < 0x10000 ∨ 0x11000 ≤ chBase c + o := by unfold chBase; omega
theorem point_outside (k o : Nat) : ptBase k + o < 0x10000 ∨ 0x11000 ≤ ptBase k + o := by unfold ptBase; split <;> omega

theorem taken_mtype : (s.taken opc p).mtype k = s.mtype k := taken_get (f := F.METER_CFG_TYPE k) (point_outside k 0)

theorem taken_mclkDiv : (s.taken opc p).get (F.FLT_MCLK_DIV k) = s.get (F.FLT_MCLK_DIV k) := taken_get (chan_outside k 0x8000)

theorem taken_fineClks : (s.taken opc p).fineClks k = s.fineClks k := by
  have fine : (s.taken opc p).get (F.FLT_CFG_FINE_OSR k) = s.get (F.FLT_CFG_FINE_OSR k) := taken_get (chan_outside k 0x8004)
  have pcc : (s.taken opc p).get F.PCC_ADC_CFG_FINE_OSR = s.get F.PCC_ADC_CFG_FINE_OSR := taken_get (by decide)
  simp only [State.fineClks, fine, pcc, taken_mclkDiv]

theorem taken_fastClks : (s.taken opc p).fastClks k = s.fastClks k := by
  have fast : (s.taken opc p).get (F.FLT_CFG_FAST_OSR k) = s.get (F.FLT_CFG_FAST_OSR k) := taken_get (chan_outside k 0x8004)
  simp only [State.fastClks, fast, taken_mclkDiv]

theorem taken_hmax : (s.taken opc p).hmax k = s.hmax k := by
  have fnom : (s.taken opc p).flag F.SYS_RIDE_CFG_FNOM = s.flag F.SYS_RIDE_CFG_FNOM := State.flag_congr (taken_get (by decide))
  simp only [State.hmax, fnom, taken_fineClks]

theorem taken_windowPay (v : Word) : (s.taken opc p).windowPay v = s.windowPay v := by
  have n1012 : ∀ k, (s.taken opc p).get (F.METER_INTV_N1012 k) = s.get (F.METER_INTV_N1012 k) := fun k => taken_get (point_outside k 0x14)
  have n10m : ∀ k, (s.taken opc p).get (F.METER_INTV_N10M k) = s.get (F.METER_INTV_N10M k) := fun k => taken_get (point_outside k 0x14)
  have stat : ∀ k, (s.taken opc p).rd (A.METER_STAT k) = s.rd (A.METER_STAT k) := fun k => taken_rd (point_outside k 8)
  have shed : ∀ k, (s.taken opc p).flag (F.METER_STAT_SUPRA_SHED k) = s.flag (F.METER_STAT_SUPRA_SHED k) := fun k =>
    State.flag_congr (taken_get (point_outside k 8))
  have ro : ∀ k x, (s.taken opc p).roWord k x = s.roWord k x := fun k x => by
    have freq : (s.taken opc p).rd (A.METER_WIN k 30) = s.rd (A.METER_WIN k 30) := taken_rd (point_outside k 0x178)
    funext i
    simp only [State.roWord, freq, taken_mtype]
  have harm : ∀ k x sig kind, (s.taken opc p).harmWord k x sig kind = s.harmWord k x sig kind := fun k x sig kind => by
    funext j
    simp only [State.harmWord, taken_mtype, taken_hmax]
  have supra : ∀ k x sig, (s.taken opc p).supraWord k x sig = s.supraWord k x sig := fun k x sig => by
    funext b
    simp only [State.supraWord, shed, taken_fastClks]
  simp only [State.windowPay, taken_mtr, n1012, n10m, stat, ro, harm, supra]

end

theorem completes_windowRead (h : s.ready 0x61 p = true) : completes (.windowRead p) s fun t =>
    (windowOk (pw p.pay 0) = true → OnlyFinal 0x61 OK 0 (s.windowPay (pw p.pay 0)) p s t ∧
      (s.windowPay (pw p.pay 0)).length = 34 + 229 * pf p.pay 0 8 8 + 74 * pf p.pay 0 9 9) ∧
    (windowOk (pw p.pay 0) = false → OnlyFinal 0x61 BAD_PARAM 0 [] p s t) := by
  refine completes_cases Bool.eq_false_iff (fun hok => ?_) fun hbad => ?_
  · obtain ⟨t, he, ht⟩ : completes (.windowRead p) s fun t => OnlyFinal 0x61 OK 0 (s.windowPay (pw p.pay 0)) p s t := by
      rw [← taken_windowPay s 0x61 p]
      exact completes_final rfl h (by decide) (by decide) (if_neg (by simp [hok]))
    exact ⟨t, he, ht, windowPay_length s _⟩
  · exact completes_final rfl h (by decide) (by decide) (if_pos (by simp [hbad]))

/-! ### LOG_READ, SAFE_LOG_READ, COUNTERS and HEALTH_GET -/

theorem completes_logRead (h : s.ready 0xA0 p = true) : ∀ n, (pw p.pay 2).toNat = n →
    ∀ q, (pw p.pay 0).toNat * 2 ^ 32 + (pw p.pay 1).toNat = q → ∀ old, (s.log.ring.getLast?.map LogRec.lseq).getD 1 = old →
      (1 ≤ n → n ≤ 63 → completes (.logRead p) s fun t => OnlyFinal 0xA0 OK (if q < old ∧ 1 < old then 1 else 0)
        (((s.log.ring.reverse.filter fun r => max q old ≤ r.lseq).take n).flatMap LogRec.words) p s t) ∧
      (n = 0 ∨ 63 < n → completes (.logRead p) s fun t => OnlyFinal 0xA0 BAD_PARAM 0 [] p s t) := by
  rintro n rfl q rfl old rfl
  have oldest : (match s.log.ring.getLast? with | some r => r.lseq | none => 1) = (s.log.ring.getLast?.map LogRec.lseq).getD 1 := by
    cases s.log.ring.getLast? <;> rfl
  have lost : ∀ q old : Nat, b2n (decide (max q 1 < old)) = if q < old ∧ 1 < old then 1 else 0 := fun q old => by
    simp only [b2n, decide_eq_true_iff, max_lt_iff]
  refine ⟨fun h1 h63 => ?_, fun hn => ?_⟩
  · rw [← lost, ← oldest, List.filter_reverse]
    exact completes_final rfl h (by decide) (by decide) (if_neg (by simp [within_iff.mpr ⟨h1, h63⟩]))
  · exact completes_final rfl h (by decide) (by decide) (if_pos (by simp [not_within (show _ < 1 ∨ _ from hn.imp_left (by omega))]))

theorem completes_safeLogRead (h : s.ready 0x95 p = true) : ∀ q, (pw p.pay 0).toNat = q → ∀ n, (pw p.pay 1).toNat = n →
      (1 ≤ n → n ≤ 25 → completes (.safeLogRead p) s fun t =>
        OnlyFinal 0x95 OK (if s.safe.nv.log.getLast?.any fun e => decide (max q 1 < e.seq) then 1 else 0)
          (((s.safe.nv.log.reverse.filter fun e => q ≤ e.seq).take n).flatMap fun e =>
            [wd e.seq, wd (e.time / 2 ^ 32), wd e.time, wd (e.ses + 16 * e.port + 256 * e.op)] ++ e.old ++ e.new ++ List.replicate 4 0#32) p s t) ∧
      (n = 0 ∨ 25 < n → completes (.safeLogRead p) s fun t => OnlyFinal 0x95 BAD_PARAM 0 [] p s t) := by
  rintro q rfl n rfl
  refine ⟨fun h1 h25 => ?_, fun hn => ?_⟩
  · have lost : b2n (decide (max (pw p.pay 0).toNat 1 < match s.safe.nv.log.getLast? with | some e => e.seq | none => 0)) =
        if s.safe.nv.log.getLast?.any fun e => decide (max (pw p.pay 0).toNat 1 < e.seq) then 1 else 0 := by
      cases s.safe.nv.log.getLast? <;> rfl
    rw [← lost]
    exact completes_final rfl h (by decide) (by decide) (if_neg (by simp [within_iff.mpr ⟨h1, h25⟩]))
  · exact completes_final rfl h (by decide) (by decide) (if_pos (by simp [not_within (show _ < 1 ∨ _ from hn.imp_left (by omega))]))

theorem completes_counters (h : s.ready 0xA1 p = true) : ∀ a, (pw p.pay 0).toNat = a → ∀ n, (pw p.pay 1).toNat = n →
      (1 ≤ n → n ≤ 1023 → a + n ≤ 1536 → completes (.counters p) s fun t =>
        OnlyFinal 0xA1 OK 0 ((List.range n).map fun j => s.rd (A.HEALTH_EVCNT (a + j))) p s t) ∧
      (n = 0 ∨ 1023 < n ∨ 1536 < a + n → completes (.counters p) s fun t => OnlyFinal 0xA1 BAD_PARAM 0 [] p s t) := by
  rintro a rfl n rfl
  have counter : ∀ j, (s.taken 0xA1 p).rd (A.HEALTH_EVCNT j) = s.rd (A.HEALTH_EVCNT j) := fun j =>
    taken_rd (by unfold A.HEALTH_EVCNT; omega)
  refine ⟨fun h1 h1023 hsum => ?_, fun hbad => ?_⟩
  · simp only [← counter]
    exact completes_final rfl h (by decide) (by decide) (if_neg (by simp [within_iff.mpr ⟨h1, h1023⟩, Nat.not_lt.mpr hsum]))
  · refine completes_final rfl h (by decide) (by decide) (if_pos ?_)
    rw [Bool.or_eq_true, Bool.not_eq_true', within_false_iff, decide_eq_true_iff]
    show (_ < 1 ∨ _) ∨ _
    simp only [workOf_pay]
    omega

theorem completes_healthGet (h : s.ready 0xA2 p = true) : completes (.healthGet p) s fun t => OnlyFinal 0xA2 OK 0
    (s.rd A.HEALTH_SRQ :: s.rd A.HEALTH_THERM :: s.rd A.HEALTH_FO :: s.rd A.HEALTH_AGE :: s.rd A.HEALTH_MGS ::
      (List.range 16).map fun j => s.rd (A.HEALTH_TEMP j)) p s t := by
  have word : ∀ a, 0x11000 ≤ a → s.rd a = (s.taken 0xA2 p).rd a := fun a ha => (taken_rd (.inr ha)).symm
  have temp : ∀ j, s.rd (A.HEALTH_TEMP j) = (s.taken 0xA2 p).rd (A.HEALTH_TEMP j) := fun j =>
    word _ (by unfold A.HEALTH_TEMP; omega)
  rw [word A.HEALTH_SRQ (by decide), word A.HEALTH_THERM (by decide), word A.HEALTH_FO (by decide), word A.HEALTH_AGE (by decide),
    word A.HEALTH_MGS (by decide)]
  simp only [temp]
  exact completes_final rfl h (by decide) (by decide) rfl

/-- Settles O53: each request ends with its final reply, whose words the slot reads as the request found them. -/
theorem readRequestsAnswer : Obligations.ReadRequestsAnswer := by
  intro s p
  refine ⟨fun h => ⟨fun h0 h1 hn hlast hlen => (completes_ctxRead h).1 ⟨h0, h1, hn, hlast, hlen⟩, fun hbad => (completes_ctxRead h).2 ?ctx⟩,
    completes_tripRead, completes_accRead, completes_windowRead, completes_recordRead, completes_snapList, completes_logRead,
    completes_counters, completes_healthGet, completes_safeLogRead⟩
  case ctx =>
    rintro ⟨h0, h1, hn, hlast, hlen⟩
    rcases hbad with h | h | h | h | h
    · simp [h] at h0
    · simp [h] at h1
    all_goals omega

end Sys2Proof.Machine
end

section
/-! SUPPORT. A host's write of one context word: its answers, and what each leaves (03 R85, R99; 15 R516). -/

namespace Sys2Proof.Machine

variable {s u : State} {c k j i a wid st : Nat} {v : Word} {ev : Bool} {ps : List Part} {W : Nat → Prop}

/-! ### The address of a context word -/

theorem ctxAddr_implMask (hc : c < 8) (hk : k < 16) (hj : j < 64) : implMask (ctxAddr c k j) = ctxMask j := by
  simp only [implMask, ctxAddr_isCtx hc hk hj, if_true, ctxAddr_word hj]

theorem ctxAddr_no_mailbox (c k j : Nat) : ∀ m < 16, A.HOST_MBS m ≠ ctxAddr c k j := fun m hm => by
  simp only [A.HOST_MBS, ctxAddr, chBase]; omega

/-- The context words of a channel's block have no mirrors (15 R434). -/
theorem chanCanon_context {o : Nat} (ho : o < 2 ^ 12) (h4 : o % 4 = 0) : chanCanon o = o := by
  have inside : ∀ n, o.testBit n = true → (0x2FFC).testBit n = true := fun n hn => by
    have hn12 : n < 12 := by
      by_contra hge
      rw [Nat.testBit_lt_two_pow (Nat.lt_of_lt_of_le ho (Nat.pow_le_pow_right (by omega) (by omega)))] at hn
      exact Bool.false_ne_true hn
    have hn2 : 2 ≤ n := by
      by_contra hlt
      rw [Nat.testBit_eq_decide_div_mod_eq, decide_eq_true_iff] at hn
      interval_cases n <;> omega
    interval_cases n <;> rfl
  rw [chanCanon, if_pos (by omega)]
  refine Nat.eq_of_testBit_eq fun n => ?_
  rw [Nat.testBit_and]
  cases hn : o.testBit n
  · rfl
  · exact inside n hn

/-- A context word is addressed as it stands (15 R434). -/
theorem resolve_ctxAddr (hc : c < 8) (hk : k < 16) (hj : j < 64) : resolve false (ctxAddr c k j) = some (ctxAddr c k j) := by
  have low : ctxAddr c k j % 0x10000 < 2 ^ 12 ∧ ctxAddr c k j % 0x10000 % 4 = 0 := by simp only [ctxAddr, chBase]; omega
  have canon := chanCanon_context low.1 low.2
  unfold resolve
  rw [canon, if_neg (by simp only [ctxAddr, chBase]; omega), if_neg (by simp only [ctxAddr, chBase]; omega),
    if_neg (by simp only [ctxAddr, chBase]; omega), if_pos (by simp only [ctxAddr, chBase]; omega)]
  congr 1
  omega

/-- A word of a channel's block needs the claim of its channel (13 R389). -/
theorem claimOk_chan (s : State) (i c : Nat) {o : Nat} (ho : o < 0x10000) (v : Word) : s.claimOk i (chBase c + o) v = s.holds i (.chan c) := by
  have ch : (chBase c + o - 0x100000) / 0x10000 = c := by unfold chBase; omega
  have high : 0x100000 ≤ chBase c + o := by unfold chBase; omega
  have noLock : decide (chBase c + o < 0x10240) = false := by simp; omega
  simp [State.claimOk, needOf, high, ch, noLock]

/-! ### The answers to a write -/

theorem modHost_ctxRule (g : HostSt → HostSt) (s : State) (c k j : Nat) (v : Word) :
    (s.modHost g).ctxRule c k j v = s.ctxRule c k j v := by
  unfold State.ctxRule
  rw [hostless_planned]
  rfl

theorem raise_raised (s : State) {f : Fld} (ha : f.addr < 0x180000) (hb : bookAddr f.addr = false) : Raised f s (s.raise f) :=
  rd_raiseAt_same s f.lo ha hb []

/-- The tick's one write of context `k` is taken (01 R27). -/
def State.ctxUsed (c k : Nat) (s : State) : State := s.modT fun t => { t with written := (16 * c + k) :: t.written }

theorem writeCtx_reserved (h : v &&& ~~~(ctxMask j) ≠ 0#32) : s.writeCtx c k j v wid = (s, BAD_PARAM) := if_pos h

section
variable (h : v &&& ~~~(ctxMask j) = 0#32)
include h

theorem writeCtx_stat (hj : j = 3) : s.writeCtx c k j v wid = ((s.setCx c k j (seqClear (s.cx c k j) v 0x30000#32)).ctxUsed c k, OK) :=
  (if_neg (not_not.mpr h)).trans (if_pos hj)

theorem writeCtx_kept (h3 : j ≠ 3) (hk : (8 ≤ j ∧ j < 16) ∨ v = s.cx c k j) : s.writeCtx c k j v wid = (s.ctxUsed c k, OK) :=
  (if_neg (not_not.mpr h)).trans ((if_neg h3).trans (if_pos hk))

variable (h3 : j ≠ 3) (hj : j < 8 ∨ 16 ≤ j) (hne : v ≠ s.cx c k j)
include h3 hj hne

/-- A write that changes a word is answered by its rule. -/
theorem writeCtx_changed : s.writeCtx c k j v wid =
    if s.ctxRule c k j v = REFUSED_SPEED then (s.raise (F.MACH_EVT_REV_REFUSED c), s.ctxRule c k j v)
    else if s.ctxRule c k j v ≠ OK then (s, s.ctxRule c k j v)
    else if ctxRebuilds j (s.cx c k j) v then ((s.ctxUsed c k).queueRebuild (.ctxWord c k j v) wid, ACCEPTED)
    else ((s.setCx c k j v).ctxUsed c k, OK) :=
  (if_neg (not_not.mpr h)).trans ((if_neg h3).trans (if_neg (not_or.mpr ⟨by omega, hne⟩)))

end

/-! ### A write of a session -/

/-- The rule of a word that changes, and whether it changes the law set, are judged on the state as it stood before the session acts. -/
theorem writeCtx_acting (h : v &&& ~~~(ctxMask j) = 0#32) (h3 : j ≠ 3) (hj : j < 8 ∨ 16 ≤ j) (hne : v ≠ s.cx c k j) :
    (s.acting i).writeCtx c k j v wid =
    if s.ctxRule c k j v = REFUSED_SPEED then ((s.acting i).raise (F.MACH_EVT_REV_REFUSED c), s.ctxRule c k j v)
    else if s.ctxRule c k j v ≠ OK then (s.acting i, s.ctxRule c k j v)
    else if ctxRebuilds j (s.cx c k j) v then (((s.acting i).ctxUsed c k).queueRebuild (.ctxWord c k j v) wid, ACCEPTED)
    else (((s.acting i).setCx c k j v).ctxUsed c k, OK) := by
  have rule : (s.acting i).ctxRule c k j v = s.ctxRule c k j v := modHost_ctxRule ..
  rw [writeCtx_changed (s := s.acting i) h h3 hj hne, rule]
  rfl

theorem writeReg_ctx (hi : i < 16) (hc : c < 8) (hk : k < 16) (hj : j < 64) (hcl : s.claimOk i (ctxAddr c k j) v = true)
    (h : (s.acting i).writeCtx c k j v wid = (u, st)) :
    s.writeReg i (ctxAddr c k j) v wid = (u.modHost fun h => { h with actor := s.host.actor }, st) := by
  unfold State.writeReg
  simp only [hcl, ctxAddr_isCtx hc hk hj, ctxAddr_chan hk hj, ctxAddr_context hk hj, ctxAddr_word hj, acting_session hi, h, Bool.not_true,
    Bool.false_eq_true, if_false, if_true]

theorem rowWrite_ctx {w : RegWr} (ho : s.sesOpen w.ses.val = true) (hc : c < 8) (hk : k < 16) (hj : j < 64)
    (hcl : s.claimOk w.ses.val (ctxAddr c k j) v = true) (h : (s.acting w.ses.val).writeCtx c k j v 0 = (u, st))
    (hm : ∀ m < 16, u.flag (F.HOST_MBS_FULL m) = s.flag (F.HOST_MBS_FULL m)) : s.rowWrite w (ctxAddr c k j) v = s.answered u st := by
  unfold State.rowWrite
  simp only [ho, writeReg_ctx w.ses.isLt hc hk hj hcl h, Bool.not_true, Bool.false_eq_true, if_false]
  exact mbLate_id hm

/-- A write of a context word that holds the claim completes as the word's rule answers it. -/
theorem completes_ctx {x : Instr} {w : RegWr} {P : State → Prop} (hc : c < 8) (hk : k < 16) (hj : j < 64)
    (he : exec x s = State.byHost (State.rowWrite w (ctxAddr c k j) w.val) s)
    (hh : s.hosted = true) (ho : s.sesOpen w.ses.val = true) (hcl : s.claimOk w.ses.val (ctxAddr c k j) w.val = true)
    (h : (s.acting w.ses.val).writeCtx c k j w.val 0 = (u, st)) (hf : Frame ev ps W s u) (hW : ∀ m < 16, ¬ W (A.HOST_MBS m))
    (hs : .host ∈ ps) (hP : Frame ev ps W s (settle s (s.answered u st)) → P (settle s (s.answered u st))) : completes x s P := by
  refine completes_byHost he hh ?_
  rw [rowWrite_ctx ho hc hk hj hcl h (hf.full_kept hW)]
  exact hP (hf.answered hs st).settle

theorem Frame.ctxUsed (h : Frame ev ps W s u) (hp : .t ∈ ps) : Frame ev ps W s (u.ctxUsed c k) := h.modT hp _

/-- A change of the tick table is queued: the word is left, and the rebuild begins (01 R28, R30). -/
theorem queueRebuild_building (s : State) (x : Change) (wid : Nat) : (s.queueRebuild x wid).flag F.SYS_TT_STAT_BUILDING = true :=
  State.flag_putb_same _ (by decide) (by decide) true

theorem queueRebuild_get (s : State) (x : Change) (wid : Nat) {f : Fld} (h : f.addr ≠ A.SYS_TT_STAT) :
    (s.queueRebuild x wid).get f = s.get f := State.get_put_ne (f := F.SYS_TT_STAT_BUILDING) _ h _

theorem mailbox_ne_ttStat : ∀ m < 16, A.HOST_MBS m ≠ A.SYS_TT_STAT := fun _ hm => mailbox_ne (by decide) hm

section
variable {x : Instr} {w : RegWr} {c : Chan} {k : Ix16} {j : Fin 64}
  (he : exec x s = State.byHost (State.rowWrite w (ctxAddr c.val k.val j.val) w.val) s) (hh : s.hosted = true)
  (ho : s.sesOpen w.ses.val = true) (hcl : s.claimOk w.ses.val (ctxAddr c.val k.val j.val) w.val = true)
include he hh ho hcl

theorem completes_ctx_reserved (hv : w.val &&& ~~~(ctxMask j.val) ≠ 0#32) : completes x s fun t => OnlyAnswered BAD_PARAM s t :=
  completes_ctx c.isLt k.isLt j.isLt he hh ho hcl (writeCtx_reserved hv) (Frame.acting (ps := [.host]) (by simp) ..) (fun _ _ => id)
    (by simp) fun hf => ⟨answered_host rfl _, hf⟩

variable (hv : w.val &&& ~~~(ctxMask j.val) = 0#32)
include hv

theorem completes_ctx_kept (h3 : j.val ≠ 3) (hk : (8 ≤ j.val ∧ j.val < 16) ∨ w.val = s.cx c.val k.val j.val) : completes x s fun t =>
    Answered OK s t ∧ t.t = { s.t with written := (16 * c.val + k.val) :: s.t.written } ∧ Frame false [.host, .t] (fun _ => False) s t :=
  completes_ctx c.isLt k.isLt j.isLt he hh ho hcl (writeCtx_kept hv h3 hk)
    (Frame.ctxUsed (Frame.acting (ps := [.host, .t]) (by simp) ..) (by simp)) (fun _ _ => id) (by simp)
    fun hf => ⟨answered_host rfl _, rfl, hf⟩

theorem completes_ctx_stat (h3 : j.val = 3) : completes x s fun t => Answered OK s t ∧
    t.cx c.val k.val 3 = (if bits w.val 31 24 = bits (s.cx c.val k.val 3) 31 24 then s.cx c.val k.val 3 &&& ~~~(w.val &&& 0x30000#32)
      else s.cx c.val k.val 3) &&& ctxMask 3 ∧ Frame false [.host, .t] (· = ctxAddr c.val k.val 3) s t := by
  obtain ⟨j, hj⟩ := j
  subst h3
  refine completes_ctx c.isLt k.isLt hj he hh ho hcl (writeCtx_stat hv rfl)
    (Frame.ctxUsed (Frame.setCx (W := (· = ctxAddr c.val k.val 3)) (Frame.acting (ps := [.host, .t]) (by simp) ..) rfl _) (by simp))
    (ctxAddr_no_mailbox _ _ _) (by simp) fun hf => ⟨answered_host rfl _, ?_, hf⟩
  have flags : w.val &&& 0x30000#32 &&& 0x00FFFFFF#32 = w.val &&& 0x30000#32 := by rw [BitVec.and_assoc]; rfl
  refine (settle_rd ..).trans ((State.rd_wr_same ..).trans ?_)
  rw [ctxAddr_implMask c.isLt k.isLt (by decide), seqClear, flags]
  rfl

variable (h3 : j.val ≠ 3) (hj : j.val < 8 ∨ 16 ≤ j.val) (hne : w.val ≠ s.cx c.val k.val j.val)
include h3 hj hne

theorem completes_ctx_stored (hr : s.ctxRule c.val k.val j.val w.val = OK)
    (hb : ctxRebuilds j.val (s.cx c.val k.val j.val) w.val = false) : completes x s fun t => Answered OK s t ∧
      t.cx c.val k.val j.val = w.val ∧ t.t = { s.t with written := (16 * c.val + k.val) :: s.t.written } ∧
      Frame false [.host, .t] (· = ctxAddr c.val k.val j.val) s t := by
  have answer := writeCtx_acting (s := s) (i := w.ses.val) (wid := 0) hv h3 hj hne
  rw [hr, if_neg (by decide), if_neg (by decide), hb] at answer
  refine completes_ctx c.isLt k.isLt j.isLt he hh ho hcl answer
    (Frame.ctxUsed (Frame.setCx (W := (· = ctxAddr c.val k.val j.val)) (Frame.acting (ps := [.host, .t]) (by simp) ..) rfl _) (by simp))
    (ctxAddr_no_mailbox _ _ _) (by simp) fun hf => ⟨answered_host rfl _, ?_, rfl, hf⟩
  refine (settle_rd ..).trans ((State.rd_wr_same ..).trans ?_)
  rw [ctxAddr_implMask c.isLt k.isLt j.isLt]
  exact and_eq_self_of_and_not hv

theorem completes_ctx_queued (hr : s.ctxRule c.val k.val j.val w.val = OK)
    (hb : ctxRebuilds j.val (s.cx c.val k.val j.val) w.val = true) : completes x s fun t => Answered ACCEPTED s t ∧
      t.t = { s.t with written := (16 * c.val + k.val) :: s.t.written,
                       rebuilds := s.t.rebuilds ++ [⟨.ctxWord c.val k.val j.val w.val, 0, false⟩] } ∧
      t.flag F.SYS_TT_STAT_BUILDING = true ∧ Frame false [.host, .t] (· = A.SYS_TT_STAT) s t := by
  have answer := writeCtx_acting (s := s) (i := w.ses.val) (wid := 0) hv h3 hj hne
  rw [hr, if_neg (by decide), if_neg (by decide), hb] at answer
  exact completes_ctx c.isLt k.isLt j.isLt he hh ho hcl answer
    (Frame.queueRebuild (W := (· = A.SYS_TT_STAT)) (Frame.ctxUsed (Frame.acting (ps := [.host, .t]) (by simp) ..) (by simp)) (by simp) rfl _ 0)
    mailbox_ne_ttStat (by simp) fun hf => ⟨answered_host rfl _, rfl, (settle_flag ..).trans (queueRebuild_building ..), hf⟩

theorem completes_ctx_refused (hr : s.ctxRule c.val k.val j.val w.val ≠ OK) : completes x s fun t =>
    t.host.ans = s.ctxRule c.val k.val j.val w.val ∧ t.t = s.t ∧
    (s.ctxRule c.val k.val j.val w.val = REFUSED_SPEED → Raised (F.MACH_EVT_REV_REFUSED c.val) s t) ∧
    Frame true [.host] (· = A.MACH_EVT c.val) s t := by
  have answer := writeCtx_acting (s := s) (i := w.ses.val) (wid := 0) hv h3 hj hne
  have noMailbox : ∀ m < 16, A.HOST_MBS m ≠ A.MACH_EVT c.val := fun m hm => by simp only [A.HOST_MBS, A.MACH_EVT, chBase]; omega
  have acted : Frame true [.host] (· = A.MACH_EVT c.val) s (s.acting w.ses.val) := Frame.acting (by simp) ..
  by_cases hspeed : s.ctxRule c.val k.val j.val w.val = REFUSED_SPEED
  · have word : A.MACH_EVT c.val < 0x180000 := chBase_lt c.isLt (by decide)
    rw [if_pos hspeed] at answer
    refine completes_ctx c.isLt k.isLt j.isLt he hh ho hcl answer (acted.raise (f := F.MACH_EVT_REV_REFUSED c.val) rfl word [])
      noMailbox (by simp) fun hf => ⟨rfl, hf.parts .t (by simp), fun _ => ?_, hf⟩
    have event : Raised (F.MACH_EVT_REV_REFUSED c.val) (s.acting w.ses.val) ((s.acting w.ses.val).raise (F.MACH_EVT_REV_REFUSED c.val)) :=
      raise_raised _ word (bookAddr_chan (by show 0x40000 ≤ A.MACH_EVT c.val; unfold A.MACH_EVT chBase; omega))
    rw [Raised, settle_rd, answered_rd]
    exact event
  · rw [if_neg hspeed, if_pos hr] at answer
    exact completes_ctx c.isLt k.isLt j.isLt he hh ho hcl answer acted noMailbox (by simp)
      fun hf => ⟨rfl, rfl, fun h => absurd h hspeed, hf⟩

end

end Sys2Proof.Machine
end

section
/-! SUPPORT. The writes that wait for the tick table: a role, and the legs of a DC channel (04 R107; 06 R181; 01 R28, R30). -/

namespace Sys2Proof.Machine

variable {s : State} {w : RegWr} {c : Chan}

/-! ### ROLE_SEL -/

def rowRoleSel : Row := ⟨0xC000, 4, 1, [rw 2 0 0 .roleOk (.range 0 4)], .role⟩

theorem rowAt_roleSel (c : Chan) : rowAt (A.ROLE_SEL c.val) = some rowRoleSel := by revert c; decide
theorem isCtx_roleSel (c : Chan) : isCtx (A.ROLE_SEL c.val) = false := by revert c; decide

/-- ROLE counts as written by every write (15 R519). -/
theorem role_changed (s : State) (a : Nat) (v : Word) : s.changed rowRoleSel a v = [rw 2 0 0 .roleOk (.range 0 4)] := by
  simp [State.changed, rowRoleSel, fieldWritten, rw]

theorem effect_role (s : State) (i : Nat) (c : Chan) (v : Word) : s.effect rowRoleSel i (A.ROLE_SEL c.val) v 0 =
    ((s.acting i).queueRebuild (.role c.val (bits v 2 0)) 0, ACCEPTED) := by
  have acts : s.acts rowRoleSel (A.ROLE_SEL c.val) v = true := by simp [State.acts, role_changed]
  have ch : chanOf (A.ROLE_SEL c.val) = c.val := by simp only [chanOf, A.ROLE_SEL, chBase]; omega
  rw [effect_unstored rfl, if_pos acts]
  show ((s.acting i).queueRebuild (.role (chanOf (A.ROLE_SEL c.val)) (bits v 2 0)) 0, ACCEPTED) = _
  rw [ch]

theorem completes_role (hp : s.passes w.ses.val (A.ROLE_SEL c.val) w.val = true) : completes (.roleSelWrite c w) s fun t =>
    Answered ACCEPTED s t ∧ t.t = { s.t with rebuilds := s.t.rebuilds ++ [⟨.role c.val (bits w.val 2 0), 0, false⟩] } ∧
    t.flag F.SYS_TT_STAT_BUILDING = true ∧ t.role c.val = s.role c.val ∧ Frame false [.host, .t] (· = A.SYS_TT_STAT) s t := by
  have queued : Frame false [.host, .t] (· = A.SYS_TT_STAT) s ((s.acting w.ses.val).queueRebuild (.role c.val (bits w.val 2 0)) 0) :=
    Frame.queueRebuild (W := (· = A.SYS_TT_STAT)) (Frame.acting (by simp) ..) (by simp) rfl _ 0
  exact completes_effect rfl (rowAt_roleSel c) (isCtx_roleSel c) hp (effect_role ..) queued mailbox_ne_ttStat (by simp) fun hf =>
    ⟨answered_host rfl _, rfl, (settle_flag ..).trans (queueRebuild_building ..),
      State.get_congr (f := F.ROLE_SEL_ROLE c.val) (hf.words (A.ROLE_SEL c.val)
        (by show A.ROLE_SEL c.val ≠ A.SYS_TT_STAT; unfold A.ROLE_SEL chBase A.SYS_TT_STAT; omega) (by simp)), hf⟩

/-- A word of three bits sets no reserved bit of ROLE_SEL. -/
theorem roleSel_unreserved {v : Word} (h : bits v 31 3 = 0) : v &&& ~~~(rowMask rowRoleSel) = 0#32 := by
  have small : ∀ n : Fin 8, BitVec.ofNat 32 n.val &&& ~~~(rowMask rowRoleSel) = 0#32 := by decide
  have lt : v.toNat < 8 := by
    have := v.isLt
    rw [bits, Nat.shiftRight_eq_div_pow, Nat.mod_eq_of_lt (by omega)] at h
    omega
  have := small ⟨v.toNat, lt⟩
  rwa [BitVec.ofNat_toNat, BitVec.setWidth_eq] at this

theorem completes_role_notInMode (hh : s.hosted = true) (ho : s.sesOpen w.ses.val = true)
    (hcl : s.claimOk w.ses.val (A.ROLE_SEL c.val) w.val = true)
    (h : s.cst c.val ≠ sOFF ∨ (s.mode ≠ mSTANDBY ∧ s.mode ≠ mRUN ∧ s.mode ≠ mSERVICE)) (hb : bits w.val 31 3 = 0) :
    completes (.roleSelWrite c w) s fun t => OnlyAnswered NOT_IN_MODE s t := by
  have ch : chanOf (A.ROLE_SEL c.val) = c.val := by simp only [chanOf, A.ROLE_SEL, chBase]; omega
  have cond : s.condOk (A.ROLE_SEL c.val) .roleOk = false := by
    rw [State.condOk, ch]
    rcases h with h | ⟨h1, h2, h3⟩
    · simp [h]
    · simp [h1, h2, h3]
  exact completes_onlyAnswered rfl hh ho hcl (rowAt_roleSel c) (isCtx_roleSel c)
    (writeRow_notInMode (roleSel_unreserved hb) (f := rw 2 0 0 .roleOk (.range 0 4)) (by simp [role_changed]) cond)

/-! ### DC_CFG -/

def rowDcCfg : Row := ⟨0xC500, 4, 1, [rw 2 0 1 .chOff (.range 1 4), rw 4 3 0 .chOff (.range 0 2), rw 6 5 1 .chOff .any, rw 7 7 0 .chOff .any,
  rw 14 8 0x20 .chOff (.range 8 64), rw 15 15 0 .chOff .any], .dcCfg⟩

theorem rowAt_dcCfg (c : Chan) : rowAt (A.DC_CFG c.val) = some rowDcCfg := by revert c; decide
theorem isCtx_dcCfg (c : Chan) : isCtx (A.DC_CFG c.val) = false := by revert c; decide

/-- What a write of DC_CFG that changes a field does: other legs of a DC channel wait for a rebuild (06 R181, R187). -/
theorem regAct_dcCfg (s : State) (i wid : Nat) (c : Chan) (old v : Word) (h : bits old 2 0 ≠ bits v 2 0 ∧ s.isDc c.val = true) :
    s.regAct .dcCfg i (A.DC_CFG c.val) old v wid = ((s.wr (A.DC_CFG c.val) old).queueRebuild (.legs c.val v) wid, ACCEPTED) := by
  have ch : chanOf (A.DC_CFG c.val) = c.val := by simp only [chanOf, A.DC_CFG, chBase]; omega
  unfold State.regAct
  simp only [ch]
  exact if_pos h

theorem regAct_dcCfg_other (s : State) (i wid : Nat) (c : Chan) (old v : Word) (h : s.isDc c.val = false) :
    s.regAct .dcCfg i (A.DC_CFG c.val) old v wid = (s.applyForce c.val, OK) := by
  have ch : chanOf (A.DC_CFG c.val) = c.val := by simp only [chanOf, A.DC_CFG, chBase]; omega
  unfold State.regAct
  simp [ch, h, State.when]

theorem written_isDc (s : State) (i : Nat) (c : Chan) (v : Word) : (s.written rowDcCfg i (A.DC_CFG c.val) v).isDc c.val = s.isDc c.val := by
  have role : (s.written rowDcCfg i (A.DC_CFG c.val) v).role c.val = s.role c.val :=
    State.get_congr (f := F.ROLE_SEL_ROLE c.val) (written_rd_ne (by
      show A.ROLE_SEL c.val ≠ A.DC_CFG c.val; unfold A.ROLE_SEL A.DC_CFG; omega))
  simp only [State.isDc, role]

theorem mailbox_ne_dcCfg (c : Chan) : ∀ m < 16, A.HOST_MBS m ≠ A.DC_CFG c.val := fun m hm => by
  simp only [A.HOST_MBS, A.DC_CFG, chBase]; omega

theorem legs_ok (c : Chan) : (F.DC_CFG_LEGS c.val).ok = true := by revert c; decide

theorem completes_legs (hp : s.passes w.ses.val (A.DC_CFG c.val) w.val = true) (hdc : s.isDc c.val = true)
    (hlegs : bits w.val 2 0 ≠ s.get (F.DC_CFG_LEGS c.val)) : completes (.dcCfgLegsWrite c w) s fun t => Answered ACCEPTED s t ∧
      t.t = { s.t with rebuilds := s.t.rebuilds ++ [⟨.legs c.val w.val, 0, false⟩] } ∧
      t.flag F.SYS_TT_STAT_BUILDING = true ∧ t.get (F.DC_CFG_LEGS c.val) = s.get (F.DC_CFG_LEGS c.val) ∧
      Frame false [.host, .t] (fun a => a = A.SYS_TT_STAT ∨ a = A.DC_CFG c.val) s t := by
  have legs : bits w.val 2 0 ≠ bits (s.rd (A.DC_CFG c.val)) 2 0 := hlegs
  have acts : s.acts rowDcCfg (A.DC_CFG c.val) w.val = true := acts_of_ne (f := rw 2 0 1 .chOff (.range 1 4)) (by decide) rfl legs
  have effect := (effect_acts (i := w.ses.val) (wid := 0) rfl acts).trans
    (regAct_dcCfg _ w.ses.val 0 c (s.rd (A.DC_CFG c.val)) w.val ⟨legs.symm, (written_isDc ..).trans hdc⟩)
  have restored : Frame false [.host, .t] (fun a => a = A.SYS_TT_STAT ∨ a = A.DC_CFG c.val) s
      ((s.written rowDcCfg w.ses.val (A.DC_CFG c.val) w.val).wr (A.DC_CFG c.val) (s.rd (A.DC_CFG c.val))) :=
    Frame.wr (Frame.written (by simp) (.inr rfl) ..) (.inr rfl) _
  have other : (F.DC_CFG_LEGS c.val).addr ≠ A.SYS_TT_STAT := by
    show A.DC_CFG c.val ≠ A.SYS_TT_STAT
    unfold A.DC_CFG chBase A.SYS_TT_STAT
    omega
  refine completes_effect rfl (rowAt_dcCfg c) (isCtx_dcCfg c) hp effect (restored.queueRebuild (by simp) (.inl rfl) _ 0)
    (fun m hm h => h.elim (mailbox_ne_ttStat m hm) (mailbox_ne_dcCfg c m hm)) (by simp) fun hf =>
      ⟨answered_host rfl _, rfl, (settle_flag ..).trans (queueRebuild_building ..), ?_, hf⟩
  rw [settle_get, answered_get, queueRebuild_get _ _ _ other]
  exact State.get_wr_same _ (legs_ok c) _

/-- A write of DC_CFG of a channel in another role: stored, and the forced half-bridges follow (07 R233). -/
theorem completes_dcCfg_other (hp : s.passes w.ses.val (A.DC_CFG c.val) w.val = true) (hdc : s.isDc c.val = false) :
    completes (.dcCfgLegsWrite c w) s fun t => Answered OK s t ∧ Stored (A.DC_CFG c.val) w.val s t ∧ t.t = s.t := by
  have stored : Frame false [.host, .chan c.val] (fun a => a = A.DC_CFG c.val ∨ a = A.PWM_FSTAT c.val) s
      (s.written rowDcCfg w.ses.val (A.DC_CFG c.val) w.val) := Frame.written (by simp) (.inl rfl) ..
  have noMailbox : ∀ m < 16, ¬ (A.HOST_MBS m = A.DC_CFG c.val ∨ A.HOST_MBS m = A.PWM_FSTAT c.val) := fun m hm h =>
    h.elim (mailbox_ne_dcCfg c m hm) (by simp only [A.HOST_MBS, A.PWM_FSTAT, chBase]; omega)
  cases acts : s.acts rowDcCfg (A.DC_CFG c.val) w.val
  · exact completes_setting rfl (rowAt_dcCfg c) (isCtx_dcCfg c) (by decide) hp (effect_idle rfl acts) rfl rfl stored noMailbox (by simp)
      fun answer stored frame => ⟨answer, stored, rfl⟩
  · have effect := (effect_acts (i := w.ses.val) (wid := 0) rfl acts).trans
      (regAct_dcCfg_other _ w.ses.val 0 c (s.rd (A.DC_CFG c.val)) w.val ((written_isDc ..).trans hdc))
    have forced : Frame false [.chan c.val] (· = A.PWM_FSTAT c.val) (s.written rowDcCfg w.ses.val (A.DC_CFG c.val) w.val)
        ((s.written rowDcCfg w.ses.val (A.DC_CFG c.val) w.val).applyForce c.val) := Frame.applyForce (Frame.refl ..) (by simp) rfl
    have other : A.DC_CFG c.val ≠ A.PWM_FSTAT c.val := by unfold A.DC_CFG A.PWM_FSTAT; omega
    exact completes_setting rfl (rowAt_dcCfg c) (isCtx_dcCfg c) (by decide) hp effect (forced.parts .host (by simp))
      (forced.words _ other (by simp)) (stored.applyForce (by simp) (.inr rfl)) noMailbox (by simp)
      fun answer stored frame => ⟨answer, stored, frame.parts .t (by simp)⟩

/-! ### The writes of contexts and tables together -/

/-- Both rows of a context word are the write at its address (15 R432). -/
theorem exec_ctxWrite {k : Ix16} {j : Fin 64} {x : Instr} (hx : x ∈ [Instr.registerWrite (wd (ctxAddr c.val k.val j.val)) w, .ctxCfgWrite c k w])
    (h0 : x = .ctxCfgWrite c k w → j.val = 0) : exec x s = State.byHost (State.rowWrite w (ctxAddr c.val k.val j.val) w.val) s := by
  rcases List.mem_pair.mp hx with rfl | rfl
  · have addr : (wd (ctxAddr c.val k.val j.val)).toNat = ctxAddr c.val k.val j.val := by
      simp only [wd, BitVec.toNat_ofNat, ctxAddr, chBase]
      omega
    show State.addrRow w (wd (ctxAddr c.val k.val j.val)).toNat s = _
    simp only [State.addrRow, addr, resolve_ctxAddr c.isLt k.isLt j.isLt]
  · rw [h0 rfl]
    rfl

/-- Settles O46: a context word by the answers to its write, a role and the legs by what their registers' writes do. -/
theorem contextAndTableWritesAreApplied : Obligations.ContextAndTableWritesAreApplied := by
  intro s c w hh ho hcl
  refine ⟨fun k j x hx h0 => ?words, completes_role, completes_role_notInMode hh ho hcl, fun hp =>
    ⟨completes_legs hp, fun hdc _ => completes_dcCfg_other hp hdc⟩⟩
  case words =>
    have he := exec_ctxWrite (s := s) hx h0
    have hcl : s.claimOk w.ses.val (ctxAddr c.val k.val j.val) w.val = true := by
      rw [ctxAddr, Nat.add_assoc, claimOk_chan _ _ _ (by omega)]
      rwa [A.ROLE_SEL, claimOk_chan _ _ _ (by omega)] at hcl
    refine ⟨completes_ctx_reserved he hh ho hcl, fun hv h3 hj hne => ⟨fun hr => ⟨?stored, ?queued⟩, ?refused⟩, fun hv hk => ?kept, ?stat⟩
    case stored => exact completes_ctx_stored he hh ho hcl hv h3 hj hne hr
    case queued => exact completes_ctx_queued he hh ho hcl hv h3 hj hne hr
    case refused => exact completes_ctx_refused he hh ho hcl hv h3 hj hne
    case kept => exact completes_ctx_kept he hh ho hcl hv (by omega) (hk.imp_right And.right)
    case stat => exact completes_ctx_stat he hh ho hcl

end Sys2Proof.Machine
end

section
/-! SUPPORT. FREEZE writes its register's whole word back: a reserved bit that stands there refuses it (03 R102; 15 R436, R516). -/

namespace Sys2Proof.Machine

variable {s : State} {p : Pkt} {opc : Nat}

/-- The word that a FREEZE writes: the named bits over the others as they stand (03 R102). -/
def State.freezeWord (s : State) (l : List Word) : Word :=
  (s.rd (A.ENG_FREEZE (pf l 0 2 0)) &&& ~~~(wd (pf l 1 15 0))) ||| (wd (pf l 1 31 16) &&& wd (pf l 1 15 0))

theorem taken_holds (s : State) (opc : Nat) (p : Pkt) (i c : Nat) : (s.taken opc p).holds i (.chan c) = s.holds i (.chan c) := by
  have claim : ∀ a, a = A.HOST_CLAIM0 ∨ a = A.HOST_CLAIM1 → (s.taken opc p).rd a = s.rd a := fun a ha =>
    (Frame.taken (ev := false) (ps := [.host]) (by simp) fun _ => id).words a (fun hw => by
      have := p.ses.isLt
      rcases ha with rfl | rfl <;>
        simp [reqWords, A.HOST_CLAIM0, A.HOST_CLAIM1, A.HOST_SES_SEQ, A.HOST_SES_CR, A.HOST_TAGS, A.HOST_SPI_STAT] at hw <;> omega)
      (by simp)
  simp only [State.holds, State.chOwner, claim _ (.inl rfl), claim _ (.inr rfl)]

theorem doFreeze_eq {w : Work} {u : State} (hp : pok w.pay 0 7 = true) : u.doFreeze w =
    let x := u.writeReg w.ses (A.ENG_FREEZE w.ch) (u.freezeWord w.pay) w.wid
    x.1.finish w x.2 0 [] := by
  simp only [State.doFreeze, hp, Bool.not_true, Bool.false_eq_true, if_false, State.freezeWord, Work.ch]

/-- A session that acts and leaves off changes nothing by it. -/
theorem acting_back (u : State) (i : Nat) : ((u.acting i).modHost fun h => { h with actor := u.host.actor }) = u := rfl

/-- A FREEZE whose word sets a reserved bit ends with BAD_PARAM, and writes nothing. -/
theorem completes_freeze_reserved (h : s.ready 0x33 p = true) (hp : pok p.pay 0 7 = true)
    (hown : s.holds p.ses.val (.chan (pf p.pay 0 2 0)) = true) (hv : s.freezeWord p.pay &&& ~~~(rowMask rowFreeze) ≠ 0#32) :
    completes (.freeze p) s fun t => OnlyFinal 0x33 BAD_PARAM 0 [] p s t := by
  obtain ⟨c, hc⟩ : ∃ c : Chan, c.val = pf p.pay 0 2 0 := ⟨⟨_, pf_lt p.pay 0 2 0⟩, rfl⟩
  have word : (s.taken 0x33 p).freezeWord p.pay = s.freezeWord p.pay := by
    simp only [State.freezeWord, taken_rd (s := s) (opc := 0x33) (p := p) (chan_outside (pf p.pay 0 2 0) 0x2004), A.ENG_FREEZE]
  have claim : (s.taken 0x33 p).claimOk p.ses.val (A.ENG_FREEZE c.val) (s.freezeWord p.pay) = true := by
    rw [A.ENG_FREEZE, claimOk_chan _ _ _ (show 0x2004 < 0x10000 by decide), taken_holds, hc, hown]
  have refused := writeReg_row p.ses.isLt claim (isCtx_freeze c) (rowAt_freeze c) (wid := s.host.lastWid + 1)
    ((writeRow_acting ..).trans (if_pos hv))
  rw [hc, ← word, acting_back] at refused
  have answer : (s.taken 0x33 p).writeReg (s.workOf 0x33 p).ses (A.ENG_FREEZE (s.workOf 0x33 p).ch)
      ((s.taken 0x33 p).freezeWord (s.workOf 0x33 p).pay) (s.workOf 0x33 p).wid = (s.taken 0x33 p, BAD_PARAM) := refused
  have served : (s.taken 0x33 p).serveReady (s.workOf 0x33 p) = (s.taken 0x33 p).doFreeze (s.workOf 0x33 p) := rfl
  have done : (s.taken 0x33 p).doFreeze (s.workOf 0x33 p) = (s.taken 0x33 p).finish (s.workOf 0x33 p) BAD_PARAM 0 [] := by
    rw [doFreeze_eq (w := s.workOf 0x33 p) hp, answer]
  exact completes_final rfl h (by decide) (by decide) (served.trans done)

/-! ### A channel whose FREEZE is refused -/

/-- A running device with one open session, which holds channel 0; bit 16 of ENG_FREEZE, a reserved one, stands at 1. -/
def strayFreeze : State :=
  { State.reset with
    regs := [(A.SYS_MODE, 3#32), (A.HOST_SES_STAT 0, 0x401#32), (A.HOST_SES_CR 0, 1#32), (A.HOST_CLAIM0, 1#32), (A.ENG_FREEZE 0, 0x10000#32)]
    t := { woke := true, open6 := true } }

/-- FREEZE of channel 0 that names no bit. -/
def freezeNothing : Pkt := ⟨.h0, 0, 0, 0, 0, 0#32, [0#32, 0#32]⟩

/-- The canonical form of the register file does not exclude reserved bits. -/
theorem strayFreeze_wf : strayFreeze.regsWf = true := by decide
theorem strayFreeze_ready : strayFreeze.ready 0x33 freezeNothing = true := by decide
theorem strayFreeze_holds : strayFreeze.holds 0 (.chan 0) = true := by decide
theorem strayFreeze_word : strayFreeze.freezeWord freezeNothing.pay = 0x10000#32 := by decide

theorem strayFreeze_refused : completes (.freeze freezeNothing) strayFreeze fun t =>
    OnlyFinal 0x33 BAD_PARAM 0 [] freezeNothing strayFreeze t :=
  completes_freeze_reserved strayFreeze_ready (by decide) strayFreeze_holds (by rw [strayFreeze_word]; decide)

/-- One packet has one status (13 R376). -/
theorem replied_status {s t : State} {st st' : Nat} (h : Replied opc st 0 (credits p) [] p s t) (h' : Replied opc st' 0 (credits p) [] p s t)
    (hc : credits p = 1) (hst : st < 256) (hst' : st' < 256) : st = st' := by
  have packets := List.append_cancel_left (h.symm.trans h')
  have head : wd (st * 2 ^ 24 + credits p * 2 ^ 16 + t.detail 0) = wd (st' * 2 ^ 24 + credits p * 2 ^ 16 + t.detail 0) := by
    simpa [replyTo] using packets
  have detail : t.detail 0 < 2 ^ 16 := by unfold State.detail; split <;> omega
  have same := congrArg BitVec.toNat head
  simp only [wd, BitVec.toNat_ofNat, hc] at same
  omega

/-- Refutes O51 in its clause on FREEZE: the request writes the whole word of ENG_FREEZE back, so that where a reserved bit stands in it
the answer is BAD_PARAM and not OK. The register file of the counterexample is canonical (`strayFreeze_wf`), but not one that reset leads
to: `State.wr` stores no reserved bit, and the statement does not ask that none stands. -/
theorem not_contextRequestsWriteInOrder : ¬ Obligations.ContextRequestsWriteInOrder := by
  intro h
  obtain ⟨-, -, freeze⟩ := h strayFreeze freezeNothing 0 (by decide) 0 (by decide)
  obtain ⟨t, he, ⟨hok, -⟩, -⟩ := (freeze strayFreeze_ready (by decide)).2 strayFreeze_holds
  obtain ⟨t', he', ⟨hbad, -⟩, -⟩ := strayFreeze_refused
  obtain rfl : t = t' := by
    rw [he] at he'
    injection he'
  exact absurd (replied_status hok hbad (by decide) (by decide) (by decide)) (by decide)

end Sys2Proof.Machine
end

section
/-! SUPPORT. What two completions of one command say together; the contactor output follows its command (04 R110; 07 R234; 08 R244). -/

namespace Sys2Proof.Machine

variable {s : State} {c : Nat}

/-- A command completes in one state: what its completions say holds of that state together. -/
theorem completes_both {x : Instr} {P Q : State → Prop} (hp : completes x s P) (hq : completes x s Q) :
    completes x s fun t => P t ∧ Q t := by
  obtain ⟨t, he, hpt⟩ := hp
  obtain ⟨t', he', hqt⟩ := hq
  obtain rfl : t = t' := by
    rw [he] at he'
    injection he'
  exact ⟨t, he, hpt, hqt⟩

/-- Two words of a channel's block are apart. -/
theorem chan_words_ne (c : Nat) {o o' : Nat} (h : o ≠ o') : chBase c + o ≠ chBase c + o' := fun he => h (Nat.add_left_cancel he)

theorem kmCmd_ok (c : Chan) : (F.GRID_STAT_KM_CMD c.val).ok = true := by revert c; decide

theorem gate_modGate (s : State) (hc : c < 8) {k : Nat} (hk : k < 10) (f : GateSt → GateSt) :
    (s.modGate c k f).gate c k = f (s.gate c k) := by
  simp [State.gate, State.modGate, State.chn_modCh_same s hc, hk]

/-- HI of a half-bridge is as its commands form it. -/
theorem gateUpdate_hi (s : State) (hc : c < 8) {k : Nat} (hk : k < 10) : ((s.gateUpdate c k).gate c k).hi = (s.gateCmd c k).1 := by
  rw [State.gateUpdate, gate_modGate s hc hk]

/-- HB6 as the contactor output of a GRID channel follows the contactor command (04 R110; 08 R244). -/
theorem gateCmd_contactor (hrole : s.role c = rGRID) (hen : s.flag (F.GRID_CFG_KM_EN c) = true) (hlink : (s.gate c 6).linkErr = false) :
    s.gateCmd c 6 = (s.flag (F.GRID_STAT_KM_CMD c), false) := by
  have output : s.isStatic c 6 = true := by simp [State.isStatic, State.kmSlot, hrole, hen]
  have commanded : s.kmCmd c = s.flag (F.GRID_STAT_KM_CMD c) := if_pos hrole
  simp [State.gateCmd, hlink, output, commanded]

/-- The command to close turns the contactor output on. -/
theorem setKm_closes (c : Chan) (hrole : s.role c.val = rGRID) (hen : s.flag (F.GRID_CFG_KM_EN c.val) = true)
    (hlink : (s.gate c.val 6).linkErr = false) : ((s.setKm c.val true).gate c.val 6).hi = true := by
  have role : (s.putb (F.GRID_STAT_KM_CMD c.val) true).role c.val = rGRID := (State.get_put_ne s (chan_words_ne c (by decide)) _).trans hrole
  have en : (s.putb (F.GRID_STAT_KM_CMD c.val) true).flag (F.GRID_CFG_KM_EN c.val) = true :=
    (State.flag_put_ne s (chan_words_ne c (by decide)) _).trans hen
  rw [State.setKm, if_pos hrole, gateUpdate_hi _ c.isLt (by decide), gateCmd_contactor role en hlink]
  exact State.flag_putb_same s (kmCmd_ok c) (Nat.le_refl 7) true

/-- SYNC_QUALIFIED of a channel with a contactor output turns that output on: HB6 of the channel is not as it was. -/
theorem completes_syncQualified_contactor (c : Chan) (hr : s.runs = true) (hrole : s.role c.val = rGRID) (hst : s.cst c.val = sSYNC)
    (hkm : s.flag (F.GRID_STAT_KM_CMD c.val) = false)
    (hq : s.held (.qual c.val) (secClk (s.rd (A.GRID_T_QUAL c.val))) = true) (hen : s.flag (F.GRID_CFG_KM_EN c.val) = true)
    (hlink : (s.gate c.val 6).linkErr = false) : completes (.syncQualified c) s fun t => (t.gate c.val 6).hi = true := by
  have acts : s.syncQualified c.val = (s.setKm c.val true).restart (.km c.val) := if_pos ⟨hrole, hst, by simp [hkm], hq⟩
  refine completes_clocked rfl hr ?_
  rw [acts]
  exact setKm_closes c hrole hen hlink

/-! ### A channel whose contactor closes -/

/-- A running device in RUN, 1 s after WAKE; channel 0 is a GRID channel in SYNC with a contactor output, and its checks have held all
that time. -/
def qualifiedSync : State :=
  { State.reset with
    regs := [(A.SYS_MODE, 3#32), (A.ROLE_SEL 0, 1#32), (A.ROLE_STAT 0, 2#32), (A.GRID_CFG 0, 0x10#32)]
    t := { woke := true, start := 800000000 }
    timers := [(.qual 0, 0)] }

theorem qualifiedSync_wf : qualifiedSync.regsWf = true := by decide
theorem qualifiedSync_runs : qualifiedSync.runs = true := by decide
theorem qualifiedSync_role : qualifiedSync.role 0 = rGRID := by decide
theorem qualifiedSync_sync : qualifiedSync.cst 0 = sSYNC := by decide
theorem qualifiedSync_open : qualifiedSync.flag (F.GRID_STAT_KM_CMD 0) = false := by decide
theorem qualifiedSync_held : qualifiedSync.held (.qual 0) (secClk (qualifiedSync.rd (A.GRID_T_QUAL 0))) = true := by decide

/-- The checks close the contactor: its output turns on. -/
theorem qualifiedSync_closes : completes (.syncQualified 0) qualifiedSync fun t => (t.gate 0 6).hi = true :=
  completes_syncQualified_contactor 0 qualifiedSync_runs qualifiedSync_role qualifiedSync_sync qualifiedSync_open qualifiedSync_held
    (by decide) rfl

/-- Refutes O11 in its clause on the qualification: that clause keeps the channel's half-bridges, and the command to close the contactor
turns HB6 on where HB6 is the contactor output (04 R110, GRID_CFG.KM_EN). The black start, which gives the same command, is stated with the
channel among what changes. -/
theorem not_gridConnectsByItsChecks : ¬ Obligations.GridConnectsByItsChecks := by
  intro h
  obtain ⟨-, sync, -⟩ := h qualifiedSync 0 qualifiedSync_runs qualifiedSync_role
  obtain ⟨unqualified, -⟩ := sync qualifiedSync_sync
  obtain ⟨qualified, -⟩ := unqualified qualifiedSync_open
  obtain ⟨t, -, ⟨-, -, frame⟩, closed⟩ := completes_both (qualified qualifiedSync_held) qualifiedSync_closes
  have same : t.chn 0 = qualifiedSync.chn 0 := frame.parts (.chan 0) (by decide)
  rw [State.gate, same] at closed
  exact absurd closed (by decide)

end Sys2Proof.Machine
end

section
/-! SUPPORT. The move of a GRID channel into OFF, and a refusal: the state, the code and the contactor command (04 R120, R126). -/

namespace Sys2Proof.Machine

variable {s : State}

/-- A word of a channel's block keeps no account of events. -/
theorem chan_word_quiet (c o : Nat) : bookAddr (chBase c + o) = false := bookAddr_chan (by unfold chBase; omega)

theorem applyForce_rd (s : State) (c : Nat) {a : Nat} (h : a ≠ A.PWM_FSTAT c) : (s.applyForce c).rd a = s.rd a :=
  (Frame.applyForce (ev := false) (ps := [.chan c]) (W := (· = A.PWM_FSTAT c)) (Frame.refl ..) (by simp) rfl).words a h (by simp)

/-! ### A refusal -/

theorem refuse_grid {c : Nat} (hrole : s.role c = rGRID) (k : Nat) :
    s.refuse c k = (s.put (F.GRID_STAT_REFUSE c) k).raise (F.GRID_EVT_REFUSED c) := if_pos hrole

section
variable (c : Chan) (hrole : s.role c.val = rGRID) (k : Nat)
include hrole

/-- A refusal touches the status word and the events of the role alone. -/
theorem refuse_grid_rd {o : Nat} (hs : o ≠ 0xC108) (he : o ≠ 0xC10C) : (s.refuse c.val k).rd (chBase c.val + o) = s.rd (chBase c.val + o) := by
  rw [refuse_grid hrole]
  exact (rd_raiseAt_ne _ _ (chBase_lt c.isLt (by decide)) (chan_words_ne c.val he) (chan_word_quiet ..) _).trans
    (State.rd_put_ne s (chan_words_ne c.val hs) k)

theorem refuse_grid_stat : (s.refuse c.val k).rd (A.GRID_STAT c.val) = (s.put (F.GRID_STAT_REFUSE c.val) k).rd (A.GRID_STAT c.val) := by
  rw [refuse_grid hrole]
  exact rd_raiseAt_ne _ _ (chBase_lt c.isLt (by decide)) (chan_words_ne c.val (by decide)) (chan_word_quiet ..) _

theorem refuse_grid_code (hk : k < 16) : (s.refuse c.val k).get (F.GRID_STAT_REFUSE c.val) = k :=
  (State.get_congr (refuse_grid_stat c hrole k)).trans
    ((State.get_put_same s (chanFld_ok c.isLt (by decide)) k).trans (Nat.mod_eq_of_lt hk))

theorem refuse_grid_event : Raised (F.GRID_EVT_REFUSED c.val) s (s.refuse c.val k) := by
  have other : (s.put (F.GRID_STAT_REFUSE c.val) k).rd (F.GRID_EVT_REFUSED c.val).addr = s.rd (F.GRID_EVT_REFUSED c.val).addr :=
    State.rd_put_ne s (chan_words_ne c.val (by decide)) k
  rw [refuse_grid hrole, Raised, ← other]
  exact raise_raised _ (chBase_lt c.isLt (by decide)) (chan_word_quiet ..)

end

/-! ### The move into OFF -/

/-- What was pending or in progress is gone, with what showed it (04 R120, R138; 06 R182). -/
def State.begunCleared (c : Nat) (s : State) : State :=
  let s := s.modCh c fun x => { x with
    startNext := false
    grid := { x.grid with pend := none, riding := false, reconn := false, actNext := false, stopAt := none, offNext := false, black := false, blackAt := none, clFire := false, guard := 0 }
    dc := { x.dc with actNext := false, stopAt := none, offNext := false, scanDue := false }
    mach := { x.mach with actNext := false, stopping := false, start := 0 } }
  let s := ((s.putb (F.GRID_STAT_PEND c) false).putb (F.GRID_STAT_SYNC_OK c) false).put (F.GRID_STAT_SUB_NOW c) 0
  let s := ((s.putb (F.RIDE_CH_STAT_RIDE_REF c) false).putb (F.RIDE_CH_STAT_RECOV c) false).putb (F.RIDE_CH_STAT_LIMITED c) false
  (s.putb (F.DC_STAT_SCANNING c) false).putb (F.MACH_STAT_START_PH c) false

theorem toOff_eq (s : State) (c k : Nat) :
    s.toOff c k = ((((s.put (F.ROLE_STAT_CH_STATE c) sOFF).setKm c false).begunCleared c).refuse c k).applyForce c := rfl

/-- The contactor is commanded off, and nothing is in progress: the role and the state of the channel are as they were. -/
theorem begunCleared_rd (s : State) (c : Nat) {o : Nat} (ho : o < 0xC108) :
    ((s.setKm c false).begunCleared c).rd (chBase c + o) = s.rd (chBase c + o) := by
  have word : ∀ {o' : Nat}, 0xC108 ≤ o' → chBase c + o' ≠ chBase c + o := fun h => chan_words_ne c (by omega)
  have own : Part.chan c ∈ [Part.chan c] := List.mem_singleton_self _
  have commanded : Frame false [.chan c] (· ≠ chBase c + o) s (s.setKm c false) :=
    (Frame.refl ..).setKm own (word (by decide)) (word (by decide)) false
  have frame : Frame false [.chan c] (· ≠ chBase c + o) s ((s.setKm c false).begunCleared c) := by
    refine Frame.putb (Frame.putb (Frame.putb (Frame.putb (Frame.putb (Frame.put (Frame.putb (Frame.putb (commanded.modCh own _)
      ?_ _) ?_ _) ?_ _) ?_ _) ?_ _) ?_ _) ?_ _) ?_ _
    all_goals exact word (by decide)
  exact frame.words _ (not_not.mpr rfl) (by simp)

theorem begunCleared_km (c : Chan) (hrole : s.role c.val = rGRID) :
    ((s.setKm c.val false).begunCleared c.val).flag (F.GRID_STAT_KM_CMD c.val) = false := by
  have apart : ∀ (x : State) {o hi lo : Nat} (b : Bool), 0xC108 ≠ o →
      (x.putb ⟨chBase c.val + o, hi, lo⟩ b).flag (F.GRID_STAT_KM_CMD c.val) = x.flag (F.GRID_STAT_KM_CMD c.val) := fun x _ _ _ _ ho =>
    State.flag_put_ne x (chan_words_ne c.val ho) _
  have beside : ∀ (x : State) {hi lo : Nat} (v : Nat), hi < 7 →
      (x.put ⟨A.GRID_STAT c.val, hi, lo⟩ v).flag (F.GRID_STAT_KM_CMD c.val) = x.flag (F.GRID_STAT_KM_CMD c.val) := fun x hi lo v hhi =>
    State.flag_congr (State.get_put_field (f := ⟨A.GRID_STAT c.val, hi, lo⟩) x (kmCmd_ok c) (Nat.lt_trans hhi (by decide)) rfl (.inl hhi) v)
  have commanded : (s.setKm c.val false).flag (F.GRID_STAT_KM_CMD c.val) = false := by
    rw [State.setKm, if_pos hrole]
    exact State.flag_putb_same s (kmCmd_ok c) (Nat.le_refl 7) false
  refine (apart _ _ (by decide)).trans ((apart _ _ (by decide)).trans ((apart _ _ (by decide)).trans ((apart _ _ (by decide)).trans
    ((apart _ _ (by decide)).trans ((beside _ _ (by decide)).trans ((beside _ _ (by decide)).trans ((beside _ _ (by decide)).trans ?_)))))))
  exact commanded

/-- Where a channel stands is known from the words. -/
theorem MovedOff.of_rd {u v : State} {c k : Nat} (h : MovedOff c k u) (hw : ∀ a, v.rd a = u.rd a) : MovedOff c k v := by
  have get : ∀ f, v.get f = u.get f := fun f => State.get_congr (hw f.addr)
  simp only [MovedOff, State.cst, State.refuseCode, State.kmCmd, State.role, State.flag, get] at h ⊢
  exact h

/-- A GRID channel in OFF with its contactor off, once the code is recorded and every slot forced. -/
theorem refuse_grid_movedOff (c : Chan) (hrole : s.role c.val = rGRID) (hoff : s.cst c.val = sOFF)
    (hkm : s.flag (F.GRID_STAT_KM_CMD c.val) = false) {k : Nat} (hk : k < 16) : MovedOff c.val k ((s.refuse c.val k).applyForce c.val) := by
  have forced : ∀ {o : Nat}, o ≠ 0x4008 → ((s.refuse c.val k).applyForce c.val).rd (chBase c.val + o) = (s.refuse c.val k).rd (chBase c.val + o) :=
    fun ho => applyForce_rd _ c.val (chan_words_ne c.val ho)
  have kept : ∀ {o : Nat}, o ≠ 0x4008 → o ≠ 0xC108 → o ≠ 0xC10C →
      ((s.refuse c.val k).applyForce c.val).rd (chBase c.val + o) = s.rd (chBase c.val + o) := fun hf hs he =>
    (forced hf).trans (refuse_grid_rd c hrole k hs he)
  have role : ((s.refuse c.val k).applyForce c.val).role c.val = rGRID :=
    (State.get_congr (kept (by decide) (by decide) (by decide))).trans hrole
  refine ⟨(State.get_congr (kept (by decide) (by decide) (by decide))).trans hoff, ?code, ?km⟩
  case code =>
    rw [State.refuseCode, if_pos role]
    exact (State.get_congr (forced (by decide))).trans (refuse_grid_code c hrole k hk)
  case km =>
    have status := (forced (by decide)).trans (refuse_grid_stat c hrole k)
    have beside : (s.put (F.GRID_STAT_REFUSE c.val) k).get (F.GRID_STAT_KM_CMD c.val) = s.get (F.GRID_STAT_KM_CMD c.val) :=
      State.get_put_field (f := F.GRID_STAT_REFUSE c.val) s (kmCmd_ok c) (by decide : 11 < 32) rfl (.inr (by decide : 7 < 8)) k
    rw [State.kmCmd, if_pos role]
    exact (State.flag_congr ((State.get_congr status).trans beside)).trans hkm

/-- A GRID channel that has moved into OFF stands there with its code, and its contactor is commanded off. -/
theorem toOff_grid (c : Chan) (hrole : s.role c.val = rGRID) {k : Nat} (hk : k < 16) : MovedOff c.val k (s.toOff c.val k) := by
  have moved : (s.put (F.ROLE_STAT_CH_STATE c.val) sOFF).role c.val = rGRID := (State.get_put_ne s (chan_words_ne c.val (by decide)) _).trans hrole
  have off : (s.put (F.ROLE_STAT_CH_STATE c.val) sOFF).cst c.val = sOFF := State.get_put_same s (chanFld_ok c.isLt (by decide)) _
  rw [toOff_eq]
  exact refuse_grid_movedOff c ((State.get_congr (begunCleared_rd _ c.val (by decide))).trans moved)
    ((State.get_congr (begunCleared_rd _ c.val (by decide))).trans off) (begunCleared_km c moved) hk

end Sys2Proof.Machine
end

section
/-! SUPPORT. The command bits of a channel's control register: who may give them, and how they are answered (13 R389; 04 R121, R124, R133). -/

namespace Sys2Proof.Machine

variable {s u : State} {k : Nat}

/-- A command for a channel that the session holds completes with what the command does, answered. -/
theorem completes_cmd {x : Instr} {i : Ix16} {c : Nat} {f : State → State × Nat} {P : State → Prop} (he : exec x s = State.cmdRow i c f s)
    (hh : s.hosted = true) (ho : s.sesOpen i.val = true) (hown : s.holds i.val (.chan c) = true) (hf : f (s.acting i.val) = (u, k))
    (hP : P (settle s (s.answered u k))) : completes x s P := by
  refine completes_byHost he hh ?_
  have acted : State.chanCmd i.val c f s = s.answered u k := by
    have hf' : f (s.modHost fun h => { h with actor := i.val }) = (u, k) := hf
    simp only [State.chanCmd, ho, hown, hf', Bool.not_true, Bool.false_eq_true, if_false]
    rfl
  rw [acted]
  exact hP

/-- Without the claim the answer is OWNED, and nothing is done (13 R389). -/
theorem completes_cmd_owned {x : Instr} {i : Ix16} {c : Nat} {f : State → State × Nat} (he : exec x s = State.cmdRow i c f s)
    (hh : s.hosted = true) (ho : s.sesOpen i.val = true) (hown : s.holds i.val (.chan c) = false) :
    completes x s fun t => OnlyAnswered OWNED s t := by
  refine completes_byHost he hh ?_
  have owned : State.chanCmd i.val c f s = s.modHost fun h => { h with ans := OWNED } := by simp [State.chanCmd, ho, hown]
  rw [owned]
  exact ⟨rfl, ((Frame.refl ..).modHost (by simp) _).settle⟩

/-- The codes of a refused START fit their field (04 R121). -/
theorem gridStartCode_lt (s : State) (c : Nat) : s.gridStartCode c < 16 := by
  unfold State.gridStartCode
  dsimp only
  repeat' split
  all_goals decide

/-- START of a GRID channel in OFF whose conditions hold (04 R121). -/
theorem startCmd_grid_met {c : Nat} (hrole : s.role c = rGRID) (hst : s.cst c = sOFF) (hk : s.gridStartCode c = 0) :
    State.startCmd c (fun s => s.role c == rGRID) s = (s.startNext c, OK) := by
  simp [State.startCmd, State.startCh, State.gridStart, hrole, hst, hk]

/-- START of a GRID channel in OFF with a failing condition (04 R121). -/
theorem startCmd_grid_refused {c : Nat} (hrole : s.role c = rGRID) (hst : s.cst c = sOFF) (hk : s.gridStartCode c ≠ 0) :
    State.startCmd c (fun s => s.role c == rGRID) s = (s.refuse c (s.gridStartCode c), NOT_IN_MODE) := by
  simp [State.startCmd, State.startCh, State.gridStart, hrole, hst, hk]

theorem startCmd_notOff {c : Nat} (right : State → Bool) (hst : s.cst c ≠ sOFF) : State.startCmd c right s = (s, NOT_IN_MODE) := by
  simp [State.startCmd, hst]

/-- STOP of a GRID channel before ACTIVE (04 R124). -/
theorem stopCmd_grid_begun {c : Nat} (hrole : s.role c = rGRID) (hst : s.cst c = sPRECHARGE ∨ s.cst c = sSYNC) :
    State.stopCmd c (fun s => s.role c == rGRID) s = (s.toOff c kSTOP, OK) := by
  simp [State.stopCmd, State.stopCh, State.gridStop, hrole, hst]

/-- The ramp of a STOP begins at the present reference (04 R124). -/
def GridSt.ramped (now : Nat) (g : GridSt) : GridSt := { g with stopAt := some now, stopD := g.refD, stopQ := g.refQ }

/-- STOP of a GRID channel in ACTIVE, where none runs (04 R124). -/
theorem stopCmd_grid_active {c : Nat} (hrole : s.role c = rGRID) (hst : s.cst c = sACTIVE) (hramp : (s.chn c).grid.stopAt = none) :
    State.stopCmd c (fun s => s.role c == rGRID) s = (s.modGrid c (GridSt.ramped s.clk), OK) := by
  simp [State.stopCmd, State.stopCh, State.gridStop, State.modGrid, State.modCh, GridSt.ramped, sACTIVE, sPRECHARGE, sSYNC, hrole, hst, hramp]

/-- RECONN of a GRID channel in ISLAND (04 R133). -/
theorem reconnCmd_island {c : Nat} (hrole : s.role c = rGRID) (hst : s.cst c = sACTIVE) (hsub : s.sub c = mISLAND) :
    State.reconnCmd c s = (s.modGrid c fun g => { g with reconn := true }, OK) := by
  simp [State.reconnCmd, State.when, hrole, hst, hsub]

section
variable (c : Chan) (i : Ix16) (hh : s.hosted = true) (ho : s.sesOpen i.val = true) (hown : s.holds i.val (.chan c.val) = true)
include hh ho hown

theorem completes_gridStart (hrole : s.role c.val = rGRID) (hst : s.cst c.val = sOFF) (hk : s.gridStartCode c.val = 0) :
    completes (.gridStart c i) s fun t => (t.chn c.val).startNext = true ∧ t.host = { s.host with ans := OK } ∧
      Frame false [.host, .chan c.val] (fun _ => False) s t := by
  have code : (s.acting i.val).gridStartCode c.val = 0 := hk
  refine completes_cmd rfl hh ho hown (startCmd_grid_met (s := s.acting i.val) hrole hst code) ⟨?_, rfl, ?_⟩
  · exact congrArg Ch.startNext (State.chn_modCh_same (s.acting i.val) c.isLt fun x => { x with startNext := true })
  · exact (((Frame.acting (by simp) s i.val).modCh (by simp) _).answered (by simp) OK).settle

theorem completes_gridStart_refused (hrole : s.role c.val = rGRID) (hst : s.cst c.val = sOFF) (hk : s.gridStartCode c.val ≠ 0) :
    completes (.gridStart c i) s fun t => t.get (F.GRID_STAT_REFUSE c.val) = s.gridStartCode c.val ∧
      Raised (F.GRID_EVT_REFUSED c.val) s t ∧ t.host.ans = NOT_IN_MODE ∧ t.cst c.val = sOFF ∧
      Frame true [.host] (· ∈ [A.GRID_STAT c.val, A.GRID_EVT c.val]) s t := by
  have code : (s.acting i.val).gridStartCode c.val ≠ 0 := hk
  have role : (s.acting i.val).role c.val = rGRID := hrole
  refine completes_cmd rfl hh ho hown (startCmd_grid_refused (s := s.acting i.val) hrole hst code) ⟨?_, ?_, rfl, ?_, ?_⟩
  · exact (settle_get ..).trans (refuse_grid_code c role _ (gridStartCode_lt s c.val))
  · exact (settle_rd ..).trans (refuse_grid_event c role _)
  · exact (settle_get ..).trans ((State.get_congr (refuse_grid_rd c role _ (by decide) (by decide))).trans hst)
  · rw [refuse_grid role]
    exact (Frame.answered (Frame.raise (Frame.put (Frame.acting (by simp) s i.val) (by simp [F.GRID_STAT_REFUSE]) _)
      (by simp [F.GRID_EVT_REFUSED]) (chBase_lt c.isLt (by decide)) _) (by simp) NOT_IN_MODE).settle

theorem completes_gridStart_notOff (hst : s.cst c.val ≠ sOFF) : completes (.gridStart c i) s fun t => OnlyAnswered NOT_IN_MODE s t :=
  completes_cmd rfl hh ho hown (startCmd_notOff _ hst) ⟨rfl, ((Frame.acting (by simp) s i.val).answered (by simp) NOT_IN_MODE).settle⟩

theorem completes_gridStop_begun (hrole : s.role c.val = rGRID) (hst : s.cst c.val = sPRECHARGE ∨ s.cst c.val = sSYNC) :
    completes (.gridStop c i) s fun t => MovedOff c.val kSTOP t ∧ t.host.ans = OK ∧
      Frame true [.host, .chan c.val] (· ∈ offWords c.val) s t := by
  have off := toOff_grid (s := s.acting i.val) c hrole (k := kSTOP) (by decide)
  refine completes_cmd rfl hh ho hown (stopCmd_grid_begun (s := s.acting i.val) hrole hst) ⟨off.of_rd fun a => (settle_rd ..).trans (answered_rd ..), rfl, ?_⟩
  exact (Frame.answered (Frame.toOff c.isLt (Frame.acting (by simp) s i.val) (by simp) (fun _ => id) kSTOP) (by simp) OK).settle

theorem completes_gridStop_active (hrole : s.role c.val = rGRID) (hst : s.cst c.val = sACTIVE) (hramp : (s.chn c.val).grid.stopAt = none) :
    completes (.gridStop c i) s fun t => (t.chn c.val).grid = { (s.chn c.val).grid with
        stopAt := some s.clk, stopD := (s.chn c.val).grid.refD, stopQ := (s.chn c.val).grid.refQ } ∧ t.host.ans = OK ∧
      Frame false [.host, .chan c.val] (fun _ => False) s t := by
  refine completes_cmd rfl hh ho hown (stopCmd_grid_active (s := s.acting i.val) hrole hst hramp) ⟨?_, rfl, ?_⟩
  · exact congrArg Ch.grid (State.chn_modCh_same (s.acting i.val) c.isLt fun x => { x with grid := x.grid.ramped s.clk })
  · exact (((Frame.acting (by simp) s i.val).modGrid (by simp) _).answered (by simp) OK).settle

theorem completes_gridReconn (hrole : s.role c.val = rGRID) (hst : s.cst c.val = sACTIVE) (hsub : s.sub c.val = mISLAND) :
    completes (.gridReconn c i) s fun t => (t.chn c.val).grid.reconn = true ∧ t.host.ans = OK ∧
      Frame false [.host, .chan c.val] (fun _ => False) s t := by
  refine completes_cmd rfl hh ho hown (reconnCmd_island (s := s.acting i.val) hrole hst hsub) ⟨?_, rfl, ?_⟩
  · exact congrArg (·.grid.reconn) (State.chn_modCh_same (s.acting i.val) c.isLt fun x => { x with grid := { x.grid with reconn := true } })
  · exact (((Frame.acting (by simp) s i.val).modGrid (by simp) _).answered (by simp) OK).settle

end

/-- Settles O10: by the state of the channel, and by who holds it. -/
theorem gridCommandsStartStopAndReconnect : Obligations.GridCommandsStartStopAndReconnect := by
  intro s i c hh ho
  refine ⟨fun hown _ hrole => ⟨completes_gridStart c i hh ho hown hrole, completes_gridStart_refused c i hh ho hown hrole,
    completes_gridStart_notOff c i hh ho hown, completes_gridStop_begun c i hh ho hown hrole, completes_gridStop_active c i hh ho hown hrole,
    completes_gridReconn c i hh ho hown hrole⟩, fun hown x hx => ?_⟩
  simp only [List.mem_cons, List.not_mem_nil, or_false] at hx
  rcases hx with rfl | rfl | rfl
  all_goals exact completes_cmd_owned rfl hh ho hown

end Sys2Proof.Machine
end

section
/-! SUPPORT. FORCE_OFF writes the whole word of PWM_FORCE back: a reserved bit that stands there refuses the write, and the request
answers OK all the same (07 R233; 13 R392; 15 R436, R516). -/

namespace Sys2Proof.Machine

variable {s u : State} {p : Pkt}

/-- A write that sets a reserved bit writes nothing (15 R516). -/
theorem writeReg_reserved {i a wid : Nat} {v : Word} {r : Row} (hi : i < 16) (hc : u.claimOk i a v = true) (hx : isCtx a = false)
    (hr : rowAt a = some r) (hv : v &&& ~~~(rowMask r) ≠ 0#32) : (u.writeReg i a v wid).1 = u := by
  rw [writeReg_row hi hc hx hr ((writeRow_acting ..).trans (if_pos hv))]
  exact acting_back u i

/-- The row of PWM_FORCE (07 R233, R239). -/
def rowForce : Row := ⟨0x4004, 4, 1, [rw 9 0 0 .always .any, rw 25 16 0 .always .any], .pwmForce⟩

theorem rowAt_force (c : Chan) : rowAt (A.PWM_FORCE c.val) = some rowForce := by revert c; decide
theorem isCtx_force (c : Chan) : isCtx (A.PWM_FORCE c.val) = false := by revert c; decide

/-- The word that a FORCE_OFF writes for channel `c`: the named OFF bits set or cleared, the other bits as they stand (13 R392). -/
def State.forceWord (s : State) (c : Nat) (l : List Word) : Word :=
  if bit (pw l 1) 16 then s.rd (A.PWM_FORCE c) ||| wd (pf l 1 9 0) else s.rd (A.PWM_FORCE c) &&& ~~~(wd (pf l 1 9 0))

/-- FORCE_OFF on channels that the session holds (13 R392). -/
theorem doForceOff_eq {w : Work} (h0 : pok w.pay 0 0xFF = true) (h1 : pok w.pay 1 0x103FF = true)
    (hown : ∀ c ∈ maskList 8 (pf w.pay 0 7 0), u.holds w.ses (.chan c) = true) : u.doForceOff w =
    (u.each (maskList 8 (pf w.pay 0 7 0)) fun c x => (x.writeReg w.ses (A.PWM_FORCE c) (x.forceWord c w.pay) w.wid).1).finish w OK 0 [] := by
  have held : ((maskList 8 (pf w.pay 0 7 0)).all fun c => u.holds w.ses (.chan c)) = true := List.all_eq_true.mpr hown
  simp only [State.doForceOff, h0, h1, held, Bool.not_true, Bool.or_self, Bool.false_eq_true, if_false, State.forceWord]

/-- A FORCE_OFF whose words all set a reserved bit answers OK, and forces nothing. -/
theorem completes_forceOff_reserved (h : s.ready 0x51 p = true) (h0 : pok p.pay 0 0xFF = true) (h1 : pok p.pay 1 0x103FF = true)
    (hown : ∀ c ∈ maskList 8 (pf p.pay 0 7 0), s.holds p.ses.val (.chan c) = true)
    (hv : ∀ c ∈ maskList 8 (pf p.pay 0 7 0), s.forceWord c p.pay &&& ~~~(rowMask rowForce) ≠ 0#32) :
    completes (.forceOff p) s fun t => OnlyFinal 0x51 OK 0 [] p s t := by
  have held : ∀ c ∈ maskList 8 (pf p.pay 0 7 0), (s.taken 0x51 p).holds p.ses.val (.chan c) = true := fun c hc =>
    (taken_holds ..).trans (hown c hc)
  have unwritten : ∀ c ∈ maskList 8 (pf p.pay 0 7 0), ((s.taken 0x51 p).writeReg p.ses.val (A.PWM_FORCE c)
      ((s.taken 0x51 p).forceWord c p.pay) (s.host.lastWid + 1)).1 = s.taken 0x51 p := fun c hc => by
    have word : (s.taken 0x51 p).forceWord c p.pay = s.forceWord c p.pay := by
      simp only [State.forceWord, A.PWM_FORCE, taken_rd (chan_outside c 0x4004)]
    have claim : (s.taken 0x51 p).claimOk p.ses.val (A.PWM_FORCE c) (s.forceWord c p.pay) = true :=
      (claimOk_chan _ _ _ (show 0x4004 < 0x10000 by decide) _).trans (held c hc)
    rw [word]
    exact writeReg_reserved p.ses.isLt claim (isCtx_force ⟨c, maskList_lt hc⟩) (rowAt_force ⟨c, maskList_lt hc⟩) (hv c hc)
  have nothing : ((s.taken 0x51 p).each (maskList 8 (pf p.pay 0 7 0)) fun c x =>
      (x.writeReg p.ses.val (A.PWM_FORCE c) (x.forceWord c p.pay) (s.host.lastWid + 1)).1) = s.taken 0x51 p := State.each_id unwritten
  have served : (s.taken 0x51 p).serveReady (s.workOf 0x51 p) = (s.taken 0x51 p).doForceOff (s.workOf 0x51 p) := rfl
  have done := doForceOff_eq (u := s.taken 0x51 p) (w := s.workOf 0x51 p) h0 h1 held
  exact completes_final rfl h (by decide) (by decide) (served.trans (done.trans (congrArg (State.finish (s.workOf 0x51 p) OK 0 []) nothing)))

/-! ### A channel that FORCE_OFF does not force -/

/-- A running device with one open session, which holds channel 0; bit 31 of its PWM_FORCE, a reserved one, stands at 1. -/
def strayForce : State :=
  { State.reset with
    regs := [(A.SYS_MODE, 3#32), (A.HOST_SES_STAT 0, 0x401#32), (A.HOST_SES_CR 0, 1#32), (A.HOST_CLAIM0, 1#32), (A.PWM_FORCE 0, 0x80000000#32)]
    t := { woke := true, open6 := true } }

/-- FORCE_OFF that sets the OFF bit of HB0 of channel 0. -/
def forceHb0 : Pkt := ⟨.h0, 0, 0, 0, 0, 0#32, [1#32, 0x10001#32]⟩

/-- The canonical form of the register file does not exclude reserved bits. -/
theorem strayForce_wf : strayForce.regsWf = true := by decide
theorem strayForce_ready : strayForce.ready 0x51 forceHb0 = true := by decide
theorem strayForce_holds : ∀ d : Chan, bit (pw forceHb0.pay 0) d.val = true → strayForce.holds 0 (.chan d.val) = true := by decide

theorem strayForce_unforced : completes (.forceOff forceHb0) strayForce fun t => OnlyFinal 0x51 OK 0 [] forceHb0 strayForce t :=
  completes_forceOff_reserved strayForce_ready (by decide) (by decide) (by decide) (by decide)

/-- Refutes O52 in its clause on FORCE_OFF: the request writes the whole word of PWM_FORCE back, so that where a reserved bit stands in it
the write is refused and the OFF bit stays clear, under the answer OK. The register file of the counterexample is canonical
(`strayForce_wf`), but not one that reset leads to: `State.wr` stores no reserved bit, and the statement does not ask that none stands. -/
theorem not_channelRequestsAct : ¬ Obligations.ChannelRequestsAct := by
  intro h
  obtain ⟨-, -, -, -, -, -, force, -⟩ := h strayForce forceHb0 1 (by decide)
  obtain ⟨-, forced⟩ := force strayForce_ready (by decide) (by decide)
  obtain ⟨t, -, ⟨-, bits, -⟩, -, frame⟩ := completes_both (forced strayForce_holds) strayForce_unforced
  have stays : t.rd (A.PWM_FORCE 0) = strayForce.rd (A.PWM_FORCE 0) :=
    frame.words _ (not_reqWords (by decide) (.inr (by decide))) (by simp)
  obtain ⟨word, -⟩ := bits 0 (by decide)
  exact absurd (stays.symm.trans word) (by decide)

end Sys2Proof.Machine
end

section
/-! SUPPORT. What an event leaves of the other fields of its status word; the timers of conditions; the recorder's trigger (05 R164; 15 R439). -/

namespace Sys2Proof.Machine

variable {α : Type} {ev : Bool} {ps : List Part} {W : Nat → Prop} {s u : State}

theorem when_true (s : State) (f : State → State) : s.when true f = f s := rfl
theorem when_false (s : State) (f : State → State) : s.when false f = s := rfl

/-! ### Fields beside an event -/

/-- A bit of a status word that records an event (15 R439). -/
def Fld.isEvent (f : Fld) : Bool := f.ok && f.hi == f.lo && decide (f.lo < 24) && decide (f.addr < 0x180000) && !bookAddr f.addr

/-- `g` is a field of the word of `f` that lies apart from `f` and from SEQ. -/
def Fld.beside (f g : Fld) : Bool := g.ok && g.addr == f.addr && decide (g.hi < 24) && (decide (f.hi < g.lo) || decide (g.hi < f.lo))

section
variable {f : Fld} (hf : f.isEvent = true) (det : List Word)
include hf

theorem event_low : f.addr < 0x180000 := by
  simp only [Fld.isEvent, Bool.and_eq_true, decide_eq_true_eq] at hf; exact hf.1.2

theorem event_quiet : bookAddr f.addr = false := by
  simp only [Fld.isEvent, Bool.and_eq_true, Bool.not_eq_true'] at hf; exact hf.2

/-- The event is recorded. -/
theorem flag_raise_own (s : State) : (s.raise f det).flag f = true := by
  have low := event_low hf
  have quiet := event_quiet hf
  simp only [Fld.isEvent, Bool.and_eq_true, decide_eq_true_eq, beq_iff_eq] at hf
  obtain ⟨⟨⟨⟨ok, one⟩, h24⟩, -⟩, -⟩ := hf
  rw [flag_raise s ok rfl low quiet one h24 h24, beq_self_eq_true, Bool.or_true]

/-- The other fields of the status word stay. -/
theorem get_raise_beside (s : State) {g : Fld} (hg : f.beside g = true) : (s.raise f det).get g = s.get g := by
  have low := event_low hf
  have quiet := event_quiet hf
  simp only [Fld.isEvent, Fld.beside, Fld.ok, Bool.and_eq_true, Bool.or_eq_true, decide_eq_true_eq, beq_iff_eq] at hf hg
  obtain ⟨⟨⟨⟨-, one⟩, h24⟩, -⟩, -⟩ := hf
  obtain ⟨⟨⟨⟨g32, impl⟩, same⟩, g24⟩, apart⟩ := hg
  have word : (s.raise f det).rd g.addr = raised (s.rd g.addr) f.lo &&& implMask g.addr := by
    rw [same]; exact rd_raiseAt_same s f.lo low quiet det
  rw [State.get, word, bits_and g32 impl, raised, bits_setBits_ne (by decide) (by omega), bits_setBits_ne (by omega) (one ▸ apart), State.get]

theorem flag_raise_beside (s : State) {g : Fld} (hg : f.beside g = true) : (s.raise f det).flag g = s.flag g :=
  State.flag_congr (get_raise_beside hf det s hg)

/-- An event leaves every word but its status word and the account of events. -/
theorem raise_rd (s : State) {a : Nat} (ha : a ≠ f.addr) (hq : bookAddr a = false) : (s.raise f det).rd a = s.rd a :=
  rd_raiseAt_ne s f.lo (event_low hf) ha hq det

theorem raise_chn (s : State) (c : Nat) : (s.raise f det).chn c = s.chn c :=
  congrArg (fun v : Vector Ch 8 => v[c]?.getD {}) (kept_raiseAt s f.lo (event_low hf) det).ch

theorem raise_ride (s : State) : (s.raise f det).ride = s.ride := (kept_raiseAt s f.lo (event_low hf) det).ride

end

/-- Writing a field leaves the fields beside it. -/
theorem get_put_beside (s : State) {f g : Fld} (hf : f.hi < 32) (hg : f.beside g = true) (v : Nat) : (s.put f v).get g = s.get g := by
  simp only [Fld.beside, Bool.and_eq_true, Bool.or_eq_true, decide_eq_true_eq, beq_iff_eq] at hg
  obtain ⟨⟨⟨ok, same⟩, -⟩, apart⟩ := hg
  exact State.get_put_field s ok hf same apart v

theorem flag_putb_beside (s : State) {f g : Fld} (hf : f.hi < 32) (hg : f.beside g = true) (b : Bool) : (s.putb f b).flag g = s.flag g :=
  State.flag_congr (get_put_beside s hf hg _)

theorem gateUpdate_flag (s : State) (c k : Nat) (f : Fld) : (s.gateUpdate c k).flag f = s.flag f := rfl

/-! ### Timers -/

theorem Frame.setTimers (h : Frame ev ps W s u) (hp : .timers ∈ ps) (l : List (Tm × Nat)) : Frame ev ps W s { u with timers := l } :=
  h.of_same hp rfl rfl fun q hq => by
    cases q with
    | timers => exact absurd rfl hq
    | host => simp [Part.same]
    | _ => rfl

theorem Frame.hold (h : Frame ev ps W s u) (hp : .timers ∈ ps) (k : Tm) (b : Bool) : Frame ev ps W s (u.hold k b) := by
  unfold State.hold
  split
  · split
    · exact h
    · exact h.setTimers hp _
  · exact h.setTimers hp _

theorem Frame.restart (h : Frame ev ps W s u) (hp : .timers ∈ ps) (k : Tm) : Frame ev ps W s (u.restart k) := h.setTimers hp _

theorem hold_rd (s : State) (k : Tm) (b : Bool) (a : Nat) : (s.hold k b).rd a = s.rd a :=
  (Frame.hold (Frame.refl false [.timers] (fun _ => False) s) (by simp) k b).words a id (by simp)

/-- A condition that has ended holds for no time. -/
theorem held_hold_false (s : State) (k : Tm) (d : Nat) : (s.hold k false).held k d = false := by
  simp only [State.hold, State.held, Bool.false_eq_true, if_false, List.any_filter, List.any_eq_false, Bool.and_eq_true, bne_iff_ne, beq_iff_eq]
  exact fun x _ h => h.1 h.2.1

/-- A timer just started runs. -/
theorem held_restart (s : State) (k : Tm) : (s.restart k).held k 0 = true := by
  simp [State.restart, State.held]

/-! ### The recorder's trigger -/

/-- Words that a trigger of the recorder may change. -/
abbrev recWords : List Nat := [A.REC_STAT, A.REC_CNT, A.REC_LEN]

theorem Frame.recDone (h : Frame true ps W s u) (hw : ∀ a ∈ recWords, W a) : Frame true ps W s u.recDone :=
  Frame.raise (Frame.inc (Frame.put (Frame.put h (f := F.REC_STAT_STATE) (hw _ (by simp [F.REC_STAT_STATE])) 4) (f := F.REC_LEN_RECORDS)
    (hw _ (by simp [F.REC_LEN_RECORDS])) _) (f := F.REC_CNT_CAPT_CNT) (hw _ (by simp [F.REC_CNT_CAPT_CNT])) 1) (f := F.REC_STAT_CAPTURED)
    (hw _ (by simp [F.REC_STAT_CAPTURED])) (by decide) []

/-- A trigger starts the capture of a recorder that fills or is armed; SHORT_PRE where the pre-trigger records are not complete (05 R164). -/
def State.recStart (s : State) : State :=
  ((s.put F.REC_STAT_STATE 3).modRide fun r => { r with recLeft := (s.put F.REC_STAT_STATE 3).recPost, recTrig := true }).when
    (s.recState == 1) fun s => s.raise F.REC_STAT_SHORT_PRE

theorem recTrigger_eq (s : State) : s.recTrigger =
    if s.recState = 3 then (s.modRide fun r => { r with recMark := true }).raise F.REC_STAT_MARKER
    else if s.recState = 1 ∨ s.recState = 2 then (if s.recStart.recPost = 0 then s.recStart.recDone else s.recStart)
    else (s.inc F.REC_CNT_MISS_CNT).raise F.REC_STAT_MISSED := rfl

theorem Frame.recTrigger (h : Frame true ps W s u) (hp : .ride ∈ ps) (hw : ∀ a ∈ recWords, W a) : Frame true ps W s u.recTrigger := by
  have stat : W A.REC_STAT := hw _ (by simp)
  have started : Frame true ps W s u.recStart :=
    Frame.when ((h.put stat _).modRide hp _) _ fun _ => (Frame.refl ..).raise stat (by decide) _
  rw [recTrigger_eq]
  split
  · exact (h.modRide hp _).raise stat (by decide) _
  · split
    · split
      · exact started.recDone hw
      · exact started
    · exact (h.inc (f := F.REC_CNT_MISS_CNT) (hw _ (by simp [F.REC_CNT_MISS_CNT])) 1).raise stat (by decide) _

/-- What a trigger leaves of the state beside the registers: all but the recorder's own record of it. -/
theorem recTrigger_ride {g : Ride → α} (hmark : ∀ r, g { r with recMark := true } = g r)
    (hstart : ∀ r n, g { r with recLeft := n, recTrig := true } = g r) (s : State) : g s.recTrigger.ride = g s.ride := by
  have started : g s.recStart.ride = g s.ride := by
    rw [State.recStart, State.when_unseen State.ride (fun x => raise_ride (by decide) [] x)]
    exact hstart s.ride _
  rw [recTrigger_eq]
  split
  · rw [raise_ride (by decide)]; exact hmark s.ride
  · split
    · split
      · rw [State.recDone, raise_ride (by decide)]; exact started
      · exact started
    · rw [raise_ride (by decide)]; rfl

end Sys2Proof.Machine
end

section
/-! SUPPORT. The chopper switches (05 R155, R156). -/

namespace Sys2Proof.Machine

variable {s : State}

/-- The chopper turned on at clock `t`. -/
def Ch.chopOnAt (t : Nat) (x : Ch) : Ch := { x with chopAt := t }

/-- The chopper turned off at clock `t`; its on-time is kept from `start`, the present tick's (05 R157). -/
def Ch.chopOffAt (start t : Nat) (x : Ch) : Ch := { x with chopOn := x.chopOn + (t - max x.chopAt start), chopAt := t }

/-- CHOPPER_ON of a chopper that may be on, is off, and has been off for its minimum time. -/
theorem chopperOn_acts {c off : Nat} (hmode : s.chopPermits c = true) (hheld : s.chopHeldOff c = false)
    (hlock : s.flag (F.CHOP_STAT_LOCKOUT c) = false) (hoff : s.flag (F.CHOP_STAT_ON c) = false)
    (hmin : (s.chn c).chopAt + secClk (s.rd (A.CHOP_TMIN c)) ≤ s.clk off) :
    s.chopperOn c off = ((((s.putb (F.CHOP_STAT_ON c) true).modCh c (Ch.chopOnAt (s.clk off))).raise
      (F.CHOP_STAT_ENGAGED c)).gateUpdate c 9) := by
  simp only [State.chopperOn, hmode, hheld, hlock, hoff, hmin]
  rfl

/-- CHOPPER_OFF of a chopper that has been on for its minimum time. -/
theorem chopperOff_acts {c off : Nat} (hon : s.flag (F.CHOP_STAT_ON c) = true)
    (hmin : (s.chn c).chopAt + secClk (s.rd (A.CHOP_TMIN c)) ≤ s.clk off) :
    s.chopperOff c off = (((s.modCh c (Ch.chopOffAt s.t.start (s.clk off))).putb (F.CHOP_STAT_ON c) false).gateUpdate c 9) := by
  simp only [State.chopperOff, State.chopOff, hon, hmin]
  rfl

theorem gateUpdate_chopAt {c : Nat} (hc : c < 8) (s : State) (k : Nat) : ((s.gateUpdate c k).chn c).chopAt = (s.chn c).chopAt := by
  simp [State.gateUpdate, State.modGate, State.chn_modCh_same s hc]

theorem engaged_isEvent (c : Chan) : (F.CHOP_STAT_ENGAGED c.val).isEvent = true := by revert c; decide
theorem engaged_beside_on (c : Chan) : (F.CHOP_STAT_ENGAGED c.val).beside (F.CHOP_STAT_ON c.val) = true := by revert c; decide

section
variable (c : Chan) (off : Nat) (hr : s.runs = true)
include hr

theorem completes_chopperOn (hmode : s.chopPermits c.val = true) (hheld : s.chopHeldOff c.val = false)
    (hlock : s.flag (F.CHOP_STAT_LOCKOUT c.val) = false) (hoff : s.flag (F.CHOP_STAT_ON c.val) = false)
    (hmin : (s.chn c.val).chopAt + secClk (s.rd (A.CHOP_TMIN c.val)) ≤ s.clk off) :
    completes (.chopperOn c off) s fun t => t.flag (F.CHOP_STAT_ON c.val) = true ∧ t.flag (F.CHOP_STAT_ENGAGED c.val) = true ∧
      (t.chn c.val).chopAt = s.clk off ∧ Frame true [.chan c.val] (· = A.CHOP_STAT c.val) s t := by
  have event := engaged_isEvent c
  refine completes_clocked rfl hr ?_
  rw [chopperOn_acts hmode hheld hlock hoff hmin]
  refine ⟨?on, ?engaged, ?instant, ?frame⟩
  case on =>
    rw [settle_flag, gateUpdate_flag, flag_raise_beside event [] _ (engaged_beside_on c)]
    exact State.flag_putb_same s (chanFld_ok c.isLt (by decide)) (Nat.le_refl 0) true
  case engaged => rw [settle_flag, gateUpdate_flag, flag_raise_own event]
  case instant =>
    rw [settle_chn, gateUpdate_chopAt c.isLt, raise_chn event, State.chn_modCh_same _ c.isLt]
    rfl
  case frame =>
    have own : Frame true [.chan c.val] (· = A.CHOP_STAT c.val) s s := Frame.refl ..
    have mem : Part.chan c.val ∈ [Part.chan c.val] := List.mem_singleton_self _
    have begun : Frame true [.chan c.val] (· = A.CHOP_STAT c.val) s ((s.putb (F.CHOP_STAT_ON c.val) true).modCh c.val
        (Ch.chopOnAt (s.clk off))) := (own.putb (f := F.CHOP_STAT_ON c.val) rfl true).modCh mem _
    exact ((begun.raise (f := F.CHOP_STAT_ENGAGED c.val) rfl (event_low event) []).gateUpdate mem 9).settle

theorem completes_chopperOff (hon : s.flag (F.CHOP_STAT_ON c.val) = true)
    (hmin : (s.chn c.val).chopAt + secClk (s.rd (A.CHOP_TMIN c.val)) ≤ s.clk off) :
    completes (.chopperOff c off) s fun t => Edited (A.CHOP_STAT c.val) [(F.CHOP_STAT_ON c.val, 0)] s t ∧
      (t.chn c.val).chopAt = s.clk off ∧ Frame false [.chan c.val] (· = A.CHOP_STAT c.val) s t := by
  refine completes_clocked rfl hr ?_
  rw [chopperOff_acts hon hmin]
  have own : Frame false [.chan c.val] (· = A.CHOP_STAT c.val) s s := Frame.refl ..
  have mem : Part.chan c.val ∈ [Part.chan c.val] := List.mem_singleton_self _
  refine ⟨(settle_rd ..).trans (State.rd_wr_same ..), ?_, ?_⟩
  · rw [settle_chn, gateUpdate_chopAt c.isLt]
    exact congrArg Ch.chopAt (State.chn_modCh_same s c.isLt _)
  · exact (((own.modCh mem _).putb (f := F.CHOP_STAT_ON c.val) rfl false).gateUpdate mem 9).settle

end

/-- Settles O14: the chopper turns on, or off, where every condition for it holds. -/
theorem chopperSwitchesByItsThresholds : Obligations.ChopperSwitchesByItsThresholds := fun _ c off hr =>
  ⟨completes_chopperOn c off hr, completes_chopperOff c off hr⟩

end Sys2Proof.Machine
end

section
/-! SUPPORT. An island is declared (05 R170). -/

namespace Sys2Proof.Machine

variable {α : Type} {ps : List Part} {W : Nat → Prop} {s u : State}

/-- The event of a declaration by the probe, or by a passive detector. -/
def islandEvent (probe : Bool) : Fld := if probe then F.ISL_STAT_PROBE_DET else F.ISL_STAT_PASSIVE_DET

/-- ISLANDED is set, and the tick of the declaration noted (05 R170). -/
def State.islandNoted (s : State) : State := (s.putb F.ISL_STAT_ISLANDED true).put64 A.ISL_DET_LO s.tickCnt

/-- A declaration: noted, recorded by both events, and due to act at the next boundary (05 R170, R171). -/
def State.islandRecorded (probe : Bool) (det : List Word) (s : State) : State :=
  ((s.islandNoted.raise F.ISL_STAT_DET det).raise (islandEvent probe)).modRide fun r => { r with act := true }

/-- A declaration records the event, with the test's figures where a test runs, and triggers the recorder where it is set to (05 R164, R170). -/
theorem declareIsland_eq (h : s.flag F.ISL_STAT_ISLANDED = false) (probe : Bool) : ∃ det, s.declareIsland probe =
    (s.islandRecorded probe det).when ((s.islandRecorded probe det).flag F.REC_CFG_TRG_ISL) State.recTrigger := by
  refine ⟨if s.flag F.ISL_CFG_TEST then [wd s.ride.firstEx, wd s.clk, wd (s.clk / 2 ^ 32)] else [], ?_⟩
  have entered : ¬ s.flag F.ISL_STAT_ISLANDED = true := by simp [h]
  exact if_neg entered

theorem declareIsland_again (h : s.flag F.ISL_STAT_ISLANDED = true) (probe : Bool) : s.declareIsland probe = s := if_pos h

theorem islandEvent_addr (probe : Bool) : (islandEvent probe).addr = A.ISL_STAT := by cases probe <;> rfl
theorem islandEvent_isEvent (probe : Bool) : (islandEvent probe).isEvent = true := by revert probe; decide

/-- Words that a declaration may change. -/
abbrev islandWords : List Nat := A.ISL_STAT :: A.ISL_DET_LO :: (A.ISL_DET_LO + 4) :: recWords

theorem Frame.islandRecorded (h : Frame true ps W s u) (hp : .ride ∈ ps) (hw : ∀ a ∈ islandWords, W a) (probe : Bool) (det : List Word) :
    Frame true ps W s (u.islandRecorded probe det) := by
  have stat : W A.ISL_STAT := hw _ (by simp)
  have noted : Frame true ps W s u.islandNoted := (h.putb (f := F.ISL_STAT_ISLANDED) stat true).put64 (hw _ (by simp)) (hw _ (by simp)) _
  exact ((noted.raise (f := F.ISL_STAT_DET) stat (by decide) det).raise (by rw [islandEvent_addr]; exact stat)
    (event_low (islandEvent_isEvent probe)) []).modRide hp _

theorem Frame.declareIsland (h : Frame true ps W s u) (hp : .ride ∈ ps) (hw : ∀ a ∈ islandWords, W a) (probe : Bool) :
    Frame true ps W s (u.declareIsland probe) := by
  cases hi : u.flag F.ISL_STAT_ISLANDED
  · obtain ⟨det, declared⟩ := declareIsland_eq hi probe
    rw [declared]
    exact (h.islandRecorded hp hw probe det).when _ fun _ =>
      (Frame.refl ..).recTrigger hp fun a ha => hw a (List.mem_cons_of_mem _ (List.mem_cons_of_mem _ (List.mem_cons_of_mem _ ha)))
  · rw [declareIsland_again hi]
    exact h

/-- An island stands declared: ISLANDED and both events are set, the action is due, and the tick is noted (05 R170). -/
abbrev Declared (probe : Bool) (s t : State) : Prop :=
  t.flag F.ISL_STAT_ISLANDED = true ∧ t.flag F.ISL_STAT_DET = true ∧ t.flag (islandEvent probe) = true ∧ t.ride.act = true ∧
    t.rd A.ISL_DET_LO = s.rd A.SYS_TICK_CNT_LO

/-- The low word of the tick count (15 R442). -/
theorem wd_tickCnt (s : State) : wd s.tickCnt = s.rd A.SYS_TICK_CNT_LO := by
  apply BitVec.eq_of_toNat_eq
  simp only [wd, State.tickCnt, State.get64, BitVec.toNat_ofNat]
  omega

theorem islandNoted_rd (s : State) : s.islandNoted.rd A.ISL_DET_LO = s.rd A.SYS_TICK_CNT_LO := by
  have full : implMask A.ISL_DET_LO = 0xFFFFFFFF#32 := by decide
  rw [State.islandNoted, State.put64, State.rd_wr_ne _ (by decide), State.rd_wr_same, full, wd_tickCnt]
  exact BitVec.and_allOnes

theorem islandNoted_flag (s : State) : s.islandNoted.flag F.ISL_STAT_ISLANDED = true :=
  (State.flag_congr (State.get_congr ((State.rd_wr_ne _ (by decide) _).trans (State.rd_wr_ne _ (by decide) _)))).trans
    (State.flag_putb_same s (by decide) (Nat.le_refl 4) true)

theorem islandRecorded_declared (s : State) (probe : Bool) (det : List Word) : Declared probe s (s.islandRecorded probe det) := by
  have own : (islandEvent probe).isEvent = true := islandEvent_isEvent probe
  have det_event : F.ISL_STAT_DET.isEvent = true := by decide
  have beside : ∀ p, (islandEvent p).beside F.ISL_STAT_ISLANDED = true ∧ (islandEvent p).beside F.ISL_STAT_DET = true := by decide
  refine ⟨?_, ?_, flag_raise_own own [] _, rfl, ?_⟩
  · exact (flag_raise_beside own [] _ (beside probe).1).trans ((flag_raise_beside det_event det _ (by decide)).trans (islandNoted_flag s))
  · exact (flag_raise_beside own [] _ (beside probe).2).trans (flag_raise_own det_event det _)
  · have apart : A.ISL_DET_LO ≠ (islandEvent probe).addr := by rw [islandEvent_addr]; decide
    exact (raise_rd own [] _ apart (by decide)).trans ((raise_rd det_event det _ (by decide) (by decide)).trans (islandNoted_rd s))

/-- The trigger of the recorder leaves the declaration as it stands. -/
theorem recTrigger_declared {probe : Bool} (h : Declared probe s u) : Declared probe s u.recTrigger := by
  have frame : Frame true [.ride] (· ∈ recWords) u u.recTrigger := (Frame.refl ..).recTrigger (by simp) fun _ => id
  have stat : u.recTrigger.rd A.ISL_STAT = u.rd A.ISL_STAT := frame.words _ (by decide) fun _ => by decide
  have flag : ∀ {f : Fld}, f.addr = A.ISL_STAT → u.recTrigger.flag f = u.flag f := fun hf => State.flag_congr (State.get_congr (hf ▸ stat))
  obtain ⟨islanded, det, event, act, tick⟩ := h
  refine ⟨(flag rfl).trans islanded, (flag rfl).trans det, (flag (islandEvent_addr probe)).trans event, ?_, ?_⟩
  · exact (recTrigger_ride (g := Ride.act) (fun _ => rfl) (fun _ _ => rfl) u).trans act
  · exact (frame.words _ (by decide) fun _ => by decide).trans tick

theorem declareIsland_declared (h : s.flag F.ISL_STAT_ISLANDED = false) (probe : Bool) : Declared probe s (s.declareIsland probe) := by
  obtain ⟨det, declared⟩ := declareIsland_eq h probe
  rw [declared, State.when]
  split
  · exact recTrigger_declared (islandRecorded_declared s probe det)
  · exact islandRecorded_declared s probe det

/-- A declaration leaves all of the ride state but the action that is due and the recorder's own. -/
theorem declareIsland_ride {g : Ride → α} (hact : ∀ r, g { r with act := true } = g r) (hmark : ∀ r, g { r with recMark := true } = g r)
    (hstart : ∀ r n, g { r with recLeft := n, recTrig := true } = g r) (s : State) (probe : Bool) :
    g (s.declareIsland probe).ride = g s.ride := by
  cases hi : s.flag F.ISL_STAT_ISLANDED
  · obtain ⟨det, declared⟩ := declareIsland_eq hi probe
    rw [declared, State.when_unseen (fun x => g x.ride) (recTrigger_ride hmark hstart)]
    refine (hact _).trans (congrArg g ?_)
    rw [raise_ride (islandEvent_isEvent probe), raise_ride (by decide)]
    rfl
  · rw [declareIsland_again hi]

end Sys2Proof.Machine
end

section
/-! SUPPORT. Windows of the island probe, the passive detectors, candidates, and the end of ISLANDED (05 R168, R169, R173). -/

namespace Sys2Proof.Machine

variable {ps : List Part} {W : Nat → Prop} {s u : State} {vp ip : Word}

/-! ### The windows of the probe -/

/-- What the end of a window shows: the impedance, the amplitude of the next one and whether it is at its top; one more window is complete
(05 R168; log entry 71). -/
def State.probeShown (vp ip : Word) (s : State) : State :=
  let top := fMul (c32 4 1) (s.rd A.ISL_PROBE_A)
  let amp := fClamp fZero top (Config.probeServo s.ride.prbA ip (s.rd A.ISL_PROBE_A))
  ((s.wr A.PCCM_ZP (fDiv vp ip)).modRide fun r => { r with prbA := amp, fresh := min 2 (r.fresh + 1) }).putb F.ISL_STAT_IP_SAT (fEq amp top)

/-- A window above the threshold counts; the tick of the first in a row is kept. -/
def Ride.above (tick : Nat) (r : Ride) : Ride :=
  { r with exceed := r.exceed + 1, below := 0, firstEx := if r.exceed = 0 then tick else r.firstEx }

/-- A window at or below the threshold starts the count afresh. -/
def Ride.under (r : Ride) : Ride := { r with exceed := 0, below := r.below + 1 }

/-- The windows in a row above the threshold that declare an island: two after a candidate (05 R168, R169). -/
def State.probeNeed (s : State) : Nat := if s.flag F.ISL_STAT_CAND then 2 else s.get F.ISL_CFG_N

/-- A window above the threshold is counted, and declares an island where enough stand in a row. -/
def State.probeAbove (s : State) : State :=
  (s.modRide (Ride.above s.tickCnt)).when (decide (s.probeNeed ≤ s.ride.exceed + 1)) (State.declareIsland true)

theorem probeWindow_on (h : s.flag F.ISL_STAT_PROBE_ON = true) : s.probeWindow vp ip =
    if (s.probeShown vp ip).ride.fresh < 2 || fLt ip (fMul (c32 1 4) (s.rd A.ISL_PROBE_A)) then s.probeShown vp ip
    else if fLt ((s.probeShown vp ip).rd A.ISL_Z_TH) (fDiv vp ip) then (s.probeShown vp ip).probeAbove
    else (s.probeShown vp ip).modRide Ride.under := by
  have off : (!s.flag F.ISL_STAT_PROBE_ON) = false := by simp [h]
  rw [State.probeWindow, off]
  rfl

theorem Frame.probeShown (h : Frame true ps W s u) (hp : .ride ∈ ps) (hz : W A.PCCM_ZP) (hw : W A.ISL_STAT) :
    Frame true ps W s (u.probeShown vp ip) := Frame.putb (f := F.ISL_STAT_IP_SAT) (Frame.modRide (h.wr hz _) hp _) hw _

theorem Frame.probeAbove (h : Frame true ps W s u) (hp : .ride ∈ ps) (hw : ∀ a ∈ islandWords, W a) : Frame true ps W s u.probeAbove :=
  (h.modRide hp _).when _ fun _ => (Frame.refl ..).declareIsland hp hw true

theorem Frame.probeWindow (hp : .ride ∈ ps) (hz : W A.PCCM_ZP) (hw : ∀ a ∈ islandWords, W a) (h : s.flag F.ISL_STAT_PROBE_ON = true) :
    Frame true ps W s (s.probeWindow vp ip) := by
  have shown : Frame true ps W s (s.probeShown vp ip) := (Frame.refl ..).probeShown hp hz (hw _ (by simp))
  rw [probeWindow_on h]
  split
  · exact shown
  · split
    · exact shown.probeAbove hp hw
    · exact shown.modRide hp _

/-- What is shown at the end of a window stands, whatever the window then declares. -/
theorem probeAbove_zp (s : State) : s.probeAbove.rd A.PCCM_ZP = s.rd A.PCCM_ZP :=
  (Frame.probeAbove (Frame.refl true [.ride] (· ∈ islandWords) s) (by simp) fun _ => id).words _ (by decide) fun _ => by decide

theorem probeAbove_ride (s : State) : s.probeAbove.ride.fresh = s.ride.fresh ∧ s.probeAbove.ride.exceed = s.ride.exceed + 1 ∧
    s.probeAbove.ride.below = 0 :=
  ⟨State.when_unseen (fun x => x.ride.fresh) (declareIsland_ride (fun _ => rfl) (fun _ => rfl) (fun _ _ => rfl) · true) ..,
    State.when_unseen (fun x => x.ride.exceed) (declareIsland_ride (fun _ => rfl) (fun _ => rfl) (fun _ _ => rfl) · true) ..,
    State.when_unseen (fun x => x.ride.below) (declareIsland_ride (fun _ => rfl) (fun _ => rfl) (fun _ _ => rfl) · true) ..⟩

theorem probeShown_zp (s : State) : (s.probeShown vp ip).rd A.PCCM_ZP = fDiv vp ip := by
  have full : implMask A.PCCM_ZP = 0xFFFFFFFF#32 := by decide
  exact (State.rd_put_ne _ (by decide) _).trans ((State.rd_wr_same ..).trans (full ▸ BitVec.and_allOnes))

theorem probeShown_rd (s : State) {a : Nat} (hz : a ≠ A.PCCM_ZP) (hs : a ≠ A.ISL_STAT) : (s.probeShown vp ip).rd a = s.rd a :=
  (State.rd_put_ne _ hs _).trans (State.rd_wr_ne s hz _)

theorem probeShown_flag (s : State) {g : Fld} (hg : F.ISL_STAT_IP_SAT.beside g = true) (hz : g.addr ≠ A.PCCM_ZP) :
    (s.probeShown vp ip).flag g = s.flag g :=
  (flag_putb_beside _ (by decide) hg _).trans (State.flag_congr (State.get_wr_ne s hz _))

theorem probeShown_need (s : State) : (s.probeShown vp ip).probeNeed = s.probeNeed := by
  rw [State.probeNeed, State.probeNeed, probeShown_flag s (by decide) (by decide), State.get_congr (probeShown_rd s (by decide) (by decide))]

/-- Two windows are complete after this one. -/
theorem probeShown_fresh (h : 1 ≤ s.ride.fresh) : ¬ (s.probeShown vp ip).ride.fresh < 2 := by
  show ¬ min 2 (s.ride.fresh + 1) < 2
  omega

/-- What the window shows stands at its end. -/
theorem probeWindow_shown (h : s.flag F.ISL_STAT_PROBE_ON = true) : (s.probeWindow vp ip).rd A.PCCM_ZP = fDiv vp ip ∧
    (s.probeWindow vp ip).ride.fresh = min 2 (s.ride.fresh + 1) := by
  rw [probeWindow_on h]
  split
  · exact ⟨probeShown_zp s, rfl⟩
  · split
    · exact ⟨(probeAbove_zp _).trans (probeShown_zp s), (probeAbove_ride _).1⟩
    · exact ⟨probeShown_zp s, rfl⟩

/-- A window that counts. -/
theorem probeWindow_counts (hon : s.flag F.ISL_STAT_PROBE_ON = true) (hfresh : 1 ≤ s.ride.fresh)
    (hip : fLt ip (fMul (c32 1 4) (s.rd A.ISL_PROBE_A)) = false) : s.probeWindow vp ip =
      if fLt (s.rd A.ISL_Z_TH) (fDiv vp ip) then (s.probeShown vp ip).probeAbove else (s.probeShown vp ip).modRide Ride.under := by
  have threshold : (s.probeShown vp ip).rd A.ISL_Z_TH = s.rd A.ISL_Z_TH := probeShown_rd s (by decide) (by decide)
  rw [probeWindow_on hon, threshold, if_neg]
  simp only [hip, Bool.or_false, decide_eq_true_eq]
  exact probeShown_fresh hfresh

/-- Enough windows in a row above the threshold declare an island. -/
theorem probeAbove_declares (h : s.flag F.ISL_STAT_ISLANDED = false) (hn : s.probeNeed ≤ s.ride.exceed + 1) :
    Declared true s s.probeAbove := by
  rw [State.probeAbove, decide_eq_true hn]
  exact declareIsland_declared (s := s.modRide (Ride.above s.tickCnt)) h true

/-- Too few leave ISLANDED as it is. -/
theorem probeAbove_waits (hn : s.ride.exceed + 1 < s.probeNeed) : s.probeAbove = s.modRide (Ride.above s.tickCnt) := by
  rw [State.probeAbove, decide_eq_false (by omega)]
  rfl

/-! ### The rows -/

section
variable (hr : s.runs = true)
include hr

theorem completes_probeWindowEnd (vp ip : Word) (hon : s.flag F.ISL_STAT_PROBE_ON = true) :
    completes (.probeWindowEnd vp ip) s fun t => t.rd A.PCCM_ZP = fDiv vp ip ∧ t.ride.fresh = min 2 (s.ride.fresh + 1) ∧
      (1 ≤ s.ride.fresh → fLt ip (fMul (c32 1 4) (s.rd A.ISL_PROBE_A)) = false →
        (fLt (s.rd A.ISL_Z_TH) (fDiv vp ip) = true → t.ride.exceed = s.ride.exceed + 1 ∧ t.ride.below = 0 ∧
          (s.probeNeed ≤ s.ride.exceed + 1 → s.flag F.ISL_STAT_ISLANDED = false → Declared true s t) ∧
          (s.ride.exceed + 1 < s.probeNeed → t.flag F.ISL_STAT_ISLANDED = s.flag F.ISL_STAT_ISLANDED)) ∧
        (fLt (s.rd A.ISL_Z_TH) (fDiv vp ip) = false → t.ride.exceed = 0 ∧ t.ride.below = s.ride.below + 1)) ∧
      Frame true [.ride] (· ∈ A.PCCM_ZP :: islandWords) s t := by
  have shown := probeWindow_shown (vp := vp) (ip := ip) hon
  have islanded : (s.probeShown vp ip).flag F.ISL_STAT_ISLANDED = s.flag F.ISL_STAT_ISLANDED := probeShown_flag s (by decide) (by decide)
  refine completes_clocked rfl hr ⟨(settle_rd ..).trans shown.1, shown.2, fun hfresh hip => ⟨fun hz => ?above, fun hz => ?under⟩, ?frame⟩
  case above =>
    rw [probeWindow_counts hon hfresh hip, if_pos hz]
    obtain ⟨-, counted, afresh⟩ := probeAbove_ride (s.probeShown vp ip)
    refine ⟨counted, afresh, fun hn hi => ?_, fun hn => ?_⟩
    · have declared := probeAbove_declares (s := s.probeShown vp ip) (islanded.trans hi) (by rw [probeShown_need]; exact hn)
      rw [Declared, probeShown_rd s (by decide) (by decide)] at declared
      simpa only [Declared, settle_flag, settle_rd, settle_ride] using declared
    · rw [settle_flag, probeAbove_waits (by rw [probeShown_need]; exact hn)]
      exact islanded
  case under =>
    rw [probeWindow_counts hon hfresh hip, if_neg (by simp [hz])]
    exact ⟨rfl, rfl⟩
  case frame =>
    exact (Frame.probeWindow (List.mem_singleton_self _) (by simp) (fun _ => List.mem_cons_of_mem _) hon).settle

theorem completes_passive_decisive (d : Fin 4) (hmay : s.passiveMay d.val = true) (hdec : s.bitOf F.ISL_CFG_DECISIVE d.val = true)
    (hi : s.flag F.ISL_STAT_ISLANDED = false) : completes (.passiveDetectorFire d) s fun t =>
      Declared false s t ∧ Frame true [.ride] (· ∈ islandWords) s t := by
  have fired : s.passiveFire d.val = s.declareIsland false := by simp [State.passiveFire, hmay, hdec]
  refine completes_clocked rfl hr ?_
  rw [fired]
  exact ⟨by simpa only [Declared, settle_flag, settle_rd, settle_ride] using declareIsland_declared hi false,
    ((Frame.refl ..).declareIsland (List.mem_singleton_self _) (fun _ => id) false).settle⟩

theorem completes_passive_candidate (d : Fin 4) (hmay : s.passiveMay d.val = true) (hdec : s.bitOf F.ISL_CFG_DECISIVE d.val = false) :
    completes (.passiveDetectorFire d) s fun t => Edited A.ISL_STAT [(F.ISL_STAT_CAND, 1)] s t ∧ t.held .cand 0 = true ∧
      Frame false [.timers] (· = A.ISL_STAT) s t := by
  have fired : s.passiveFire d.val = (s.putb F.ISL_STAT_CAND true).restart .cand := by simp [State.passiveFire, hmay, hdec]
  refine completes_clocked rfl hr ?_
  rw [fired]
  exact ⟨(settle_rd ..).trans (State.rd_wr_same ..), held_restart (s.putb F.ISL_STAT_CAND true) .cand,
    (((Frame.refl false [.timers] (· = A.ISL_STAT) s).putb (f := F.ISL_STAT_CAND) rfl true).restart (by simp) .cand).settle⟩

theorem completes_candidateExpiry (hc : s.held .cand (msClk 1000) = true) :
    completes .candidateExpiry s fun t => Edited A.ISL_STAT [(F.ISL_STAT_CAND, 0)] s t ∧ t.held .cand 0 = false ∧
      Frame false [.timers] (· = A.ISL_STAT) s t := by
  have expired : s.candExpiry = (s.putb F.ISL_STAT_CAND false).hold .cand false := if_pos hc
  refine completes_clocked rfl hr ?_
  rw [expired]
  exact ⟨(settle_rd ..).trans ((hold_rd ..).trans (State.rd_wr_same ..)), held_hold_false (s.putb F.ISL_STAT_CAND false) .cand 0,
    (((Frame.refl false [.timers] (· = A.ISL_STAT) s).putb (f := F.ISL_STAT_CAND) rfl false).hold (by simp) .cand false).settle⟩

theorem completes_islandedClear (hi : s.flag F.ISL_STAT_ISLANDED = true)
    (hnone : ∀ c : Fin 8, (s.gridActive c.val && s.sub c.val == mISLAND) = false)
    (hback : if s.flag F.ISL_STAT_PROBE_ON then s.get F.ISL_CFG_N ≤ s.ride.below
      else s.held .normal (secClk (s.rd (A.RB_T_RECON s.bank))) = true) :
    completes .islandedClear s fun t => Edited A.ISL_STAT [(F.ISL_STAT_ISLANDED, 0)] s t ∧ Frame false [] (· = A.ISL_STAT) s t := by
  have none : (chans.all fun c => !(s.gridActive c && s.sub c == mISLAND)) = true := List.all_eq_true.mpr fun c hc => by
    have hlt : c < 8 := by simp only [chans, List.mem_cons, List.not_mem_nil, or_false] at hc; omega
    rw [hnone ⟨c, hlt⟩]; rfl
  have back : (if s.flag F.ISL_STAT_PROBE_ON then decide (s.get F.ISL_CFG_N ≤ s.ride.below)
      else s.held .normal (secClk (s.rd (A.RB_T_RECON s.bank)))) = true := by
    split <;> rename_i hon <;> simpa [hon] using hback
  have cleared : s.islandedClear = s.putb F.ISL_STAT_ISLANDED false := by
    simp only [State.islandedClear, hi, none, back, Bool.and_self, if_true]
  refine completes_clocked rfl hr ?_
  rw [cleared]
  exact ⟨(settle_rd ..).trans (State.rd_wr_same ..), ((Frame.refl false [] (· = A.ISL_STAT) s).putb (f := F.ISL_STAT_ISLANDED) rfl false).settle⟩

end

/-- Settles O13: the rows of the probe, of the passive detectors, of the candidate and of the end of ISLANDED. -/
theorem islandsAreDetectedAndCleared : Obligations.IslandsAreDetectedAndCleared := by
  intro s hr
  refine ⟨completes_probeWindowEnd hr, fun d hmay => ⟨fun hdec hi => ?_, completes_passive_candidate hr d hmay⟩,
    completes_candidateExpiry hr, completes_islandedClear hr⟩
  obtain ⟨t, fired, ⟨islanded, det, event, act, -⟩, frame⟩ := completes_passive_decisive hr d hmay hdec hi
  exact ⟨t, fired, islanded, det, event, act, frame⟩

end Sys2Proof.Machine
end

section
/-! SUPPORT. The mode changes between RUN and RIDE (05 R146, R147; 17 R478). -/

namespace Sys2Proof.Machine

variable {ev : Bool} {ps : List Part} {W : Nat → Prop} {s u : State}

theorem lt_of_mem_chans {c : Nat} (h : c ∈ chans) : c < 8 := by
  simp only [chans, List.mem_cons, List.not_mem_nil, or_false] at h; omega

theorem mem_chans {c : Nat} (h : c < 8) : c ∈ chans := by
  simp only [chans, List.mem_cons, List.not_mem_nil, or_false]; omega

theorem chan_mem_chanParts {c : Nat} (h : c < 8) : Part.chan c ∈ chanParts := mem_chanParts (mem_chans h)

/-- The mode, where it came from and why (17 R478). -/
def State.modeNoted (tgt why : Nat) (s : State) : State :=
  ((s.put F.SYS_MODE_PREV s.mode).put F.SYS_MODE_MODE tgt).put F.SYS_MODE_WHY why

/-- Neither RUN nor RIDE takes a channel out of its state. -/
theorem setMode_eq {tgt : Nat} (h : tgt = mRUN ∨ tgt = mRIDE) (why : Nat) (s : State) : s.setMode tgt why =
    (((s.modeNoted tgt why).putb F.ER_STAT_WT false).applyForceAll.runUpdate).bare 1 := by
  rcases h with rfl | rfl <;> rfl

theorem Frame.applyForceAll (h : Frame ev ps W s u) (hp : ∀ c < 8, .chan c ∈ ps) (hw : ∀ c < 8, W (A.PWM_FSTAT c)) :
    Frame ev ps W s u.applyForceAll :=
  Frame.each _ (fun c hc _ => (Frame.refl ..).applyForce (hp c (lt_of_mem_chans hc)) (hw c (lt_of_mem_chans hc))) h

section
variable {tgt : Nat} (htgt : tgt = mRUN ∨ tgt = mRIDE) (why : Nat)
include htgt

theorem Frame.setMode_running (h : Frame true ps W s u) (hp : ∀ c < 8, .chan c ∈ ps) (hm : W A.SYS_MODE) (he : W A.ER_STAT)
    (hw : ∀ c < 8, W (A.PWM_FSTAT c)) : Frame true ps W s (u.setMode tgt why) := by
  have noted : Frame true ps W s (u.modeNoted tgt why) := ((h.put (f := F.SYS_MODE_PREV) hm _).put (f := F.SYS_MODE_MODE) hm _).put
    (f := F.SYS_MODE_WHY) hm _
  rw [setMode_eq htgt]
  exact (((noted.putb (f := F.ER_STAT_WT) he false).applyForceAll hp hw).putb (f := F.SYS_MODE_RUN_BLOCK) hm _).bare (by decide) []

/-- Every other word stays. -/
theorem setMode_rd {a : Nat} (hm : a ≠ A.SYS_MODE) (he : a ≠ A.ER_STAT) (hw : ∀ c < 8, a ≠ A.PWM_FSTAT c) (hq : bookAddr a = false) :
    (s.setMode tgt why).rd a = s.rd a :=
  (Frame.setMode_running htgt why (Frame.refl true chanParts (fun b => b = A.SYS_MODE ∨ b = A.ER_STAT ∨ ∃ c < 8, b = A.PWM_FSTAT c) s)
    (fun _ => chan_mem_chanParts) (.inl rfl) (.inr (.inl rfl)) fun c hc => .inr (.inr ⟨c, hc, rfl⟩)).words a
      (by rintro (h | h | ⟨c, hc, h⟩); exacts [hm h, he h, hw c hc h]) fun _ => hq

/-- The fields of the mode word beside RUN_BLOCK stand as they were noted. -/
theorem setMode_get {g : Fld} (hg : F.SYS_MODE_RUN_BLOCK.beside g = true) (ha : g.addr = A.SYS_MODE) :
    (s.setMode tgt why).get g = (s.modeNoted tgt why).get g := by
  have forced : ∀ x : State, x.applyForceAll.rd g.addr = x.rd g.addr := fun x =>
    (Frame.applyForceAll (Frame.refl false chanParts (fun a => ∃ c < 8, a = A.PWM_FSTAT c) x) (fun _ => chan_mem_chanParts)
      fun c hc => ⟨c, hc, rfl⟩).words _ (by rintro ⟨c, -, h⟩; rw [ha, A.SYS_MODE, A.PWM_FSTAT, chBase] at h; omega) (by simp)
  have logged : ∀ x : State, (x.bare 1).get g = x.get g := fun x =>
    State.get_congr ((kept_bare x (by decide) []).rd _ (by rw [ha]; decide))
  rw [setMode_eq htgt, logged]
  refine (get_put_beside _ (by decide) hg _).trans ((State.get_congr (forced _)).trans ?_)
  exact State.get_put_ne _ (by rw [ha]; decide) _

theorem setMode_mode : (s.setMode tgt why).mode = tgt := by
  have width : tgt % 2 ^ (2 + 1 - 0) = tgt := by rcases htgt with rfl | rfl <;> rfl
  refine (setMode_get htgt why (by decide) rfl).trans ((get_put_beside _ (by decide) (by decide) _).trans ?_)
  exact (State.get_put_same _ (by decide) tgt).trans width

theorem setMode_prev : (s.setMode tgt why).get F.SYS_MODE_PREV = s.mode % 8 :=
  (setMode_get htgt why (by decide) rfl).trans ((get_put_beside _ (by decide) (by decide) _).trans
    ((get_put_beside _ (by decide) (by decide) _).trans (State.get_put_same s (by decide) _)))

end

/-! ### Forcing leaves the grid converter's own state -/

theorem modCh_grid (s : State) (c d : Nat) {f : Ch → Ch} (hf : ∀ x, (f x).grid = x.grid) : ((s.modCh c f).chn d).grid = (s.chn d).grid := by
  by_cases hd : d = c
  · subst hd
    by_cases h8 : d < 8
    · rw [State.chn_modCh_same s h8, hf]
    · simp [State.chn, State.modCh, h8]
  · rw [State.chn_modCh_ne s hd]

theorem modHb_grid (s : State) (c k d : Nat) (f : HbSt → HbSt) : ((s.modHb c k f).chn d).grid = (s.chn d).grid := modCh_grid s c d fun _ => rfl
theorem modGate_grid (s : State) (c k d : Nat) (f : GateSt → GateSt) : ((s.modGate c k f).chn d).grid = (s.chn d).grid :=
  modCh_grid s c d fun _ => rfl

theorem gateUpdate_grid (s : State) (c k d : Nat) : ((s.gateUpdate c k).chn d).grid = (s.chn d).grid := by
  unfold State.gateUpdate
  split
  exact modGate_grid ..

theorem forceSlots_grid (s : State) (c now old d : Nat) : ((s.forceSlots c now old).chn d).grid = (s.chn d).grid := by
  refine (State.each_unseen (fun x => (x.chn d).grid) (fun k _ x => gateUpdate_grid x c k d) _).trans
    (State.each_unseen (fun x => (x.chn d).grid) (fun k _ x => ?_) s)
  split
  · exact modHb_grid ..
  · split
    · rw [modGate_grid, modHb_grid]
    · rfl

theorem applyForceAll_grid (s : State) (d : Nat) : (s.applyForceAll.chn d).grid = (s.chn d).grid :=
  State.each_unseen (fun x => (x.chn d).grid) (fun c _ x => by rw [applyForce_eq, forceSlots_grid]; rfl) s

theorem setMode_grid {tgt : Nat} (htgt : tgt = mRUN ∨ tgt = mRIDE) (why : Nat) (s : State) (d : Nat) :
    ((s.setMode tgt why).chn d).grid = (s.chn d).grid := by
  have logged : ∀ x : State, (x.bare 1).chn d = x.chn d := fun x =>
    congrArg (fun v : Vector Ch 8 => v[d]?.getD {}) (kept_bare x (by decide) []).ch
  have updated : ∀ x : State, x.runUpdate.chn d = x.chn d := fun _ => rfl
  rw [setMode_eq htgt, logged, updated, applyForceAll_grid]
  rfl

end Sys2Proof.Machine
end

section
/-! SUPPORT. A fold over the channels seen from one of them: the other turns leave its block and its state, so that it stands as its own
turn leaves it. -/

namespace Sys2Proof.Machine

variable {s u v : State} {c : Nat} {f : Nat → State → State} {l : List Nat}

/-- A word outside the block of channel `c` (15 R431). -/
def offBlock (c a : Nat) : Prop := a < chBase c ∨ chBase c + 0x10000 ≤ a

/-- The parts of the channels but channel `c`. -/
def otherChans (c : Nat) : List Part := (chans.filter (· ≠ c)).map .chan

/-- From `s` to `u` at most other channels' state and words outside the block of channel `c` have changed. -/
abbrev Apart (c : Nat) (s u : State) : Prop := Frame true (otherChans c) (offBlock c) s u

theorem Apart.rd (h : Apart c s u) {o : Nat} (ho : o < 0x10000) : u.rd (chBase c + o) = s.rd (chBase c + o) :=
  h.words _ (by unfold offBlock; omega) fun _ => chan_word_quiet c o

theorem Apart.flag (h : Apart c s u) {o hi lo : Nat} (ho : o < 0x10000) : u.flag ⟨chBase c + o, hi, lo⟩ = s.flag ⟨chBase c + o, hi, lo⟩ :=
  State.flag_congr (State.get_congr (h.rd ho))

theorem Apart.chn (h : Apart c s u) : u.chn c = s.chn c := h.parts (.chan c) (by simp [otherChans])

theorem gridActive_congr (h : ∀ o ∈ [0xC000, 0xC004], u.rd (chBase c + o) = s.rd (chBase c + o)) : u.gridActive c = s.gridActive c := by
  have role : u.role c = s.role c := State.get_congr (h 0xC000 (by simp))
  have state : u.cst c = s.cst c := State.get_congr (h 0xC004 (by simp))
  rw [State.gridActive, State.gridActive, role, state]

theorem Apart.gridActive (h : Apart c s u) : u.gridActive c = s.gridActive c :=
  gridActive_congr fun o ho => h.rd (by simp only [List.mem_cons, List.not_mem_nil, or_false] at ho; omega)

/-- Each turn leaves the other channels. -/
def Separate (f : Nat → State → State) : Prop := ∀ c < 8, ∀ d < 8, d ≠ c → ∀ x, Apart c x (f d x)

/-- A turn that stays within its channel and the words of the device leaves the other channels. -/
theorem separate_of_frame {W : Nat → Nat → Prop} (hf : ∀ d < 8, ∀ x, Frame true [.chan d] (W d) x (f d x))
    (hW : ∀ d a, W d a → a < 0x100000 ∨ chBase d ≤ a ∧ a < chBase d + 0x10000) : Separate f := fun c hc d hd hne x => by
  refine (hf d hd x).mono (fun p hp => ?_) fun a ha => ?_
  · rw [List.mem_singleton.mp hp]
    exact List.mem_map.mpr ⟨d, List.mem_filter.mpr ⟨mem_chans hd, by simpa using hne⟩, rfl⟩
  · have := hW d a ha
    unfold offBlock chBase at *
    omega

/-- Turns of other channels alone leave channel `c`. -/
theorem each_apart (hf : Separate f) (hc : c < 8) (hl : ∀ d ∈ l, d < 8) (hn : c ∉ l) (s : State) : Apart c s (s.each l f) :=
  Frame.each l (fun d hd x => hf c hc d (hl d hd) (fun he => hn (he ▸ hd)) x) (Frame.refl ..)

/-- The turn of channel `c` finds it as it stood, and leaves it as it stands in the end. -/
theorem each_around (hf : Separate f) (hl : ∀ d ∈ l, d < 8) (hn : l.Nodup) (hc : c ∈ l) (s : State) :
    ∃ x, Apart c s x ∧ Apart c (f c x) (s.each l f) := by
  induction l generalizing s with
  | nil => simp at hc
  | cons d t ih =>
    obtain ⟨hd, ht⟩ := List.nodup_cons.mp hn
    have tail : ∀ e ∈ t, e < 8 := fun e he => hl e (List.mem_cons_of_mem d he)
    rcases List.mem_cons.mp hc with rfl | hct
    · exact ⟨s, Frame.refl .., each_apart hf (hl c hc) tail hd (f c s)⟩
    · obtain ⟨x, before, after⟩ := ih tail ht hct (f d s)
      exact ⟨x, (hf c (hl c hc) d (hl d (by simp)) (fun he => hd (he ▸ hct)) s).trans before, after⟩

/-! ### The turns of the ACTIVE GRID channels -/

/-- The ACTIVE GRID channels. -/
def State.activeGrid (s : State) : List Nat := chans.filter s.gridActive

theorem mem_activeGrid : c ∈ s.activeGrid ↔ c < 8 ∧ s.gridActive c = true := by
  rw [State.activeGrid, List.mem_filter]
  exact and_congr_left fun _ => ⟨lt_of_mem_chans, mem_chans⟩

theorem activeGrid_lt : ∀ d ∈ s.activeGrid, d < 8 := fun _ hd => (mem_activeGrid.mp hd).1
theorem activeGrid_nodup : s.activeGrid.Nodup := List.Nodup.filter _ (by decide)

/-- Separate turns of the channels found ACTIVE at their turn are turns of the channels that are ACTIVE before the first. -/
theorem each_active (hf : Separate f) (s : State) :
    (s.each chans fun c x => x.when (x.gridActive c) (f c)) = s.each s.activeGrid f := by
  have key : ∀ l : List Nat, l.Nodup → (∀ d ∈ l, d < 8) → ∀ s : State,
      (s.each l fun c x => x.when (x.gridActive c) (f c)) = s.each (l.filter s.gridActive) f := by
    intro l
    induction l with
    | nil => exact fun _ _ _ => rfl
    | cons d t ih =>
      intro hn hl s
      obtain ⟨hd, ht⟩ := List.nodup_cons.mp hn
      have tail := ih ht fun e he => hl e (List.mem_cons_of_mem d he)
      cases hact : s.gridActive d
      · have turn : s.when (s.gridActive d) (f d) = s := by rw [hact]; rfl
        rw [List.filter_cons_of_neg (by simp [hact]), ← tail s]
        exact congrArg (fun x : State => x.each t fun c x => x.when (x.gridActive c) (f c)) turn
      · have later : t.filter (f d s).gridActive = t.filter s.gridActive := List.filter_congr fun e he =>
          (hf e (hl e (List.mem_cons_of_mem d he)) d (hl d (by simp)) (fun h => hd (h ▸ he)) s).gridActive
        have turn : s.when (s.gridActive d) (f d) = f d s := by rw [hact]; rfl
        rw [List.filter_cons_of_pos hact, ← later]
        exact (congrArg (fun x : State => x.each t fun c x => x.when (x.gridActive c) (f c)) turn).trans (tail (f d s))
  exact key chans (by decide) (fun _ => lt_of_mem_chans) s

end Sys2Proof.Machine
end

section
/-! SUPPORT. The RIDE detector arms, and RIDE begins (05 R144–R146, R150). -/

namespace Sys2Proof.Machine

variable {ev : Bool} {ps : List Part} {W : Nat → Prop} {s u : State}

/-- A word of the device lies outside every channel. -/
theorem device_ne_chan {a : Nat} (ha : a < 0x100000) (c o : Nat) : a ≠ chBase c + o := by unfold chBase; omega

/-! ### The causes of RIDE -/

theorem rideCause_lt (s : State) : s.rideCause < 8 := by
  unfold State.rideCause
  dsimp only
  repeat' split
  all_goals decide

/-- RIDE begins from RUN alone (05 R145). -/
theorem mode_of_rideCause (h : s.rideCause ≠ 0) : s.mode = mRUN := by
  by_contra hm
  exact h (if_pos (by simp [hm]))

/-! ### The snapshot of a channel -/

/-- The settings that the snapshot of channel `c` takes (05 R150). -/
def State.rideGains (s : State) (c : Nat) : List Word :=
  [s.rd (A.RIDE_K1 c), s.rd (A.RIDE_K2 c), s.rd (A.RIDE_PHI2 c), s.rd (A.RIDE_DB c), s.rd (A.RIDE_IMAX c), s.rd (A.RIDE_W c),
    s.rd (A.RIDE_CH_CFG c)]

theorem rideGains_congr {c : Nat} (h : ∀ o, 0xC300 ≤ o ∧ o < 0xC400 → u.rd (chBase c + o) = s.rd (chBase c + o)) :
    u.rideGains c = s.rideGains c := by
  simp only [State.rideGains, A.RIDE_K1, A.RIDE_K2, A.RIDE_PHI2, A.RIDE_DB, A.RIDE_IMAX, A.RIDE_W, A.RIDE_CH_CFG, h 0xC310 (by decide),
    h 0xC314 (by decide), h 0xC318 (by decide), h 0xC31C (by decide), h 0xC320 (by decide), h 0xC324 (by decide), h 0xC300 (by decide)]

theorem Frame.rideSnapshot (h : Frame ev ps W s u) {c : Nat} (hp : .chan c ∈ ps) (hw : W (A.RIDE_CH_STAT c)) :
    Frame ev ps W s (u.rideSnapshot c) :=
  ((h.modGrid hp _).putb (f := F.RIDE_CH_STAT_NEG_UNTRACKED c) hw _).putb (f := F.RIDE_CH_STAT_RECOV c) hw false

/-- The snapshot is in force, with the settings as they stand. -/
theorem rideSnapshot_grid {c : Nat} (hc : c < 8) (s : State) : ((s.rideSnapshot c).chn c).grid.riding = true ∧
    ((s.rideSnapshot c).chn c).grid.snap.take 7 = s.rideGains c := by
  obtain ⟨l, taken, kept⟩ : ∃ l, l.take 7 = s.rideGains c ∧ (s.rideSnapshot c).ch =
      (s.modGrid c fun x => { x with snap := l, riding := true }).ch := ⟨_, rfl, rfl⟩
  have grid : ((s.rideSnapshot c).chn c).grid = { (s.chn c).grid with snap := l, riding := true } := by
    rw [State.chn, kept]
    exact congrArg Ch.grid (State.chn_modCh_same s hc _)
  rw [grid]
  exact ⟨rfl, taken⟩

theorem separate_rideSnapshot : Separate State.rideSnapshot :=
  separate_of_frame (W := fun d a => a = A.RIDE_CH_STAT d) (fun _ _ _ => (Frame.refl ..).rideSnapshot (List.mem_singleton_self _) rfl)
    fun d a h => .inr (by rw [h]; unfold A.RIDE_CH_STAT; omega)

/-! ### RIDE begins -/

/-- RIDE and its cause are shown, and its time runs (05 R146). -/
def State.rideShown (k : Nat) (s : State) : State := ((s.putb F.SYS_RIDE_STAT_RIDE true).put F.SYS_RIDE_STAT_CAUSE k).restart .ride

/-- The mode is RIDE, with its cause (05 R146). -/
def State.rideBegun (k : Nat) (s : State) : State := (s.setMode mRIDE 2).rideShown k

/-- The entry is a new trigger of a burst (01 R36), and counted. -/
def State.rideEntered (s : State) : State :=
  (s.modT fun t => { t with exited := false, refBud := false, refTherm := false }).inc F.SYS_RIDE_CNT_ENT_CNT

/-- The entry is counted and recorded, and triggers the recorder (05 R146, R164). -/
def State.rideCounted (s : State) : State := (s.rideEntered.raise F.SYS_RIDE_STAT_ENTER).recTrigger

/-- RIDE_ENTRY with a qualifying cause and an ACTIVE GRID channel. -/
theorem rideEntry_enters (hk : s.rideCause ≠ 0) (ha : s.anyGridActive = true) : s.rideEntry =
    ((s.rideBegun s.rideCause).each (s.rideBegun s.rideCause).activeGrid State.rideSnapshot).rideCounted := by
  rw [← each_active separate_rideSnapshot, State.rideEntry]
  simp only [hk, ha, Bool.not_true, Bool.false_eq_true, if_false]
  rfl

/-- Words that the beginning of RIDE may change. -/
def rideModeWords (a : Nat) : Prop := a ∈ [A.SYS_MODE, A.SYS_RIDE_STAT, A.ER_STAT] ∨ ∃ c < 8, a = A.PWM_FSTAT c

theorem Frame.rideBegun (h : Frame true ps W s u) (ht : .timers ∈ ps) (hp : ∀ c < 8, .chan c ∈ ps) (hw : ∀ a, rideModeWords a → W a)
    (k : Nat) : Frame true ps W s (u.rideBegun k) := by
  have stat : W A.SYS_RIDE_STAT := hw _ (.inl (by simp))
  have moved : Frame true ps W s (u.setMode mRIDE 2) := h.setMode_running (.inr rfl) 2 hp (hw _ (.inl (by simp))) (hw _ (.inl (by simp)))
    fun c hc => hw _ (.inr ⟨c, hc, rfl⟩)
  exact ((moved.putb (f := F.SYS_RIDE_STAT_RIDE) stat true).put (f := F.SYS_RIDE_STAT_CAUSE) stat k).restart ht .ride

theorem rideBegun_frame (k : Nat) (s : State) : Frame true (.timers :: chanParts) rideModeWords s (s.rideBegun k) :=
  (Frame.refl ..).rideBegun (by simp) (fun _ hc => List.mem_cons_of_mem _ (chan_mem_chanParts hc)) (fun _ => id) k

/-- The words of a channel but the forced slots stay. -/
theorem rideBegun_chan (k : Nat) (s : State) (c : Nat) {o : Nat} (ho : 0xC000 ≤ o ∧ o < 0x10000) :
    (s.rideBegun k).rd (chBase c + o) = s.rd (chBase c + o) := by
  refine (rideBegun_frame k s).words _ ?_ fun _ => chan_word_quiet c o
  rintro (h | ⟨d, -, h⟩)
  · simp only [List.mem_cons, List.not_mem_nil, or_false, A.SYS_MODE, A.SYS_RIDE_STAT, A.ER_STAT, chBase] at h; omega
  · simp only [A.PWM_FSTAT, chBase] at h; omega

theorem rideBegun_gridActive (k : Nat) (s : State) (c : Nat) : (s.rideBegun k).gridActive c = s.gridActive c :=
  gridActive_congr fun o ho => rideBegun_chan k s c (by simp only [List.mem_cons, List.not_mem_nil, or_false] at ho; omega)

theorem rideBegun_grid (k : Nat) (s : State) (c : Nat) : ((s.rideBegun k).chn c).grid = (s.chn c).grid := by
  have kept : ∀ x : State, (x.rideShown k).chn c = x.chn c := fun _ => rfl
  rw [State.rideBegun, kept, setMode_grid (.inr rfl)]

theorem rideShown_rd (s : State) (k : Nat) {a : Nat} (h : a ≠ A.SYS_RIDE_STAT) : (s.rideShown k).rd a = s.rd a :=
  (State.rd_put_ne _ h _).trans (State.rd_put_ne s h _)

theorem rideShown_ride (s : State) (k : Nat) : (s.rideShown k).flag F.SYS_RIDE_STAT_RIDE = true :=
  (State.flag_congr (get_put_beside (f := F.SYS_RIDE_STAT_CAUSE) _ (by decide) (by decide) k)).trans
    (State.flag_putb_same s (by decide) (Nat.le_refl 0) true)

theorem rideShown_cause (s : State) {k : Nat} (hk : k < 8) : (s.rideShown k).get F.SYS_RIDE_STAT_CAUSE = k :=
  (State.get_put_same (f := F.SYS_RIDE_STAT_CAUSE) _ (by decide) k).trans (Nat.mod_eq_of_lt hk)

theorem rideBegun_mode (k : Nat) (s : State) : (s.rideBegun k).mode = mRIDE :=
  (State.get_congr (rideShown_rd _ k (by decide))).trans (setMode_mode (.inr rfl) 2)

theorem rideBegun_prev (k : Nat) (s : State) : (s.rideBegun k).get F.SYS_MODE_PREV = s.mode % 8 :=
  (State.get_congr (rideShown_rd _ k (by decide))).trans (setMode_prev (.inr rfl) 2)

/-! ### The entry is counted -/

theorem Frame.rideCounted (h : Frame true ps W s u) (ht : .t ∈ ps) (hr : .ride ∈ ps)
    (hw : ∀ a ∈ A.SYS_RIDE_STAT :: A.SYS_RIDE_CNT :: recWords, W a) : Frame true ps W s u.rideCounted :=
  Frame.recTrigger (((h.modT ht _).inc (f := F.SYS_RIDE_CNT_ENT_CNT) (hw _ (by simp [F.SYS_RIDE_CNT_ENT_CNT])) 1).raise
    (f := F.SYS_RIDE_STAT_ENTER) (hw _ (by simp [F.SYS_RIDE_STAT_ENTER])) (by decide) []) hr
      fun a ha => hw a (List.mem_cons_of_mem _ (List.mem_cons_of_mem _ ha))

/-- The recorder's trigger is not seen in the words of RIDE. -/
theorem rideCounted_rd (s : State) {a : Nat} (ha : a ∉ recWords) (hq : bookAddr a = false) : s.rideCounted.rd a =
    (s.rideEntered.raise F.SYS_RIDE_STAT_ENTER).rd a :=
  (Frame.recTrigger (Frame.refl true [.ride] (· ∈ recWords) _) (by simp) fun _ => id).words a ha fun _ => hq

theorem rideCounted_enter (s : State) : s.rideCounted.flag F.SYS_RIDE_STAT_ENTER = true :=
  (State.flag_congr (State.get_congr (rideCounted_rd s (by decide) (by decide)))).trans (flag_raise_own (by decide) [] _)

theorem rideCounted_beside (s : State) {g : Fld} (ha : g.addr = A.SYS_RIDE_STAT) (hg : F.SYS_RIDE_STAT_ENTER.beside g = true) :
    s.rideCounted.get g = s.get g :=
  (State.get_congr (rideCounted_rd s (by rw [ha]; decide) (by rw [ha]; decide))).trans ((get_raise_beside (by decide) [] _ hg).trans
    (State.get_put_ne s (by rw [ha]; decide) _))

theorem rideCounted_count (s : State) : s.rideCounted.get F.SYS_RIDE_CNT_ENT_CNT = (s.get F.SYS_RIDE_CNT_ENT_CNT + 1) % 65536 :=
  (State.get_congr ((rideCounted_rd s (by decide) (by decide)).trans (raise_rd (by decide) [] _ (by decide) (by decide)))).trans
    ((State.get_put_same s (by decide) _).trans (Nat.mod_mod _ _))

theorem rideCounted_frame (s : State) : Frame true [.t, .ride] (· ∈ A.SYS_RIDE_STAT :: A.SYS_RIDE_CNT :: recWords) s s.rideCounted :=
  (Frame.refl ..).rideCounted (by simp) (by simp) fun _ => id

/-! ### RIDE_ENTRY -/

/-- The snapshots of the ACTIVE GRID channels. -/
abbrev State.rideSnapshots (s : State) : State := s.each s.activeGrid State.rideSnapshot

theorem rideSnapshots_frame (s : State) : Frame true chanParts (fun a => ∃ c < 8, a = A.RIDE_CH_STAT c) s s.rideSnapshots :=
  Frame.each _ (fun c hc _ => (Frame.refl ..).rideSnapshot (chan_mem_chanParts (activeGrid_lt c hc)) ⟨c, activeGrid_lt c hc, rfl⟩) (Frame.refl ..)

theorem rideSnapshots_device (s : State) {a : Nat} (ha : a < 0x100000) (hq : bookAddr a = false) : s.rideSnapshots.rd a = s.rd a :=
  (rideSnapshots_frame s).words a (by rintro ⟨c, -, h⟩; exact device_ne_chan ha c _ h) fun _ => hq

/-- An ACTIVE GRID channel has its snapshot, and stays ACTIVE. -/
theorem rideSnapshots_active {c : Nat} (hc : c < 8) (hact : s.gridActive c = true) : (s.rideSnapshots.chn c).grid.riding = true ∧
    (s.rideSnapshots.chn c).grid.snap.take 7 = s.rideGains c ∧ s.rideSnapshots.gridActive c = true := by
  obtain ⟨x, before, after⟩ := each_around separate_rideSnapshot activeGrid_lt activeGrid_nodup (mem_activeGrid.mpr ⟨hc, hact⟩) s
  obtain ⟨riding, taken⟩ := rideSnapshot_grid hc x
  have gains : x.rideGains c = s.rideGains c := rideGains_congr fun o ho => before.rd (by omega)
  have role : (x.rideSnapshot c).gridActive c = x.gridActive c := gridActive_congr fun o ho =>
    (Frame.rideSnapshot (Frame.refl true [.chan c] (· = A.RIDE_CH_STAT c) x) (List.mem_singleton_self _) rfl).words _
      (chan_words_ne c (by simp only [List.mem_cons, List.not_mem_nil, or_false] at ho; omega)) fun _ => chan_word_quiet c o
  rw [after.chn]
  exact ⟨riding, taken.trans gains, after.gridActive.trans (role.trans (before.gridActive.trans hact))⟩

/-- Any other channel is as it was. -/
theorem rideSnapshots_other {c : Nat} (hc : c < 8) (hact : s.gridActive c = false) : s.rideSnapshots.chn c = s.chn c :=
  (each_apart separate_rideSnapshot hc activeGrid_lt (fun h => by simp [mem_activeGrid, hact] at h) s).chn

end Sys2Proof.Machine
end

section
/-! SUPPORT. RIDE_DETECTOR_ARM and RIDE_ENTRY (05 R144–R146). -/

namespace Sys2Proof.Machine

variable {s : State}

/-! ### What RIDE_ENTRY does, read off its end -/

/-- RIDE begins for cause `k`, the ACTIVE GRID channels take their snapshots, and the entry is counted. -/
def State.rideStarted (k : Nat) (s : State) : State := (s.rideBegun k).rideSnapshots.rideCounted

section
variable (k : Nat) (s : State)

theorem rideStarted_mode {g : Fld} (hg : g.addr = A.SYS_MODE) : (s.rideStarted k).get g = (s.rideBegun k).get g :=
  State.get_congr (hg ▸ ((rideCounted_frame _).words A.SYS_MODE (by decide) fun _ => by decide).trans
    (rideSnapshots_device _ (by decide) (by decide)))

theorem rideStarted_stat {g : Fld} (ha : g.addr = A.SYS_RIDE_STAT) (hg : F.SYS_RIDE_STAT_ENTER.beside g = true) :
    (s.rideStarted k).get g = (s.rideBegun k).get g :=
  (rideCounted_beside _ ha hg).trans (State.get_congr (rideSnapshots_device _ (by rw [ha]; decide) (by rw [ha]; decide)))

theorem rideStarted_count : (s.rideStarted k).get F.SYS_RIDE_CNT_ENT_CNT = (s.get F.SYS_RIDE_CNT_ENT_CNT + 1) % 65536 := by
  have apart : ¬ rideModeWords A.SYS_RIDE_CNT := by
    rintro (h | ⟨c, -, h⟩)
    · exact absurd h (by decide)
    · exact device_ne_chan (by decide) c _ h
  have before : (s.rideBegun k).rideSnapshots.get F.SYS_RIDE_CNT_ENT_CNT = s.get F.SYS_RIDE_CNT_ENT_CNT := State.get_congr
    ((rideSnapshots_device _ (by decide) (by decide)).trans ((rideBegun_frame k s).words A.SYS_RIDE_CNT apart fun _ => by decide))
  rw [State.rideStarted, rideCounted_count, before]

theorem rideStarted_chn (c : Nat) : (s.rideStarted k).chn c = (s.rideBegun k).rideSnapshots.chn c :=
  (rideCounted_frame _).parts (.chan c) (by simp)

theorem rideStarted_riding {c : Nat} (hc : c < 8) : ((s.rideStarted k).chn c).grid.riding = (s.gridActive c || (s.chn c).grid.riding) := by
  rw [rideStarted_chn]
  cases hact : s.gridActive c
  · rw [rideSnapshots_other hc ((rideBegun_gridActive k s c).trans hact), rideBegun_grid, Bool.false_or]
  · rw [(rideSnapshots_active hc ((rideBegun_gridActive k s c).trans hact)).1, Bool.true_or]

theorem rideBegun_gains (c : Nat) : (s.rideBegun k).rideGains c = s.rideGains c := by
  have word : ∀ {o : Nat}, 0xC000 ≤ o ∧ o < 0x10000 → (s.rideBegun k).rd (chBase c + o) = s.rd (chBase c + o) := rideBegun_chan k s c
  exact rideGains_congr fun o ho => word (by omega)

theorem rideStarted_active {c : Nat} (hc : c < 8) (hact : s.gridActive c = true) : (s.rideStarted k).cst c = sACTIVE ∧
    ((s.rideStarted k).chn c).grid.snap.take 7 = s.rideGains c := by
  obtain ⟨-, taken, stays⟩ := rideSnapshots_active hc ((rideBegun_gridActive k s c).trans hact)
  have still : (s.rideBegun k).rideSnapshots.cst c = sACTIVE := by
    simp only [State.gridActive, Bool.and_eq_true, beq_iff_eq] at stays; exact stays.2
  have device : ∀ a ∈ A.SYS_RIDE_STAT :: A.SYS_RIDE_CNT :: recWords, a < 0x100000 := by decide
  have word : (s.rideStarted k).rd (A.ROLE_STAT c) = (s.rideBegun k).rideSnapshots.rd (A.ROLE_STAT c) :=
    (rideCounted_frame _).words _ (fun h => device_ne_chan (device _ h) c _ rfl) fun _ => chan_word_quiet c _
  refine ⟨(State.get_congr word).trans still, ?_⟩
  rw [rideStarted_chn, taken, rideBegun_gains]

theorem rideStarted_frame : Frame true (.t :: .ride :: .timers :: chanParts)
    (fun a => a ∈ [A.SYS_MODE, A.SYS_RIDE_STAT, A.SYS_RIDE_CNT, A.ER_STAT, A.REC_STAT, A.REC_CNT, A.REC_LEN] ∨
      ∃ c, c < 8 ∧ a ∈ [A.PWM_FSTAT c, A.RIDE_CH_STAT c]) s (s.rideStarted k) := by
  have begun := (rideBegun_frame k s).mono (ps' := .t :: .ride :: .timers :: chanParts)
    (W' := fun a => a ∈ [A.SYS_MODE, A.SYS_RIDE_STAT, A.SYS_RIDE_CNT, A.ER_STAT, A.REC_STAT, A.REC_CNT, A.REC_LEN] ∨
      ∃ c, c < 8 ∧ a ∈ [A.PWM_FSTAT c, A.RIDE_CH_STAT c]) (by simp +contextual) (by
        rintro a (h | ⟨c, hc, h⟩)
        · simp only [List.mem_cons, List.not_mem_nil, or_false] at h ⊢; tauto
        · exact .inr ⟨c, hc, by simp [h]⟩)
  refine (begun.trans ((rideSnapshots_frame _).mono (by simp +contextual) ?_)).trans ((rideCounted_frame _).mono (by simp) ?_)
  · rintro a ⟨c, hc, h⟩
    exact .inr ⟨c, hc, by simp [h]⟩
  · intro a h
    simp only [List.mem_cons, List.not_mem_nil, or_false] at h ⊢
    tauto

end

/-! ### The rows -/

section
variable (hr : s.runs = true)
include hr

theorem completes_rideDetectorArm (hen : s.flag F.SYS_RIDE_CFG_EN = true) (hm : s.mode = mRUN ∨ s.mode = mRIDE)
    (hn : s.held .normal (secClk (s.rd (A.RB_T_EXIT s.bank))) = true) : completes .rideDetectorArm s fun t =>
      Edited A.SYS_RIDE_STAT [(F.SYS_RIDE_STAT_ARMED, 1)] s t ∧ Frame false [] (· = A.SYS_RIDE_STAT) s t := by
  have armed : s.rideArm = s.putb F.SYS_RIDE_STAT_ARMED true := if_pos ⟨hen, hm, hn⟩
  refine completes_clocked rfl hr ?_
  rw [armed]
  exact ⟨(settle_rd ..).trans (State.rd_wr_same ..),
    ((Frame.refl false [] (· = A.SYS_RIDE_STAT) s).putb (f := F.SYS_RIDE_STAT_ARMED) rfl true).settle⟩

theorem completes_rideEntry (hk : s.rideCause ≠ 0) (ha : s.anyGridActive = true) :
    completes .rideEntry s fun t => t.mode = mRIDE ∧ t.get F.SYS_MODE_PREV = mRUN ∧ t.flag F.SYS_RIDE_STAT_RIDE = true ∧
      t.get F.SYS_RIDE_STAT_CAUSE = s.rideCause ∧ t.flag F.SYS_RIDE_STAT_ENTER = true ∧
      t.get F.SYS_RIDE_CNT_ENT_CNT = (s.get F.SYS_RIDE_CNT_ENT_CNT + 1) % 65536 ∧
      (∀ c : Fin 8, (t.chn c.val).grid.riding = (s.gridActive c.val || (s.chn c.val).grid.riding)) ∧
      (∀ c : Fin 8, s.gridActive c.val = true → t.cst c.val = sACTIVE ∧ (t.chn c.val).grid.snap.take 7 = s.rideGains c.val) ∧
      Frame true (.t :: .ride :: .timers :: chanParts)
        (fun a => a ∈ [A.SYS_MODE, A.SYS_RIDE_STAT, A.SYS_RIDE_CNT, A.ER_STAT, A.REC_STAT, A.REC_CNT, A.REC_LEN] ∨
          ∃ c, c < 8 ∧ a ∈ [A.PWM_FSTAT c, A.RIDE_CH_STAT c]) s t := by
  have entered : s.rideEntry = s.rideStarted s.rideCause := rideEntry_enters hk ha
  refine completes_clocked rfl hr ?_
  rw [entered]
  refine ⟨?mode, ?prev, ?ride, ?cause, ?enter, (settle_get ..).trans (rideStarted_count ..), fun c => rideStarted_riding _ s c.isLt,
    fun c hact => ?active, (rideStarted_frame _ s).settle⟩
  case mode => exact (settle_get ..).trans ((rideStarted_mode _ s rfl).trans (rideBegun_mode ..))
  case prev => rw [settle_get, rideStarted_mode _ s rfl, rideBegun_prev, mode_of_rideCause hk]; rfl
  case ride => exact (settle_flag ..).trans ((State.flag_congr (rideStarted_stat _ s rfl (by decide))).trans (rideShown_ride ..))
  case cause => exact (settle_get ..).trans ((rideStarted_stat _ s rfl (by decide)).trans (rideShown_cause _ (rideCause_lt s)))
  case enter => exact (settle_flag ..).trans (rideCounted_enter _)
  case active =>
    obtain ⟨still, taken⟩ := rideStarted_active s.rideCause s c.isLt hact
    exact ⟨(settle_get ..).trans still, taken⟩

/-- Without an ACTIVE GRID channel the condition is recorded as an excursion, once. -/
theorem completes_rideEntry_excursion (hk : s.rideCause ≠ 0) (ha : s.anyGridActive = false) (hd : s.ride.excDone = false) :
    completes .rideEntry s fun t => Raised F.SYS_RIDE_STAT_EXCURSION s t ∧ t.ride = { s.ride with excDone := true } ∧
      Frame true [.ride] (· = A.SYS_RIDE_STAT) s t := by
  have excursion : s.rideEntry = (s.modRide fun r => { r with excDone := true }).raise F.SYS_RIDE_STAT_EXCURSION := by
    simp [State.rideEntry, hk, ha, hd]
  refine completes_clocked rfl hr ?_
  rw [excursion]
  refine ⟨(settle_rd ..).trans (raise_raised (s.modRide _) (by decide) (by decide)), ?_, ?_⟩
  · rw [settle_ride, raise_ride (by decide)]; rfl
  · exact (((Frame.refl true [.ride] (· = A.SYS_RIDE_STAT) s).modRide (by simp) _).raise (f := F.SYS_RIDE_STAT_EXCURSION) rfl (by decide) []).settle

end

end Sys2Proof.Machine
end

section
/-! SUPPORT. Protective trips by GRIDPROT, and its release (05 R148, R149; 08 R255). -/

namespace Sys2Proof.Machine

variable {ev : Bool} {ps : List Part} {W : Nat → Prop} {s u : State} {c : Nat}

/-! ### The trip of one channel -/

/-- Words that a trip of channel `c` by GRIDPROT may change. -/
def protWords (c a : Nat) : Prop := tripWords c a ∨ a = A.GDI_IN c

theorem protWords_block {a : Nat} (h : protWords c a) : chBase c ≤ a ∧ a < chBase c + 0x10000 := by
  rcases h with (h | ⟨k, hk, h | h⟩) | h
  · simp only [List.mem_cons, List.not_mem_nil, or_false, A.GDI_STAT, A.GDI_SRC, A.GDI_TRQ_N, A.GDI_CNT, A.GDI_EVT, A.PWM_FORCE,
      A.PWM_FSTAT, A.ROLE_STAT, A.GRID_STAT, A.GRID_EVT, A.DC_STAT, A.DC_EVT, A.MACH_STAT, A.MACH_EVT, A.RIDE_CH_STAT] at h
    omega
  all_goals simp only [A.GDI_TRQ_A, A.GDI_TRQ_B, A.GDI_IN] at h; omega

theorem not_protWords {a : Nat} (ha : a < 0x100000) (c : Nat) : ¬ protWords c a := fun h => by
  have := (protWords_block h).1
  unfold chBase at this
  omega

/-- GRIDPROT turns active, trips the channel and is recorded as a protective trip. -/
def State.protTripped (c : Nat) (s : State) : State :=
  ((s.tripIn c 0x22 true 0).trip c 0x22 0 0).raise (F.RIDE_CH_STAT_PROT_TRIP c)

/-- The protective trip in the turn of channel `c`. -/
abbrev State.protTurn (c : Nat) (s : State) : State := s.gridprot c (F.RIDE_CH_STAT_PROT_TRIP c)

theorem protTrip_isEvent (hc : c < 8) : (F.RIDE_CH_STAT_PROT_TRIP c).isEvent = true := by
  have all : ∀ d : Fin 8, (F.RIDE_CH_STAT_PROT_TRIP d.val).isEvent = true := by decide
  exact all ⟨c, hc⟩

theorem Frame.protTripped (hc : c < 8) (h : Frame true ps W s u) (hp : .chan c ∈ ps) (hw : ∀ a, protWords c a → W a) :
    Frame true ps W s (u.protTripped c) := by
  have own : ∀ a, tripWords c a → W a := fun a ha => hw a (.inl ha)
  exact ((h.tripIn hp (hw _ (.inr rfl)) (own (A.GDI_STAT c) (.inl (by simp))) 0x22 true 0).trip hc hp own 0x22 0 0).raise
    (own (A.RIDE_CH_STAT c) (.inl (by simp))) (event_low (protTrip_isEvent hc)) []

theorem Frame.protTurn (hc : c < 8) (h : Frame true ps W s u) (hp : .chan c ∈ ps) (hw : ∀ a, protWords c a → W a)
    (hs : W A.SYS_RIDE_STAT) : Frame true ps W s (u.protTurn c) :=
  (Frame.protTripped hc h hp hw).putb (f := F.SYS_RIDE_STAT_PROT) hs true

theorem separate_protTurn : Separate State.protTurn :=
  separate_of_frame (W := fun d a => protWords d a ∨ a = A.SYS_RIDE_STAT)
    (fun _ hd _ => Frame.protTurn hd (Frame.refl ..) (List.mem_singleton_self _) (fun _ => .inl) (.inr rfl))
    fun _ _ h => h.elim (fun h => .inr (protWords_block h)) fun h => .inl (h ▸ by decide)

/-- The trip leaves the words of the device but GRIDPROT's own bit. -/
theorem protTurn_stat (hc : c < 8) (s : State) {g : Fld} (ha : g.addr = A.SYS_RIDE_STAT) (hg : F.SYS_RIDE_STAT_PROT.beside g = true) :
    (s.protTurn c).flag g = s.flag g := by
  have frame : Frame true [.chan c] (protWords c) s (s.protTripped c) :=
    Frame.protTripped hc (Frame.refl ..) (List.mem_singleton_self _) fun _ => id
  exact (flag_putb_beside _ (by decide) hg true).trans (State.flag_congr (State.get_congr
    (frame.words g.addr (not_protWords (by rw [ha]; decide) c) fun _ => by rw [ha]; decide)))

theorem protTurn_prot (c : Nat) (s : State) : (s.protTurn c).flag F.SYS_RIDE_STAT_PROT = true :=
  State.flag_putb_same _ (by decide) (Nat.le_refl 5) true

theorem gridprot_implemented (hc : c < 8) : bit (implMask (A.GDI_IN c)) (srcBit 0x22) = true := by
  have all : ∀ d : Fin 8, bit (implMask (A.GDI_IN d.val)) (srcBit 0x22) = true := by decide
  exact all ⟨c, hc⟩

/-- The channel is tripped by GRIDPROT, which stands among its trip inputs, and the trip is recorded. -/
theorem protTurn_tripped (hc : c < 8) (s : State) : (s.protTurn c).flag (F.GDI_STAT_TRIPPED c) = true ∧
    bit ((s.protTurn c).rd (A.GDI_IN c)) (srcBit 0x22) = true ∧ (s.protTurn c).flag (F.RIDE_CH_STAT_PROT_TRIP c) = true := by
  have event := protTrip_isEvent hc
  have shown : ∀ (x : State) (o : Nat), (x.putb F.SYS_RIDE_STAT_PROT true).rd (chBase c + o) = x.rd (chBase c + o) := fun x o =>
    State.rd_put_ne x (device_ne_chan (by decide) c o).symm _
  have tripped : ∀ {o : Nat}, o ≠ 0xC304 → (s.protTurn c).rd (chBase c + o) =
      ((s.tripIn c 0x22 true 0).trip c 0x22 0 0).rd (chBase c + o) := fun {o} ho =>
    (shown _ o).trans (raise_rd event [] _ (chan_words_ne c ho) (chan_word_quiet c o))
  refine ⟨?_, ?_, ?_⟩
  · exact (State.flag_congr (State.get_congr (tripped (by decide)))).trans (trip_latches hc _ 0x22 0 0)
  · have input : (s.protTurn c).rd (A.GDI_IN c) = (s.tripIn c 0x22 true 0).rd (A.GDI_IN c) :=
      (tripped (by decide)).trans (trip_rd hc _ (.inl rfl) 0x22 0 0)
    rw [input]
    exact tripIn_bit s c (gridprot_implemented hc) (by decide) true 0
  · exact (State.flag_congr (State.get_congr (shown _ _))).trans (flag_raise_own event [] _)

/-! ### PROTECTIVE_TRIP -/

/-- The causes of a protective trip are recorded (05 R148). -/
def State.protRecorded (lv hv f : Bool) (s : State) : State :=
  ((s.when lv fun x => x.raise F.SYS_RIDE_STAT_LV_TRIP).when hv fun x => x.raise F.SYS_RIDE_STAT_HV_TRIP).when f fun x =>
    x.raise F.SYS_RIDE_STAT_F_TRIP

theorem Frame.protRecorded (h : Frame true ps W s u) (hw : W A.SYS_RIDE_STAT) (lv hv f : Bool) : Frame true ps W s (u.protRecorded lv hv f) :=
  ((h.when lv fun _ => (Frame.refl ..).raise (f := F.SYS_RIDE_STAT_LV_TRIP) hw (by decide) []).when hv fun _ =>
    (Frame.refl ..).raise (f := F.SYS_RIDE_STAT_HV_TRIP) hw (by decide) []).when f fun _ =>
      (Frame.refl ..).raise (f := F.SYS_RIDE_STAT_F_TRIP) hw (by decide) []

theorem protRecorded_rd (lv hv f : Bool) (s : State) {a : Nat} (h : a ≠ A.SYS_RIDE_STAT) (hq : bookAddr a = false) :
    (s.protRecorded lv hv f).rd a = s.rd a :=
  (Frame.protRecorded (Frame.refl true [] (· = A.SYS_RIDE_STAT) s) rfl lv hv f).words a h fun _ => hq

theorem protRecorded_flags (lv hv f : Bool) (s : State) : (lv = true → (s.protRecorded lv hv f).flag F.SYS_RIDE_STAT_LV_TRIP = true) ∧
    (hv = true → (s.protRecorded lv hv f).flag F.SYS_RIDE_STAT_HV_TRIP = true) ∧
    (f = true → (s.protRecorded lv hv f).flag F.SYS_RIDE_STAT_F_TRIP = true) := by
  have beside : ∀ {e g : Fld} (b : Bool) (x : State), e.isEvent = true → e.beside g = true → (x.when b fun y => y.raise e).flag g = x.flag g :=
    fun b x he hg => State.when_unseen (fun y => y.flag _) (fun y => flag_raise_beside he [] y hg) x b
  have own : ∀ {e : Fld} (b : Bool) (x : State), b = true → e.isEvent = true → (x.when b fun y => y.raise e).flag e = true := by
    rintro e b x rfl he
    exact flag_raise_own he [] x
  refine ⟨fun h => ?_, fun h => ?_, fun h => own f _ h (by decide)⟩
  · exact (beside f _ (by decide) (by decide)).trans ((beside hv _ (by decide) (by decide)).trans (own lv s h (by decide)))
  · exact (beside f _ (by decide) (by decide)).trans (own hv _ h (by decide))

/-- The trips of the ACTIVE GRID channels. -/
abbrev State.protTrips (s : State) : State := s.each s.activeGrid State.protTurn

theorem protTrips_stat (s : State) {g : Fld} (ha : g.addr = A.SYS_RIDE_STAT) (hg : F.SYS_RIDE_STAT_PROT.beside g = true) :
    s.protTrips.flag g = s.flag g := State.each_unseen (fun x => x.flag g) (fun c hc x => protTurn_stat (activeGrid_lt c hc) x ha hg) s

theorem protTrips_prot (h : s.anyGridActive = true) : s.protTrips.flag F.SYS_RIDE_STAT_PROT = true := by
  obtain ⟨c, hc, hact⟩ := List.any_eq_true.mp h
  exact State.each_establishes (P := fun x => x.flag F.SYS_RIDE_STAT_PROT = true) (Q := fun _ => True)
    (mem_activeGrid.mpr ⟨lt_of_mem_chans hc, hact⟩) (fun _ _ _ _ => trivial) (fun d _ x _ => protTurn_prot d x)
    (fun x _ => protTurn_prot c x) trivial

theorem protTrips_tripped (hc : c < 8) (hact : s.gridActive c = true) : s.protTrips.flag (F.GDI_STAT_TRIPPED c) = true ∧
    bit (s.protTrips.rd (A.GDI_IN c)) (srcBit 0x22) = true ∧ s.protTrips.flag (F.RIDE_CH_STAT_PROT_TRIP c) = true := by
  obtain ⟨x, -, after⟩ := each_around separate_protTurn activeGrid_lt activeGrid_nodup (mem_activeGrid.mpr ⟨hc, hact⟩) s
  obtain ⟨tripped, input, event⟩ := protTurn_tripped hc x
  exact ⟨(after.flag (by decide)).trans tripped, (congrArg (bit · (srcBit 0x22)) (after.rd (by decide))).trans input,
    (after.flag (by decide)).trans event⟩

theorem Frame.protTrips (h : Frame true ps W s u) (hp : ∀ c < 8, .chan c ∈ ps) (hs : W A.SYS_RIDE_STAT)
    (hw : ∀ c < 8, u.gridActive c = true → ∀ a, protWords c a → W a) : Frame true ps W s u.protTrips :=
  Frame.each _ (fun c hc _ => Frame.protTurn (activeGrid_lt c hc) (Frame.refl ..) (hp c (activeGrid_lt c hc))
    (hw c (activeGrid_lt c hc) (mem_activeGrid.mp hc).2) hs) h

theorem protRecorded_gridActive (lv hv f : Bool) (s : State) (c : Nat) : (s.protRecorded lv hv f).gridActive c = s.gridActive c :=
  gridActive_congr fun o _ => protRecorded_rd lv hv f s (device_ne_chan (by decide) c o).symm (chan_word_quiet c o)

theorem protectiveTrip_acts (hm : s.mode = mRIDE) (hp : (s.protCauses.1 || s.protCauses.2.1 || s.protCauses.2.2) = true)
    (ha : s.anyGridActive = true) : s.protectiveTrip =
      (s.protRecorded s.protCauses.1 s.protCauses.2.1 s.protCauses.2.2).protTrips.inc F.SYS_RIDE_CNT_PROT_CNT := by
  have trips : ¬ (s.mode ≠ mRIDE ∨ ¬ (s.protCauses.1 || s.protCauses.2.1 || s.protCauses.2.2) = true ∨ ¬ s.anyGridActive = true) := by
    simp [hm, hp, ha]
  rw [State.protTrips, ← each_active separate_protTurn]
  exact if_neg trips

/-! ### The rows -/

section
variable (hr : s.runs = true)
include hr

theorem completes_protectiveTrip (hm : s.mode = mRIDE) (hp : (s.protCauses.1 || s.protCauses.2.1 || s.protCauses.2.2) = true)
    (ha : s.anyGridActive = true) : completes .protectiveTrip s fun t => t.flag F.SYS_RIDE_STAT_PROT = true ∧
      (s.protCauses.1 = true → t.flag F.SYS_RIDE_STAT_LV_TRIP = true) ∧ (s.protCauses.2.1 = true → t.flag F.SYS_RIDE_STAT_HV_TRIP = true) ∧
      (s.protCauses.2.2 = true → t.flag F.SYS_RIDE_STAT_F_TRIP = true) ∧
      t.get F.SYS_RIDE_CNT_PROT_CNT = (s.get F.SYS_RIDE_CNT_PROT_CNT + 1) % 65536 ∧
      (∀ c : Fin 8, s.gridActive c.val = true → t.flag (F.GDI_STAT_TRIPPED c.val) = true ∧
        bit (t.rd (A.GDI_IN c.val)) (srcBit 0x22) = true ∧ t.flag (F.RIDE_CH_STAT_PROT_TRIP c.val) = true) ∧
      Frame true chanParts (fun a => a ∈ [A.SYS_RIDE_STAT, A.SYS_RIDE_CNT] ∨ ∃ c, c < 8 ∧ s.gridActive c = true ∧ protWords c a) s t := by
  obtain ⟨b, hb⟩ : ∃ b, b = s.protRecorded s.protCauses.1 s.protCauses.2.1 s.protCauses.2.2 := ⟨_, rfl⟩
  have active : ∀ c, b.gridActive c = s.gridActive c := fun c => hb ▸ protRecorded_gridActive _ _ _ s c
  have any : b.anyGridActive = true := by rw [← ha, State.anyGridActive, State.anyGridActive, funext active]
  obtain ⟨lv, hv, fr⟩ := protRecorded_flags s.protCauses.1 s.protCauses.2.1 s.protCauses.2.2 s
  have stat : ∀ {g : Fld}, g.addr = A.SYS_RIDE_STAT → (b.protTrips.inc F.SYS_RIDE_CNT_PROT_CNT).flag g = b.protTrips.flag g := fun hg =>
    State.flag_put_ne _ (by rw [hg]; decide) _
  have chan : ∀ (c o : Nat), (b.protTrips.inc F.SYS_RIDE_CNT_PROT_CNT).rd (chBase c + o) = b.protTrips.rd (chBase c + o) := fun c o =>
    State.rd_put_ne _ (device_ne_chan (by decide) c o).symm _
  have trips : Frame true chanParts (fun a => a = A.SYS_RIDE_STAT ∨ ∃ c, c < 8 ∧ s.gridActive c = true ∧ protWords c a) s b.protTrips :=
    Frame.protTrips (hb ▸ (Frame.refl ..).protRecorded (.inl rfl) _ _ _) (fun _ => chan_mem_chanParts) (.inl rfl) fun c hc hact a h =>
      .inr ⟨c, hc, (active c).symm.trans hact, h⟩
  refine completes_clocked rfl hr ?_
  rw [protectiveTrip_acts hm hp ha, ← hb]
  refine ⟨?prot, fun h => ?lv, fun h => ?hv, fun h => ?fr, ?count, fun c hact => ?tripped, ?frame⟩
  case prot => exact (settle_flag ..).trans ((stat rfl).trans (protTrips_prot any))
  case lv => exact (settle_flag ..).trans ((stat rfl).trans ((protTrips_stat b rfl (by decide)).trans (hb ▸ lv h)))
  case hv => exact (settle_flag ..).trans ((stat rfl).trans ((protTrips_stat b rfl (by decide)).trans (hb ▸ hv h)))
  case fr => exact (settle_flag ..).trans ((stat rfl).trans ((protTrips_stat b rfl (by decide)).trans (hb ▸ fr h)))
  case count =>
    have before : b.protTrips.get F.SYS_RIDE_CNT_PROT_CNT = s.get F.SYS_RIDE_CNT_PROT_CNT := State.get_congr (trips.words _ (by
      rintro (h | ⟨c, -, -, h⟩)
      · exact absurd h (by decide)
      · exact not_protWords (by decide) c h) fun _ => by decide)
    rw [settle_get, State.inc, State.get_put_same _ (by decide), before]
    exact Nat.mod_mod _ _
  case tripped =>
    obtain ⟨tripped, input, event⟩ := protTrips_tripped c.isLt ((active c.val).trans hact)
    exact ⟨(settle_flag ..).trans ((State.flag_congr (State.get_congr (chan ..))).trans tripped),
      (congrArg (bit · (srcBit 0x22)) ((settle_rd ..).trans (chan ..))).trans input,
      (settle_flag ..).trans ((State.flag_congr (State.get_congr (chan ..))).trans event)⟩
  case frame =>
    refine ((trips.mono (fun _ => id) ?_).inc (f := F.SYS_RIDE_CNT_PROT_CNT) (.inl (by simp [F.SYS_RIDE_CNT_PROT_CNT])) 1).settle
    rintro a (h | h)
    · exact .inl (by simp [h])
    · exact .inr h

end

/-! ### GRIDPROT_RELEASE -/

/-- GRIDPROT turns inactive for channel `c`. -/
abbrev State.releaseTurn (c : Nat) (s : State) : State := s.tripIn c 0x22 false 0

theorem separate_releaseTurn : Separate State.releaseTurn :=
  separate_of_frame (W := fun d a => a ∈ [A.GDI_IN d, A.GDI_STAT d])
    (fun _ _ _ => (Frame.refl ..).tripIn (List.mem_singleton_self _) (by simp) (by simp) 0x22 false 0) fun d a h => .inr (by
      simp only [List.mem_cons, List.not_mem_nil, or_false, A.GDI_IN, A.GDI_STAT] at h; omega)

/-- The input of every channel is inactive, and the latches stay. -/
theorem released_input (hc : c < 8) (s : State) : bit ((s.each chans State.releaseTurn).rd (A.GDI_IN c)) (srcBit 0x22) = false ∧
    (s.each chans State.releaseTurn).flag (F.GDI_STAT_TRIPPED c) = s.flag (F.GDI_STAT_TRIPPED c) := by
  obtain ⟨x, before, after⟩ := each_around separate_releaseTurn (fun _ => lt_of_mem_chans) (by decide) (mem_chans hc) s
  exact ⟨(congrArg (bit · (srcBit 0x22)) (after.rd (by decide))).trans (tripIn_bit x c (gridprot_implemented hc) (by decide) false 0),
    (after.flag (by decide)).trans ((tripIn_tripped hc x 0x22 false 0).trans (before.flag (by decide)))⟩

theorem completes_gridprotRelease (hr : s.runs = true) (hp : s.flag F.SYS_RIDE_STAT_PROT = true)
    (hn : s.held .normal (secClk (s.rd (A.RB_T_RECON s.bank))) = true) : completes .gridprotRelease s fun t =>
      t.flag F.SYS_RIDE_STAT_PROT = false ∧
      (∀ c : Fin 8, bit (t.rd (A.GDI_IN c.val)) (srcBit 0x22) = false ∧ t.flag (F.GDI_STAT_TRIPPED c.val) = s.flag (F.GDI_STAT_TRIPPED c.val)) ∧
      Frame false chanParts (fun a => a = A.SYS_RIDE_STAT ∨ ∃ c, c < 8 ∧ a ∈ [A.GDI_IN c, A.GDI_STAT c]) s t := by
  have released : s.gridprotRelease = (s.each chans State.releaseTurn).putb F.SYS_RIDE_STAT_PROT false := if_pos ⟨hp, hn⟩
  have chan : ∀ (c o : Nat), ((s.each chans State.releaseTurn).putb F.SYS_RIDE_STAT_PROT false).rd (chBase c + o) =
      (s.each chans State.releaseTurn).rd (chBase c + o) := fun c o => State.rd_put_ne _ (device_ne_chan (by decide) c o).symm _
  refine completes_clocked rfl hr ?_
  rw [released]
  refine ⟨(settle_flag ..).trans (State.flag_putb_same _ (by decide) (Nat.le_refl 5) false), fun c => ?_, ?_⟩
  · obtain ⟨input, latch⟩ := released_input c.isLt s
    exact ⟨(congrArg (bit · (srcBit 0x22)) ((settle_rd ..).trans (chan ..))).trans input,
      (settle_flag ..).trans ((State.flag_congr (State.get_congr (chan ..))).trans latch)⟩
  · refine ((Frame.each _ (fun c hc x => ?_) (Frame.refl ..)).putb (f := F.SYS_RIDE_STAT_PROT) (.inl rfl) false).settle
    have hlt : c < 8 := lt_of_mem_chans hc
    exact (Frame.refl ..).tripIn (chan_mem_chanParts hlt) (.inr ⟨c, hlt, by simp⟩) (.inr ⟨c, hlt, by simp⟩) 0x22 false 0

end Sys2Proof.Machine
end

section
/-! SUPPORT. RIDE ends (05 R147, R154). -/

namespace Sys2Proof.Machine

variable {ev : Bool} {ps : List Part} {W : Nat → Prop} {s u : State} {c k : Nat}

/-! ### A channel leaves RIDE -/

/-- The channel acted on its snapshot: the ramp of R154 starts from its reference, and so does the reference of FORM_CL (`cl`). -/
def GridSt.left (acts cl : Bool) (x : GridSt) : GridSt :=
  { x with
    riding := false,
    recD := if acts then x.refD else x.recD, recQ := if acts then x.refQ else x.recQ,
    clD := if acts && cl then x.refD else x.clD, clQ := if acts && cl then x.refQ else x.clQ }

/-- The channel acted on its snapshot in RIDE. -/
def State.leavesActing (s : State) (c : Nat) : Bool := (s.chn c).grid.riding && s.gridActive c

/-- The channel leaves its snapshot, and its status no longer shows RIDE. -/
def State.rideLeaving (c : Nat) (s : State) : State :=
  ((s.modGrid c (GridSt.left (s.leavesActing c) (s.sub c == mFORM_CL))).putb (F.RIDE_CH_STAT_RIDE_REF c) false).putb
    (F.RIDE_CH_STAT_LIMITED c) false

theorem rideLeaving_sub (s : State) (c : Nat) : (s.rideLeaving c).sub c = s.sub c :=
  State.get_congr ((State.rd_put_ne _ (chan_words_ne c (by decide)) _).trans (State.rd_put_ne _ (chan_words_ne c (by decide)) _))

/-- Then, where it acted in FOLLOW, it recovers by the ramp of R154. -/
theorem rideLeave_eq (c : Nat) (s : State) : s.rideLeave c = (s.rideLeaving c).when (s.leavesActing c && s.sub c == mFOLLOW) fun x =>
    x.putb (F.RIDE_CH_STAT_RECOV c) true := by
  rw [← rideLeaving_sub s c]
  rfl

theorem Frame.rideLeave (h : Frame ev ps W s u) (hp : .chan c ∈ ps) (hw : W (A.RIDE_CH_STAT c)) : Frame ev ps W s (u.rideLeave c) := by
  rw [rideLeave_eq]
  exact (((h.modGrid hp _).putb (f := F.RIDE_CH_STAT_RIDE_REF c) hw false).putb (f := F.RIDE_CH_STAT_LIMITED c) hw false).when _ fun _ =>
    (Frame.refl ..).putb (f := F.RIDE_CH_STAT_RECOV c) hw true

theorem rideLeave_grid (hc : c < 8) (s : State) :
    ((s.rideLeave c).chn c).grid = (s.chn c).grid.left (s.leavesActing c) (s.sub c == mFORM_CL) := by
  have recovers : ∀ x : State, ((x.putb (F.RIDE_CH_STAT_RECOV c) true).chn c).grid = (x.chn c).grid := fun _ => rfl
  have left : (s.rideLeaving c).chn c = (s.modGrid c (GridSt.left (s.leavesActing c) (s.sub c == mFORM_CL))).chn c := rfl
  rw [rideLeave_eq, State.when_unseen (fun x => (x.chn c).grid) recovers, left]
  exact congrArg Ch.grid (State.chn_modCh_same s hc _)

theorem rideCh_beside (hc : c < 8) : (F.RIDE_CH_STAT_LIMITED c).beside (F.RIDE_CH_STAT_RIDE_REF c) = true ∧
    (F.RIDE_CH_STAT_RECOV c).beside (F.RIDE_CH_STAT_RIDE_REF c) = true := by
  have all : ∀ d : Fin 8, (F.RIDE_CH_STAT_LIMITED d.val).beside (F.RIDE_CH_STAT_RIDE_REF d.val) = true ∧
      (F.RIDE_CH_STAT_RECOV d.val).beside (F.RIDE_CH_STAT_RIDE_REF d.val) = true := by decide
  exact all ⟨c, hc⟩

theorem rideLeave_ref (hc : c < 8) (s : State) : (s.rideLeave c).flag (F.RIDE_CH_STAT_RIDE_REF c) = false := by
  obtain ⟨limited, recov⟩ := rideCh_beside hc
  rw [rideLeave_eq, State.when_unseen (fun x => x.flag (F.RIDE_CH_STAT_RIDE_REF c)) (fun x => flag_putb_beside x (by decide : 1 < 32) recov true)]
  exact (flag_putb_beside _ (by decide : 2 < 32) limited false).trans (State.flag_putb_same _ (chanFld_ok hc (by decide)) (Nat.le_refl 0) false)

/-- A channel that acted in FOLLOW recovers by the ramp of R154. -/
theorem rideLeave_recov (hc : c < 8) (h : s.leavesActing c = true) (hsub : s.sub c = mFOLLOW) :
    (s.rideLeave c).flag (F.RIDE_CH_STAT_RECOV c) = true := by
  have recovers : (s.leavesActing c && s.sub c == mFOLLOW) = true := by simp [h, hsub]
  rw [rideLeave_eq, recovers, when_true]
  exact State.flag_putb_same _ (chanFld_ok hc (by decide)) (Nat.le_refl 1) true

theorem separate_rideLeave : Separate State.rideLeave :=
  separate_of_frame (W := fun d a => a = A.RIDE_CH_STAT d) (fun _ _ _ => (Frame.refl ..).rideLeave (List.mem_singleton_self _) rfl)
    fun d a h => .inr (by rw [h]; unfold A.RIDE_CH_STAT; omega)

/-- Every channel leaves RIDE. -/
abbrev State.rideLeft (s : State) : State := s.each chans State.rideLeave

theorem Frame.rideLeft (h : Frame ev ps W s u) (hp : ∀ c < 8, .chan c ∈ ps) (hw : ∀ c < 8, W (A.RIDE_CH_STAT c)) : Frame ev ps W s u.rideLeft :=
  Frame.each _ (fun c hc _ => (Frame.refl ..).rideLeave (hp c (lt_of_mem_chans hc)) (hw c (lt_of_mem_chans hc))) h

theorem rideLeft_device (s : State) {a : Nat} (ha : a < 0x100000) : s.rideLeft.rd a = s.rd a :=
  (Frame.rideLeft (Frame.refl false chanParts (fun b => ∃ c < 8, b = A.RIDE_CH_STAT c) s) (fun _ => chan_mem_chanParts)
    fun c hc => ⟨c, hc, rfl⟩).words a (by rintro ⟨c, -, h⟩; exact device_ne_chan ha c _ h) (by simp)

theorem rideLeft_channel (hc : c < 8) (s : State) : (s.rideLeft.chn c).grid.riding = false ∧
    s.rideLeft.flag (F.RIDE_CH_STAT_RIDE_REF c) = false := by
  obtain ⟨x, -, after⟩ := each_around separate_rideLeave (fun _ => lt_of_mem_chans) (by decide) (mem_chans hc) s
  rw [after.chn, rideLeave_grid hc]
  exact ⟨rfl, (after.flag (by decide)).trans (rideLeave_ref hc x)⟩

theorem rideLeft_recovers (hc : c < 8) (h : s.leavesActing c = true) (hsub : s.sub c = mFOLLOW) :
    s.rideLeft.flag (F.RIDE_CH_STAT_RECOV c) = true ∧ (s.rideLeft.chn c).grid.recD = (s.chn c).grid.refD := by
  obtain ⟨x, before, after⟩ := each_around separate_rideLeave (fun _ => lt_of_mem_chans) (by decide) (mem_chans hc) s
  have acts : x.leavesActing c = true := by rw [← h, State.leavesActing, State.leavesActing, before.chn, before.gridActive]
  have sub : x.sub c = mFOLLOW := (State.get_congr (before.rd (by decide))).trans hsub
  rw [after.chn, rideLeave_grid hc, before.chn, acts]
  exact ⟨(after.flag (by decide)).trans (rideLeave_recov hc acts sub), rfl⟩

/-! ### The mode is RUN again -/

/-- The event of the ground on which RIDE ends (05 R147). -/
abbrev exitEvent (k : Nat) : Fld :=
  if k = 1 then F.SYS_RIDE_STAT_EXIT_NORMAL else if k = 2 then F.SYS_RIDE_STAT_EXIT_TIMEOUT else F.SYS_RIDE_STAT_EXIT_LAST

theorem exitEvent_laws (k : Nat) : (exitEvent k).addr = A.SYS_RIDE_STAT ∧ (exitEvent k).isEvent = true ∧
    (exitEvent k).beside F.SYS_RIDE_STAT_RIDE = true ∧ (exitEvent k).beside F.SYS_RIDE_STAT_ARMED = true := by
  unfold exitEvent
  split
  · decide
  · split <;> decide

/-- RIDE is no longer shown, its time stops, and the detector disarms unless the PCC is normal (ground 1; 05 R147). -/
def State.rideCleared (k : Nat) (s : State) : State :=
  ((s.putb F.SYS_RIDE_STAT_RIDE false).hold .ride false).when (k != 1) fun x => x.putb F.SYS_RIDE_STAT_ARMED false

/-- RUN again, with the ground recorded (05 R147). -/
def State.rideEnded (k : Nat) (s : State) : State := ((s.setMode mRUN 3).rideCleared k).raise (exitEvent k)

theorem rideExit_leaves (h : s.rideEndCode ≠ 0) : s.rideExit = s.rideLeft.rideEnded s.rideEndCode := if_neg h

theorem mode_of_rideEndCode (h : s.rideEndCode ≠ 0) : s.mode = mRIDE := by
  by_contra hm
  exact h (if_pos hm)

theorem Frame.rideCleared (h : Frame ev ps W s u) (ht : .timers ∈ ps) (hw : W A.SYS_RIDE_STAT) (k : Nat) :
    Frame ev ps W s (u.rideCleared k) :=
  ((h.putb (f := F.SYS_RIDE_STAT_RIDE) hw false).hold ht .ride false).when _ fun _ =>
    (Frame.refl ..).putb (f := F.SYS_RIDE_STAT_ARMED) hw false

theorem rideCleared_rd (s : State) (k : Nat) {a : Nat} (h : a ≠ A.SYS_RIDE_STAT) : (s.rideCleared k).rd a = s.rd a :=
  (Frame.rideCleared (Frame.refl false [.timers] (· = A.SYS_RIDE_STAT) s) (by simp) rfl k).words a h (by simp)

theorem rideCleared_chn (s : State) (k c : Nat) : (s.rideCleared k).chn c = s.chn c :=
  (Frame.rideCleared (Frame.refl false [.timers] (· = A.SYS_RIDE_STAT) s) (by simp) rfl k).parts (.chan c) (by simp)

theorem rideCleared_ride (s : State) (k : Nat) : (s.rideCleared k).flag F.SYS_RIDE_STAT_RIDE = false := by
  rw [State.rideCleared, State.when_unseen (fun x => x.flag F.SYS_RIDE_STAT_RIDE) (fun x => flag_putb_beside x (by decide) (by decide) false),
    State.flag_congr (State.get_congr (hold_rd ..))]
  exact State.flag_putb_same s (by decide) (Nat.le_refl 0) false

theorem rideCleared_armed (s : State) (k : Nat) : (s.rideCleared k).flag F.SYS_RIDE_STAT_ARMED = (s.flag F.SYS_RIDE_STAT_ARMED && k == 1) := by
  rw [State.rideCleared]
  cases hk : k == 1
  · rw [Bool.and_false, bne, hk, Bool.not_false, when_true]
    exact State.flag_putb_same _ (by decide) (Nat.le_refl 1) false
  · rw [Bool.and_true, bne, hk, Bool.not_true, when_false]
    exact (State.flag_congr (State.get_congr (hold_rd ..))).trans
      (flag_putb_beside s (f := F.SYS_RIDE_STAT_RIDE) (g := F.SYS_RIDE_STAT_ARMED) (by decide) (by decide) false)

theorem rideEnded_rd (s : State) (k : Nat) {a : Nat} (h : a ≠ A.SYS_RIDE_STAT) (hq : bookAddr a = false) :
    (s.rideEnded k).rd a = (s.setMode mRUN 3).rd a := by
  obtain ⟨addr, event, -, -⟩ := exitEvent_laws k
  exact (raise_rd event [] _ (by rw [addr]; exact h) hq).trans (rideCleared_rd _ k h)

theorem rideEnded_grid (s : State) (k c : Nat) : ((s.rideEnded k).chn c).grid = (s.chn c).grid := by
  rw [State.rideEnded, raise_chn (exitEvent_laws k).2.1, rideCleared_chn, setMode_grid (.inl rfl)]

/-- The words of a channel beside the forced slots stay. -/
theorem rideEnded_chan (s : State) (k c : Nat) {o : Nat} (ho : 0xC000 ≤ o ∧ o < 0x10000) :
    (s.rideEnded k).rd (chBase c + o) = s.rd (chBase c + o) := by
  have device : ∀ {a : Nat}, a < 0x100000 → chBase c + o ≠ a := fun ha => (device_ne_chan ha c o).symm
  refine (rideEnded_rd s k (device (by decide)) (chan_word_quiet c o)).trans (setMode_rd (.inl rfl) 3 (device (by decide)) (device (by decide))
    (fun d _ => ?_) (chan_word_quiet c o))
  simp only [A.PWM_FSTAT, chBase]; omega

/-- What SYS_RIDE_STAT shows of the end. -/
theorem rideEnded_stat (s : State) (k : Nat) : (s.rideEnded k).flag F.SYS_RIDE_STAT_RIDE = false ∧ (s.rideEnded k).flag (exitEvent k) = true ∧
    (s.rideEnded k).flag F.SYS_RIDE_STAT_ARMED = (s.flag F.SYS_RIDE_STAT_ARMED && k == 1) := by
  obtain ⟨-, event, ride, armed⟩ := exitEvent_laws k
  have stat : (s.setMode mRUN 3).flag F.SYS_RIDE_STAT_ARMED = s.flag F.SYS_RIDE_STAT_ARMED := State.flag_congr (State.get_congr
    (setMode_rd (.inl rfl) 3 (by decide) (by decide) (fun c _ => device_ne_chan (by decide) c _) (by decide)))
  refine ⟨(flag_raise_beside event [] _ ride).trans (rideCleared_ride _ k), flag_raise_own event [] _, ?_⟩
  exact (flag_raise_beside event [] _ armed).trans ((rideCleared_armed _ k).trans (by rw [stat]))

theorem rideEnded_frame (s : State) (k : Nat) : Frame true (.timers :: chanParts) rideModeWords s (s.rideEnded k) := by
  have device : ∀ a ∈ [A.SYS_MODE, A.SYS_RIDE_STAT, A.ER_STAT], rideModeWords a := fun _ => .inl
  obtain ⟨addr, event, -, -⟩ := exitEvent_laws k
  have moved : Frame true (.timers :: chanParts) rideModeWords s (s.setMode mRUN 3) := (Frame.refl ..).setMode_running (.inl rfl) 3
    (fun c hc => List.mem_cons_of_mem _ (chan_mem_chanParts hc)) (device _ (by simp)) (device _ (by simp)) fun c hc => .inr ⟨c, hc, rfl⟩
  exact (moved.rideCleared (by simp) (device _ (by simp)) k).raise (addr ▸ device _ (by simp)) (event_low event) []

/-! ### RIDE_EXIT -/

theorem completes_rideExit (hr : s.runs = true) (hk : s.rideEndCode ≠ 0) :
    completes .rideExit s fun t => t.mode = mRUN ∧ t.get F.SYS_MODE_PREV = mRIDE ∧ t.flag F.SYS_RIDE_STAT_RIDE = false ∧
      t.flag (exitEvent s.rideEndCode) = true ∧ t.flag F.SYS_RIDE_STAT_ARMED = (s.flag F.SYS_RIDE_STAT_ARMED && s.rideEndCode == 1) ∧
      (∀ c : Fin 8, (t.chn c.val).grid.riding = false ∧ t.flag (F.RIDE_CH_STAT_RIDE_REF c.val) = false) ∧
      (∀ c : Fin 8, s.gridActive c.val = true → (s.chn c.val).grid.riding = true → s.sub c.val = mFOLLOW →
        t.flag (F.RIDE_CH_STAT_RECOV c.val) = true ∧ (t.chn c.val).grid.recD = (s.chn c.val).grid.refD) ∧
      Frame true (.timers :: chanParts) (fun a => a ∈ [A.SYS_MODE, A.SYS_RIDE_STAT, A.ER_STAT] ∨
        ∃ c, c < 8 ∧ a ∈ [A.PWM_FSTAT c, A.RIDE_CH_STAT c]) s t := by
  have mode : ∀ {g : Fld}, g.addr = A.SYS_MODE → (s.rideLeft.rideEnded s.rideEndCode).get g = (s.rideLeft.setMode mRUN 3).get g := fun hg =>
    State.get_congr (rideEnded_rd _ _ (by rw [hg]; decide) (by rw [hg]; decide))
  have was : s.rideLeft.mode = mRIDE := (State.get_congr (rideLeft_device s (by decide))).trans (mode_of_rideEndCode hk)
  obtain ⟨ride, event, armed⟩ := rideEnded_stat s.rideLeft s.rideEndCode
  have before : s.rideLeft.flag F.SYS_RIDE_STAT_ARMED = s.flag F.SYS_RIDE_STAT_ARMED := State.flag_congr
    (State.get_congr (rideLeft_device s (by decide)))
  have chan : ∀ (c hi lo : Nat), (s.rideLeft.rideEnded s.rideEndCode).flag ⟨A.RIDE_CH_STAT c, hi, lo⟩ =
      s.rideLeft.flag ⟨A.RIDE_CH_STAT c, hi, lo⟩ := fun c _ _ => State.flag_congr (State.get_congr (rideEnded_chan _ _ c (by decide)))
  refine completes_clocked rfl hr ?_
  rw [rideExit_leaves hk]
  refine ⟨(settle_get ..).trans ((mode rfl).trans (setMode_mode (.inl rfl) 3)), ?prev, (settle_flag ..).trans ride, (settle_flag ..).trans event,
    ?armed, fun c => ?left, fun c hact hriding hsub => ?recovers, ?frame⟩
  case prev => rw [settle_get, mode rfl, setMode_prev (.inl rfl), was]; rfl
  case armed => rw [settle_flag, armed, before]
  case left =>
    obtain ⟨riding, ref⟩ := rideLeft_channel c.isLt s
    rw [settle_chn, settle_flag, rideEnded_grid]
    exact ⟨riding, (chan ..).trans ref⟩
  case recovers =>
    obtain ⟨recov, ramp⟩ := rideLeft_recovers c.isLt (by rw [State.leavesActing, hriding, hact]; rfl) hsub
    rw [settle_chn, settle_flag, rideEnded_grid]
    exact ⟨(chan ..).trans recov, ramp⟩
  case frame =>
    refine (((Frame.refl ..).rideLeft (fun _ hc => List.mem_cons_of_mem _ (chan_mem_chanParts hc))
      fun c hc => .inr ⟨c, hc, by simp⟩).trans ((rideEnded_frame _ _).mono (fun _ => id) ?_)).settle
    rintro a (h | ⟨c, hc, h⟩)
    · exact .inl h
    · exact .inr ⟨c, hc, by simp [h]⟩

/-- Settles O12: row by row, the detector, the entry with and without an ACTIVE GRID channel, the protective trip, its release, and the end. -/
theorem rideEntersActsAndEnds : Obligations.RideEntersActsAndEnds := by
  intro s hr
  refine ⟨completes_rideDetectorArm hr, completes_rideEntry hr, completes_rideEntry_excursion hr, fun hm hp ha => ?trip,
    completes_gridprotRelease hr, completes_rideExit hr⟩
  obtain ⟨t, tripped, prot, lv, hv, f, count, chans, frame⟩ := completes_protectiveTrip hr hm hp ha
  exact ⟨t, tripped, prot, lv, hv, f, count, chans, frame⟩

end Sys2Proof.Machine
end

section
/-! SUPPORT. What forcing off leaves and sets: the state of the channel but its half-bridges, the mask of the forced ones, and each of
them off (07 R233, R235). -/

namespace Sys2Proof.Machine

variable {α : Type} {s : State} {c k : Nat}

/-- What forcing does to one slot, before HI and LO follow (07 R233). -/
def State.forceSlot (c now old h : Nat) (s : State) : State :=
  if now.testBit h then s.modHb c h fun x => { x with p := false, e := false, relWait := false, nRel := 0, vpWait := false, vpNext := false, vpMean := none }
  else if old.testBit h then
    (s.modHb c h fun x => { x with relWait := true }).modGate c h fun g =>
      { g with settle := g.checking, checking := false, refreshDue := true }
  else s

theorem forceSlots_eq (s : State) (c now old : Nat) :
    s.forceSlots c now old = (s.each hbs (State.forceSlot c now old)).each hbs (State.gateUpdate c) := rfl

/-! ### A view of a channel's state -/

/-- A view that an update of a channel's state leaves is left by the update in the device. -/
theorem modCh_view {g : Ch → α} {f : Ch → Ch} (hf : ∀ x, g (f x) = g x) (s : State) (c d : Nat) : g ((s.modCh c f).chn d) = g (s.chn d) := by
  by_cases hd : d = c
  · subst hd
    by_cases h8 : d < 8
    · rw [State.chn_modCh_same s h8, hf]
    · simp [State.chn, State.modCh, h8]
  · rw [State.chn_modCh_ne s hd]

/-- A view that sees neither the PWM state nor the gate-drive state of the half-bridges. -/
structure Unbridged (g : Ch → α) : Prop where
  hb : ∀ x v, g { x with hb := v } = g x
  gate : ∀ x v, g { x with gate := v } = g x

theorem unbridged_dc : Unbridged Ch.dc := ⟨fun _ _ => rfl, fun _ _ => rfl⟩
theorem unbridged_mach : Unbridged Ch.mach := ⟨fun _ _ => rfl, fun _ _ => rfl⟩

section
variable {g : Ch → α}

theorem modGate_view (hg : ∀ x v, g { x with gate := v } = g x) (s : State) (c k d : Nat) (f : GateSt → GateSt) :
    g ((s.modGate c k f).chn d) = g (s.chn d) := modCh_view (fun x => hg x _) s c d

theorem gateUpdate_view (hg : ∀ x v, g { x with gate := v } = g x) (s : State) (c k d : Nat) :
    g ((s.gateUpdate c k).chn d) = g (s.chn d) := by
  unfold State.gateUpdate
  split
  exact modGate_view hg ..

theorem applyForce_view (hg : Unbridged g) (s : State) (c d : Nat) : g ((s.applyForce c).chn d) = g (s.chn d) := by
  rw [applyForce_eq, forceSlots_eq]
  refine (State.each_unseen (fun x => g (x.chn d)) (fun k _ x => gateUpdate_view hg.gate x c k d) _).trans
    (State.each_unseen (fun x => g (x.chn d)) (fun k _ x => ?_) _)
  unfold State.forceSlot
  split
  · exact modCh_view (fun y => hg.hb y _) x c d
  · split
    · exact (modGate_view hg.gate ..).trans (modCh_view (fun y => hg.hb y _) x c d)
    · rfl

end

/-! ### One half-bridge -/

theorem hb_modHb_same (s : State) (hc : c < 8) (hk : k < 10) (f : HbSt → HbSt) : (s.modHb c k f).hb c k = f (s.hb c k) := by
  simp [State.hb, State.modHb, State.chn_modCh_same s hc, hk]

theorem hb_modHb_ne (s : State) {j : Nat} (h : j ≠ k) (f : HbSt → HbSt) : (s.modHb c j f).hb c k = s.hb c k :=
  modCh_view (g := fun x => x.hb[k]?.getD {}) (fun x => by simp [h]) s c c

theorem modGate_hb (s : State) (c j d k : Nat) (f : GateSt → GateSt) : (s.modGate c j f).hb d k = s.hb d k :=
  modGate_view (g := fun x => x.hb[k]?.getD {}) (fun _ _ => rfl) s c j d f

theorem gateUpdate_hb (s : State) (c j d k : Nat) : (s.gateUpdate c j).hb d k = s.hb d k :=
  gateUpdate_view (g := fun x => x.hb[k]?.getD {}) (fun _ _ => rfl) s c j d

/-! ### The forced half-bridges -/

/-- The mask of the first half-bridges with `f` holds `f` at each of them. -/
theorem maskBelow_testBit (f : Nat → Bool) (n : Nat) :
    (List.range n).foldl (fun m h => if f h then m + 2 ^ h else m) 0 < 2 ^ n ∧
      ∀ h < n, ((List.range n).foldl (fun m h => if f h then m + 2 ^ h else m) 0).testBit h = f h := by
  induction n with
  | zero => simp
  | succ n ih =>
    obtain ⟨low, below⟩ := ih
    rw [List.range_succ, List.foldl_append]
    generalize (List.range n).foldl (fun m h => if f h then m + 2 ^ h else m) 0 = m at low below
    have top : m.testBit n = false := Nat.testBit_lt_two_pow low
    simp only [List.foldl_cons, List.foldl_nil]
    split
    · rename_i on
      rw [Nat.add_comm]
      refine ⟨by rw [Nat.pow_succ]; omega, fun h hh => ?_⟩
      rcases Nat.lt_succ_iff_lt_or_eq.mp hh with hlt | rfl
      · rw [Nat.testBit_two_pow_add_gt hlt, below h hlt]
      · rw [Nat.testBit_two_pow_add_eq, top, on]; rfl
    · rename_i off
      refine ⟨by rw [Nat.pow_succ]; omega, fun h hh => ?_⟩
      rcases Nat.lt_succ_iff_lt_or_eq.mp hh with hlt | rfl
      · exact below h hlt
      · rw [top, Bool.eq_false_iff.mpr off]

theorem hbMask_testBit (f : Nat → Bool) (hk : k < 10) : (hbMask f).testBit k = f k := (maskBelow_testBit f 10).2 k hk

theorem gateUpdate_regs (s : State) (c k : Nat) : (s.gateUpdate c k).regs = s.regs := by
  unfold State.gateUpdate
  split
  rfl

theorem forceSlots_regs (s : State) (c now old : Nat) : (s.forceSlots c now old).regs = s.regs := by
  rw [forceSlots_eq, State.each_unseen State.regs fun k _ x => gateUpdate_regs x c k]
  refine State.each_unseen State.regs (fun k _ x => ?_) s
  unfold State.forceSlot
  split
  · rfl
  · split <;> rfl

/-- PWM_FSTAT shows which half-bridges are forced off (07 R235). -/
theorem applyForce_offEff (s : State) (hc : c < 8) (hk : k < 10) : (s.applyForce c).bitOf (F.PWM_FSTAT_OFF_EFF c) k = s.forced c k := by
  have ok : (F.PWM_FSTAT_OFF_EFF c).ok = true := chanFld_ok hc (by decide)
  have beside : ∀ (x : State) {hi lo : Nat} (v : Nat), hi < 32 → 9 < lo →
      (x.put ⟨A.PWM_FSTAT c, hi, lo⟩ v).get (F.PWM_FSTAT_OFF_EFF c) = x.get (F.PWM_FSTAT_OFF_EFF c) := fun x hi lo v h32 hlo =>
    State.get_put_field (f := ⟨A.PWM_FSTAT c, hi, lo⟩) x ok h32 rfl (.inr hlo) v
  have shown : (s.applyForce c).get (F.PWM_FSTAT_OFF_EFF c) = hbMask (s.forced c) % 2 ^ 10 := by
    rw [applyForce_eq, State.get_congr (State.rd_congr (forceSlots_regs ..) _)]
    exact (beside _ _ (by decide) (by decide)).trans ((beside _ _ (by decide) (by decide)).trans (State.get_put_same s ok _))
  rw [State.bitOf, shown, Nat.testBit_mod_two_pow, hbMask_testBit _ hk, decide_eq_true hk, Bool.true_and]

theorem forceSlot_hb_ne (s : State) (now old : Nat) {j : Nat} (h : j ≠ k) : (s.forceSlot c now old j).hb c k = s.hb c k := by
  unfold State.forceSlot
  split
  · exact hb_modHb_ne s h _
  · split
    · exact (modGate_hb ..).trans (hb_modHb_ne s h _)
    · rfl

theorem forceSlot_hb_off (s : State) (hc : c < 8) (hk : k < 10) {now : Nat} (h : now.testBit k = true) (old : Nat) :
    (s.forceSlot c now old k).hb c k =
      { s.hb c k with p := false, e := false, relWait := false, nRel := 0, vpWait := false, vpNext := false, vpMean := none } := by
  rw [State.forceSlot, if_pos h, hb_modHb_same s hc hk]

/-- A half-bridge forced off has E at 0 (07 R233). -/
theorem applyForce_hb_off (hc : c < 8) (hk : k < 10) (h : s.forced c k = true) : ((s.applyForce c).hb c k).e = false := by
  have mem : k ∈ hbs := by simp only [hbs, List.mem_cons]; omega
  have forced : (hbMask (s.forced c)).testBit k = true := (hbMask_testBit _ hk).trans h
  have turn := fun (x : State) (old : Nat) => State.each_turn (fun x => x.hb c k) (f := State.forceSlot c (hbMask (s.forced c)) old) mem
    (by decide) (fun j _ hj x => forceSlot_hb_ne x _ old hj)
    (fun x y hxy => by
      have same : x.hb c k = y.hb c k := hxy
      rw [forceSlot_hb_off x hc hk forced, forceSlot_hb_off y hc hk forced, same]) x
  have formed := fun (x : State) => State.each_unseen (fun x => x.hb c k) (fun j _ x => gateUpdate_hb x c j c k) (l := hbs) x
  rw [applyForce_eq, forceSlots_eq]
  exact congrArg HbSt.e ((formed _).trans ((turn _ _).trans (forceSlot_hb_off _ hc hk forced _)))

end Sys2Proof.Machine
end

section
/-! SUPPORT. A refusal by a DC or a machine channel, and its move into OFF: the code, the event, the state and the contactor command
(06 R182, R183). -/

namespace Sys2Proof.Machine

variable {s : State} {c : Chan} {r k : Nat} {f e : Fld}

theorem isDc_iff {c : Nat} : s.isDc c = true ↔ s.role c = rDCB ∨ s.role c = rDCP := by simp [State.isDc]

/-- A channel in role `r` records a refusal in the code field `f`, with the event `e` (04 R120; 06 R183). -/
structure RefusesIn (c : Chan) (r : Nat) (f e : Fld) : Prop where
  records : ∀ s : State, s.role c.val = r → ∀ k, s.refuse c.val k = (s.put f k).raise e
  shows : ∀ s : State, s.role c.val = r → s.refuseCode c.val = s.get f
  ok : f.ok = true
  width : f.hi + 1 - f.lo = 4
  quiet : bookAddr f.addr = false
  event : e.isEvent = true
  apart : f.addr ≠ e.addr
  unforced : f.addr ≠ A.PWM_FSTAT c.val

theorem dc_refusesIn (c : Chan) (hr : r = rDCB ∨ r = rDCP) : RefusesIn c r (F.DC_STAT_REFUSE c.val) (F.DC_EVT_REFUSED c.val) where
  records s hrole k := by rcases hr with rfl | rfl <;> simp [State.refuse, hrole, rGRID, rDCB, rDCP]
  shows s hrole := by rcases hr with rfl | rfl <;> simp [State.refuseCode, hrole, rGRID, rDCB, rDCP]
  ok := chanFld_ok c.isLt (by decide)
  width := rfl
  quiet := chan_word_quiet ..
  event := by revert c; decide
  apart := chan_words_ne c.val (by decide)
  unforced := chan_words_ne c.val (by decide)

theorem mach_refusesIn (c : Chan) : RefusesIn c rMACH (F.MACH_STAT_REFUSE c.val) (F.MACH_EVT_REFUSED c.val) where
  records s hrole k := by simp [State.refuse, hrole, rGRID, rDCB, rDCP, rMACH]
  shows s hrole := by simp [State.refuseCode, hrole, rGRID, rDCB, rDCP, rMACH]
  ok := chanFld_ok c.isLt (by decide)
  width := rfl
  quiet := chan_word_quiet ..
  event := by revert c; decide
  apart := chan_words_ne c.val (by decide)
  unforced := chan_words_ne c.val (by decide)

/-! ### A refusal -/

namespace RefusesIn
variable (h : RefusesIn c r f e) (hrole : s.role c.val = r)
include h hrole

theorem code (hk : k < 16) : (s.refuse c.val k).get f = k := by
  rw [h.records s hrole, State.get_congr (raise_rd h.event [] _ h.apart h.quiet), State.get_put_same s h.ok, h.width]
  exact Nat.mod_eq_of_lt hk

theorem recorded (k : Nat) : Raised e s (s.refuse c.val k) := by
  rw [h.records s hrole, Raised, ← State.rd_put_ne s (Ne.symm h.apart) k]
  exact raise_raised _ (event_low h.event) (event_quiet h.event)

theorem others (k : Nat) {a : Nat} (hf : a ≠ f.addr) (he : a ≠ e.addr) (hq : bookAddr a = false) : (s.refuse c.val k).rd a = s.rd a := by
  rw [h.records s hrole, raise_rd h.event [] _ he hq, State.rd_put_ne s hf]

theorem frame (k : Nat) : Frame true [] (· ∈ [f.addr, e.addr]) s (s.refuse c.val k) := by
  rw [h.records s hrole]
  exact ((Frame.refl ..).put (by simp) _).raise (by simp) (event_low h.event) []

end RefusesIn

/-! ### The move into OFF -/

/-- A refusal leaves the words of the block below those of the roles' states, whatever the role. -/
theorem refuse_rd_low (s : State) (c : Chan) (k : Nat) {o : Nat} (ho : o < 0xC108) :
    (s.refuse c.val k).rd (chBase c.val + o) = s.rd (chBase c.val + o) := by
  have apart : ∀ {o' : Nat}, 0xC108 ≤ o' → chBase c.val + o' ≠ chBase c.val + o := fun h => chan_words_ne c.val (by omega)
  have frame : Frame true [] (· ≠ chBase c.val + o) s (s.refuse c.val k) := Frame.refuse c.isLt (Frame.refl ..) k (apart (by decide))
    (apart (by decide)) (apart (by decide)) (apart (by decide)) (apart (by decide)) (apart (by decide))
  exact frame.words _ (not_not.mpr rfl) fun _ => chan_word_quiet ..

/-- The move into OFF leaves the words of the block below those of the roles' states but PWM_FSTAT and ROLE_STAT. -/
theorem toOff_rd_low (s : State) (c : Chan) (k : Nat) {o : Nat} (ho : o < 0xC108) (hf : o ≠ 0x4008) (hs : o ≠ 0xC004) :
    (s.toOff c.val k).rd (chBase c.val + o) = s.rd (chBase c.val + o) := by
  rw [toOff_eq, applyForce_rd _ _ (chan_words_ne c.val hf), refuse_rd_low _ c k ho, begunCleared_rd _ c.val ho]
  exact State.rd_put_ne s (chan_words_ne c.val hs) _

theorem toOff_role (s : State) (c : Chan) (k : Nat) : (s.toOff c.val k).role c.val = s.role c.val :=
  State.get_congr (toOff_rd_low s c k (by decide) (by decide) (by decide))

theorem toOff_cst (s : State) (c : Chan) (k : Nat) : (s.toOff c.val k).cst c.val = sOFF := by
  rw [State.cst, toOff_eq, State.get_congr (applyForce_rd _ _ (chan_words_ne c.val (by decide))),
    State.get_congr (refuse_rd_low _ c k (by decide)), State.get_congr (begunCleared_rd _ c.val (by decide))]
  exact State.get_put_same s (chanFld_ok c.isLt (by decide)) _

/-- The code of a move into OFF stands in the role's status. -/
theorem RefusesIn.toOff_code (h : RefusesIn c r f e) (hrole : s.role c.val = r) (hk : k < 16) : (s.toOff c.val k).get f = k := by
  have role : ((s.put (F.ROLE_STAT_CH_STATE c.val) sOFF).setKm c.val false |>.begunCleared c.val).role c.val = r :=
    (State.get_congr (begunCleared_rd _ c.val (by decide))).trans
      ((State.get_put_ne s (chan_words_ne c.val (by decide)) _).trans hrole)
  rw [toOff_eq, State.get_congr (applyForce_rd _ _ h.unforced)]
  exact h.code role hk

theorem RefusesIn.toOff_refuseCode (h : RefusesIn c r f e) (hrole : s.role c.val = r) (hk : k < 16) :
    (s.toOff c.val k).refuseCode c.val = k :=
  (h.shows _ ((toOff_role s c k).trans hrole)).trans (h.toOff_code hrole hk)

theorem dcKm_ok (c : Chan) : (F.DC_STAT_KM_CMD c.val).ok = true := chanFld_ok c.isLt (by decide)

theorem dc_not_grid (hdc : s.isDc c.val = true) : s.role c.val ≠ rGRID := by
  rcases isDc_iff.mp hdc with h | h <;> rw [h] <;> decide

theorem isDc_congr {u : State} (h : u.role c.val = s.role c.val) : u.isDc c.val = s.isDc c.val := by rw [State.isDc, State.isDc, h]

/-- The contactor command of a DC channel is the bit of its status (06 R185). -/
theorem setKm_dc (hdc : s.isDc c.val = true) (b : Bool) : (s.setKm c.val b).flag (F.DC_STAT_KM_CMD c.val) = b := by
  rw [State.setKm, if_neg (dc_not_grid hdc), if_pos (isDc_iff.mp hdc), gateUpdate_flag]
  exact State.flag_putb_same s (dcKm_ok c) (Nat.le_refl 4) b

theorem dcKm_beside (c : Chan) : (F.DC_STAT_SCANNING c.val).beside (F.DC_STAT_KM_CMD c.val) = true ∧
    (F.DC_STAT_REFUSE c.val).beside (F.DC_STAT_KM_CMD c.val) = true := by
  revert c; decide

theorem begunCleared_dcKm (s : State) (c : Chan) : (s.begunCleared c.val).flag (F.DC_STAT_KM_CMD c.val) = s.flag (F.DC_STAT_KM_CMD c.val) := by
  have apart : ∀ (x : State) {o hi lo : Nat} (v : Nat), 0xC508 ≠ o →
      (x.put ⟨chBase c.val + o, hi, lo⟩ v).flag (F.DC_STAT_KM_CMD c.val) = x.flag (F.DC_STAT_KM_CMD c.val) := fun x _ _ _ v ho =>
    State.flag_put_ne x (chan_words_ne c.val ho) v
  have scanning : ∀ x : State, (x.putb (F.DC_STAT_SCANNING c.val) false).flag (F.DC_STAT_KM_CMD c.val) = x.flag (F.DC_STAT_KM_CMD c.val) :=
    fun x => flag_putb_beside x (by decide : 3 < 32) (dcKm_beside c).1 false
  exact (apart _ _ (by decide)).trans ((scanning _).trans ((apart _ _ (by decide)).trans ((apart _ _ (by decide)).trans
    ((apart _ _ (by decide)).trans ((apart _ _ (by decide)).trans ((apart _ _ (by decide)).trans (apart _ _ (by decide))))))))

theorem refuse_dcKm (hdc : s.isDc c.val = true) (k : Nat) :
    (s.refuse c.val k).flag (F.DC_STAT_KM_CMD c.val) = s.flag (F.DC_STAT_KM_CMD c.val) := by
  have own := dc_refusesIn c (isDc_iff.mp hdc)
  have status : (s.refuse c.val k).rd (A.DC_STAT c.val) = (s.put (F.DC_STAT_REFUSE c.val) k).rd (A.DC_STAT c.val) := by
    rw [own.records s rfl]
    exact raise_rd own.event [] _ own.apart own.quiet
  exact State.flag_congr ((State.get_congr (f := F.DC_STAT_KM_CMD c.val) status).trans
    (get_put_beside s (f := F.DC_STAT_REFUSE c.val) (by decide : 11 < 32) (dcKm_beside c).2 k))

/-- The contactor of a DC channel is commanded off with the move into OFF. -/
theorem toOff_dc_km (hdc : s.isDc c.val = true) (k : Nat) : (s.toOff c.val k).flag (F.DC_STAT_KM_CMD c.val) = false := by
  have moved : (s.put (F.ROLE_STAT_CH_STATE c.val) sOFF).isDc c.val = true :=
    (isDc_congr (State.get_put_ne s (chan_words_ne c.val (by decide)) _)).trans hdc
  have cleared : (((s.put (F.ROLE_STAT_CH_STATE c.val) sOFF).setKm c.val false).begunCleared c.val).isDc c.val = true :=
    (isDc_congr (State.get_congr (begunCleared_rd _ c.val (by decide)))).trans moved
  rw [toOff_eq, State.flag_congr (State.get_congr (applyForce_rd _ _ (chan_words_ne c.val (by decide)))), refuse_dcKm cleared,
    begunCleared_dcKm, setKm_dc moved]

/-- A DC channel that has moved into OFF stands there with its code, its contactor commanded off. -/
theorem toOff_dc (hdc : s.isDc c.val = true) (hk : k < 16) : MovedOff c.val k (s.toOff c.val k) := by
  refine ⟨toOff_cst s c k, (dc_refusesIn c (isDc_iff.mp hdc)).toOff_refuseCode rfl hk, ?_⟩
  rw [State.kmCmd, if_neg (toOff_role s c k ▸ dc_not_grid hdc)]
  exact toOff_dc_km hdc k

end Sys2Proof.Machine
end

section
/-! SUPPORT. START, STOP and SCAN of the DC and machine roles (06 R183, R192, R194, R195, R205; 13 R389). -/

namespace Sys2Proof.Machine

variable {s : State} {k : Nat}

theorem mach_not_dc {c : Nat} (hrole : s.role c = rMACH) : s.isDc c = false := by simp [State.isDc, hrole, rMACH, rDCB, rDCP]

/-! ### The codes of a START -/

/-- The codes of a refused START fit their field (06 R183). -/
theorem dcStartCode_lt (s : State) (c : Nat) : s.dcStartCode c < 16 := by
  unfold State.dcStartCode
  dsimp only
  repeat' split
  all_goals decide

theorem machStartCode_lt (s : State) (c : Nat) : s.machStartCode c < 16 := by
  unfold State.machStartCode
  dsimp only
  repeat' split
  all_goals decide

/-- A START judged with code `k`: begun at the next boundary, or refused (06 R183). -/
def State.startJudged (c k : Nat) (s : State) : State × Nat := (if k ≠ 0 then s.refuse c k else s.startNext c, k)

theorem startCh_dc {c : Nat} (hdc : s.isDc c = true) : s.startCh c = s.startJudged c (s.dcStartCode c) := by
  rcases isDc_iff.mp hdc with h | h <;> simp [State.startCh, State.startJudged, State.dcStart, h, rGRID, rDCB, rDCP]

theorem startCh_mach {c : Nat} (hrole : s.role c = rMACH) : s.startCh c = s.startJudged c (s.machStartCode c) := by
  simp [State.startCh, State.startJudged, State.machStart, hrole, rGRID, rDCB, rDCP, rMACH]

section
variable {c : Nat} {right : State → Bool} (hright : right s = true) (hst : s.cst c = sOFF)
include hright hst

theorem startCmd_met (h : s.startCh c = s.startJudged c 0) : State.startCmd c right s = (s.startNext c, OK) := by
  simp [State.startCmd, hright, hst, h, State.startJudged]

theorem startCmd_refused (hk : k ≠ 0) (h : s.startCh c = s.startJudged c k) : State.startCmd c right s = (s.refuse c k, NOT_IN_MODE) := by
  simp [State.startCmd, hright, hst, h, hk, State.startJudged]

end

/-! ### STOP and SCAN -/

/-- STOP of a DC or machine channel before ACTIVE (06 R192, R205). -/
theorem stopCh_begun {c : Nat} (hrole : s.isDc c = true ∨ s.role c = rMACH) (hst : s.cst c = sPRECHARGE ∨ s.cst c = sSYNC) :
    s.stopCh c = s.toOff c kSTOP := by
  rcases hrole with hdc | h
  · rcases isDc_iff.mp hdc with h | h <;> simp [State.stopCh, State.dcStop, h, hst, rGRID, rDCB, rDCP]
  · simp [State.stopCh, State.machStop, h, hst, rGRID, rDCB, rDCP, rMACH]

/-- The ramp of a STOP begins at the present reference (06 R192). -/
def DcSt.ramped (now : Nat) (d : DcSt) : DcSt := { d with stopAt := some now, stopR := d.rEff }

/-- STOP of a DC channel in ACTIVE, where no ramp runs (06 R192). -/
theorem stopCh_dc_active {c : Nat} (hdc : s.isDc c = true) (hst : s.cst c = sACTIVE) (hramp : (s.chn c).dc.stopAt = none) :
    s.stopCh c = s.modDc c (DcSt.ramped s.clk) := by
  have ramp : s.dcStop c = s.modDc c (DcSt.ramped s.clk) := by
    simp [State.dcStop, State.modDc, State.modCh, DcSt.ramped, hst, hramp, sACTIVE, sPRECHARGE, sSYNC]
  rcases isDc_iff.mp hdc with h | h <;> simp [State.stopCh, h, ramp, rGRID, rDCB, rDCP]

/-- STOP of a machine in ACTIVE (06 R205). -/
theorem stopCh_mach_active {c : Nat} (hrole : s.role c = rMACH) (hst : s.cst c = sACTIVE) :
    s.stopCh c = s.modMach c fun m => { m with stopping := true } := by
  simp [State.stopCh, State.machStop, hrole, hst, rGRID, rDCB, rDCP, rMACH, sACTIVE, sPRECHARGE, sSYNC]

theorem stopCmd_right {c : Nat} {right : State → Bool} (hright : right s = true) : State.stopCmd c right s = (s.stopCh c, OK) := by
  simp [State.stopCmd, hright]

/-- SCAN makes a scan due, but during one (06 R194, R195). -/
theorem dcScan_eq {c : Nat} (hrole : s.role c = rDCP) :
    s.dcScan c = s.when (!s.flag (F.DC_STAT_SCANNING c)) fun s => s.modDc c fun d => { d with scanDue := true } := by
  simp [State.dcScan, State.when, hrole]

theorem scanCmd_dcp {c : Nat} (hrole : s.role c = rDCP) : State.scanCmd c s = (s.dcScan c, OK) := by simp [State.scanCmd, hrole]

theorem dc_modDc_same (s : State) {c : Nat} (hc : c < 8) (f : DcSt → DcSt) : ((s.modDc c f).chn c).dc = f (s.chn c).dc :=
  congrArg Ch.dc (State.chn_modCh_same s hc _)

theorem mach_modMach_same (s : State) {c : Nat} (hc : c < 8) (f : MachSt → MachSt) : ((s.modMach c f).chn c).mach = f (s.chn c).mach :=
  congrArg Ch.mach (State.chn_modCh_same s hc _)

theorem dcScan_dc (c : Chan) (hrole : s.role c.val = rDCP) : ((s.dcScan c.val).chn c.val).dc =
    { (s.chn c.val).dc with scanDue := (s.chn c.val).dc.scanDue || !s.flag (F.DC_STAT_SCANNING c.val) } := by
  rw [dcScan_eq hrole]
  cases s.flag (F.DC_STAT_SCANNING c.val)
  · rw [Bool.not_false, Bool.or_true, when_true, dc_modDc_same s c.isLt]
  · rw [Bool.not_true, Bool.or_false, when_false]

/-! ### What each answers -/

section
variable {x : Instr} {c : Chan} {i : Ix16} {right : State → Bool} (hh : s.hosted = true) (ho : s.sesOpen i.val = true)
  (hown : s.holds i.val (.chan c.val) = true)
include hh ho hown

theorem completes_start_met (he : exec x s = State.cmdRow i c.val (State.startCmd c.val right) s) (hright : right (s.acting i.val) = true)
    (hst : s.cst c.val = sOFF) (h : (s.acting i.val).startCh c.val = (s.acting i.val).startJudged c.val 0) :
    completes x s fun t => (t.chn c.val).startNext = true ∧ t.host = { s.host with ans := OK } ∧
      Frame false [.host, .chan c.val] (fun _ => False) s t := by
  refine completes_cmd he hh ho hown (startCmd_met hright hst h) ⟨?_, rfl, ?_⟩
  · exact congrArg Ch.startNext (State.chn_modCh_same (s.acting i.val) c.isLt fun x => { x with startNext := true })
  · exact (((Frame.acting (by simp) s i.val).modCh (by simp) _).answered (by simp) OK).settle

theorem completes_start_refused {r : Nat} {f e : Fld} (own : RefusesIn c r f e) (hrole : s.role c.val = r)
    (he : exec x s = State.cmdRow i c.val (State.startCmd c.val right) s) (hright : right (s.acting i.val) = true)
    (hst : s.cst c.val = sOFF) (hk : k ≠ 0) (hlt : k < 16) (h : (s.acting i.val).startCh c.val = (s.acting i.val).startJudged c.val k) :
    completes x s fun t => t.get f = k ∧ Raised e s t ∧ t.host.ans = NOT_IN_MODE ∧ t.cst c.val = sOFF ∧
      Frame true [.host] (· ∈ [f.addr, e.addr]) s t := by
  have role : (s.acting i.val).role c.val = r := hrole
  refine completes_cmd he hh ho hown (startCmd_refused hright hst hk h) ⟨?_, ?_, rfl, ?_, ?_⟩
  · exact (settle_get ..).trans (own.code role hlt)
  · exact (settle_rd ..).trans (own.recorded role k)
  · exact (settle_get ..).trans ((State.get_congr (refuse_rd_low _ c k (by decide))).trans hst)
  · exact (Frame.answered ((Frame.acting (by simp) s i.val).trans ((own.frame role k).mono (by simp) fun _ => id)) (by simp) NOT_IN_MODE).settle

theorem completes_start_notOff (he : exec x s = State.cmdRow i c.val (State.startCmd c.val right) s) (hst : s.cst c.val ≠ sOFF) :
    completes x s fun t => OnlyAnswered NOT_IN_MODE s t :=
  completes_cmd he hh ho hown (startCmd_notOff right hst) ⟨rfl, ((Frame.acting (by simp) s i.val).answered (by simp) NOT_IN_MODE).settle⟩

/-- STOP before ACTIVE moves the channel into OFF, with what the move says of it. -/
theorem completes_stop_begun {P : State → Prop} (he : exec x s = State.cmdRow i c.val (State.stopCmd c.val right) s)
    (hright : right (s.acting i.val) = true) (hrole : s.isDc c.val = true ∨ s.role c.val = rMACH)
    (hst : s.cst c.val = sPRECHARGE ∨ s.cst c.val = sSYNC)
    (hP : P (settle s (s.answered ((s.acting i.val).toOff c.val kSTOP) OK))) :
    completes x s fun t => P t ∧ t.host.ans = OK ∧ Frame true [.host, .chan c.val] (· ∈ offWords c.val) s t := by
  have stops : State.stopCmd c.val right (s.acting i.val) = ((s.acting i.val).toOff c.val kSTOP, OK) :=
    (stopCmd_right hright).trans (congrArg (·, OK) (stopCh_begun hrole hst))
  refine completes_cmd he hh ho hown stops ⟨hP, rfl, ?_⟩
  exact (Frame.answered (Frame.toOff c.isLt (Frame.acting (by simp) s i.val) (by simp) (fun _ => id) kSTOP) (by simp) OK).settle

theorem completes_dcStop_begun (hdc : s.isDc c.val = true) (hst : s.cst c.val = sPRECHARGE ∨ s.cst c.val = sSYNC) :
    completes (.dcStop c i) s fun t => MovedOff c.val kSTOP t ∧ t.host.ans = OK ∧
      Frame true [.host, .chan c.val] (· ∈ offWords c.val) s t :=
  completes_stop_begun hh ho hown rfl hdc (.inl hdc) hst
    ((toOff_dc (s := s.acting i.val) hdc (by decide)).of_rd fun _ => (settle_rd ..).trans (answered_rd ..))

theorem completes_machStop_begun (hrole : s.role c.val = rMACH) (hst : s.cst c.val = sPRECHARGE ∨ s.cst c.val = sSYNC) :
    completes (.machStop c i) s fun t => t.cst c.val = sOFF ∧ t.get (F.MACH_STAT_REFUSE c.val) = kSTOP ∧ t.host.ans = OK ∧
      Frame true [.host, .chan c.val] (· ∈ offWords c.val) s t := by
  have off := completes_stop_begun (P := fun t => t.cst c.val = sOFF ∧ t.get (F.MACH_STAT_REFUSE c.val) = kSTOP) hh ho hown
    (x := .machStop c i) rfl (beq_iff_eq.mpr hrole) (.inr hrole) hst
    ⟨(settle_get ..).trans ((answered_get ..).trans (toOff_cst ..)),
      (settle_get ..).trans ((answered_get ..).trans ((mach_refusesIn c).toOff_code (s := s.acting i.val) hrole (by decide)))⟩
  simpa only [and_assoc] using off

theorem completes_dcStop_active (hdc : s.isDc c.val = true) (hst : s.cst c.val = sACTIVE) (hramp : (s.chn c.val).dc.stopAt = none) :
    completes (.dcStop c i) s fun t => (t.chn c.val).dc = { (s.chn c.val).dc with
        stopAt := some s.clk, stopR := (s.chn c.val).dc.rEff } ∧ t.host.ans = OK ∧
      Frame false [.host, .chan c.val] (fun _ => False) s t := by
  have ramps : State.stopCmd c.val (fun s => s.isDc c.val) (s.acting i.val) = ((s.acting i.val).modDc c.val (DcSt.ramped s.clk), OK) :=
    (stopCmd_right hdc).trans (congrArg (·, OK) (stopCh_dc_active (s := s.acting i.val) hdc hst hramp))
  refine completes_cmd rfl hh ho hown ramps ⟨?_, rfl, ?_⟩
  · exact dc_modDc_same (s.acting i.val) c.isLt _
  · exact (((Frame.acting (by simp) s i.val).modDc (by simp) _).answered (by simp) OK).settle

theorem completes_machStop_active (hrole : s.role c.val = rMACH) (hst : s.cst c.val = sACTIVE) :
    completes (.machStop c i) s fun t => (t.chn c.val).mach = { (s.chn c.val).mach with stopping := true } ∧ t.host.ans = OK ∧
      Frame false [.host, .chan c.val] (fun _ => False) s t := by
  have role : ((s.acting i.val).role c.val == rMACH) = true := beq_iff_eq.mpr hrole
  have stops : State.stopCmd c.val (fun s => s.role c.val == rMACH) (s.acting i.val) =
      ((s.acting i.val).modMach c.val fun m => { m with stopping := true }, OK) :=
    (stopCmd_right (right := fun s => s.role c.val == rMACH) role).trans (congrArg (·, OK) (stopCh_mach_active (s := s.acting i.val) hrole hst))
  refine completes_cmd rfl hh ho hown stops ⟨?_, rfl, ?_⟩
  · exact mach_modMach_same (s.acting i.val) c.isLt fun m => { m with stopping := true }
  · exact (((Frame.acting (by simp) s i.val).modMach (by simp) _).answered (by simp) OK).settle

theorem completes_dcScan (hrole : s.role c.val = rDCP) :
    completes (.dcScan c i) s fun t => (t.chn c.val).dc = { (s.chn c.val).dc with
        scanDue := (s.chn c.val).dc.scanDue || !s.flag (F.DC_STAT_SCANNING c.val) } ∧ t.host.ans = OK ∧
      Frame false [.host, .chan c.val] (fun _ => False) s t := by
  have role : (s.acting i.val).role c.val = rDCP := hrole
  refine completes_cmd rfl hh ho hown (scanCmd_dcp role) ⟨dcScan_dc c role, rfl, ?_⟩
  rw [dcScan_eq role]
  exact (Frame.answered (Frame.when (Frame.acting (by simp) s i.val) _ fun _ => (Frame.refl ..).modDc (by simp) _) (by simp) OK).settle

end

/-- Settles O15: by the role and the state of the channel, and by who holds it. -/
theorem dcAndMachCommandsActForTheHolder : Obligations.DcAndMachCommandsActForTheHolder := by
  intro s i c hh ho
  refine ⟨fun hown => ⟨?dcMet, ?dcRefused, ?machMet, ?machRefused, ?notOff, completes_dcStop_begun hh ho hown,
    completes_machStop_begun hh ho hown, completes_dcStop_active hh ho hown, completes_machStop_active hh ho hown,
    completes_dcScan hh ho hown⟩, fun hown x hx => ?owned⟩
  case dcMet => exact fun hdc hst hk => completes_start_met hh ho hown rfl hdc hst (hk ▸ startCh_dc (s := s.acting i.val) hdc)
  case dcRefused =>
    exact fun hdc hst hk => completes_start_refused hh ho hown (dc_refusesIn c (isDc_iff.mp hdc)) rfl rfl hdc hst hk (dcStartCode_lt s _)
      (startCh_dc (s := s.acting i.val) hdc)
  case machMet =>
    exact fun hrole hst hk => completes_start_met hh ho hown rfl (beq_iff_eq.mpr hrole) hst
      (hk ▸ startCh_mach (s := s.acting i.val) hrole)
  case machRefused =>
    exact fun hrole hst hk => completes_start_refused hh ho hown (mach_refusesIn c) hrole rfl (beq_iff_eq.mpr hrole) hst hk
      (machStartCode_lt s _) (startCh_mach (s := s.acting i.val) hrole)
  case notOff =>
    intro hst x hx
    simp only [List.mem_cons, List.not_mem_nil, or_false] at hx
    rcases hx with rfl | rfl
    all_goals exact completes_start_notOff hh ho hown rfl hst
  case owned =>
    simp only [List.mem_cons, List.not_mem_nil, or_false] at hx
    rcases hx with rfl | rfl | rfl | rfl | rfl
    all_goals exact completes_cmd_owned rfl hh ho hown

end Sys2Proof.Machine
end

section
/-! SUPPORT. The end of an MPPT period, and the scans (06 R193–R195). -/

namespace Sys2Proof.Machine

variable {s : State} {c : Chan}

/-- The words of the MPPT voltages are implemented in full. -/
theorem mpptV_full (c : Chan) : implMask (A.DC_MPPT_V c.val) = 0xFFFFFFFF#32 ∧ implMask (A.DC_SCAN_V c.val) = 0xFFFFFFFF#32 := by
  revert c; decide

/-! ### The reference -/

theorem setVref_dc (s : State) (c : Chan) (v : F32) : ((s.setVref c.val v).chn c.val).dc = { (s.chn c.val).dc with vref := v } :=
  dc_modDc_same s c.isLt fun d => { d with vref := v }

theorem setVref_shown (s : State) (c : Chan) (v : F32) : (s.setVref c.val v).rd (A.DC_MPPT_V c.val) = v := by
  rw [State.setVref, State.rd_wr_same, (mpptV_full c).1]
  exact BitVec.and_allOnes

theorem setVref_rd (s : State) (c : Nat) (v : F32) {a : Nat} (h : a ≠ A.DC_MPPT_V c) : (s.setVref c v).rd a = s.rd a := by
  rw [State.setVref, State.rd_wr_ne _ h, State.modDc_rd]

theorem Frame.setVref {ev : Bool} {ps : List Part} {W : Nat → Prop} {u : State} {c : Nat} (h : Frame ev ps W s u) (hp : .chan c ∈ ps)
    (hw : W (A.DC_MPPT_V c)) (v : F32) : Frame ev ps W s (u.setVref c v) := (h.modDc hp _).wr hw v

/-! ### The end of a period -/

/-- The means of a period kept as the previous ones, its sums cleared (06 R193). -/
def DcSt.periodKept (m : F32 × F32) (d : DcSt) : DcSt := { d.clear with pPrev := m.1, vPrev := m.2, first := false }

/-- Direction, CURTAIL and reference as perturb and observe sets them, and the means kept (06 R193). -/
def State.perturbed (c : Nat) (p : Bool × Bool × F32) (m : F32 × F32) (s : State) : State :=
  (((s.modDc c fun d => { d with up := p.1 }).putb (F.DC_STAT_CURTAIL c) p.2.1).setVref c p.2.2).modDc c (DcSt.periodKept m)

section
variable (s : State) (c : Chan) (p : Bool × Bool × F32) (m : F32 × F32)

theorem perturbed_dc : ((s.perturbed c.val p m).chn c.val).dc = { (s.chn c.val).dc with up := p.1, vref := p.2.2 }.periodKept m := by
  have chosen : (((s.modDc c.val fun d => { d with up := p.1 }).putb (F.DC_STAT_CURTAIL c.val) p.2.1).chn c.val).dc =
      { (s.chn c.val).dc with up := p.1 } := dc_modDc_same s c.isLt fun d => { d with up := p.1 }
  rw [State.perturbed, dc_modDc_same _ c.isLt, setVref_dc, chosen]

/-- A perturbation leaves the words beside the status and the reference shown. -/
theorem perturbed_rd {a : Nat} (h : a ≠ A.DC_STAT c.val) (h' : a ≠ A.DC_MPPT_V c.val) : (s.perturbed c.val p m).rd a = s.rd a := by
  rw [State.perturbed, State.modDc_rd, setVref_rd _ _ _ h', State.putb, State.rd_put_ne _ h, State.modDc_rd]

/-- CURTAIL is written, as the status word shows it. -/
theorem perturbed_stat : Edited (A.DC_STAT c.val) [(F.DC_STAT_CURTAIL c.val, b2n p.2.1)] s (s.perturbed c.val p m) := by
  have apart : A.DC_STAT c.val ≠ A.DC_MPPT_V c.val := chan_words_ne c.val (by decide)
  rw [Edited, State.perturbed, State.modDc_rd, setVref_rd _ _ _ apart]
  exact State.rd_wr_same ..

theorem perturbed_curtail : (s.perturbed c.val p m).flag (F.DC_STAT_CURTAIL c.val) = p.2.1 := by
  have apart : A.DC_STAT c.val ≠ A.DC_MPPT_V c.val := chan_words_ne c.val (by decide)
  rw [State.perturbed, State.modDc_flag, State.flag_congr (State.get_congr (f := F.DC_STAT_CURTAIL c.val) (setVref_rd _ _ _ apart))]
  exact State.flag_putb_same _ (chanFld_ok c.isLt (by decide)) (Nat.le_refl 2) p.2.1

theorem perturbed_shown : (s.perturbed c.val p m).rd (A.DC_MPPT_V c.val) = p.2.2 := by
  rw [State.perturbed, State.modDc_rd, setVref_shown]

end

theorem Frame.perturbed {ev : Bool} {ps : List Part} {W : Nat → Prop} {u : State} {c : Nat} (h : Frame ev ps W s u) (hp : .chan c ∈ ps)
    (hw : W (A.DC_STAT c)) (hv : W (A.DC_MPPT_V c)) (p : Bool × Bool × F32) (m : F32 × F32) : Frame ev ps W s (u.perturbed c p m) :=
  Frame.modDc (((h.modDc hp _).putb (f := F.DC_STAT_CURTAIL c) hw _).setVref hp hv _) hp _

section
variable (hrole : s.role c.val = rDCP) (hst : s.cst c.val = sACTIVE) (hscan : s.flag (F.DC_STAT_SCANNING c.val) = false)
  (hdue : secClk (s.rd (A.DC_MPPT_T c.val)) ≤ (s.chn c.val).dc.sumT)
include hrole hst hscan hdue

/-- The first period only keeps its means. -/
theorem mpptPeriodEnd_first (hfirst : (s.chn c.val).dc.first = true) (hnone : (s.chn c.val).dc.scanDue = false) :
    s.mpptPeriodEnd c.val = s.modDc c.val (DcSt.periodKept (s.chn c.val).dc.means) := by
  have none_due : ((s.modDc c.val (DcSt.periodKept (s.chn c.val).dc.means)).chn c.val).dc.scanDue = false :=
    (congrArg DcSt.scanDue (dc_modDc_same s c.isLt _)).trans hnone
  have ended : s.mpptPeriodEnd c.val = (s.modDc c.val (DcSt.periodKept (s.chn c.val).dc.means)).when
      (((s.modDc c.val (DcSt.periodKept (s.chn c.val).dc.means)).chn c.val).dc.scanDue &&
        !(s.modDc c.val (DcSt.periodKept (s.chn c.val).dc.means)).flag (F.DC_STAT_CURTAIL c.val)) (State.scanStart c.val) := by
    unfold State.mpptPeriodEnd
    rw [if_pos ⟨hrole, hst, by simp [hscan], hdue⟩]
    simp only [hfirst, if_true]
    rfl
  rw [ended, none_due, Bool.false_and, when_false]

/-- A later period perturbs; a scan that is due starts where nothing is curtailed. -/
theorem mpptPeriodEnd_later (hfirst : (s.chn c.val).dc.first = false) {m : F32 × F32} (hm : (s.chn c.val).dc.means = m)
    {p : Bool × Bool × F32} (hp : s.perturb c.val m.1 m.2 = p) :
    s.mpptPeriodEnd c.val = (s.perturbed c.val p m).when ((s.chn c.val).dc.scanDue && !p.2.1) (State.scanStart c.val) := by
  have due : ((s.perturbed c.val p m).chn c.val).dc.scanDue = (s.chn c.val).dc.scanDue := (congrArg DcSt.scanDue (perturbed_dc s c p m)).trans rfl
  rw [← due, ← perturbed_curtail s c p m]
  unfold State.mpptPeriodEnd
  rw [if_pos ⟨hrole, hst, by simp [hscan], hdue⟩, hm]
  simp only [hfirst, Bool.false_eq_true, if_false, hp]
  rfl

end

/-! ### A scan -/

theorem scanV_congr {u : State} {c : Nat} (hhi : u.rd (A.DC_V_MPP_HI c) = s.rd (A.DC_V_MPP_HI c))
    (hlo : u.rd (A.DC_V_MPP_LO c) = s.rd (A.DC_V_MPP_LO c)) (hcfg : u.rd (A.DC_CFG c) = s.rd (A.DC_CFG c)) (j : Nat) :
    u.scanV c j = s.scanV c j := by
  have n : u.get (F.DC_CFG_SCAN_N c) = s.get (F.DC_CFG_SCAN_N c) := State.get_congr hcfg
  rw [State.scanV, State.scanV, hhi, hlo, n]

/-- A scan begun: no point measured, the reference before it kept (06 R194). -/
def DcSt.scanBegun (d : DcSt) : DcSt := { d.clear with scanDue := false, scanIx := 0, vBefore := d.vref, bestP := fZero, bestV := fZero }

theorem scanStart_eq (s : State) (c : Nat) :
    s.scanStart c = ((s.modDc c DcSt.scanBegun).putb (F.DC_STAT_SCANNING c) true).setVref c (s.scanV c 0) := rfl

theorem scanStart_dc (s : State) (c : Chan) : ((s.scanStart c.val).chn c.val).dc =
    { (s.chn c.val).dc.scanBegun with vref := s.scanV c.val 0 } := by
  have begun : (((s.modDc c.val DcSt.scanBegun).putb (F.DC_STAT_SCANNING c.val) true).chn c.val).dc = (s.chn c.val).dc.scanBegun :=
    dc_modDc_same s c.isLt _
  rw [scanStart_eq, setVref_dc, begun]

theorem scanStart_scanning (s : State) (c : Chan) : (s.scanStart c.val).flag (F.DC_STAT_SCANNING c.val) = true := by
  have apart : A.DC_STAT c.val ≠ A.DC_MPPT_V c.val := chan_words_ne c.val (by decide)
  rw [scanStart_eq, State.flag_congr (State.get_congr (f := F.DC_STAT_SCANNING c.val) (setVref_rd _ _ _ apart))]
  exact State.flag_putb_same _ (chanFld_ok c.isLt (by decide)) (Nat.le_refl 3) true

theorem Frame.scanStart {ev : Bool} {ps : List Part} {W : Nat → Prop} {u : State} {c : Nat} (h : Frame ev ps W s u) (hp : .chan c ∈ ps)
    (hw : W (A.DC_STAT c)) (hv : W (A.DC_MPPT_V c)) : Frame ev ps W s (u.scanStart c) :=
  ((h.modDc hp _).putb (f := F.DC_STAT_SCANNING c) hw _).setVref hp hv _

section
variable (hr : s.runs = true) (hrole : s.role c.val = rDCP) (hst : s.cst c.val = sACTIVE)
  (hscan : s.flag (F.DC_STAT_SCANNING c.val) = false)
include hr hrole hst hscan

theorem completes_mppt_first (hdue : secClk (s.rd (A.DC_MPPT_T c.val)) ≤ (s.chn c.val).dc.sumT) (hfirst : (s.chn c.val).dc.first = true)
    (hnone : (s.chn c.val).dc.scanDue = false) : completes (.mpptPeriodEnd c) s fun t =>
      (t.chn c.val).dc = { (s.chn c.val).dc.clear with
        pPrev := (s.chn c.val).dc.means.1, vPrev := (s.chn c.val).dc.means.2, first := false } ∧
      Frame false [.chan c.val] (fun _ => False) s t := by
  refine completes_clocked rfl hr ?_
  rw [mpptPeriodEnd_first hrole hst hscan hdue hfirst hnone]
  exact ⟨(congrArg Ch.dc (settle_chn ..)).trans (dc_modDc_same s c.isLt _), ((Frame.refl ..).modDc (by simp) _).settle⟩

section
variable (hdue : secClk (s.rd (A.DC_MPPT_T c.val)) ≤ (s.chn c.val).dc.sumT) (hfirst : (s.chn c.val).dc.first = false)
  {m : F32 × F32} (hm : (s.chn c.val).dc.means = m) {p : Bool × Bool × F32} (hp : s.perturb c.val m.1 m.2 = p)
include hdue hfirst hm hp

theorem completes_mppt_perturbs (hnone : (s.chn c.val).dc.scanDue = false ∨ p.2.1 = true) : completes (.mpptPeriodEnd c) s fun t =>
    (t.chn c.val).dc = { (s.chn c.val).dc.clear with up := p.1, vref := p.2.2, pPrev := m.1, vPrev := m.2 } ∧
    Edited (A.DC_STAT c.val) [(F.DC_STAT_CURTAIL c.val, b2n p.2.1)] s t ∧ t.rd (A.DC_MPPT_V c.val) = p.2.2 ∧
    Frame false [.chan c.val] (· ∈ [A.DC_STAT c.val, A.DC_MPPT_V c.val]) s t := by
  have noScan : ((s.chn c.val).dc.scanDue && !p.2.1) = false := by rcases hnone with h | h <;> simp [h]
  have cleared : (s.chn c.val).dc.clear.first = false := hfirst
  refine completes_clocked rfl hr ?_
  rw [mpptPeriodEnd_later hrole hst hscan hdue hfirst hm hp, noScan, when_false]
  refine ⟨?_, ?_, ?_, ((Frame.refl ..).perturbed (by simp) (by simp) (by simp) p m).settle⟩
  · rw [settle_chn, perturbed_dc, DcSt.periodKept]
    exact congrArg (fun b => { (s.chn c.val).dc.clear with
      up := p.1, vref := p.2.2, pPrev := m.1, vPrev := m.2, first := b }) cleared.symm
  · exact (settle_rd ..).trans (perturbed_stat s c p m)
  · exact (settle_rd ..).trans (perturbed_shown s c p m)

theorem completes_mppt_scans (hscanDue : (s.chn c.val).dc.scanDue = true) (hcur : p.2.1 = false) : completes (.mpptPeriodEnd c) s fun t =>
    (t.chn c.val).dc.vref = s.scanV c.val 0 ∧ (t.chn c.val).dc.scanIx = 0 ∧ (t.chn c.val).dc.vBefore = p.2.2 ∧
    (t.chn c.val).dc.scanDue = false ∧ t.flag (F.DC_STAT_SCANNING c.val) = true ∧
    t.rd (A.DC_MPPT_V c.val) = s.scanV c.val 0 ∧
    Frame false [.chan c.val] (· ∈ [A.DC_STAT c.val, A.DC_MPPT_V c.val]) s t := by
  have starts : ((s.chn c.val).dc.scanDue && !p.2.1) = true := by simp [hscanDue, hcur]
  have word : ∀ {o : Nat}, o ≠ 0xC508 → o ≠ 0xC510 → (s.perturbed c.val p m).rd (chBase c.val + o) = s.rd (chBase c.val + o) :=
    fun h h' => perturbed_rd s c p m (chan_words_ne c.val h) (chan_words_ne c.val h')
  have first : (s.perturbed c.val p m).scanV c.val 0 = s.scanV c.val 0 :=
    scanV_congr (word (by decide) (by decide)) (word (by decide) (by decide)) (word (by decide) (by decide)) 0
  have dc := scanStart_dc (s.perturbed c.val p m) c
  rw [first, perturbed_dc] at dc
  refine completes_clocked rfl hr ?_
  rw [mpptPeriodEnd_later hrole hst hscan hdue hfirst hm hp, starts, when_true]
  refine ⟨congrArg DcSt.vref dc, congrArg DcSt.scanIx dc, congrArg DcSt.vBefore dc, congrArg DcSt.scanDue dc,
    (settle_flag ..).trans (scanStart_scanning _ c), ?_,
    (((Frame.refl ..).perturbed (by simp) (by simp) (by simp) p m).scanStart (by simp) (by simp) (by simp)).settle⟩
  rw [settle_rd, scanStart_eq, setVref_shown, first]

end

/-- SCAN_DUE: the time set has passed since the last scan (06 R194). -/
theorem completes_scanDue (ht : fEq (s.rd (A.DC_SCAN_T c.val)) fZero = false)
    (hheld : s.held (.scan c.val) (60 * secClk (s.rd (A.DC_SCAN_T c.val))) = true) :
    completes (.scanDue c) s fun t => (t.chn c.val).dc = { (s.chn c.val).dc with scanDue := true } ∧
      Frame false [.chan c.val] (fun _ => False) s t := by
  have acts : s.scanDueNow c.val = s.modDc c.val fun d => { d with scanDue := true } :=
    if_pos ⟨hrole, hst, by simp [ht], by simp [hscan], hheld⟩
  refine completes_clocked rfl hr ?_
  rw [acts]
  exact ⟨dc_modDc_same s c.isLt fun d => { d with scanDue := true }, ((Frame.refl ..).modDc (by simp) _).settle⟩

end
end Sys2Proof.Machine
end

section
/-! SUPPORT. The points of a scan, its abort and its end (06 R194, R195). -/

namespace Sys2Proof.Machine

variable {ev : Bool} {ps : List Part} {W : Nat → Prop} {s u : State} {c : Chan} {e : Fld}

/-- An event leaves the timers and the clock. -/
theorem raise_held (he : e.isEvent = true) (det : List Word) (s : State) (k : Tm) (d : Nat) : (s.raise e det).held k d = s.held k d := by
  have kept := kept_raiseAt s e.lo (event_low he) det
  have timers : (s.raise e det).timers = s.timers := kept.timers
  have clock : (s.raise e det).t = s.t := kept.t
  rw [State.held, State.held, timers, clock]

theorem wr_chn (s : State) (a : Nat) (v : Word) (c : Nat) : (s.wr a v).chn c = s.chn c := rfl

theorem settle_held (s u : State) (k : Tm) (d : Nat) : (settle s u).held k d = u.held k d := rfl

/-! ### The end of a scan -/

/-- A scan is over, with its event: SCANNING is 0, and the time to the next one runs (06 R194, R195). -/
def State.scanOver (c : Nat) (e : Fld) (s : State) : State := ((s.putb (F.DC_STAT_SCANNING c) false).restart (.scan c)).raise e

theorem scanEvents (c : Chan) : ∀ e ∈ [F.DC_EVT_SCAN_ABORT c.val, F.DC_EVT_SCAN_DONE c.val], e.isEvent = true ∧ e.addr = A.DC_EVT c.val := by
  revert c; decide

section
variable (he : e ∈ [F.DC_EVT_SCAN_ABORT c.val, F.DC_EVT_SCAN_DONE c.val])
include he

theorem scanOver_dc (s : State) : ((s.scanOver c.val e).chn c.val).dc = (s.chn c.val).dc :=
  congrArg Ch.dc (raise_chn (scanEvents c e he).1 [] _ c.val)

theorem scanOver_rd (s : State) {o : Nat} (hs : o ≠ 0xC508) (ho : o ≠ 0xC50C) : (s.scanOver c.val e).rd (chBase c.val + o) = s.rd (chBase c.val + o) := by
  obtain ⟨event, addr⟩ := scanEvents c e he
  exact (raise_rd event [] _ (addr ▸ chan_words_ne c.val ho) (chan_word_quiet ..)).trans (State.rd_put_ne s (chan_words_ne c.val hs) _)

theorem scanOver_stat (s : State) : (s.scanOver c.val e).flag (F.DC_STAT_SCANNING c.val) = false := by
  obtain ⟨event, addr⟩ := scanEvents c e he
  have status : (s.scanOver c.val e).rd (A.DC_STAT c.val) = (s.putb (F.DC_STAT_SCANNING c.val) false).rd (A.DC_STAT c.val) :=
    raise_rd event [] _ (addr ▸ chan_words_ne c.val (by decide)) (chan_word_quiet ..)
  rw [State.flag_congr (State.get_congr (f := F.DC_STAT_SCANNING c.val) status)]
  exact State.flag_putb_same s (chanFld_ok c.isLt (by decide)) (Nat.le_refl 3) false

theorem scanOver_held (s : State) : (s.scanOver c.val e).held (.scan c.val) 0 = true := by
  rw [State.scanOver, raise_held (scanEvents c e he).1, held_restart]

theorem scanOver_raised (before : u.rd (A.DC_EVT c.val) = s.rd (A.DC_EVT c.val)) : Raised e s (u.scanOver c.val e) := by
  obtain ⟨event, addr⟩ := scanEvents c e he
  have other : ((u.putb (F.DC_STAT_SCANNING c.val) false).restart (.scan c.val)).rd e.addr = s.rd e.addr :=
    (State.rd_put_ne u (addr ▸ chan_words_ne c.val (by decide)) _).trans (addr ▸ before)
  rw [Raised, ← other]
  exact raise_raised _ (event_low event) (event_quiet event)

theorem Frame.scanOver (h : Frame true ps W s u) (hp : .timers ∈ ps) (hw : W (A.DC_STAT c.val)) (hv : W (A.DC_EVT c.val)) :
    Frame true ps W s (u.scanOver c.val e) := by
  obtain ⟨event, addr⟩ := scanEvents c e he
  exact ((h.putb (f := F.DC_STAT_SCANNING c.val) hw _).restart hp _).raise (addr ▸ hv) (event_low event) []

end

/-! ### A point -/

/-- The best point so far, with the one just measured (06 R194). -/
def DcSt.best (d : DcSt) : F32 × F32 := if d.scanIx == 0 || fLt d.bestP d.means.1 then (d.means.1, d.vref) else (d.bestP, d.bestV)

/-- The point just measured exceeds a limit of the power (06 R195). -/
def State.scanExceeds (s : State) (c : Nat) : Bool :=
  fLt fZero (s.rd (A.DC_P_MAX c)) && fLt (s.rd (A.DC_P_MAX c)) (s.chn c).dc.means.1

/-- The best point kept, the sums cleared for the next. -/
def DcSt.pointKept (b : F32 × F32) (n : Nat) (d : DcSt) : DcSt := { d.clear with bestP := b.1, bestV := b.2, scanIx := n }

/-- The best point kept at the end of the scan, as the previous one of the perturbation that follows. -/
def DcSt.scanKept (b : F32 × F32) (d : DcSt) : DcSt := { d.clear with bestP := b.1, bestV := b.2, pPrev := b.1 }

section
variable (hrole : s.role c.val = rDCP) (hst : s.cst c.val = sACTIVE) (hscan : s.flag (F.DC_STAT_SCANNING c.val) = true)
  (hdwell : secClk (s.rd (A.DC_SCAN_DWELL c.val)) ≤ (s.chn c.val).dc.dwell)
include hrole hst hscan hdwell

theorem scanPointEnd_aborts (h : s.scanExceeds c.val = true) : s.scanPointEnd c.val =
    ((s.modDc c.val DcSt.clear).setVref c.val (s.chn c.val).dc.vBefore).scanOver c.val (F.DC_EVT_SCAN_ABORT c.val) := by
  unfold State.scanPointEnd
  rw [if_pos ⟨hrole, hst, hscan, hdwell⟩]
  exact if_pos h

/-- A point within the limit: the next one, or the end of the scan at the best. -/
theorem scanPointEnd_keeps (h : s.scanExceeds c.val = false) {b : F32 × F32} (hb : (s.chn c.val).dc.best = b) : s.scanPointEnd c.val =
    if (s.chn c.val).dc.scanIx + 1 < s.get (F.DC_CFG_SCAN_N c.val) then
      (s.modDc c.val (DcSt.pointKept b ((s.chn c.val).dc.scanIx + 1))).setVref c.val (s.scanV c.val ((s.chn c.val).dc.scanIx + 1))
    else (((s.modDc c.val (DcSt.scanKept b)).setVref c.val b.2).wr (A.DC_SCAN_V c.val) b.2).scanOver c.val (F.DC_EVT_SCAN_DONE c.val) := by
  have within : ¬ s.scanExceeds c.val = true := by simp [h]
  have power : b.1 = if (s.chn c.val).dc.scanIx == 0 || fLt (s.chn c.val).dc.bestP (s.chn c.val).dc.means.1 then (s.chn c.val).dc.means.1
      else (s.chn c.val).dc.bestP := by rw [← hb, DcSt.best]; split <;> rfl
  have voltage : b.2 = if (s.chn c.val).dc.scanIx == 0 || fLt (s.chn c.val).dc.bestP (s.chn c.val).dc.means.1 then (s.chn c.val).dc.vref
      else (s.chn c.val).dc.bestV := by rw [← hb, DcSt.best]; split <;> rfl
  unfold State.scanPointEnd
  rw [if_pos ⟨hrole, hst, hscan, hdwell⟩]
  refine (if_neg within).trans ?_
  unfold DcSt.pointKept DcSt.scanKept
  rw [power, voltage]
  rfl

section
variable (hr : s.runs = true)
include hr

theorem completes_scan_aborts (h : s.scanExceeds c.val = true) : completes (.scanPointEnd c) s fun t =>
    (t.chn c.val).dc = { (s.chn c.val).dc.clear with vref := (s.chn c.val).dc.vBefore } ∧
    t.rd (A.DC_MPPT_V c.val) = (s.chn c.val).dc.vBefore ∧ t.flag (F.DC_STAT_SCANNING c.val) = false ∧ t.held (.scan c.val) 0 = true ∧
    Raised (F.DC_EVT_SCAN_ABORT c.val) s t ∧
    Frame true [.chan c.val, .timers] (· ∈ [A.DC_STAT c.val, A.DC_MPPT_V c.val, A.DC_EVT c.val]) s t := by
  have event : F.DC_EVT_SCAN_ABORT c.val ∈ [F.DC_EVT_SCAN_ABORT c.val, F.DC_EVT_SCAN_DONE c.val] := by simp
  have before : ((s.modDc c.val DcSt.clear).setVref c.val (s.chn c.val).dc.vBefore).rd (A.DC_EVT c.val) = s.rd (A.DC_EVT c.val) :=
    setVref_rd _ _ _ (chan_words_ne c.val (by decide))
  refine completes_clocked rfl hr ?_
  rw [scanPointEnd_aborts hrole hst hscan hdwell h]
  refine ⟨?_, ?_, (settle_flag ..).trans (scanOver_stat event _), (settle_held ..).trans (scanOver_held event _), ?_, ?_⟩
  · rw [settle_chn, scanOver_dc event, setVref_dc, dc_modDc_same s c.isLt]
  · exact (settle_rd ..).trans ((scanOver_rd event _ (by decide) (by decide)).trans (setVref_shown ..))
  · exact (settle_rd ..).trans (scanOver_raised event before)
  · exact (Frame.scanOver event (((Frame.refl ..).modDc (by simp) _).setVref (by simp) (by simp) _) (by simp) (by simp) (by simp)).settle

variable (h : s.scanExceeds c.val = false) {b : F32 × F32} (hb : (s.chn c.val).dc.best = b)
include h hb

theorem completes_scan_next (hn : (s.chn c.val).dc.scanIx + 1 < s.get (F.DC_CFG_SCAN_N c.val)) : completes (.scanPointEnd c) s fun t =>
    (t.chn c.val).dc = { (s.chn c.val).dc.clear with
      bestP := b.1, bestV := b.2, scanIx := (s.chn c.val).dc.scanIx + 1, vref := s.scanV c.val ((s.chn c.val).dc.scanIx + 1) } ∧
    t.rd (A.DC_MPPT_V c.val) = s.scanV c.val ((s.chn c.val).dc.scanIx + 1) ∧
    Frame false [.chan c.val] (· = A.DC_MPPT_V c.val) s t := by
  refine completes_clocked rfl hr ?_
  rw [scanPointEnd_keeps hrole hst hscan hdwell h hb, if_pos hn]
  have own : Frame false [.chan c.val] (· = A.DC_MPPT_V c.val) s s := Frame.refl ..
  have mem : Part.chan c.val ∈ [Part.chan c.val] := List.mem_singleton_self _
  refine ⟨?_, (settle_rd ..).trans (setVref_shown ..), ((own.modDc mem _).setVref mem rfl _).settle⟩
  rw [settle_chn, setVref_dc, dc_modDc_same s c.isLt, DcSt.pointKept]

theorem completes_scan_done (hn : s.get (F.DC_CFG_SCAN_N c.val) ≤ (s.chn c.val).dc.scanIx + 1) : completes (.scanPointEnd c) s fun t =>
    (t.chn c.val).dc = { (s.chn c.val).dc.clear with bestP := b.1, bestV := b.2, pPrev := b.1, vref := b.2 } ∧
    t.rd (A.DC_MPPT_V c.val) = b.2 ∧ t.rd (A.DC_SCAN_V c.val) = b.2 ∧ t.flag (F.DC_STAT_SCANNING c.val) = false ∧
    t.held (.scan c.val) 0 = true ∧ Raised (F.DC_EVT_SCAN_DONE c.val) s t ∧
    Frame true [.chan c.val, .timers] (· ∈ [A.DC_STAT c.val, A.DC_MPPT_V c.val, A.DC_SCAN_V c.val, A.DC_EVT c.val]) s t := by
  have event : F.DC_EVT_SCAN_DONE c.val ∈ [F.DC_EVT_SCAN_ABORT c.val, F.DC_EVT_SCAN_DONE c.val] := by simp
  have before : (((s.modDc c.val (DcSt.scanKept b)).setVref c.val b.2).wr (A.DC_SCAN_V c.val) b.2).rd (A.DC_EVT c.val) = s.rd (A.DC_EVT c.val) :=
    (State.rd_wr_ne _ (chan_words_ne c.val (by decide)) _).trans (setVref_rd _ _ _ (chan_words_ne c.val (by decide)))
  refine completes_clocked rfl hr ?_
  rw [scanPointEnd_keeps hrole hst hscan hdwell h hb, if_neg (Nat.not_lt.mpr hn)]
  refine ⟨?_, ?_, ?_, (settle_flag ..).trans (scanOver_stat event _), (settle_held ..).trans (scanOver_held event _), ?_, ?_⟩
  · rw [settle_chn, scanOver_dc event, wr_chn, setVref_dc, dc_modDc_same s c.isLt, DcSt.scanKept]
  · exact (settle_rd ..).trans ((scanOver_rd event _ (by decide) (by decide)).trans
      ((State.rd_wr_ne _ (chan_words_ne c.val (by decide)) _).trans (setVref_shown ..)))
  · refine (settle_rd ..).trans ((scanOver_rd event _ (by decide) (by decide)).trans ((State.rd_wr_same ..).trans ?_))
    rw [(mpptV_full c).2]
    exact BitVec.and_allOnes
  · exact (settle_rd ..).trans (scanOver_raised event before)
  · exact (Frame.scanOver event ((((Frame.refl ..).modDc (by simp) _).setVref (by simp) (by simp) _).wr (by simp) _)
      (by simp) (by simp) (by simp)).settle

end
end

/-- Settles O17: by whether a scan runs, and by what the period, or the point, finds. -/
theorem mpptTracksAndScans : Obligations.MpptTracksAndScans := by
  rintro s c hr hrole hst _ rfl
  refine ⟨fun hscan => ⟨?first, fun hdue hfirst _ hm _ hp => ⟨?perturbs, ?scans⟩, ?due⟩, fun hscan hdwell => ⟨?aborts, fun h _ hb => ⟨?next, ?done⟩⟩⟩
  case first => exact completes_mppt_first hr hrole hst hscan
  case perturbs => exact completes_mppt_perturbs hr hrole hst hscan hdue hfirst hm hp
  case scans => exact completes_mppt_scans hr hrole hst hscan hdue hfirst hm hp
  case due => exact completes_scanDue hr hrole hst hscan
  case aborts => exact completes_scan_aborts hrole hst hscan hdwell hr
  case next => exact completes_scan_next hrole hst hscan hdwell hr h hb
  case done => exact completes_scan_done hrole hst hscan hdwell hr h hb

end Sys2Proof.Machine
end

section
/-! SUPPORT. The start of a machine: SYNC by its position signal or by the open-loop sequence, and its failures (06 R182, R203, R204). -/

namespace Sys2Proof.Machine

variable {ev : Bool} {ps : List Part} {W : Nat → Prop} {s u : State} {c : Chan}

/-! ### Timers -/

/-- Starting one timer leaves the others. -/
theorem held_restart_ne (s : State) {k k' : Tm} (h : k' ≠ k) (d : Nat) : (s.restart k).held k' d = s.held k' d := by
  have first : ((k == k') && decide (s.t.start + d ≤ s.t.start)) = false := by simp [Ne.symm h]
  have others : ∀ x : Tm × Nat, ((x.1 != k) && ((x.1 == k') && decide (x.2 + d ≤ s.t.start))) = ((x.1 == k') && decide (x.2 + d ≤ s.t.start)) :=
    fun x => by
      by_cases hx : x.1 = k'
      · simp [hx, h]
      · simp [hx]
  simp only [State.held, State.restart, List.any_cons, List.any_filter]
  exact (congrArg₂ or first (congrArg s.timers.any (funext others))).trans (Bool.false_or _)

theorem restart_rd (s : State) (k : Tm) (a : Nat) : (s.restart k).rd a = s.rd a := rfl
theorem put_chn (s : State) (f : Fld) (v c : Nat) : (s.put f v).chn c = s.chn c := rfl
theorem restart_chn (s : State) (k : Tm) (c : Nat) : (s.restart k).chn c = s.chn c := rfl

theorem applyForce_held (s : State) (c : Nat) (k : Tm) (d : Nat) : (s.applyForce c).held k d = s.held k d := by
  have frame : Frame false [.chan c] (· = A.PWM_FSTAT c) s (s.applyForce c) := (Frame.refl ..).applyForce (by simp) rfl
  have timers : (s.applyForce c).timers = s.timers := frame.parts .timers (by simp)
  have clock : (s.applyForce c).t = s.t := frame.parts .t (by simp)
  rw [State.held, State.held, timers, clock]

/-! ### SYNC begins -/

/-- SYNC begins, with the time in it (06 R182). -/
def State.syncBegun (c : Nat) (s : State) : State := (s.put (F.ROLE_STAT_CH_STATE c) sSYNC).restart (.entered c)

/-- The alignment of an open-loop start, at angle and speed 0 (06 R204). -/
def MachSt.aligned (m : MachSt) : MachSt := { m with start := 1, th := fZero, w := fZero }

/-- The open-loop start aligns, its time runs (06 R204). -/
def State.aligning (c : Nat) (s : State) : State :=
  ((s.modMach c MachSt.aligned).putb (F.MACH_STAT_START_PH c) true).restart (.align c)

section
variable (s c)

theorem syncBegun_rd {o : Nat} (h : o ≠ 0xC004) : (s.syncBegun c.val).rd (chBase c.val + o) = s.rd (chBase c.val + o) :=
  State.rd_put_ne s (chan_words_ne c.val h) _

theorem syncBegun_cst : (s.syncBegun c.val).cst c.val = sSYNC := State.get_put_same s (chanFld_ok c.isLt (by decide)) _

theorem syncBegun_held : (s.syncBegun c.val).held (.entered c.val) 0 = true := held_restart _ _

theorem aligning_rd {a : Nat} (h : a ≠ A.MACH_STAT c.val) : (s.aligning c.val).rd a = s.rd a := by
  rw [State.aligning, restart_rd, State.putb, State.rd_put_ne _ h, State.modMach_rd]

theorem aligning_mach : ((s.aligning c.val).chn c.val).mach = (s.chn c.val).mach.aligned := by
  rw [State.aligning, restart_chn, State.putb, put_chn, mach_modMach_same s c.isLt]

theorem aligning_startPh : (s.aligning c.val).flag (F.MACH_STAT_START_PH c.val) = true :=
  (State.flag_congr (State.get_congr (f := F.MACH_STAT_START_PH c.val) (restart_rd ..))).trans
    (State.flag_putb_same _ (chanFld_ok c.isLt (by decide)) (Nat.le_refl 3) true)

theorem aligning_held : (s.aligning c.val).held (.align c.val) 0 = true := held_restart _ _

theorem aligning_held_entered (d : Nat) : (s.aligning c.val).held (.entered c.val) d = s.held (.entered c.val) d :=
  held_restart_ne _ (by simp) d

end

theorem Frame.syncBegun (h : Frame ev ps W s u) (hp : .timers ∈ ps) (hw : W (A.ROLE_STAT c.val)) : Frame ev ps W s (u.syncBegun c.val) :=
  (h.put (f := F.ROLE_STAT_CH_STATE c.val) hw _).restart hp _

theorem Frame.aligning (h : Frame ev ps W s u) (hc : .chan c.val ∈ ps) (hp : .timers ∈ ps) (hw : W (A.MACH_STAT c.val)) :
    Frame ev ps W s (u.aligning c.val) :=
  ((h.modMach hc _).putb (f := F.MACH_STAT_START_PH c.val) hw _).restart hp _

/-- A phase of a machine that starts by its open loop in SYNC, with a carrier, is held off neither by the role nor else (06 R204; 07 R233). -/
theorem starting_not_forced (hrole : s.role c.val = rMACH) (hst : s.cst c.val = sSYNC) (hstart : (s.chn c.val).mach.start ≠ 0)
    (h : Fin 3) (hmode : s.modeHolds c.val = false) (hoff : s.bitOf (F.PWM_FORCE_OFF c.val) h.val = false)
    (hcar : s.get (F.PWM_CAR_SHAPE c.val) ≠ 0) : s.forced c.val h.val = false := by
  have phase : h.val < 3 := h.isLt
  have carried : s.isStatic c.val h.val = false := by
    have not6 : h.val ≠ 6 := by omega
    have not9 : h.val ≠ 9 := by omega
    simp [State.isStatic, not6, not9]
  have drives : s.roleDrives c.val h.val = true := by simp [State.roleDrives, hrole, rGRID, rDCB, rDCP, rMACH, phase]
  have roleHolds : s.roleHolds c.val h.val = false := by
    simp [State.roleHolds, carried, drives, hrole, hst, hstart, hcar, rIDLE, rMACH]
  rw [State.forced, hoff, roleHolds, hmode]
  rfl

/-- Nothing but TAIL enters what holds every slot off, beside the mode and the role (07 R233; 17 R482). -/
theorem modeHolds_congr {c : Nat} (hmode : u.rd A.SYS_MODE = s.rd A.SYS_MODE) (hrole : u.role c = s.role c) (hst : u.cst c ≠ sTAIL)
    (h : s.modeHolds c = false) : u.modeHolds c = false := by
  have mode : u.mode = s.mode := State.get_congr hmode
  simp only [State.modeHolds, mode, hrole, Bool.or_eq_false_iff, beq_eq_false_iff_ne] at h ⊢
  obtain ⟨⟨modes, -⟩, service⟩ := h
  exact ⟨⟨modes, hst⟩, service⟩

/-- Without a sensor the open-loop start aligns, and the phases are released (06 R204). -/
theorem machPrechargeDone_aligns (hrole : s.role c.val = rMACH) (hst : s.cst c.val = sPRECHARGE)
    (hheld : s.held (.vdc c.val) (msClk 20) = true) (hpos : s.posSensor c.val = false) :
    s.machPrechargeDone c.val = ((s.syncBegun c.val).aligning c.val).applyForce c.val := by
  have pos : ¬ (s.syncBegun c.val).posSensor c.val = true := by
    rw [State.posSensor, State.flag_congr (State.get_congr (f := F.MACH_CFG_POS c.val) (syncBegun_rd s c (by decide)))]
    simpa [State.posSensor] using hpos
  exact (if_pos ⟨hrole, hst, hheld⟩).trans (if_neg pos)

section
variable (hr : s.runs = true) (hrole : s.role c.val = rMACH) (hst : s.cst c.val = sPRECHARGE)
  (hheld : s.held (.vdc c.val) (msClk 20) = true)
include hr hrole hst hheld

theorem completes_machPrecharge_sensor (hpos : s.posSensor c.val = true) : completes (.machPrechargeComplete c) s fun t =>
    t.cst c.val = sSYNC ∧ t.held (.entered c.val) 0 = true ∧ Frame false [.timers] (· = A.ROLE_STAT c.val) s t := by
  have pos : (s.syncBegun c.val).posSensor c.val = true := (State.flag_congr (State.get_congr (syncBegun_rd s c (by decide)))).trans hpos
  have acts : s.machPrechargeDone c.val = s.syncBegun c.val := (if_pos ⟨hrole, hst, hheld⟩).trans (if_pos pos)
  have own : Frame false [.timers] (· = A.ROLE_STAT c.val) s s := Frame.refl ..
  refine completes_clocked rfl hr ?_
  rw [acts]
  exact ⟨(settle_get ..).trans (syncBegun_cst s c), (settle_held ..).trans (syncBegun_held s c), (own.syncBegun (by simp) rfl).settle⟩

theorem completes_machPrecharge_openLoop (hpos : s.posSensor c.val = false) : completes (.machPrechargeComplete c) s fun t =>
    t.cst c.val = sSYNC ∧ t.held (.entered c.val) 0 = true ∧ t.held (.align c.val) 0 = true ∧
    (t.chn c.val).mach = { (s.chn c.val).mach with start := 1, th := fZero, w := fZero } ∧
    t.flag (F.MACH_STAT_START_PH c.val) = true ∧
    (∀ h : Fin 3, s.modeHolds c.val = false → s.bitOf (F.PWM_FORCE_OFF c.val) h.val = false →
      s.get (F.PWM_CAR_SHAPE c.val) ≠ 0 → t.bitOf (F.PWM_FSTAT_OFF_EFF c.val) h.val = false) ∧
    Frame false [.timers, .chan c.val] (· ∈ [A.ROLE_STAT c.val, A.MACH_STAT c.val, A.PWM_FSTAT c.val]) s t := by
  have word : ∀ {o : Nat}, o ≠ 0xC004 → o ≠ 0xC708 →
      ((s.syncBegun c.val).aligning c.val).rd (chBase c.val + o) = s.rd (chBase c.val + o) := fun h h' =>
    (aligning_rd _ c (chan_words_ne c.val h')).trans (syncBegun_rd s c h)
  have state : ((s.syncBegun c.val).aligning c.val).cst c.val = sSYNC :=
    (State.get_congr (aligning_rd _ c (chan_words_ne c.val (by decide)))).trans (syncBegun_cst s c)
  have role : ((s.syncBegun c.val).aligning c.val).role c.val = s.role c.val := State.get_congr (word (by decide) (by decide))
  have mach : (((s.syncBegun c.val).aligning c.val).chn c.val).mach = (s.chn c.val).mach.aligned := aligning_mach _ c
  refine completes_clocked rfl hr ?_
  rw [machPrechargeDone_aligns hrole hst hheld hpos]
  refine ⟨?state, ?entered, ?align, ?mach, ?startPh, fun h hmode hoff hcar => ?released, ?frame⟩
  case state => exact (settle_get ..).trans ((State.get_congr (applyForce_rd _ _ (chan_words_ne c.val (by decide)))).trans state)
  case entered => rw [settle_held, applyForce_held, aligning_held_entered, syncBegun_held]
  case align => rw [settle_held, applyForce_held, aligning_held]
  case mach => rw [settle_chn, applyForce_view unbridged_mach, mach, MachSt.aligned]
  case startPh =>
    rw [settle_flag, State.flag_congr (State.get_congr (f := F.MACH_STAT_START_PH c.val)
      (applyForce_rd _ _ (chan_words_ne c.val (by decide)))), aligning_startPh]
  case released =>
    have mode : ((s.syncBegun c.val).aligning c.val).modeHolds c.val = false := by
      have low : ∀ o : Nat, A.SYS_MODE ≠ chBase c.val + o := fun o => by unfold A.SYS_MODE chBase; omega
      refine modeHolds_congr ((aligning_rd _ c (low _)).trans (State.rd_put_ne s (low _) _)) role ?_ hmode
      rw [state]; decide
    have off : ((s.syncBegun c.val).aligning c.val).bitOf (F.PWM_FORCE_OFF c.val) h.val = false :=
      (State.bitOf_congr (State.get_congr (word (by decide) (by decide))) _).trans hoff
    have carrier : ((s.syncBegun c.val).aligning c.val).get (F.PWM_CAR_SHAPE c.val) = s.get (F.PWM_CAR_SHAPE c.val) :=
      State.get_congr (word (by decide) (by decide))
    rw [settle_bitOf, applyForce_offEff _ c.isLt (by omega)]
    exact starting_not_forced (role.trans hrole) state (by rw [mach]; simp [MachSt.aligned]) h mode off (ne_of_eq_of_ne carrier hcar)
  case frame =>
    exact (Frame.applyForce (Frame.aligning (Frame.syncBegun (Frame.refl ..) (by simp) (by simp)) (by simp) (by simp) (by simp))
      (by simp) (by simp)).settle

end

/-! ### Failures, and the steps of the start -/

/-- A machine that a row moves into OFF stands there with the code. -/
theorem completes_mach_off {x : Instr} {f : State → State} {k : Nat} (he : exec x s = State.clocked f s) (hr : s.runs = true)
    (hrole : s.role c.val = rMACH) (hk : k < 16) (hf : f s = s.toOff c.val k) : completes x s fun t =>
      t.cst c.val = sOFF ∧ t.refuseCode c.val = k ∧ Frame true [.chan c.val] (· ∈ offWords c.val) s t := by
  have role : (settle s (s.toOff c.val k)).role c.val = rMACH := (settle_get ..).trans ((toOff_role s c k).trans hrole)
  refine completes_clocked he hr ?_
  rw [hf]
  exact ⟨(settle_get ..).trans (toOff_cst s c k),
    ((mach_refusesIn c).shows _ role).trans ((settle_get ..).trans ((mach_refusesIn c).toOff_code hrole hk)),
    (Frame.toOff c.isLt (Frame.refl ..) (by simp) (fun _ => id) k).settle⟩

/-- A step of the start changes the machine's own state alone. -/
theorem completes_mach_step {x : Instr} {f : State → State} {g : MachSt → MachSt} (he : exec x s = State.clocked f s) (hr : s.runs = true)
    (hf : f s = s.modMach c.val g) : completes x s fun t =>
      (t.chn c.val).mach = g (s.chn c.val).mach ∧ Frame false [.chan c.val] (fun _ => False) s t := by
  refine completes_clocked he hr ?_
  rw [hf]
  exact ⟨mach_modMach_same s c.isLt g, ((Frame.refl ..).modMach (by simp) g).settle⟩

/-- Settles O19: by the state of the channel, and by how its machine finds its position. -/
theorem machinesStartByPositionOrOpenLoop : Obligations.MachinesStartByPositionOrOpenLoop := by
  intro s c hr hrole
  refine ⟨fun hst => ⟨completes_machPrecharge_sensor hr hrole hst, completes_machPrecharge_openLoop hr hrole hst, fun hheld => ?pcTimeout⟩,
    fun hst => ⟨fun hpos hheld => ?position, fun hpos hact hheld => ?noPosition, fun hstart hheld => ?aligned,
      fun hstart hheld => ?handover, fun hstart hact hheld => ?noHandover⟩⟩
  case pcTimeout =>
    have noDc : ¬ (s.isDc c.val = true ∧ s.cst c.val = sPRECHARGE ∧ s.held (.entered c.val) (secClk (s.rd (A.DC_T_PC c.val))) = true) := by
      simp [mach_not_dc hrole]
    exact completes_mach_off (f := State.dcPcTimeout c.val) rfl hr hrole (by decide) ((if_neg noDc).trans (if_pos ⟨hrole, hst, hheld⟩))
  case position => exact completes_mach_step (f := State.machPosSync c.val) rfl hr (if_pos ⟨hrole, hst, hpos, hheld⟩)
  case noPosition =>
    exact completes_mach_off (f := State.machPosTimeout c.val) rfl hr hrole (by decide) (if_pos ⟨hrole, hst, hpos, by simp [hact], hheld⟩)
  case aligned => exact completes_mach_step (f := State.machAlignEnd c.val) rfl hr (if_pos ⟨hrole, hst, hstart, hheld⟩)
  case handover => exact completes_mach_step (f := State.machHandover c.val) rfl hr (if_pos ⟨hrole, hst, hstart, hheld⟩)
  case noHandover =>
    exact completes_mach_off (f := State.machHoTimeout c.val) rfl hr hrole (by decide)
      (if_pos ⟨hrole, hst, hstart, by simp [hact], hheld⟩)

end Sys2Proof.Machine
end

section
/-! SUPPORT. The contactor output of a DC channel follows its command (06 R185; 07 R234; 08 R244). -/

namespace Sys2Proof.Machine

variable {s : State} {c : Chan}

/-- HB6 as the contactor output of a DC channel follows the contactor command (06 R185; 08 R244). -/
theorem gateCmd_dc_contactor (hdc : s.isDc c.val = true) (hen : s.flag (F.DC_CFG_KM_EN c.val) = true)
    (hlink : (s.gate c.val 6).linkErr = false) : s.gateCmd c.val 6 = (s.flag (F.DC_STAT_KM_CMD c.val), false) := by
  have slot : s.kmSlot c.val = true := by rw [State.kmSlot, hen, Bool.and_true, ← State.isDc, hdc, Bool.or_true]
  have output : s.isStatic c.val 6 = true := by simp [State.isStatic, slot]
  have commanded : s.kmCmd c.val = s.flag (F.DC_STAT_KM_CMD c.val) := if_neg (dc_not_grid hdc)
  simp [State.gateCmd, hlink, output, commanded]

/-- The command to close turns the contactor output of a DC channel on. -/
theorem setKm_dc_closes (hdc : s.isDc c.val = true) (hen : s.flag (F.DC_CFG_KM_EN c.val) = true)
    (hlink : (s.gate c.val 6).linkErr = false) : ((s.setKm c.val true).gate c.val 6).hi = true := by
  have dc : (s.putb (F.DC_STAT_KM_CMD c.val) true).isDc c.val = true :=
    (isDc_congr (State.get_put_ne s (chan_words_ne c.val (by decide)) _)).trans hdc
  have en : (s.putb (F.DC_STAT_KM_CMD c.val) true).flag (F.DC_CFG_KM_EN c.val) = true :=
    (State.flag_put_ne s (chan_words_ne c.val (by decide)) _).trans hen
  rw [State.setKm, if_neg (dc_not_grid hdc), if_pos (isDc_iff.mp hdc), gateUpdate_hi _ c.isLt (by decide), gateCmd_dc_contactor dc en hlink]
  exact State.flag_putb_same s (dcKm_ok c) (Nat.le_refl 4) true

/-- DC_QUALIFIED of a channel with a contactor output turns that output on: HB6 of the channel is not as it was. -/
theorem completes_dcQualified_contactor (hr : s.runs = true) (hdc : s.isDc c.val = true) (hst : s.cst c.val = sSYNC)
    (hkm : s.flag (F.DC_STAT_KM_CMD c.val) = false) (hq : s.held (.qual c.val) (secClk (s.rd (A.DC_T_QUAL c.val))) = true)
    (hen : s.flag (F.DC_CFG_KM_EN c.val) = true) (hlink : (s.gate c.val 6).linkErr = false) :
    completes (.dcQualified c) s fun t => (t.gate c.val 6).hi = true := by
  have acts : s.dcQualified c.val = (s.setKm c.val true).restart (.km c.val) := if_pos ⟨hdc, hst, by simp [hkm], hq⟩
  refine completes_clocked rfl hr ?_
  rw [acts]
  exact setKm_dc_closes hdc hen hlink

/-! ### A DC channel whose contactor closes -/

/-- A running device in RUN, 1 s after WAKE; channel 0 is a DCB channel in SYNC with a contactor output, and its checks have held all
that time. -/
def qualifiedDc : State :=
  { State.reset with
    regs := [(A.SYS_MODE, 3#32), (A.ROLE_SEL 0, 2#32), (A.ROLE_STAT 0, 2#32), (A.DC_CFG 0, 0x20A1#32)]
    t := { woke := true, start := 800000000 }
    timers := [(.qual 0, 0)] }

theorem qualifiedDc_wf : qualifiedDc.regsWf = true := by decide
theorem qualifiedDc_runs : qualifiedDc.runs = true := by decide
theorem qualifiedDc_dc : qualifiedDc.isDc 0 = true := by decide
theorem qualifiedDc_sync : qualifiedDc.cst 0 = sSYNC := by decide
theorem qualifiedDc_open : qualifiedDc.flag (F.DC_STAT_KM_CMD 0) = false := by decide
theorem qualifiedDc_held : qualifiedDc.held (.qual 0) (secClk (qualifiedDc.rd (A.DC_T_QUAL 0))) = true := by decide

/-- The checks close the contactor: its output turns on. -/
theorem qualifiedDc_closes : completes (.dcQualified 0) qualifiedDc fun t => (t.gate 0 6).hi = true :=
  completes_dcQualified_contactor (c := 0) qualifiedDc_runs qualifiedDc_dc qualifiedDc_sync qualifiedDc_open qualifiedDc_held
    (by decide) rfl

/-- Refutes O16 in its clause on the qualification: that clause keeps the channel's half-bridges, and the command to close the contactor
turns HB6 on where HB6 is the contactor output (06 R185, DC_CFG.KM_EN). -/
theorem not_dcPortsConnectByTheirChecks : ¬ Obligations.DcPortsConnectByTheirChecks := by
  intro h
  obtain ⟨-, sync, -⟩ := h qualifiedDc 0 qualifiedDc_runs qualifiedDc_dc
  obtain ⟨unqualified, -⟩ := sync qualifiedDc_sync
  obtain ⟨qualified, -⟩ := unqualified qualifiedDc_open
  obtain ⟨t, -, ⟨-, -, frame⟩, closed⟩ := completes_both (qualified qualifiedDc_held) qualifiedDc_closes
  have same : t.chn 0 = qualifiedDc.chn 0 := frame.parts (.chan 0) (by decide)
  rw [State.gate, same] at closed
  exact absurd closed (by decide)

end Sys2Proof.Machine
end

section
/-! SUPPORT. A trip turns the half-bridges of a channel off, and what the start of a carrier period leaves of its half-bridge (06 R208, R209;
07 R216, R233; 08 R253, R256). -/

namespace Sys2Proof.Machine

variable {s : State} {c k : Nat}

/-! ### A trip -/

/-- A channel that a trip has acted on is neither ACTIVE nor in SYNC, whatever its state was (04 R126; 06 R182). -/
theorem exitToOff_cst (s : State) (c : Chan) (k : Nat) :
    (s.exitToOff c.val k).cst c.val ≠ sACTIVE ∧ (s.exitToOff c.val k).cst c.val ≠ sSYNC := by
  unfold State.exitToOff
  split
  · rw [toOff_cst]; decide
  · rename_i other
    simp only [not_or] at other
    exact ⟨other.2.2, other.2.1⟩

/-- A role that drives no half-bridge now holds each off but its static outputs (07 R233). -/
theorem roleHolds_of_stopped (hstatic : s.isStatic c k = false) (hrole : s.role c ≠ rIDLE) (hact : s.cst c ≠ sACTIVE)
    (hsync : s.cst c ≠ sSYNC) : s.roleHolds c k = true := by
  simp [State.roleHolds, hstatic, hrole, hact, hsync]

/-- A trip leaves the role selected. -/
theorem role_not_tripWords : ¬ tripWords c (A.ROLE_SEL c) := by
  rintro (hw | ⟨j, hj, hw | hw⟩)
  · simp only [List.mem_cons, List.not_mem_nil, or_false, A.ROLE_SEL, A.GDI_STAT, A.GDI_SRC, A.GDI_TRQ_N, A.GDI_CNT, A.GDI_EVT, A.PWM_FORCE,
      A.PWM_FSTAT, A.ROLE_STAT, A.GRID_STAT, A.GRID_EVT, A.DC_STAT, A.DC_EVT, A.MACH_STAT, A.MACH_EVT, A.RIDE_CH_STAT] at hw
    omega
  all_goals simp only [A.ROLE_SEL, A.GDI_TRQ_A, A.GDI_TRQ_B] at hw; omega

theorem trip_event (c : Chan) : (F.GDI_EVT_TRIP c.val).isEvent = true := by revert c; decide

/-- A trip of a channel with a role turns its half-bridges off, but the static outputs. -/
theorem trip_hb_off (c : Chan) {h : Nat} (hh : h < 6) (hn : s.flag (F.GDI_STAT_TRIPPED c.val) = false) (hrole : s.role c.val ≠ rIDLE)
    (code inp off : Nat) : ((s.trip c.val code inp off).hb c.val h).e = false := by
  obtain ⟨x, trips⟩ : ∃ x, s.trip c.val code inp off = ((State.exitToOff x c.val kTRIP).applyForce c.val).raise (F.GDI_EVT_TRIP c.val) := by
    unfold State.trip
    rw [if_neg (by simp [hn])]
    exact ⟨_, rfl⟩
  have kept : (s.trip c.val code inp off).role c.val = s.role c.val :=
    State.get_congr ((Frame.trip c.isLt (Frame.refl true [.chan c.val] (tripWords c.val) s) (by simp) (fun _ ha => ha) code inp off).words
      _ role_not_tripWords fun _ => chan_word_quiet ..)
  have before : (s.trip c.val code inp off).role c.val = (State.exitToOff x c.val kTRIP).role c.val := by
    rw [trips]
    exact State.get_congr ((raise_rd (trip_event c) [] _ (chan_words_ne c.val (by decide)) (chan_word_quiet ..)).trans
      (applyForce_rd _ _ (chan_words_ne c.val (by decide))))
  have carried : (State.exitToOff x c.val kTRIP).isStatic c.val h = false := by
    have not6 : h ≠ 6 := by omega
    have not9 : h ≠ 9 := by omega
    simp [State.isStatic, not6, not9]
  obtain ⟨notActive, notSync⟩ := exitToOff_cst x c kTRIP
  have forced : (State.exitToOff x c.val kTRIP).forced c.val h = true := by
    rw [State.forced, roleHolds_of_stopped carried (before ▸ kept ▸ hrole) notActive notSync]
    simp
  rw [trips, State.hb, raise_chn (trip_event c)]
  exact applyForce_hb_off c.isLt (by omega) forced

/-! ### A cycle-by-cycle hold -/

theorem cbc_event (c : Chan) : (F.GDI_EVT_CBC c.val).isEvent = true := by revert c; decide

/-- A hold begins: it is shown, counted and recorded, and the outputs follow (08 R253). -/
def State.cbcShown (c h : Nat) (s : State) : State :=
  (((s.putBit (F.GDI_STAT_CBC_HOLD c) h true).inc (F.GDI_CNT2_CBC_CNT c)).raise (F.GDI_EVT_CBC c)).gateUpdate c h

/-- The period has a hold, the `n`-th in a row (08 R253). -/
def State.cbcMarked (c h n : Nat) (s : State) : State := s.modGate c h fun g => { g with cbcNow := true, cbcRun := n }

theorem cbcHold_eq (s : State) (c h off : Nat) {n : Nat}
    (hn : (if ((s.cbcShown c h).gate c h).cbcNow then ((s.cbcShown c h).gate c h).cbcRun else ((s.cbcShown c h).gate c h).cbcRun + 1) = n) :
    s.cbcHold c h off = ((s.cbcShown c h).cbcMarked c h n).when
      (((s.cbcShown c h).cbcMarked c h n).get (F.GDI_SNS_CBC_N c h) != 0 && ((s.cbcShown c h).cbcMarked c h n).get (F.GDI_SNS_CBC_N c h) ≤ n)
      fun x => x.trip c (0x10 + h) 0 off := by
  subst hn
  rfl

section
variable (s : State) (c : Chan) {h : Nat}

theorem Frame.cbcShown (h : Nat) :
    Frame true [.chan c.val] (· ∈ [A.GDI_STAT c.val, A.GDI_CNT2 c.val, A.GDI_EVT c.val]) s (s.cbcShown c.val h) :=
  Frame.gateUpdate (Frame.raise (Frame.inc (Frame.putBit (Frame.refl ..) (f := F.GDI_STAT_CBC_HOLD c.val) (by simp [F.GDI_STAT_CBC_HOLD]) _ _)
    (f := F.GDI_CNT2_CBC_CNT c.val) (by simp [F.GDI_CNT2_CBC_CNT]) 1) (by simp [F.GDI_EVT_CBC]) (event_low (cbc_event c)) []) (by simp) h

theorem cbcShown_rd (h : Nat) {o : Nat} (ho : o < 0x6008 ∨ 0x6028 ≤ o) : (s.cbcShown c.val h).rd (chBase c.val + o) = s.rd (chBase c.val + o) :=
  (Frame.cbcShown s c h).words _ (by simp only [List.mem_cons, List.not_mem_nil, or_false, A.GDI_STAT, A.GDI_CNT2, A.GDI_EVT]; omega)
    fun _ => chan_word_quiet ..

theorem cbcShown_limit (h : Nat) : (s.cbcShown c.val h).get (F.GDI_SNS_CBC_N c.val h) = s.get (F.GDI_SNS_CBC_N c.val h) := by
  have word : A.GDI_SNS c.val h = chBase c.val + (0x6100 + 0x10 * h) := Nat.add_assoc ..
  refine State.get_congr ?_
  rw [show (F.GDI_SNS_CBC_N c.val h).addr = A.GDI_SNS c.val h from rfl, word]
  exact cbcShown_rd s c h (.inr (by omega))

theorem cbcHold_beside_tripped : (F.GDI_STAT_CBC_HOLD c.val).beside (F.GDI_STAT_TRIPPED c.val) = true := by
  revert c; decide

theorem cbcShown_tripped (h : Nat) : (s.cbcShown c.val h).flag (F.GDI_STAT_TRIPPED c.val) = s.flag (F.GDI_STAT_TRIPPED c.val) := by
  have shown : (s.cbcShown c.val h).rd (A.GDI_STAT c.val) = (s.putBit (F.GDI_STAT_CBC_HOLD c.val) h true).rd (A.GDI_STAT c.val) := by
    rw [State.cbcShown, State.rd_congr (gateUpdate_regs ..)]
    exact (raise_rd (cbc_event c) [] _ (chan_words_ne c.val (by decide)) (chan_word_quiet ..)).trans
      (State.rd_put_ne _ (chan_words_ne c.val (by decide)) _)
  exact State.flag_congr ((State.get_congr (f := F.GDI_STAT_TRIPPED c.val) shown).trans
    (get_put_beside s (f := F.GDI_STAT_CBC_HOLD c.val) (by decide : 23 < 32) (cbcHold_beside_tripped c) _))

/-- The outputs that follow a hold leave the count of the periods in a row. -/
theorem cbcShown_count (hh : h < 10) : ((s.cbcShown c.val h).gate c.val h).cbcNow = (s.gate c.val h).cbcNow ∧
    ((s.cbcShown c.val h).gate c.val h).cbcRun = (s.gate c.val h).cbcRun := by
  have recorded : ∀ x : State, (x.raise (F.GDI_EVT_CBC c.val)).gate c.val h = x.gate c.val h := fun x => by
    rw [State.gate, raise_chn (cbc_event c), State.gate]
  rw [State.cbcShown, State.gateUpdate, gate_modGate _ c.isLt hh, recorded]
  exact ⟨rfl, rfl⟩

/-- A hold that is the last the limit allows in a row trips the channel: its half-bridge is off (08 R253, R256). -/
theorem cbcHold_hb_off (hh : h < 6) (hn : s.flag (F.GDI_STAT_TRIPPED c.val) = false) (hrole : s.role c.val ≠ rIDLE)
    (hnow : (s.gate c.val h).cbcNow = false) (hset : s.get (F.GDI_SNS_CBC_N c.val h) ≠ 0)
    (hlimit : s.get (F.GDI_SNS_CBC_N c.val h) ≤ (s.gate c.val h).cbcRun + 1) (off : Nat) :
    ((s.cbcHold c.val h off).hb c.val h).e = false := by
  obtain ⟨now, run⟩ := cbcShown_count s c (h := h) (by omega)
  have limit : ∀ n, ((s.cbcShown c.val h).cbcMarked c.val h n).get (F.GDI_SNS_CBC_N c.val h) = s.get (F.GDI_SNS_CBC_N c.val h) :=
    fun n => (State.modGate_get ..).trans (cbcShown_limit s c h)
  have trips : (s.get (F.GDI_SNS_CBC_N c.val h) != 0 && decide (s.get (F.GDI_SNS_CBC_N c.val h) ≤ (s.gate c.val h).cbcRun + 1)) = true := by
    simp [hset, hlimit]
  have role : (s.cbcShown c.val h).role c.val = s.role c.val := State.get_congr (cbcShown_rd s c h (.inr (by decide)))
  rw [cbcHold_eq s c.val h off (n := (s.gate c.val h).cbcRun + 1) (by rw [now, run, hnow]; rfl), limit, trips, when_true]
  exact trip_hb_off c hh ((State.modGate_flag ..).trans ((cbcShown_tripped s c h).trans hn))
    (ne_of_eq_of_ne ((State.modGate_get ..).trans role) hrole) _ _ off

end

end Sys2Proof.Machine
end

section
/-! SUPPORT. The start of a carrier period, and of a variable period at the end of its dead time (06 R197, R198, R208, R209; 07 R216, R227, R231). -/

namespace Sys2Proof.Machine

variable {s : State} {c h : Nat}

/-! ### What a period start leaves of the half-bridge -/

theorem boot_event (c : Chan) : (F.BOOT_EVT_BLOCKED c.val).isEvent = true := by revert c; decide

theorem raise_hb {e : Fld} (he : e.isEvent = true) (det : List Word) (s : State) (c k : Nat) : (s.raise e det).hb c k = s.hb c k := by
  rw [State.hb, raise_chn he, State.hb]

theorem putBit_hb (s : State) (f : Fld) (i : Nat) (b : Bool) (c k : Nat) : (s.putBit f i b).hb c k = s.hb c k := rfl

theorem inc_hb (s : State) (f : Fld) (n c k : Nat) : (s.inc f n).hb c k = s.hb c k := rfl

theorem bootRefresh_hb (s : State) (c : Chan) (h k : Nat) : (s.bootRefresh c.val h).hb c.val k = s.hb c.val k := by
  unfold State.bootRefresh
  split
  · exact modGate_hb ..
  · extract_lets g short n due x
    have limited : x.hb c.val k = s.hb c.val k := State.when_unseen (fun y => y.hb c.val k) (fun y => putBit_hb y ..) s (!short)
    split
    · exact (raise_hb (boot_event c) ..).trans ((inc_hb ..).trans ((modGate_hb ..).trans limited))
    · split
      · exact (putBit_hb ..).trans ((modGate_hb ..).trans limited)
      · exact (modGate_hb ..).trans limited

theorem bootHoldStart_hb (s : State) (c h d k : Nat) : (s.bootHoldStart c h).hb d k = s.hb d k := by
  unfold State.bootHoldStart
  split
  · rfl
  · split
    · exact modGate_hb ..
    · exact modGate_hb ..

theorem pwmEvent_hb (s : State) (c e k' t d k : Nat) : (s.pwmEvent c e k' t).hb d k = s.hb d k := by
  unfold State.pwmEvent
  refine modCh_view (g := fun x => x.hb[k]?.getD {}) ?_ s c d
  exact fun _ => rfl

/-- The hold of the last period, and what acted on it, ends (07 R216; 08 R253). -/
def GateSt.periodBegun (g : GateSt) : GateSt :=
  { g with cbcRun := if g.cbcNow then g.cbcRun else 0, cbcNow := false, pgHi := false, pgLo := false, shoot := false }

/-- The cycle-by-cycle hold ends, and starts again where L1 stands unblanked at 1 (08 R253). -/
def State.holdRenewed (c h off : Nat) (s : State) : State :=
  ((s.modGate c h GateSt.periodBegun).putBit (F.GDI_STAT_CBC_HOLD c) h false).when
    ((s.gate c h).l1 && !(s.gate c h).blanked &&
      ((s.modGate c h GateSt.periodBegun).putBit (F.GDI_STAT_CBC_HOLD c) h false).get (F.GDI_SNS_L1_MODE c h) == 1) (State.cbcHold c h off)

/-- A period start leaves its half-bridge as the cycle-by-cycle hold does. -/
theorem periodStart_hb (s : State) (c : Chan) (h off : Nat) : (s.periodStart c.val h off).hb c.val h = (s.holdRenewed c.val h off).hb c.val h := by
  have formed : ((((s.holdRenewed c.val h off).bootRefresh c.val h).bootHoldStart c.val h).gateUpdate c.val h).hb c.val h =
      (s.holdRenewed c.val h off).hb c.val h := by
    rw [gateUpdate_hb, bootHoldStart_hb, bootRefresh_hb]
  refine (State.when_unseen (fun x => x.hb c.val h) (fun x => ?_) _ (h == 0)).trans formed
  exact pwmEvent_hb ..

/-- A period that starts with L1 unblanked at 1, and with it reaches the limit of holds in a row, trips: the half-bridge is off (08 R253). -/
theorem periodStart_hb_off (s : State) (c : Chan) {h : Nat} (hh : h < 6) (hrole : s.role c.val ≠ rIDLE)
    (hn : s.flag (F.GDI_STAT_TRIPPED c.val) = false) (hl1 : (s.gate c.val h).l1 = true) (hblank : (s.gate c.val h).blanked = false)
    (hmode : s.get (F.GDI_SNS_L1_MODE c.val h) = 1) (hset : s.get (F.GDI_SNS_CBC_N c.val h) ≠ 0)
    (hlimit : s.get (F.GDI_SNS_CBC_N c.val h) ≤ (if (s.gate c.val h).cbcNow then (s.gate c.val h).cbcRun else 0) + 1) (off : Nat) :
    ((s.periodStart c.val h off).hb c.val h).e = false := by
  have word : ∀ {f : Fld}, f.addr = A.GDI_SNS c.val h →
      ((s.modGate c.val h GateSt.periodBegun).putBit (F.GDI_STAT_CBC_HOLD c.val) h false).get f = s.get f := fun hf =>
    (State.get_put_ne _ (f := F.GDI_STAT_CBC_HOLD c.val) (by rw [hf]; simp only [F.GDI_STAT_CBC_HOLD, A.GDI_SNS, A.GDI_STAT]; omega) _).trans
      (State.modGate_get ..)
  have begun : ((s.modGate c.val h GateSt.periodBegun).putBit (F.GDI_STAT_CBC_HOLD c.val) h false).gate c.val h =
      (s.gate c.val h).periodBegun := gate_modGate s c.isLt (by omega) _
  have tripped : ((s.modGate c.val h GateSt.periodBegun).putBit (F.GDI_STAT_CBC_HOLD c.val) h false).flag (F.GDI_STAT_TRIPPED c.val) = false :=
    (State.flag_congr (get_put_beside _ (f := F.GDI_STAT_CBC_HOLD c.val) (by decide : 23 < 32) (cbcHold_beside_tripped c) _)).trans
      ((State.modGate_flag ..).trans hn)
  have role : ((s.modGate c.val h GateSt.periodBegun).putBit (F.GDI_STAT_CBC_HOLD c.val) h false).role c.val = s.role c.val :=
    (State.get_put_ne _ (f := F.GDI_STAT_CBC_HOLD c.val) (chan_words_ne c.val (by decide)) _).trans (State.modGate_get ..)
  have holds : s.holdRenewed c.val h off =
      ((s.modGate c.val h GateSt.periodBegun).putBit (F.GDI_STAT_CBC_HOLD c.val) h false).cbcHold c.val h off := by
    have again : ((s.gate c.val h).l1 && !(s.gate c.val h).blanked && s.get (F.GDI_SNS_L1_MODE c.val h) == 1) = true := by
      simp [hl1, hblank, hmode]
    rw [State.holdRenewed, word rfl, again, when_true]
  rw [periodStart_hb, holds]
  refine cbcHold_hb_off _ c hh tripped (ne_of_eq_of_ne role hrole) ?_ ?_ ?_ off
  · rw [begun, GateSt.periodBegun]
  · rw [word rfl]; exact hset
  · rw [word rfl, begun]; exact hlimit

/-! ### A variable period -/

/-- E has returned to 1 after the dead time: the side that P selects conducts (07 R227). -/
def State.conducting (c h off : Nat) (s : State) : State :=
  ((s.modHb c h fun x => { x with e := true }).gateUpdate c h).pwmEvent c (if (s.hb c h).p then 3 else 5) h (s.clk off)

/-- The mean of the period that ended is kept, and the next one begins now (06 R198; 07 R231). -/
def State.vpBegun (c h off : Nat) (m : Word) (s : State) : State :=
  (s.modDc c fun d => { d with legMean := d.legMean.set h m }).modHb c h fun x => { x with vpAt := s.clk off, vpNext := false, vpMean := none }

theorem conducting_hb (s : State) (hc : c < 8) (hh : h < 10) (off : Nat) : (s.conducting c h off).hb c h = { s.hb c h with e := true } := by
  rw [State.conducting, pwmEvent_hb, gateUpdate_hb, hb_modHb_same s hc hh]

/-- The end of the dead time of a leg whose period has ended starts the next one (07 R231). -/
theorem deadEnd_starts (hc : c < 8) (hh : h < 10) (hsw : s.switches c h = true) (he : (s.hb c h).e = false) (hwait : (s.hb c h).vpWait = false)
    (hnext : (s.hb c h).vpNext = true) {m : Word} (hm : (s.hb c h).vpMean = some m) (off : Nat) :
    s.deadEnd c h off = ((s.conducting c h off).vpBegun c h off m).periodStart c h off := by
  have mean : ((s.conducting c h off).hb c h).vpMean = some m := by rw [conducting_hb s hc hh]; exact hm
  have conducts : s.deadEnd c h off = s.conduct c h off := by simp [State.deadEnd, hsw, he, hwait]
  have next : s.conduct c h off = (s.conducting c h off).vpStart c h off := by
    show State.when _ (s.hb c h).vpNext _ = _
    rw [hnext, when_true]
    rfl
  rw [conducts, next, State.vpStart, mean]
  rfl

end Sys2Proof.Machine
end

section
/-! SUPPORT. A variable period whose start trips the channel (06 R198; 07 R231; 08 R253). -/

namespace Sys2Proof.Machine

/-- What the dead-time end of a running device does to E of its half-bridge. -/
theorem completes_deadTimeEnd_e {s s' : State} {c : Chan} {h : HbIx} {off : Nat} {b : Bool} (hr : s.runs = true)
    (ends : s.deadEnd c.val h.val off = s') (he : (s'.hb c.val h.val).e = b) :
    completes (.deadTimeEnd c h off) s fun t => (t.hb c.val h.val).e = b :=
  completes_clocked rfl hr (ends ▸ he : ((s.deadEnd c.val h.val off).hb c.val h.val).e = b)

/-- A running device in RUN, 1 s after WAKE; channel 0 is a DCB channel in ACTIVE whose HB0 is a variable-period leg in its dead time, with
the crossing behind. L1 stands at 1 in cycle-by-cycle mode, the period that ends is the first with a hold, and two in a row trip. -/
def heldLeg : State :=
  { State.reset with
    regs := [(A.SYS_MODE, 3#32), (A.PWM_FSTAT 0, 0x3FE#32), (A.GDI_STAT 0, 0x4006#32), (A.GDI_SNS 0 0, 0x021FFFFF#32), (A.ROLE_SEL 0, 2#32),
      (A.ROLE_STAT 0, 3#32), (A.DC_CFG 0, 0x2029#32)]
    t := { woke := true, start := 800000000 }
    ch := State.reset.ch.set 0
      { hb := (Vector.replicate 10 {}).set 0 { p := true, vpNext := true, vpMean := some 5#32 }
        gate := (Vector.replicate 10 {}).set 0 { l1 := true, cbcNow := true, cbcRun := 1 } } }

theorem heldLeg_wf : heldLeg.regsWf = true := by decide
theorem heldLeg_runs : heldLeg.runs = true := by decide
theorem heldLeg_variable : heldLeg.vpRuns 0 0 = true := by decide
theorem heldLeg_switches : heldLeg.switches 0 0 = true := by decide

/-- The next period of the leg has begun, its start still to act. -/
def heldLegBegun : State := (heldLeg.conducting 0 0 0).vpBegun 0 0 0 5#32

theorem heldLegBegun_role : heldLegBegun.role 0 ≠ rIDLE := by decide
theorem heldLegBegun_untripped : heldLegBegun.flag (F.GDI_STAT_TRIPPED 0) = false := by decide
theorem heldLegBegun_gate : (heldLegBegun.gate 0 0).l1 = true ∧ (heldLegBegun.gate 0 0).blanked = false ∧
    (heldLegBegun.gate 0 0).cbcNow = true ∧ (heldLegBegun.gate 0 0).cbcRun = 1 := by decide
theorem heldLegBegun_mode : heldLegBegun.get (F.GDI_SNS_L1_MODE 0 0) = 1 := by decide
theorem heldLegBegun_limit : heldLegBegun.get (F.GDI_SNS_CBC_N 0 0) = 2 := by decide

/-- The end of the dead time trips the leg: E is 0. -/
theorem heldLeg_trips : completes (.deadTimeEnd 0 0 0) heldLeg fun t => (t.hb 0 0).e = false := by
  obtain ⟨l1, unblanked, now, run⟩ := heldLegBegun_gate
  have starts : heldLeg.deadEnd 0 0 0 = heldLegBegun.periodStart 0 0 0 :=
    deadEnd_starts (by decide) (by decide) heldLeg_switches rfl rfl rfl rfl 0
  have second : heldLegBegun.get (F.GDI_SNS_CBC_N 0 0) ≤
      (if (heldLegBegun.gate 0 0).cbcNow then (heldLegBegun.gate 0 0).cbcRun else 0) + 1 := by
    rw [heldLegBegun_limit, now, run]; decide
  have off := periodStart_hb_off heldLegBegun 0 (h := 0) (by decide) heldLegBegun_role heldLegBegun_untripped l1 unblanked heldLegBegun_mode
    (by rw [show ((0 : Chan).val) = 0 from rfl, heldLegBegun_limit]; decide) second 0
  exact completes_deadTimeEnd_e (c := 0) (h := 0) heldLeg_runs starts off

/-- Refutes O18 in its clause on the end of the dead time: that clause leaves the leg with E at 1, and where L1 stands at 1 the period that
starts may bring the hold that reaches CBC_N, whose trip turns the leg off (08 R253). -/
theorem not_variablePeriodsEndByCrossingOrClamp : ¬ Obligations.VariablePeriodsEndByCrossingOrClamp := by
  intro h
  obtain ⟨-, -, deadTime, -⟩ := h heldLeg 0 0 0 5#32 heldLeg_runs heldLeg_variable _ rfl
  obtain ⟨t, -, ⟨leg, -⟩, off⟩ := completes_both (deadTime 5#32 rfl rfl rfl rfl) heldLeg_trips
  have conducts : (t.hb 0 0).e = true := congrArg (·.e) leg
  exact absurd (conducts.symm.trans off) (by decide)

end Sys2Proof.Machine
end

section
/-! SUPPORT. What the commands of HI and LO are formed from, and their formation at the end of an operation (08 R244); counters. -/

namespace Sys2Proof.Machine

variable {s u v : State} {c k : Nat}

/-- Words that the commands of HI and LO are formed from: the static outputs of the role, and the holds (07 R234; 08 R244). -/
def gateWords (c : Nat) : List Nat :=
  [A.ROLE_SEL c, A.GRID_CFG c, A.GRID_STAT c, A.DC_CFG c, A.DC_STAT c, A.CHOP_CFG c, A.CHOP_STAT c, A.BOOT_STAT c, A.GDI_STAT c]

/-- The same words, half-bridge and gate form the same commands. -/
theorem gateCmd_congr (hw : ∀ a ∈ gateWords c, u.rd a = s.rd a) (hh : u.hb c k = s.hb c k) {hi lo blanked : Bool}
    (hg : u.gate c k = { s.gate c k with hi := hi, lo := lo, blanked := blanked }) : u.gateCmd c k = s.gateCmd c k := by
  have word : ∀ f : Fld, f.addr ∈ gateWords c → u.get f = s.get f := fun f hf => State.get_congr (hw _ hf)
  have role : u.role c = s.role c := word (F.ROLE_SEL_ROLE c) (by simp [gateWords, F.ROLE_SEL_ROLE])
  have output : u.isStatic c k = s.isStatic c k := by
    simp only [State.isStatic, State.kmSlot, State.chopSlot, role, State.flag, word (F.GRID_CFG_KM_EN c) (by simp [gateWords, F.GRID_CFG_KM_EN]),
      word (F.DC_CFG_KM_EN c) (by simp [gateWords, F.DC_CFG_KM_EN]), word (F.CHOP_CFG_MODE c) (by simp [gateWords, F.CHOP_CFG_MODE])]
  have contactor : u.kmCmd c = s.kmCmd c := by
    simp only [State.kmCmd, role, State.flag, word (F.GRID_STAT_KM_CMD c) (by simp [gateWords, F.GRID_STAT_KM_CMD]),
      word (F.DC_STAT_KM_CMD c) (by simp [gateWords, F.DC_STAT_KM_CMD])]
  have chopper : u.flag (F.CHOP_STAT_ON c) = s.flag (F.CHOP_STAT_ON c) :=
    State.flag_congr (word _ (by simp [gateWords, F.CHOP_STAT_ON]))
  have boot : u.bitOf (F.BOOT_STAT_HOLD c) k = s.bitOf (F.BOOT_STAT_HOLD c) k :=
    State.bitOf_congr (word _ (by simp [gateWords, F.BOOT_STAT_HOLD])) k
  have hold : u.bitOf (F.GDI_STAT_CBC_HOLD c) k = s.bitOf (F.GDI_STAT_CBC_HOLD c) k :=
    State.bitOf_congr (word _ (by simp [gateWords, F.GDI_STAT_CBC_HOLD])) k
  simp only [State.gateCmd, output, contactor, chopper, boot, hold, hh, hg]

/-- HI and LO of a half-bridge stand as its commands form them. -/
def Formed (c k : Nat) (t : State) : Prop := (t.gate c k).hi = (t.gateCmd c k).1 ∧ (t.gate c k).lo = (t.gateCmd c k).2

theorem formed_gateUpdate (s : State) (hc : c < 8) (hk : k < 10) : Formed c k (s.gateUpdate c k) := by
  have gate : (s.gateUpdate c k).gate c k = _ := gate_modGate s hc hk _
  have same := gateCmd_congr (fun a _ => State.rd_congr (gateUpdate_regs s c k) a) (gateUpdate_hb s c k c k) gate
  rw [Formed, same, gate]
  exact ⟨rfl, rfl⟩

theorem Formed.of_same (h : Formed c k u) (hw : ∀ a ∈ gateWords c, v.rd a = u.rd a) (hh : v.hb c k = u.hb c k)
    (hg : v.gate c k = u.gate c k) : Formed c k v := by
  rw [Formed, gateCmd_congr hw hh hg, hg]
  exact h

theorem gateUpdate_gate_view {α : Type} (g : GateSt → α) (hg : ∀ x hi lo b, g { x with hi := hi, lo := lo, blanked := b } = g x) (s : State)
    (hc : c < 8) (hk : k < 10) : g ((s.gateUpdate c k).gate c k) = g (s.gate c k) := by
  rw [State.gateUpdate, gate_modGate s hc hk]
  exact hg ..

theorem pwmEvent_gate (s : State) (c e k' t d k : Nat) : (s.pwmEvent c e k' t).gate d k = s.gate d k := by
  unfold State.pwmEvent
  refine modCh_view (g := fun x => x.gate[k]?.getD {}) ?_ s c d
  exact fun _ => rfl

theorem pwmEvent_rd (s : State) (c e k' t a : Nat) : (s.pwmEvent c e k' t).rd a = s.rd a := by
  unfold State.pwmEvent
  exact State.modCh_rd ..

theorem Formed.pwmEvent (h : Formed c k u) (e j t : Nat) : Formed c k (u.pwmEvent c e j t) :=
  h.of_same (fun _ _ => pwmEvent_rd ..) (pwmEvent_hb ..) (pwmEvent_gate ..)

theorem Formed.settle (h : Formed c k u) : Formed c k (settle s u) := h.of_same (fun _ _ => settle_rd ..) rfl rfl

/-! ### Counters -/

theorem counted_inc (s : State) {f : Fld} (hf : f.ok = true) : Counted f s (s.inc f) :=
  (State.get_put_same s hf _).trans (Nat.mod_mod _ _)

/-- A count is judged by its word alone, before and after. -/
theorem counted_congr {f : Fld} {s' u' : State} (h : Counted f s u) (hs : s'.rd f.addr = s.rd f.addr) (hu : u'.rd f.addr = u.rd f.addr) :
    Counted f s' u' := by
  rw [Counted, State.get_congr hu, State.get_congr hs]
  exact h

/-- An event is judged by its word alone, before and after. -/
theorem raised_congr {f : Fld} {s' u' : State} (h : Raised f s u) (hs : s'.rd f.addr = s.rd f.addr) (hu : u'.rd f.addr = u.rd f.addr) :
    Raised f s' u' := by
  rw [Raised, hu, hs]
  exact h

end Sys2Proof.Machine
end

section
/-! SUPPORT. Edges of P, the end of a dead time, and the map of the delay line (07 R223–R227). -/

namespace Sys2Proof.Machine

variable {ev : Bool} {ps : List Part} {W : Nat → Prop} {s u : State} {c h off : Nat} {rise : Bool}

/-! ### An edge of P -/

theorem dropped_event (c : Chan) : (F.PWM_STAT_DROP c.val).isEvent = true := by revert c; decide
theorem clipped_event (c : Chan) : (F.PWM_STAT_PH_CLIP c.val).isEvent = true := by revert c; decide

/-- An edge that falls outside its half-period or period is recorded as clipped (07 R224). -/
def State.edgeClipped (c h : Nat) (rise : Bool) (s : State) : State :=
  s.when (s.phaseClips c h rise) fun x => x.raise (F.PWM_STAT_PH_CLIP c)

/-- P takes its level, E falls, and HI and LO follow (07 R223, R227). -/
def State.edgeTaken (c h : Nat) (rise : Bool) (s : State) : State :=
  ((s.modHb c h fun x => { x with p := rise, e := false }).modGate c h fun g =>
    { g with refresh := false, shoot := false, pgHi := false, pgLo := false }).gateUpdate c h

/-- An edge of P is placed: it is also an instant for the capture units (07 R223, R238). -/
def State.edgePlaced (c h : Nat) (rise : Bool) (off : Nat) (s : State) : State :=
  (s.edgeTaken c h rise).pwmEvent c (if rise then 6 else 4) h ((s.edgeTaken c h rise).clk off)

/-- An edge is removed with its interval (07 R225). -/
def State.edgeDropped (c : Nat) (s : State) : State := (s.inc (F.PWM_DROP_CNT_DROP c)).raise (F.PWM_STAT_DROP c)

/-- What decides on the length of an interval: the active word, the dead times and the carrier. -/
theorem pulseDrops_congr (hw : ∀ a ∈ [A.PWM_ACTLO c h, A.PWM_MINPW c, A.SYS_TICK], u.rd a = s.rd a) (hc : u.chn c = s.chn c) :
    u.pulseDrops c h rise = s.pulseDrops c h rise := by
  simp only [List.forall_mem_cons, List.not_mem_nil, false_implies, implies_true, and_true] at hw
  obtain ⟨active, shortest, tick⟩ := hw
  have period : u.prdSteps c = s.prdSteps c := by
    simp only [State.prdSteps, State.prd, hc, State.get_congr (f := F.SYS_TICK_TICK_DIV) tick]
  have bridge : u.hb c h = s.hb c h := by rw [State.hb, State.hb, hc]
  simp only [State.pulseDrops, bridge, active, period, State.get_congr (f := F.PWM_MINPW_MINPW c) shortest]

theorem edgeClipped_rd (c : Chan) {a : Nat} (ha : a ≠ A.PWM_STAT c.val) (hq : bookAddr a = false) :
    (s.edgeClipped c.val h rise).rd a = s.rd a :=
  State.when_unseen (fun x => x.rd a) (fun x => raise_rd (clipped_event c) [] x ha hq) s _

theorem edgeClipped_chn (c : Chan) (d : Nat) : (s.edgeClipped c.val h rise).chn d = s.chn d :=
  State.when_unseen (fun x => x.chn d) (fun x => raise_chn (clipped_event c) [] x d) s _

theorem edgeClipped_drops (c : Chan) : (s.edgeClipped c.val h rise).pulseDrops c.val h rise = s.pulseDrops c.val h rise := by
  refine pulseDrops_congr (fun a ha => edgeClipped_rd c ?_ ?_) (edgeClipped_chn c _)
  · simp only [List.mem_cons, List.not_mem_nil, or_false, A.PWM_ACTLO, A.PWM_MINPW, A.SYS_TICK, chBase] at ha
    simp only [A.PWM_STAT, chBase]
    omega
  · simp only [List.mem_cons, List.not_mem_nil, or_false] at ha
    rcases ha with rfl | rfl | rfl
    · exact bookAddr_chan (by simp only [A.PWM_ACTLO, chBase]; omega)
    · exact chan_word_quiet ..
    · decide

theorem edgeClipped_variable (c : Chan) : (s.edgeClipped c.val h rise).vpCarrier c.val = s.vpCarrier c.val := by
  have word : ∀ {f : Fld} {o : Nat}, f.addr = chBase c.val + o → o ≠ 0x4010 → (s.edgeClipped c.val h rise).get f = s.get f := fun ha ho =>
    State.get_congr (edgeClipped_rd c (ha ▸ chan_words_ne c.val ho) (ha ▸ chan_word_quiet ..))
  have role : (s.edgeClipped c.val h rise).role c.val = s.role c.val := word (f := F.ROLE_SEL_ROLE c.val) rfl (by decide)
  simp only [State.vpCarrier, role, word (f := F.DC_CFG_CAR c.val) rfl (by decide)]

/-- At duty 0.0 and 1.0 there is no edge. -/
theorem pulseEdge_constant (hv : s.vpCarrier c = false) (hd : dutyOf (s.rd (A.PWM_ACTLO c h)) = 0 ∨ dutyOf (s.rd (A.PWM_ACTLO c h)) = dutyOne) :
    s.pulseEdge c h rise off = s := by
  have none : (dutyOf (s.rd (A.PWM_ACTLO c h)) == 0 || dutyOf (s.rd (A.PWM_ACTLO c h)) == dutyOne) = true := by simpa using hd
  simp [State.pulseEdge, none, hv]

/-- An edge that the carrier asks for is placed, or removed with its interval. -/
theorem pulseEdge_eq {c : Chan} (hsw : s.switches c.val h = true) (hv : s.vpCarrier c.val = false) (hp : (s.hb c.val h).p = !rise)
    (hn : (s.hb c.val h).vpNext = false) (h0 : dutyOf (s.rd (A.PWM_ACTLO c.val h)) ≠ 0)
    (h1 : dutyOf (s.rd (A.PWM_ACTLO c.val h)) ≠ dutyOne) : s.pulseEdge c.val h rise off =
      if s.pulseDrops c.val h rise then (s.edgeClipped c.val h rise).edgeDropped c.val
      else (s.edgeClipped c.val h rise).edgePlaced c.val h rise off := by
  have turns : ((s.hb c.val h).p == rise) = false := by rw [hp]; cases rise <;> rfl
  have skip : (!s.switches c.val h || (s.hb c.val h).p == rise || (s.hb c.val h).vpNext ||
      ((dutyOf (s.rd (A.PWM_ACTLO c.val h)) == 0 || dutyOf (s.rd (A.PWM_ACTLO c.val h)) == dutyOne) && !s.vpCarrier c.val)) = false := by
    simp [hsw, turns, hn, h0, h1]
  have clips : (!s.vpCarrier c.val && s.phaseClips c.val h rise) = s.phaseClips c.val h rise := by simp [hv]
  have drops : ((s.edgeClipped c.val h rise).pulseDrops c.val h rise && !(s.edgeClipped c.val h rise).vpCarrier c.val) =
      s.pulseDrops c.val h rise := by
    rw [edgeClipped_drops, edgeClipped_variable, hv, Bool.not_false, Bool.and_true]
  unfold State.pulseEdge
  dsimp only
  rw [skip, clips, if_neg Bool.false_ne_true]
  change (if ((s.edgeClipped c.val h rise).pulseDrops c.val h rise && !(s.edgeClipped c.val h rise).vpCarrier c.val) = true then _ else _) = _
  rw [drops]
  rfl

theorem edgePlaced_rd (s : State) (c h : Nat) (rise : Bool) (off a : Nat) : (s.edgePlaced c h rise off).rd a = s.rd a :=
  (pwmEvent_rd ..).trans ((State.rd_congr (gateUpdate_regs ..) a).trans ((State.modGate_rd ..).trans (State.modHb_rd ..)))

theorem edgePlaced_hb (s : State) (hc : c < 8) (hh : h < 10) : (s.edgePlaced c h rise off).hb c h = { s.hb c h with p := rise, e := false } := by
  rw [State.edgePlaced, pwmEvent_hb, State.edgeTaken, gateUpdate_hb, modGate_hb, hb_modHb_same s hc hh]

theorem Frame.edgePlaced (hf : Frame ev ps W s u) (hp : .chan c ∈ ps) : Frame ev ps W s (u.edgePlaced c h rise off) :=
  (((hf.modHb hp h _).modGate hp h _).gateUpdate hp h).pwmEvent hp _ h _

section
variable (c : Chan) (h : HbIx)

theorem completes_edge_placed (hr : s.runs = true) (placed : s.pulseEdge c.val h.val rise off =
    (s.edgeClipped c.val h.val rise).edgePlaced c.val h.val rise off) : completes (.pulseEdge c h rise off) s fun t =>
      t.hb c.val h.val = { s.hb c.val h.val with p := rise, e := false } ∧
      (s.phaseClips c.val h.val rise = true → Raised (F.PWM_STAT_PH_CLIP c.val) s t) ∧
      (s.phaseClips c.val h.val rise = false → t.rd (A.PWM_STAT c.val) = s.rd (A.PWM_STAT c.val)) ∧
      (t.gate c.val h.val).hi = (t.gateCmd c.val h.val).1 ∧ (t.gate c.val h.val).lo = (t.gateCmd c.val h.val).2 ∧
      Frame true [.chan c.val] (· = A.PWM_STAT c.val) s t := by
  have word : ∀ {a}, (settle s ((s.edgeClipped c.val h.val rise).edgePlaced c.val h.val rise off)).rd a = (s.edgeClipped c.val h.val rise).rd a :=
    (settle_rd ..).trans (edgePlaced_rd ..)
  have formed : Formed c.val h.val (settle s ((s.edgeClipped c.val h.val rise).edgePlaced c.val h.val rise off)) :=
    ((formed_gateUpdate _ c.isLt h.isLt).pwmEvent ..).settle
  have clipped : Frame true [.chan c.val] (· = A.PWM_STAT c.val) s (s.edgeClipped c.val h.val rise) :=
    (Frame.refl ..).when _ fun x => Frame.raise (W := (· = A.PWM_STAT c.val)) (Frame.refl ..) (f := F.PWM_STAT_PH_CLIP c.val) rfl
      (event_low (clipped_event c)) []
  refine completes_clocked rfl hr ?_
  rw [placed]
  refine ⟨?_, fun hclip => ?_, fun hclip => ?_, formed.1, formed.2, (clipped.edgePlaced (by simp)).settle⟩
  · refine (edgePlaced_hb _ c.isLt h.isLt).trans ?_
    rw [State.hb, edgeClipped_chn, State.hb]
  · rw [Raised, word, State.edgeClipped, hclip, when_true]
    exact raise_raised s (event_low (clipped_event c)) (event_quiet (clipped_event c))
  · rw [word, State.edgeClipped, hclip, when_false]

theorem completes_edge_dropped (hr : s.runs = true) (dropped : s.pulseEdge c.val h.val rise off =
    (s.edgeClipped c.val h.val rise).edgeDropped c.val) : completes (.pulseEdge c h rise off) s fun t =>
      Counted (F.PWM_DROP_CNT_DROP c.val) s t ∧ t.flag (F.PWM_STAT_DROP c.val) = true ∧
      Frame true [] (· ∈ [A.PWM_STAT c.val, A.PWM_DROP_CNT c.val]) s t := by
  have clipped : Frame true [] (· ∈ [A.PWM_STAT c.val, A.PWM_DROP_CNT c.val]) s (s.edgeClipped c.val h.val rise) :=
    (Frame.refl ..).when _ fun x => (Frame.refl true _ _ x).raise (f := F.PWM_STAT_PH_CLIP c.val) (by simp [F.PWM_STAT_PH_CLIP])
      (event_low (clipped_event c)) []
  refine completes_clocked rfl hr ?_
  rw [dropped]
  refine ⟨?_, ?_, Frame.settle ?_⟩
  · refine counted_congr (counted_inc _ (chanFld_ok c.isLt (by decide))) (edgeClipped_rd (h := h.val) (rise := rise) c ?_ ?_).symm
      ((settle_rd ..).trans (raise_rd (dropped_event c) [] _ ?_ ?_))
    · exact chan_words_ne c.val (by decide)
    · exact chan_word_quiet ..
    · exact chan_words_ne c.val (by decide)
    · exact chan_word_quiet ..
  · exact (settle_flag ..).trans (flag_raise_own (dropped_event c) [] _)
  · exact (clipped.inc (f := F.PWM_DROP_CNT_DROP c.val) (by simp [F.PWM_DROP_CNT_DROP]) 1).raise (by simp [F.PWM_STAT_DROP])
      (event_low (dropped_event c)) []

/-- The commands that follow the end of a dead time. -/
theorem completes_deadTimeEnd (hr : s.runs = true) (hsw : s.switches c.val h.val = true) (he : (s.hb c.val h.val).e = false)
    (hwait : (s.hb c.val h.val).vpWait = false) (hnext : (s.hb c.val h.val).vpNext = false) : completes (.deadTimeEnd c h off) s fun t =>
      t.hb c.val h.val = { s.hb c.val h.val with e := true } ∧
      (t.gate c.val h.val).hi = (t.gateCmd c.val h.val).1 ∧ (t.gate c.val h.val).lo = (t.gateCmd c.val h.val).2 ∧
      Frame false [.chan c.val] (fun _ => False) s t := by
  have conducts : s.deadEnd c.val h.val off = s.conducting c.val h.val off := by
    have once : s.conduct c.val h.val off = s.conducting c.val h.val off := by
      show State.when _ (s.hb c.val h.val).vpNext _ = _
      rw [hnext, when_false]
      rfl
    simp [State.deadEnd, hsw, he, hwait, once]
  have formed : Formed c.val h.val (settle s (s.conducting c.val h.val off)) := ((formed_gateUpdate _ c.isLt h.isLt).pwmEvent ..).settle
  refine completes_clocked rfl hr ?_
  rw [conducts]
  exact ⟨conducting_hb s c.isLt h.isLt off, formed.1, formed.2,
    ((((Frame.refl ..).modHb (by simp) _ _).gateUpdate (by simp) _).pwmEvent (by simp) ..).settle⟩

/-! ### The delay line -/

theorem calFail_event (c : Chan) : (F.PWM_STAT_CAL_FAIL c.val).isEvent = true := by revert c; decide

theorem completes_delayLine_measured (hr : s.runs = true) (k : Fin 128) : completes (.delayLineCalibration c (some k)) s fun t =>
    t.get (F.PWM_CAL_TAPS c.val) = k.val ∧ t.flag (F.PWM_CAL_LOCK c.val) = true ∧ Counted (F.PWM_CAL_UPD c.val) s t ∧
    Frame false [] (· = A.PWM_CAL c.val) s t := by
  have taps : (F.PWM_CAL_TAPS c.val).ok = true := chanFld_ok c.isLt (by decide)
  have lock : (F.PWM_CAL_LOCK c.val).ok = true := chanFld_ok c.isLt (by decide)
  have upd : (F.PWM_CAL_UPD c.val).ok = true := chanFld_ok c.isLt (by decide)
  refine completes_clocked (f := fun s => ((s.put (F.PWM_CAL_TAPS c.val) k.val).putb (F.PWM_CAL_LOCK c.val) true).inc (F.PWM_CAL_UPD c.val)) rfl hr
    ⟨?_, ?_, ?_, ?_⟩
  · refine (settle_get ..).trans ((State.get_put_field _ (f := F.PWM_CAL_UPD c.val) taps (by decide : 31 < 32) rfl
      (.inr (by decide : 6 < 16)) _).trans ((State.get_put_field _ (f := F.PWM_CAL_LOCK c.val) taps (by decide : 7 < 32) rfl
      (.inr (by decide : 6 < 7)) _).trans ?_))
    exact (State.get_put_same s taps _).trans (Nat.mod_eq_of_lt k.isLt)
  · refine (settle_flag ..).trans ((State.flag_congr (State.get_put_field _ (f := F.PWM_CAL_UPD c.val) lock (by decide : 31 < 32) rfl
      (.inr (by decide : 7 < 16)) _)).trans ?_)
    exact State.flag_putb_same _ lock (Nat.le_refl 7) true
  · refine (settle_get ..).trans ((State.get_put_same _ upd _).trans ((Nat.mod_mod _ _).trans ?_))
    rw [State.putb, State.get_put_field _ (f := F.PWM_CAL_LOCK c.val) upd (by decide : 7 < 32) rfl (.inl (by decide : 7 < 16)),
      State.get_put_field s (f := F.PWM_CAL_TAPS c.val) upd (by decide : 6 < 32) rfl (.inl (by decide : 6 < 16))]
  · have start : Frame false [] (· = A.PWM_CAL c.val) s s := Frame.refl ..
    exact (((start.put (f := F.PWM_CAL_TAPS c.val) rfl _).putb (f := F.PWM_CAL_LOCK c.val) rfl _).inc (f := F.PWM_CAL_UPD c.val) rfl 1).settle

theorem completes_delayLine_failed (hr : s.runs = true) : completes (.delayLineCalibration c none) s fun t =>
    Edited (A.PWM_CAL c.val) [(F.PWM_CAL_LOCK c.val, 0)] s t ∧ Raised (F.PWM_STAT_CAL_FAIL c.val) s t ∧
    Frame true [] (· ∈ [A.PWM_CAL c.val, A.PWM_STAT c.val]) s t := by
  refine completes_clocked (f := fun s => (s.putb (F.PWM_CAL_LOCK c.val) false).raise (F.PWM_STAT_CAL_FAIL c.val)) rfl hr ⟨?_, ?_, ?_⟩
  · refine (settle_rd ..).trans ((raise_rd (calFail_event c) [] _ (chan_words_ne c.val (by decide)) (chan_word_quiet ..)).trans ?_)
    exact State.rd_wr_same ..
  · have before : (s.putb (F.PWM_CAL_LOCK c.val) false).rd (A.PWM_STAT c.val) = s.rd (A.PWM_STAT c.val) :=
      State.rd_put_ne s (chan_words_ne c.val (by decide)) _
    refine (settle_rd ..).trans ((raise_raised _ (event_low (calFail_event c)) (event_quiet (calFail_event c))).trans ?_)
    rw [show (F.PWM_STAT_CAL_FAIL c.val).addr = A.PWM_STAT c.val from rfl, before]
  · exact (((Frame.refl ..).putb (f := F.PWM_CAL_LOCK c.val) (by simp [F.PWM_CAL_LOCK]) _).raise (by simp [F.PWM_STAT_CAL_FAIL])
      (event_low (calFail_event c)) []).settle

end

/-- Settles O22: an edge by whether its interval is long enough, the end of a dead time by what conducts, a measurement by its outcome. -/
theorem edgesOpenAndCloseWithDeadTime : Obligations.EdgesOpenAndCloseWithDeadTime := by
  intro s c h rise off hr
  refine ⟨fun hsw hv => ⟨fun hp hn h0 h1 => ?_, fun hd => ?_⟩, completes_deadTimeEnd c h hr, completes_delayLine_measured c hr,
    completes_delayLine_failed c hr⟩
  · have edge := pulseEdge_eq (off := off) hsw hv hp hn h0 h1
    exact ⟨fun hkeep => completes_edge_placed c h hr (edge.trans (if_neg (by simp [hkeep]))),
      fun hdrop => completes_edge_dropped c h hr (edge.trans (if_pos hdrop))⟩
  · refine completes_clocked rfl hr ?_
    rw [pulseEdge_constant hv hd]
    exact (Frame.refl ..).settle

end Sys2Proof.Machine
end

section
/-! SUPPORT. A write that restates every field of its register is stored without its action (15 R516, R519); where a reserved bit stands in
the register, the word written is another all the same. -/

namespace Sys2Proof.Machine

variable {s : State} {a : Nat} {v : Word} {r : Row}

/-- A write that passes and changes no field is stored, and nothing follows from it. -/
theorem completes_restated {x : Instr} {w : RegWr} (he : exec x s = State.byHost (State.rowWrite w a v) s) (hr : rowAt a = some r)
    (hx : isCtx a = false) (hst : actStores r.act = true) (hp : s.passes w.ses.val a v = true) (hidle : s.acts r a v = false)
    (hmb : a < 0x10100 ∨ 0x10180 ≤ a) : completes x s fun t => Frame false [.host] (· = a) s t :=
  completes_effect he hr hx hp (effect_idle hst hidle) (Frame.written (ps := [.host]) (W := (· = a)) (by simp) rfl ..)
    (fun _ => mailbox_ne hmb) (by simp) id

theorem addrRow_resolved {addr : Nat} (h : resolve false addr = some a) (w : RegWr) (s : State) :
    State.addrRow w addr s = State.byHost (State.rowWrite w a w.val) s := by
  simp only [State.addrRow, h]

theorem exec_calWrite {p : Point} {off : Fin 128} (h : resolve false (A.CAL_VGAIN p.val 0 + off.val) = some a) (w : RegWr) (s : State) :
    exec (.calWrite p off w) s = State.byHost (State.rowWrite w a w.val) s := addrRow_resolved h w s

/-! ### A calibration word whose write records nothing -/

def rowPhaseDelay : Row := ⟨0xA050, 32, 4, [rw 15 0 0 .svc (.srange16 500)], .cal⟩

/-- CAL_PHDLY of the first phase of point 0. -/
def phaseDelay : Nat := A.CAL_VGAIN 0 0 + 16

/-- A running device with one open session, which holds channel 0; bit 16 of a CAL_PHDLY, a reserved one, stands at 1. -/
def strayDelay : State :=
  { State.reset with
    regs := [(A.SYS_MODE, 3#32), (A.HOST_SES_STAT 0, 0x401#32), (A.HOST_CLAIM0, 1#32), (phaseDelay, 0x10000#32)]
    t := { woke := true } }

/-- Session 0 writes 0. -/
def zeroWrite : RegWr := ⟨0, 0#32⟩

/-- The canonical form of the register file does not exclude reserved bits. -/
theorem strayDelay_wf : strayDelay.regsWf = true := by decide
theorem strayDelay_passes : strayDelay.passes 0 phaseDelay 0#32 = true := by decide
theorem strayDelay_differs : zeroWrite.val ≠ strayDelay.rd phaseDelay := by decide
theorem strayDelay_restates : strayDelay.acts rowPhaseDelay phaseDelay 0#32 = false := by decide

theorem strayDelay_stored : completes (.calWrite 0 16 zeroWrite) strayDelay fun t => Frame false [.host] (· = phaseDelay) strayDelay t :=
  completes_restated (exec_calWrite (by decide) zeroWrite strayDelay) (by decide : rowAt phaseDelay = some rowPhaseDelay) (by decide) rfl
    strayDelay_passes strayDelay_restates (.inr (by decide))

/-- Refutes O48 in its clause on calibration writes: a write is recorded as CAL_CHG where it changes a field (15 R519), and that clause asks
for the event where the word written differs from the word that stands, so that a reserved bit in CAL_PHDLY alone makes the difference. The
register file of the counterexample is canonical (`strayDelay_wf`), but not one that reset leads to: `State.wr` stores no reserved bit, and
the statement does not ask that none stands. -/
theorem not_channelAndBookWritesAct : ¬ Obligations.ChannelAndBookWritesAct := by
  intro h
  obtain ⟨-, -, -, -, -, -, calibration, -⟩ := h strayDelay 0 zeroWrite
  obtain ⟨t, -, ⟨-, -, recorded, -⟩, frame⟩ :=
    completes_both (calibration 0 16 strayDelay_passes (by decide) (by decide) strayDelay_differs) strayDelay_stored
  have stays : t.rd (A.METER_EVT 0) = strayDelay.rd (A.METER_EVT 0) := frame.words _ (by decide) (by simp)
  exact absurd (stays.symm.trans recorded) (by decide)

end Sys2Proof.Machine
end

section
/-! SUPPORT. The bootstrap rules at a period start: what they stay within, and the outcomes of a refresh and of a hold (06 R208, R209; 08 R248). -/

namespace Sys2Proof.Machine

variable {α : Type} {ev : Bool} {ps : List Part} {W : Nat → Prop} {s u : State} {h : Nat}

/-! ### What the registers leave of a half-bridge's gate -/

theorem put_gate (s : State) (f : Fld) (v c k : Nat) : (s.put f v).gate c k = s.gate c k := rfl
theorem put_hb (s : State) (f : Fld) (v c k : Nat) : (s.put f v).hb c k = s.hb c k := rfl
theorem inc_gate (s : State) (f : Fld) (n c k : Nat) : (s.inc f n).gate c k = s.gate c k := rfl
theorem putBit_gate (s : State) (f : Fld) (i : Nat) (b : Bool) (c k : Nat) : (s.putBit f i b).gate c k = s.gate c k := rfl

theorem raise_gate {e : Fld} (he : e.isEvent = true) (det : List Word) (s : State) (c k : Nat) : (s.raise e det).gate c k = s.gate c k := by
  rw [State.gate, raise_chn he, State.gate]

/-! ### A refresh -/

/-- An update of a half-bridge's gate state that reaches its refresh alone. -/
def Refreshes (f : GateSt → GateSt) : Prop := ∀ g, ∃ n r d, f g = { g with shortLo := n, refresh := r, refreshDue := d }

/-- What the updates of a refresh keep, a refresh keeps. -/
theorem bootRefresh_keeps {P : State → Prop} {c : Nat} (hgate : ∀ x f, Refreshes f → P x → P (x.modGate c h f))
    (hlimit : ∀ x b, P x → P (x.putBit (F.BOOT_STAT_DUTY_LIM c) h b))
    (hblocked : ∀ x, P x → P ((x.inc (F.BOOT_CNT_BLOCKED_CNT c)).raise (F.BOOT_EVT_BLOCKED c))) (hs : P s) : P (s.bootRefresh c h) := by
  unfold State.bootRefresh
  split
  · exact hgate s _ (fun g => ⟨g.shortLo, false, g.refreshDue, rfl⟩) hs
  · extract_lets g short n due x
    have judged : P x := by
      cases hshort : !short
      · simpa only [x, hshort, when_false] using hs
      · simpa only [x, hshort, when_true] using hlimit s false hs
    split
    · exact hblocked _ (hgate x _ (fun g => ⟨n, false, g.refreshDue, rfl⟩) judged)
    · split
      · exact hlimit _ short (hgate x _ (fun g => ⟨0, true, false, rfl⟩) judged)
      · exact hgate x _ (fun g => ⟨n, false, g.refreshDue, rfl⟩) judged

section
variable (c : Chan)

theorem Frame.bootRefresh (hf : Frame true ps W s u) (hp : .chan c.val ∈ ps) (hstat : W (A.BOOT_STAT c.val)) (hcnt : W (A.BOOT_CNT c.val))
    (hevt : W (A.BOOT_EVT c.val)) : Frame true ps W s (u.bootRefresh c.val h) :=
  bootRefresh_keeps (fun _ f _ hx => hx.modGate hp h f) (fun _ b hx => hx.putBit (f := F.BOOT_STAT_DUTY_LIM c.val) hstat h b)
    (fun _ hx => (hx.inc (f := F.BOOT_CNT_BLOCKED_CNT c.val) hcnt 1).raise hevt (event_low (boot_event c)) []) hf

theorem bootRefresh_gate_view (g : GateSt → α) (hg : ∀ x n r d, g { x with shortLo := n, refresh := r, refreshDue := d } = g x) (s : State)
    (hh : h < 10) : g ((s.bootRefresh c.val h).gate c.val h) = g (s.gate c.val h) := by
  refine bootRefresh_keeps (P := fun x => g (x.gate c.val h) = g (s.gate c.val h)) (fun x f hf hx => ?_) (fun _ _ hx => hx)
    (fun x hx => ?_) rfl
  · obtain ⟨n, r, d, same⟩ := hf (x.gate c.val h)
    rw [gate_modGate x c.isLt hh, same, hg, hx]
  · rw [raise_gate (boot_event c), inc_gate]
    exact hx

theorem holdStat_beside_limit : (F.BOOT_STAT_DUTY_LIM c.val).beside (F.BOOT_STAT_HOLD c.val) = true := by revert c; decide

theorem bootRefresh_hold (s : State) (k : Nat) :
    (s.bootRefresh c.val h).bitOf (F.BOOT_STAT_HOLD c.val) k = s.bitOf (F.BOOT_STAT_HOLD c.val) k := by
  refine State.bitOf_congr (bootRefresh_keeps (P := fun x => x.get (F.BOOT_STAT_HOLD c.val) = s.get (F.BOOT_STAT_HOLD c.val))
    (fun _ _ _ hx => hx) (fun x b hx => (get_put_beside x (by decide : 19 < 32) (holdStat_beside_limit c) _).trans hx) (fun x hx => ?_) rfl) k
  have apart : (x.inc (F.BOOT_CNT_BLOCKED_CNT c.val)).get (F.BOOT_STAT_HOLD c.val) = x.get (F.BOOT_STAT_HOLD c.val) :=
    State.get_put_ne x (chan_words_ne c.val (by decide)) _
  exact (State.get_congr (raise_rd (boot_event c) [] _ (chan_words_ne c.val (by decide)) (chan_word_quiet ..))).trans (apart.trans hx)

/-- Without the bootstrap bit, or forced off, there is no refresh. -/
theorem bootRefresh_off (hh : h < 10) (hoff : s.bitOf (F.BOOT_CFG_BOOT c.val) h = false ∨ s.bitOf (F.PWM_FSTAT_OFF_EFF c.val) h = true) :
    ((s.bootRefresh c.val h).gate c.val h).refresh = false := by
  have still : (!s.bitOf (F.BOOT_CFG_BOOT c.val) h || s.bitOf (F.PWM_FSTAT_OFF_EFF c.val) h) = true := by
    rcases hoff with hoff | hoff <;> simp [hoff]
  rw [State.bootRefresh, if_pos still, gate_modGate s c.isLt hh]

/-- DUTY_LIM ends where LO is long enough (06 R208). -/
def State.limitJudged (c h : Nat) (s : State) : State := s.when (!s.loIsShort c h) fun x => x.putBit (F.BOOT_STAT_DUTY_LIM c) h false

theorem limitJudged_rd {a : Nat} (ha : a ≠ A.BOOT_STAT c.val) : (s.limitJudged c.val h).rd a = s.rd a :=
  State.when_unseen (fun x => x.rd a) (fun x => State.rd_put_ne x ha _) s _

theorem limitJudged_gate (k : Nat) : (s.limitJudged c.val h).gate c.val k = s.gate c.val k :=
  State.when_unseen (fun x => x.gate c.val k) (fun x => putBit_gate x ..) s _

/-- What the interlocks decide on: the bridge of the half-bridge, and the half-bridge below it (08 R248). -/
theorem refreshBlocked_congr (hw : ∀ a ∈ [A.ROLE_SEL c.val, A.GRID_CFG c.val, A.GDI_CFG c.val], u.rd a = s.rd a)
    (hg : h % 2 = 1 → u.gate c.val (h - 1) = s.gate c.val (h - 1)) : u.refreshBlocked c.val h = s.refreshBlocked c.val h := by
  simp only [List.forall_mem_cons, List.not_mem_nil, false_implies, implies_true, and_true] at hw
  obtain ⟨sel, grid, cfg⟩ := hw
  have bridge : u.pgType c.val (h / 2) = s.pgType c.val (h / 2) := by
    have role : u.role c.val = s.role c.val := State.get_congr (f := F.ROLE_SEL_ROLE c.val) sel
    have topology : u.flag (F.GRID_CFG_TOPO c.val) = s.flag (F.GRID_CFG_TOPO c.val) := State.flag_congr (State.get_congr grid)
    rw [State.pgType, State.pgType, role, topology, cfg]
  unfold State.refreshBlocked
  split
  · rename_i upper
    simp only [bridge, hg upper.2]
  · rfl

theorem limitJudged_blocked : (s.limitJudged c.val h).refreshBlocked c.val h = s.refreshBlocked c.val h := by
  refine refreshBlocked_congr c (fun a ha => limitJudged_rd c ?_) fun _ => limitJudged_gate c _
  simp only [List.mem_cons, List.not_mem_nil, or_false] at ha
  rcases ha with rfl | rfl | rfl <;> exact chan_words_ne c.val (by decide)

section
variable (hboot : s.bitOf (F.BOOT_CFG_BOOT c.val) h = true) (hon : s.bitOf (F.PWM_FSTAT_OFF_EFF c.val) h = false)
  (hdue : (s.gate c.val h).refreshDue = true)
include hboot hon hdue

/-- A refresh that is due is inserted, or blocked by the interlocks. -/
theorem bootRefresh_due : ∃ n, s.bootRefresh c.val h =
    if s.refreshBlocked c.val h then
      (((s.limitJudged c.val h).modGate c.val h fun g => { g with shortLo := n, refresh := false }).inc (F.BOOT_CNT_BLOCKED_CNT c.val)).raise
        (F.BOOT_EVT_BLOCKED c.val)
    else ((s.limitJudged c.val h).modGate c.val h fun g => { g with shortLo := 0, refresh := true, refreshDue := false }).putBit
      (F.BOOT_STAT_DUTY_LIM c.val) h (s.loIsShort c.val h) := by
  refine ⟨if s.loIsShort c.val h then (s.gate c.val h).shortLo + 1 else 0, ?_⟩
  unfold State.bootRefresh
  rw [if_neg (by simp [hboot, hon])]
  simp only [hdue, Bool.true_or, Bool.true_and, if_true]
  rw [← limitJudged_blocked (s := s) (h := h) c]
  rfl

theorem bootRefresh_inserted (hh : h < 10) (hfree : s.refreshBlocked c.val h = false) :
    ((s.bootRefresh c.val h).gate c.val h).refresh = true ∧ ((s.bootRefresh c.val h).gate c.val h).refreshDue = false := by
  obtain ⟨n, refresh⟩ := bootRefresh_due c hboot hon hdue
  rw [refresh, if_neg (by simp [hfree]), putBit_gate, gate_modGate _ c.isLt hh]
  exact ⟨rfl, rfl⟩

theorem bootRefresh_blocked (hh : h < 10) (hblock : s.refreshBlocked c.val h = true) :
    ((s.bootRefresh c.val h).gate c.val h).refresh = false ∧ Counted (F.BOOT_CNT_BLOCKED_CNT c.val) s (s.bootRefresh c.val h) ∧
      Raised (F.BOOT_EVT_BLOCKED c.val) s (s.bootRefresh c.val h) := by
  obtain ⟨n, refresh⟩ := bootRefresh_due c hboot hon hdue
  rw [refresh, if_pos hblock]
  refine ⟨?_, ?_, ?_⟩
  · rw [raise_gate (boot_event c), inc_gate, gate_modGate _ c.isLt hh]
  · exact counted_congr (counted_inc _ (chanFld_ok c.isLt (by decide))) (limitJudged_rd c (chan_words_ne c.val (by decide))).symm
      (raise_rd (boot_event c) [] _ (chan_words_ne c.val (by decide)) (chan_word_quiet ..))
  · refine raised_congr (raise_raised _ (event_low (boot_event c)) (event_quiet (boot_event c))) (Eq.symm ?_) rfl
    exact (State.rd_put_ne _ (chan_words_ne c.val (by decide)) _).trans (limitJudged_rd c (chan_words_ne c.val (by decide)))

end

/-! ### A bootstrap hold -/

theorem Frame.bootHoldStart {c : Nat} (hf : Frame ev ps W s u) (hp : .chan c ∈ ps) (hstat : W (A.BOOT_STAT c)) :
    Frame ev ps W s (u.bootHoldStart c h) := by
  unfold State.bootHoldStart
  split
  · exact hf
  · split
    · exact (hf.putBit (f := F.BOOT_STAT_HOLD c) hstat h false).modGate hp h _
    · exact hf.modGate hp h _

theorem bootHoldStart_gate_view (g : GateSt → α) (hg : ∀ x a r, g { x with above := a, refresh := r } = g x) (s : State) (hh : h < 10) :
    g ((s.bootHoldStart c.val h).gate c.val h) = g (s.gate c.val h) := by
  unfold State.bootHoldStart
  split
  · rfl
  · split
    · exact (congrArg g (gate_modGate _ c.isLt hh _)).trans (hg _ false false)
    · exact (congrArg g (gate_modGate s c.isLt hh _)).trans (hg _ (s.gate c.val h).above _)

theorem bootHoldStart_none {c : Nat} (hhold : s.bitOf (F.BOOT_STAT_HOLD c) h = false) : s.bootHoldStart c h = s :=
  if_pos (by rw [hhold]; rfl)

/-- A hold ends with an above signal, and else refreshes with RECHG alone. -/
theorem bootHoldStart_held (hh : h < 10) (hhold : s.bitOf (F.BOOT_STAT_HOLD c.val) h = true) :
    (s.bootHoldStart c.val h).bitOf (F.BOOT_STAT_HOLD c.val) h = !(s.gate c.val h).above ∧
      ((s.bootHoldStart c.val h).gate c.val h).refresh = (!(s.gate c.val h).above && s.flag (F.BOOT_CFG_RECHG c.val)) := by
  unfold State.bootHoldStart
  rw [if_neg (by rw [hhold]; decide)]
  cases above : (s.gate c.val h).above
  · rw [if_neg Bool.false_ne_true, gate_modGate s c.isLt hh]
    exact ⟨hhold, rfl⟩
  · rw [if_pos rfl, gate_modGate _ c.isLt hh]
    refine ⟨?_, rfl⟩
    refine (State.bitOf_putBit_false s (chanFld_ok c.isLt (by decide)) (by simpa [F.BOOT_STAT_HOLD] using hh) h).trans ?_
    simp

/-! ### The rules together, and the end of a period start -/

/-- The bootstrap rules, then HI and LO (06 R208, R209; 08 R244). -/
def State.booted (c h : Nat) (s : State) : State := ((s.bootRefresh c h).bootHoldStart c h).gateUpdate c h

/-- The period start is an instant for the capture units, and the count of HB0 starts (07 R216, R238). -/
def State.periodMarked (c h off : Nat) (s : State) : State :=
  s.when (h == 0) fun x =>
    (x.pwmEvent c 0 0 (if s.vpCarrier c then s.clk off else s.clk off - s.get (F.PWM_OFS_OFS c h))).put (F.PWM_CNT_CNT c) 0

theorem periodStart_eq (s : State) (c h off : Nat) : s.periodStart c h off = ((s.holdRenewed c h off).booted c h).periodMarked c h off := rfl

theorem Frame.booted (hf : Frame true ps W s u) (hp : .chan c.val ∈ ps) (hstat : W (A.BOOT_STAT c.val)) (hcnt : W (A.BOOT_CNT c.val))
    (hevt : W (A.BOOT_EVT c.val)) : Frame true ps W s (u.booted c.val h) :=
  ((hf.bootRefresh c hp hstat hcnt hevt).bootHoldStart hp hstat).gateUpdate hp h

theorem booted_rd {o : Nat} (ho : o ∉ [0xC804, 0xC808, 0xC810]) : (s.booted c.val h).rd (chBase c.val + o) = s.rd (chBase c.val + o) := by
  have start : Frame true [.chan c.val] (· ∈ [A.BOOT_STAT c.val, A.BOOT_EVT c.val, A.BOOT_CNT c.val]) s s := Frame.refl ..
  refine (start.booted c (h := h) (by simp) (by simp) (by simp) (by simp)).words _ ?_ fun _ => chan_word_quiet ..
  simp only [List.mem_cons, List.not_mem_nil, or_false, A.BOOT_STAT, A.BOOT_EVT, A.BOOT_CNT] at ho ⊢
  omega

theorem booted_gate_view (g : GateSt → α) (hg : ∀ x n r d a hi lo b,
    g { x with shortLo := n, refresh := r, refreshDue := d, above := a, hi := hi, lo := lo, blanked := b } = g x) (s : State) (hh : h < 10) :
    g ((s.booted c.val h).gate c.val h) = g (s.gate c.val h) :=
  (gateUpdate_gate_view g (fun x => hg x x.shortLo x.refresh x.refreshDue x.above) _ c.isLt hh).trans
    ((bootHoldStart_gate_view c g (fun x a r => hg x x.shortLo r x.refreshDue a x.hi x.lo x.blanked) _ hh).trans
      (bootRefresh_gate_view c g (fun x n r d => hg x n r d x.above x.hi x.lo x.blanked) s hh))

theorem booted_formed (hh : h < 10) : Formed c.val h (s.booted c.val h) := formed_gateUpdate _ c.isLt hh

theorem booted_refresh (hh : h < 10) : ((s.booted c.val h).gate c.val h).refresh =
    (((s.bootRefresh c.val h).bootHoldStart c.val h).gate c.val h).refresh :=
  gateUpdate_gate_view GateSt.refresh (fun _ _ _ _ => rfl) _ c.isLt hh

theorem booted_held (hh : h < 10) (hhold : s.bitOf (F.BOOT_STAT_HOLD c.val) h = true) :
    (s.booted c.val h).bitOf (F.BOOT_STAT_HOLD c.val) h = !(s.gate c.val h).above ∧
      ((s.booted c.val h).gate c.val h).refresh = (!(s.gate c.val h).above && s.flag (F.BOOT_CFG_RECHG c.val)) := by
  have start : Frame true [.chan c.val] (· ∈ [A.BOOT_STAT c.val, A.BOOT_EVT c.val, A.BOOT_CNT c.val]) s s := Frame.refl ..
  have above : ((s.bootRefresh c.val h).gate c.val h).above = (s.gate c.val h).above :=
    bootRefresh_gate_view c GateSt.above (fun _ _ _ _ => rfl) s hh
  have rechg : (s.bootRefresh c.val h).flag (F.BOOT_CFG_RECHG c.val) = s.flag (F.BOOT_CFG_RECHG c.val) := by
    refine State.flag_congr (State.get_congr ((start.bootRefresh c (h := h) (by simp) (by simp) (by simp) (by simp)).words _ ?_
      fun _ => chan_word_quiet ..))
    simp only [List.mem_cons, List.not_mem_nil, or_false, F.BOOT_CFG_RECHG, A.BOOT_CFG, A.BOOT_STAT, A.BOOT_EVT, A.BOOT_CNT]
    omega
  obtain ⟨hold, refresh⟩ := bootHoldStart_held c hh ((bootRefresh_hold c s h).trans hhold)
  rw [booted_refresh c hh, refresh, above, rechg]
  exact ⟨(State.bitOf_congr (State.get_congr (State.rd_congr (gateUpdate_regs ..) _)) h).trans (hold.trans (congrArg _ above)), rfl⟩

theorem periodMarked_rd {a : Nat} (ha : a ≠ A.PWM_CNT c.val) (off : Nat) : (s.periodMarked c.val h off).rd a = s.rd a :=
  State.when_unseen (fun x => x.rd a) (fun _ => (State.rd_put_ne _ ha _).trans (pwmEvent_rd ..)) s _

theorem periodMarked_gate (off k : Nat) : (s.periodMarked c.val h off).gate c.val k = s.gate c.val k :=
  State.when_unseen (fun x => x.gate c.val k) (fun x => (put_gate ..).trans (pwmEvent_gate x ..)) s _

theorem periodMarked_hb (off k : Nat) : (s.periodMarked c.val h off).hb c.val k = s.hb c.val k :=
  State.when_unseen (fun x => x.hb c.val k) (fun x => (put_hb ..).trans (pwmEvent_hb x ..)) s _

theorem Formed.periodMarked {k : Nat} (hf : Formed c.val k s) (off : Nat) : Formed c.val k (s.periodMarked c.val h off) := by
  refine hf.of_same (fun a ha => periodMarked_rd c ?_ off) (periodMarked_hb c off k) (periodMarked_gate c off k)
  simp only [gateWords, List.mem_cons, List.not_mem_nil, or_false] at ha
  rcases ha with rfl | rfl | rfl | rfl | rfl | rfl | rfl | rfl | rfl <;> exact chan_words_ne c.val (by decide)

theorem periodMarked_count (off : Nat) : (s.periodMarked c.val 0 off).get (F.PWM_CNT_CNT c.val) = 0 :=
  State.get_put_same _ (chanFld_ok c.isLt (by decide)) 0

theorem Frame.periodMarked (hf : Frame ev ps W s u) (hp : .chan c.val ∈ ps) (hw : W (A.PWM_CNT c.val)) (off : Nat) :
    Frame ev ps W s (u.periodMarked c.val h off) :=
  hf.when _ fun _ => ((Frame.refl ..).pwmEvent hp ..).put (f := F.PWM_CNT_CNT c.val) hw _

end

end Sys2Proof.Machine
end

section
/-! SUPPORT. The cycle-by-cycle hold at a period start: it ends, or it is renewed and counted, and a trip that it causes leaves it (08 R253, R256). -/

namespace Sys2Proof.Machine

variable {s u : State} {h k : Nat}

/-! ### The count of the periods with a hold -/

/-- Whether this period has a hold, and how many in a row have had one. -/
def GateSt.holdRun (g : GateSt) : Bool × Nat := (g.cbcNow, g.cbcRun)

/-- The count of the periods with a hold of half-bridge `k`. -/
def State.holdRun (s : State) (c k : Nat) : Bool × Nat := (s.gate c k).holdRun

section
variable {c : Nat}

theorem holdRun_wr (s : State) (a : Nat) (v : Word) (c k : Nat) : (s.wr a v).holdRun c k = s.holdRun c k := rfl
theorem holdRun_put (s : State) (f : Fld) (v c k : Nat) : (s.put f v).holdRun c k = s.holdRun c k := rfl
theorem holdRun_putb (s : State) (f : Fld) (b : Bool) (c k : Nat) : (s.putb f b).holdRun c k = s.holdRun c k := rfl
theorem holdRun_inc (s : State) (f : Fld) (n c k : Nat) : (s.inc f n).holdRun c k = s.holdRun c k := rfl

theorem holdRun_modCh {f : Ch → Ch} (hf : ∀ x, (f x).gate = x.gate) (s : State) (c k : Nat) : (s.modCh c f).holdRun c k = s.holdRun c k :=
  congrArg GateSt.holdRun (modCh_view (g := fun x => x.gate[k]?.getD {}) (fun x => by rw [hf]) s c c)

theorem holdRun_modHb (s : State) (c j k : Nat) (f : HbSt → HbSt) : (s.modHb c j f).holdRun c k = s.holdRun c k := by
  refine holdRun_modCh ?_ s c k
  exact fun _ => rfl

theorem holdRun_modGate {f : GateSt → GateSt} (hf : ∀ g, (f g).holdRun = g.holdRun) (s : State) (c j k : Nat) :
    (s.modGate c j f).holdRun c k = s.holdRun c k := by
  refine modCh_view (g := fun x => (x.gate[k]?.getD {}).holdRun) (fun x => ?_) s c c
  by_cases same : j = k
  · subst same
    by_cases hj : j < 10
    · simp [hj, hf]
    · simp [hj]
  · simp [same]

theorem holdRun_gateUpdate (s : State) (c j k : Nat) : (s.gateUpdate c j).holdRun c k = s.holdRun c k := by
  unfold State.gateUpdate
  refine holdRun_modGate ?_ s c j k
  exact fun _ => rfl

theorem holdRun_raise {e : Fld} (he : e.isEvent = true) (det : List Word) (s : State) (c k : Nat) : (s.raise e det).holdRun c k = s.holdRun c k :=
  congrArg GateSt.holdRun (raise_gate he det s c k)

theorem holdRun_forceSlot (s : State) (c now old j k : Nat) : (s.forceSlot c now old j).holdRun c k = s.holdRun c k := by
  unfold State.forceSlot
  split
  · exact holdRun_modHb ..
  · split
    · refine (holdRun_modGate ?_ _ c j k).trans (holdRun_modHb ..)
      exact fun _ => rfl
    · rfl

theorem holdRun_applyForce (s : State) (c k : Nat) : (s.applyForce c).holdRun c k = s.holdRun c k := by
  rw [applyForce_eq, forceSlots_eq, State.each_unseen (fun x => x.holdRun c k) fun j _ x => holdRun_gateUpdate x c j k]
  exact State.each_unseen (fun x => x.holdRun c k) (fun j _ x => holdRun_forceSlot x c _ _ j k) _

theorem holdRun_refuse (s : State) (c : Chan) (n k : Nat) : (s.refuse c.val n).holdRun c.val k = s.holdRun c.val k := by
  have grid : (F.GRID_EVT_REFUSED c.val).isEvent = true := by revert c; decide
  have dc : (F.DC_EVT_REFUSED c.val).isEvent = true := by revert c; decide
  have mach : (F.MACH_EVT_REFUSED c.val).isEvent = true := by revert c; decide
  unfold State.refuse
  dsimp only
  split
  · exact holdRun_raise grid ..
  · split
    · exact holdRun_raise dc ..
    · split
      · exact holdRun_raise mach ..
      · rfl

theorem holdRun_setKm (s : State) (c k : Nat) (b : Bool) : (s.setKm c b).holdRun c k = s.holdRun c k := by
  refine (holdRun_gateUpdate _ c 6 k).trans ?_
  split
  · rfl
  · split <;> rfl

theorem holdRun_exitToOff (s : State) (c : Chan) (n k : Nat) : (s.exitToOff c.val n).holdRun c.val k = s.holdRun c.val k := by
  have cleared : ∀ x : State, (x.begunCleared c.val).holdRun c.val k = x.holdRun c.val k := fun x => by
    simp only [State.begunCleared, holdRun_putb, holdRun_put]
    refine holdRun_modCh ?_ x c.val k
    exact fun _ => rfl
  unfold State.exitToOff
  split
  · rw [toOff_eq, holdRun_applyForce, holdRun_refuse, cleared, holdRun_setKm]
    rfl
  · rfl

theorem holdRun_trqEntry (s : State) (c code inp off k : Nat) : (s.trqEntry c code inp off).holdRun c k = s.holdRun c k := by
  unfold State.trqEntry
  dsimp only
  split <;> rfl

/-- A trip before the channel moves: the latch with its sources, and the use of the channel's half-bridges without a role (08 R256, R258). -/
def State.tripEntered (c code inp off : Nat) (s : State) : State :=
  let s := (s.putb (F.GDI_STAT_TRIPPED c) true).modCh c fun x => { x with offDrive := true }
  let s := (s.wr (A.GDI_SRC c) 0#32).wr (A.GDI_TRQ_N c) 0#32
  let s := s.each [0, 1, 2, 3, 4, 5, 6, 7] fun k s => (s.wr (A.GDI_TRQ_A c k) 0#32).wr (A.GDI_TRQ_B c k) 0#32
  let s := (s.trqEntry c code inp off).inc (F.GDI_CNT_TRIP_CNT c)
  if s.role c = rIDLE then s.put (F.PWM_FORCE_USE c) 0 else s

theorem trip_eq {code inp off : Nat} (hn : s.flag (F.GDI_STAT_TRIPPED c) = false) :
    s.trip c code inp off = (((s.tripEntered c code inp off).exitToOff c kTRIP).applyForce c).raise (F.GDI_EVT_TRIP c) :=
  if_neg (by simp [hn])

theorem trip_again {code inp off : Nat} (ht : s.flag (F.GDI_STAT_TRIPPED c) = true) : s.trip c code inp off = s.trqEntry c code inp off := if_pos ht

theorem holdRun_tripEntered (s : State) (c code inp off k : Nat) : (s.tripEntered c code inp off).holdRun c k = s.holdRun c k := by
  have latched := holdRun_modCh (f := fun x => { x with offDrive := true }) (fun _ => rfl) (s.putb (F.GDI_STAT_TRIPPED c) true) c k
  have cleared := fun x : State => State.each_unseen (fun y => y.holdRun c k)
    (f := fun k s => (s.wr (A.GDI_TRQ_A c k) 0#32).wr (A.GDI_TRQ_B c k) 0#32) (l := [0, 1, 2, 3, 4, 5, 6, 7]) (fun _ _ _ => rfl) x
  unfold State.tripEntered
  dsimp only
  split
  · rw [holdRun_put, holdRun_inc, holdRun_trqEntry, cleared, holdRun_wr, holdRun_wr, latched, holdRun_putb]
  · rw [holdRun_inc, holdRun_trqEntry, cleared, holdRun_wr, holdRun_wr, latched, holdRun_putb]

theorem holdRun_trip (s : State) (c : Chan) (code inp off k : Nat) : (s.trip c.val code inp off).holdRun c.val k = s.holdRun c.val k := by
  cases ht : s.flag (F.GDI_STAT_TRIPPED c.val)
  · rw [trip_eq ht, holdRun_raise (trip_event c), holdRun_applyForce, holdRun_exitToOff, holdRun_tripEntered]
  · rw [trip_again ht, holdRun_trqEntry]

end

/-! ### What a trip leaves of a hold -/

section
variable (c : Chan) {ps : List Part} {W : Nat → Prop}

/-- The count of holds is no word of a trip. -/
theorem cbcCnt_not_tripWords : ¬ tripWords c.val (A.GDI_CNT2 c.val) := by
  rintro (hw | ⟨j, hj, hw | hw⟩)
  · simp only [List.mem_cons, List.not_mem_nil, or_false, A.GDI_CNT2, A.GDI_STAT, A.GDI_SRC, A.GDI_TRQ_N, A.GDI_CNT, A.GDI_EVT, A.PWM_FORCE,
      A.PWM_FSTAT, A.ROLE_STAT, A.GRID_STAT, A.GRID_EVT, A.DC_STAT, A.DC_EVT, A.MACH_STAT, A.MACH_EVT, A.RIDE_CH_STAT] at hw
    omega
  all_goals simp only [A.GDI_TRQ_A, A.GDI_TRQ_B, A.GDI_CNT2] at hw; omega

theorem trip_cbcCnt (s : State) (code inp off : Nat) : (s.trip c.val code inp off).rd (A.GDI_CNT2 c.val) = s.rd (A.GDI_CNT2 c.val) :=
  (Frame.trip c.isLt (Frame.refl true [.chan c.val] (tripWords c.val) s) (by simp) (fun _ ha => ha) code inp off).words _
    (cbcCnt_not_tripWords c) fun _ => chan_word_quiet ..

theorem trqWords_inside {a : Nat} (ha : trqWords c.val a) : a ≠ A.GDI_STAT c.val ∧ a ≠ A.GDI_EVT c.val := by
  rcases ha with rfl | rfl | ⟨j, hj, rfl | rfl⟩ <;> simp only [A.GDI_SRC, A.GDI_TRQ_N, A.GDI_TRQ_A, A.GDI_TRQ_B, A.GDI_STAT, A.GDI_EVT] <;> omega

/-- A trip before its event touches its words but the status word of its event. -/
theorem trip_before_event (s : State) (code inp off : Nat) :
    (((s.tripEntered c.val code inp off).exitToOff c.val kTRIP).applyForce c.val).rd (A.GDI_EVT c.val) = s.rd (A.GDI_EVT c.val) := by
  have apart : ∀ {o : Nat}, o ≠ 0x600C → chBase c.val + o ≠ A.GDI_EVT c.val := fun ho => chan_words_ne c.val ho
  have queue : ∀ j, A.GDI_TRQ_A c.val j ≠ A.GDI_EVT c.val ∧ A.GDI_TRQ_B c.val j ≠ A.GDI_EVT c.val := fun j => by
    simp only [A.GDI_TRQ_A, A.GDI_TRQ_B, A.GDI_EVT]; omega
  have start : Frame true [.chan c.val] (· ≠ A.GDI_EVT c.val) s s := Frame.refl ..
  have entered : Frame true [.chan c.val] (· ≠ A.GDI_EVT c.val) s (s.tripEntered c.val code inp off) := by
    have latched := ((start.putb (f := F.GDI_STAT_TRIPPED c.val) (apart (by decide)) true).modCh (c := c.val) (by simp)
      fun x => { x with offDrive := true }).wr (a := A.GDI_SRC c.val) (apart (by decide)) 0#32
    have cleared := Frame.each (f := fun k s => (s.wr (A.GDI_TRQ_A c.val k) 0#32).wr (A.GDI_TRQ_B c.val k) 0#32) [0, 1, 2, 3, 4, 5, 6, 7]
      (fun k _ x => ((Frame.refl true _ (· ≠ A.GDI_EVT c.val) x).wr (queue k).1 0#32).wr (queue k).2 0#32)
      (latched.wr (a := A.GDI_TRQ_N c.val) (apart (by decide)) 0#32)
    have counted := (cleared.trqEntry (fun a ha => (trqWords_inside c ha).2) code inp off).inc (f := F.GDI_CNT_TRIP_CNT c.val)
      (apart (by decide)) 1
    unfold State.tripEntered
    dsimp only
    split
    · exact counted.put (f := F.PWM_FORCE_USE c.val) (apart (by decide)) 0
    · exact counted
  refine ((entered.exitToOff c.isLt (by simp) (fun a ha => ?_) kTRIP).applyForce (by simp) (apart (by decide))).words _ (by simp)
    fun _ => chan_word_quiet ..
  simp only [offWords, List.mem_cons, List.not_mem_nil, or_false] at ha
  rcases ha with rfl | rfl | rfl | rfl | rfl | rfl | rfl | rfl | rfl <;> exact apart (by decide)

theorem trip_cbcEvent (s : State) (code inp off : Nat) :
    (s.trip c.val code inp off).flag (F.GDI_EVT_CBC c.val) = s.flag (F.GDI_EVT_CBC c.val) := by
  have beside : (F.GDI_EVT_TRIP c.val).beside (F.GDI_EVT_CBC c.val) = true := by revert c; decide
  cases ht : s.flag (F.GDI_STAT_TRIPPED c.val)
  · rw [trip_eq ht, flag_raise_beside (trip_event c) [] _ beside]
    exact State.flag_congr (State.get_congr (trip_before_event c s code inp off))
  · rw [trip_again ht]
    exact State.flag_congr (State.get_congr (((Frame.refl true [] (trqWords c.val) s).trqEntry (fun _ ha => ha) code inp off).words _
      (fun ha => (trqWords_inside c ha).2 rfl) fun _ => chan_word_quiet ..))

theorem trip_cbcHold (s : State) (code inp off k : Nat) :
    (s.trip c.val code inp off).bitOf (F.GDI_STAT_CBC_HOLD c.val) k = s.bitOf (F.GDI_STAT_CBC_HOLD c.val) k := by
  have beside : (F.GDI_STAT_TRIPPED c.val).beside (F.GDI_STAT_CBC_HOLD c.val) = true := by revert c; decide
  refine State.bitOf_congr ?_ k
  cases ht : s.flag (F.GDI_STAT_TRIPPED c.val)
  · exact (State.get_congr ((Frame.trip_latched (W := (· ≠ A.GDI_STAT c.val)) (ps := [.chan c.val]) c.isLt ht (by simp) (fun _ _ ha => ha)
      code inp off).words _ (by simp [F.GDI_STAT_CBC_HOLD]) fun _ => chan_word_quiet ..)).trans
      (get_put_beside s (f := F.GDI_STAT_TRIPPED c.val) (by decide : 0 < 32) beside _)
  · rw [trip_again ht]
    exact State.get_congr (((Frame.refl true [] (trqWords c.val) s).trqEntry (fun _ ha => ha) code inp off).words _
      (fun ha => (trqWords_inside c ha).1 rfl) fun _ => chan_word_quiet ..)

/-! ### A hold begins -/

/-- What a trip leaves is after a hold as the hold shows it. -/
theorem cbcHold_unseen {α : Type} (g : State → α) (s : State) (hh : h < 10) (off : Nat)
    (hg : ∀ x code, g (x.trip c.val code 0 off) = g x) : g (s.cbcHold c.val h off) =
      g ((s.cbcShown c.val h).cbcMarked c.val h (if (s.gate c.val h).cbcNow then (s.gate c.val h).cbcRun else (s.gate c.val h).cbcRun + 1)) := by
  obtain ⟨now, run⟩ := cbcShown_count s c hh
  rw [cbcHold_eq s c.val h off (by rw [now, run])]
  exact State.when_unseen g (f := fun x => x.trip c.val (0x10 + h) 0 off) (fun x => hg x _) _ _

/-- A hold is shown, counted and recorded, and counts for this period; a trip that it causes leaves all that (08 R253, R256). -/
theorem cbcHold_shown (s : State) (hh : h < 10) (off : Nat) : (s.cbcHold c.val h off).bitOf (F.GDI_STAT_CBC_HOLD c.val) h = true ∧
    Counted (F.GDI_CNT2_CBC_CNT c.val) s (s.cbcHold c.val h off) ∧ (s.cbcHold c.val h off).flag (F.GDI_EVT_CBC c.val) = true ∧
    (s.cbcHold c.val h off).holdRun c.val h =
      (true, if (s.gate c.val h).cbcNow then (s.gate c.val h).cbcRun else (s.gate c.val h).cbcRun + 1) := by
  refine ⟨?_, ?_, ?_, ?_⟩
  · have word : (s.cbcShown c.val h).get (F.GDI_STAT_CBC_HOLD c.val) =
        (s.putBit (F.GDI_STAT_CBC_HOLD c.val) h true).get (F.GDI_STAT_CBC_HOLD c.val) :=
      (State.get_congr (State.rd_congr (gateUpdate_regs ..) _)).trans ((State.get_congr (raise_rd (cbc_event c) [] _
        (chan_words_ne c.val (by decide)) (chan_word_quiet ..))).trans (State.get_put_ne _ (chan_words_ne c.val (by decide)) _))
    refine (cbcHold_unseen c (fun x => x.bitOf (F.GDI_STAT_CBC_HOLD c.val) h) s hh off fun x _ => trip_cbcHold c x ..).trans ?_
    rw [State.cbcMarked]
    refine (State.bitOf_congr ((State.modGate_get ..).trans word) h).trans ((State.bitOf_putBit_true s (chanFld_ok c.isLt (by decide))
      (by simpa [F.GDI_STAT_CBC_HOLD] using hh) h).trans ?_)
    simp
  · refine counted_congr (counted_inc (s.putBit (F.GDI_STAT_CBC_HOLD c.val) h true) (chanFld_ok c.isLt (by decide)))
      (State.rd_put_ne s (f := F.GDI_STAT_CBC_HOLD c.val) (chan_words_ne c.val (by decide)) _).symm
      ((cbcHold_unseen c (fun x => x.rd (A.GDI_CNT2 c.val)) s hh off fun x _ => trip_cbcCnt c x ..).trans ?_)
    rw [State.cbcMarked, State.modGate_rd, State.cbcShown, State.rd_congr (gateUpdate_regs ..)]
    exact raise_rd (cbc_event c) [] _ (chan_words_ne c.val (by decide)) (chan_word_quiet ..)
  · refine (cbcHold_unseen c (fun x => x.flag (F.GDI_EVT_CBC c.val)) s hh off fun x _ => trip_cbcEvent c x ..).trans ?_
    rw [State.cbcMarked, State.modGate_flag, State.cbcShown, gateUpdate_flag]
    exact flag_raise_own (cbc_event c) [] _
  · refine (cbcHold_unseen c (fun x => x.holdRun c.val h) s hh off fun x _ => holdRun_trip x c ..).trans ?_
    rw [State.cbcMarked, State.holdRun, gate_modGate _ c.isLt hh]
    rfl

/-! ### The start of a period -/

theorem modGate_gate_ne (s : State) {c j : Nat} (hk : j ≠ k) (f : GateSt → GateSt) : (s.modGate c j f).gate c k = s.gate c k :=
  modCh_view (g := fun x => x.gate[k]?.getD {}) (fun x => by simp [hk]) s c c

/-- The hold of the last period, and what acted on it, ends. -/
def State.holdEnded (c h : Nat) (s : State) : State := (s.modGate c h GateSt.periodBegun).putBit (F.GDI_STAT_CBC_HOLD c) h false

theorem holdEnded_gate (hh : h < 10) : (s.holdEnded c.val h).gate c.val h = (s.gate c.val h).periodBegun := gate_modGate s c.isLt hh _

theorem holdEnded_gate_ne (hk : h ≠ k) : (s.holdEnded c.val h).gate c.val k = s.gate c.val k :=
  modGate_gate_ne s hk _

theorem holdEnded_rd {a : Nat} (ha : a ≠ A.GDI_STAT c.val) : (s.holdEnded c.val h).rd a = s.rd a :=
  (State.rd_put_ne _ ha _).trans (State.modGate_rd ..)

theorem holdEnded_hold (hh : h < 10) : (s.holdEnded c.val h).bitOf (F.GDI_STAT_CBC_HOLD c.val) h = false :=
  (State.bitOf_putBit_false _ (chanFld_ok c.isLt (by decide)) (by simpa [F.GDI_STAT_CBC_HOLD] using hh) h).trans (by simp)

theorem holdEnded_tripped : (s.holdEnded c.val h).flag (F.GDI_STAT_TRIPPED c.val) = s.flag (F.GDI_STAT_TRIPPED c.val) :=
  (State.flag_congr (get_put_beside _ (f := F.GDI_STAT_CBC_HOLD c.val) (by decide : 23 < 32) (cbcHold_beside_tripped c) _)).trans
    (State.modGate_flag ..)

theorem Frame.holdEnded {ev : Bool} (hf : Frame ev ps W s u) (hp : .chan c.val ∈ ps) (hw : W (A.GDI_STAT c.val)) :
    Frame ev ps W s (u.holdEnded c.val h) := (hf.modGate hp h _).putBit (f := F.GDI_STAT_CBC_HOLD c.val) hw h false

theorem holdEnded_blocked : (s.holdEnded c.val h).refreshBlocked c.val h = s.refreshBlocked c.val h := by
  refine refreshBlocked_congr c (fun a ha => holdEnded_rd c ?_) fun odd => holdEnded_gate_ne c (by omega)
  simp only [List.mem_cons, List.not_mem_nil, or_false] at ha
  rcases ha with rfl | rfl | rfl <;> exact chan_words_ne c.val (by decide)

theorem holdEnded_mode : (s.holdEnded c.val h).get (F.GDI_SNS_L1_MODE c.val h) = s.get (F.GDI_SNS_L1_MODE c.val h) := by
  refine State.get_congr (holdEnded_rd c ?_)
  simp only [F.GDI_SNS_L1_MODE, A.GDI_SNS, A.GDI_STAT]
  omega

/-- The hold is renewed where L1 stands unblanked at 1 in cycle-by-cycle mode. -/
theorem holdRenewed_eq (off : Nat) : s.holdRenewed c.val h off =
    (s.holdEnded c.val h).when ((s.gate c.val h).l1 && !(s.gate c.val h).blanked && s.get (F.GDI_SNS_L1_MODE c.val h) == 1)
      (State.cbcHold c.val h off) := by
  rw [← holdEnded_mode c]
  rfl

end

section
variable (c : Chan) (off : Nat)

/-- The end of a period start leaves the words of a hold. -/
theorem periodEnd_rd (s : State) (h : Nat) {o : Nat} (ho : o ∉ [0x4020, 0xC804, 0xC808, 0xC810]) :
    ((s.booted c.val h).periodMarked c.val h off).rd (chBase c.val + o) = s.rd (chBase c.val + o) := by
  simp only [List.mem_cons, List.not_mem_nil, or_false, not_or] at ho
  obtain ⟨cnt, stat, evt, blocked⟩ := ho
  exact (periodMarked_rd c (chan_words_ne c.val cnt) off).trans (booted_rd c (by simp [stat, evt, blocked]))

theorem periodEnd_holdRun (s : State) (hh : h < 10) :
    ((s.booted c.val h).periodMarked c.val h off).holdRun c.val h = s.holdRun c.val h :=
  (congrArg GateSt.holdRun (periodMarked_gate c off h)).trans (booted_gate_view c GateSt.holdRun (fun _ _ _ _ _ _ _ _ => rfl) s hh)

/-- A period starts without a hold. -/
def State.periodUnheld (c h off : Nat) (s : State) : State := ((s.holdEnded c h).booted c h).periodMarked c h off

theorem periodUnheld_cbc (hh : h < 10) : (s.periodUnheld c.val h off).bitOf (F.GDI_STAT_CBC_HOLD c.val) h = false :=
  (State.bitOf_congr (State.get_congr (periodEnd_rd c off _ h (by decide))) h).trans (holdEnded_hold c hh)

theorem periodUnheld_tripped : (s.periodUnheld c.val h off).flag (F.GDI_STAT_TRIPPED c.val) = s.flag (F.GDI_STAT_TRIPPED c.val) :=
  (State.flag_congr (State.get_congr (periodEnd_rd c off _ h (by decide)))).trans (holdEnded_tripped c)

theorem periodUnheld_run (hh : h < 10) : ((s.periodUnheld c.val h off).gate c.val h).cbcNow = false ∧
    ((s.periodUnheld c.val h off).gate c.val h).cbcRun = if (s.gate c.val h).cbcNow then (s.gate c.val h).cbcRun else 0 := by
  have run : (s.periodUnheld c.val h off).holdRun c.val h = _ :=
    (periodEnd_holdRun c off (s.holdEnded c.val h) hh).trans (congrArg GateSt.holdRun (holdEnded_gate c hh))
  exact ⟨congrArg Prod.fst run, congrArg Prod.snd run⟩

theorem periodUnheld_formed (hh : h < 10) : Formed c.val h (s.periodUnheld c.val h off) := (booted_formed c hh).periodMarked c off

/-- The registers of the bootstrap rules are as they were when those rules run. -/
theorem holdEnded_bit {f : Fld} {o : Nat} (ha : f.addr = chBase c.val + o) (ho : o ≠ 0x6008) (i : Nat) :
    (s.holdEnded c.val h).bitOf f i = s.bitOf f i :=
  State.bitOf_congr (State.get_congr (holdEnded_rd c (ha ▸ chan_words_ne c.val ho))) i

theorem periodUnheld_held (hh : h < 10) (hhold : s.bitOf (F.BOOT_STAT_HOLD c.val) h = true) :
    (s.periodUnheld c.val h off).bitOf (F.BOOT_STAT_HOLD c.val) h = !(s.gate c.val h).above ∧
      ((s.periodUnheld c.val h off).gate c.val h).refresh = (!(s.gate c.val h).above && s.flag (F.BOOT_CFG_RECHG c.val)) := by
  have rechg : (s.holdEnded c.val h).flag (F.BOOT_CFG_RECHG c.val) = s.flag (F.BOOT_CFG_RECHG c.val) :=
    State.flag_congr (State.get_congr (holdEnded_rd c (chan_words_ne c.val (by decide))))
  obtain ⟨hold, refresh⟩ := booted_held c hh ((holdEnded_bit c rfl (by decide) h).trans hhold)
  rw [holdEnded_gate c hh] at hold refresh
  rw [rechg] at refresh
  exact ⟨(State.bitOf_congr (State.get_congr (periodMarked_rd c (chan_words_ne c.val (by decide)) off)) h).trans hold,
    (congrArg GateSt.refresh (periodMarked_gate c off h)).trans refresh⟩

section
variable (hhold : s.bitOf (F.BOOT_STAT_HOLD c.val) h = false)
include hhold

/-- Without a bootstrap hold the period starts with the refresh that the bootstrap rule gives. -/
theorem periodUnheld_eq : s.periodUnheld c.val h off =
    (((s.holdEnded c.val h).bootRefresh c.val h).gateUpdate c.val h).periodMarked c.val h off := by
  rw [State.periodUnheld, State.booted, bootHoldStart_none ((bootRefresh_hold c _ h).trans ((holdEnded_bit c rfl (by decide) h).trans hhold))]

theorem periodUnheld_gate_view {α : Type} (g : GateSt → α) (hg : ∀ x hi lo b, g { x with hi := hi, lo := lo, blanked := b } = g x)
    (hh : h < 10) : g ((s.periodUnheld c.val h off).gate c.val h) = g (((s.holdEnded c.val h).bootRefresh c.val h).gate c.val h) := by
  rw [periodUnheld_eq c off hhold, periodMarked_gate, gateUpdate_gate_view g hg _ c.isLt hh]

theorem periodUnheld_boot_rd {o : Nat} (ho : o ≠ 0x4020) :
    (s.periodUnheld c.val h off).rd (chBase c.val + o) = ((s.holdEnded c.val h).bootRefresh c.val h).rd (chBase c.val + o) := by
  rw [periodUnheld_eq c off hhold, periodMarked_rd c (chan_words_ne c.val ho), State.rd_congr (gateUpdate_regs ..)]

theorem periodUnheld_unbooted (hh : h < 10) (hboot : s.bitOf (F.BOOT_CFG_BOOT c.val) h = false) :
    ((s.periodUnheld c.val h off).gate c.val h).refresh = false :=
  (periodUnheld_gate_view c off hhold GateSt.refresh (fun _ _ _ _ => rfl) hh).trans
    (bootRefresh_off c hh (.inl ((holdEnded_bit c rfl (by decide) h).trans hboot)))

section
variable (hh : h < 10) (hboot : s.bitOf (F.BOOT_CFG_BOOT c.val) h = true) (hon : s.bitOf (F.PWM_FSTAT_OFF_EFF c.val) h = false)
  (hdue : (s.gate c.val h).refreshDue = true)
include hh hboot hon hdue

theorem periodUnheld_inserted (hfree : s.refreshBlocked c.val h = false) :
    ((s.periodUnheld c.val h off).gate c.val h).refresh = true ∧ ((s.periodUnheld c.val h off).gate c.val h).refreshDue = false := by
  obtain ⟨inserted, done⟩ := bootRefresh_inserted c ((holdEnded_bit c rfl (by decide) h).trans hboot)
    ((holdEnded_bit c rfl (by decide) h).trans hon) ((congrArg GateSt.refreshDue (holdEnded_gate c hh)).trans hdue) hh
    ((holdEnded_blocked c).trans hfree)
  exact ⟨(periodUnheld_gate_view c off hhold GateSt.refresh (fun _ _ _ _ => rfl) hh).trans inserted,
    (periodUnheld_gate_view c off hhold GateSt.refreshDue (fun _ _ _ _ => rfl) hh).trans done⟩

theorem periodUnheld_blocked (hblock : s.refreshBlocked c.val h = true) : ((s.periodUnheld c.val h off).gate c.val h).refresh = false ∧
    Counted (F.BOOT_CNT_BLOCKED_CNT c.val) s (s.periodUnheld c.val h off) ∧ Raised (F.BOOT_EVT_BLOCKED c.val) s (s.periodUnheld c.val h off) := by
  obtain ⟨still, counted, event⟩ := bootRefresh_blocked c ((holdEnded_bit c rfl (by decide) h).trans hboot)
    ((holdEnded_bit c rfl (by decide) h).trans hon) ((congrArg GateSt.refreshDue (holdEnded_gate c hh)).trans hdue) hh
    ((holdEnded_blocked c).trans hblock)
  exact ⟨(periodUnheld_gate_view c off hhold GateSt.refresh (fun _ _ _ _ => rfl) hh).trans still,
    counted_congr counted (holdEnded_rd c (chan_words_ne c.val (by decide))).symm (periodUnheld_boot_rd c off hhold (by decide)),
    raised_congr event (holdEnded_rd c (chan_words_ne c.val (by decide))).symm (periodUnheld_boot_rd c off hhold (by decide))⟩

end

end

theorem Frame.periodUnheld (h : Nat) :
    Frame true [.chan c.val] (· ∈ [A.GDI_STAT c.val, A.PWM_CNT c.val, A.BOOT_STAT c.val, A.BOOT_CNT c.val, A.BOOT_EVT c.val]) s
      (s.periodUnheld c.val h off) := by
  have ended : Frame true [.chan c.val] (· ∈ [A.GDI_STAT c.val, A.PWM_CNT c.val, A.BOOT_STAT c.val, A.BOOT_CNT c.val, A.BOOT_EVT c.val]) s
      (s.holdEnded c.val h) := (Frame.refl ..).holdEnded c (by simp) (by simp)
  exact (ended.booted c (by simp) (by simp) (by simp) (by simp)).periodMarked c (by simp) (by simp) off

/-- A period that starts with L1 unblanked at 1 in cycle-by-cycle mode starts with a hold. -/
theorem periodEnd_held (hh : h < 10) :
    let t := (((s.holdEnded c.val h).cbcHold c.val h off).booted c.val h).periodMarked c.val h off
    t.bitOf (F.GDI_STAT_CBC_HOLD c.val) h = true ∧ Counted (F.GDI_CNT2_CBC_CNT c.val) s t ∧ t.flag (F.GDI_EVT_CBC c.val) = true ∧
      t.holdRun c.val h = (true, (if (s.gate c.val h).cbcNow then (s.gate c.val h).cbcRun else 0) + 1) := by
  obtain ⟨hold, counted, event, run⟩ := cbcHold_shown c (s.holdEnded c.val h) hh off
  refine ⟨(State.bitOf_congr (State.get_congr (periodEnd_rd c off _ h (by decide))) h).trans hold,
    counted_congr counted (holdEnded_rd c (chan_words_ne c.val (by decide))).symm (periodEnd_rd c off _ h (by decide)),
    (State.flag_congr (State.get_congr (periodEnd_rd c off _ h (by decide)))).trans event, (periodEnd_holdRun c off _ hh).trans ?_⟩
  rw [run, holdEnded_gate c hh]
  rfl

/-- A period of a half-bridge on a fixed carrier starts. -/
theorem completes_periodStart (h : HbIx) {P : State → Prop} (hr : s.runs = true) (hvp : s.vpRuns c.val h.val = false)
    (hp : P (settle s (((s.holdRenewed c.val h.val off).booted c.val h.val).periodMarked c.val h.val off))) :
    completes (.carrierPeriodStart c h off) s P := by
  refine completes_clocked (f := State.periodRow c.val h.val off) rfl hr ?_
  rw [State.periodRow, if_neg (by simp [hvp]), periodStart_eq]
  exact hp

end

/-- Settles O20: by whether L1 renews the hold, then the bootstrap rules by their cases. -/
theorem carrierPeriodsStartWithTheirHolds : Obligations.CarrierPeriodsStartWithTheirHolds := by
  intro s c h off hr hvp
  refine ⟨fun hl1 => completes_periodStart c off h hr hvp ?unheld, fun hmode hl1 hblank => completes_periodStart c off h hr hvp ?held⟩
  case unheld =>
    have none : ((s.gate c.val h.val).l1 && !(s.gate c.val h.val).blanked && s.get (F.GDI_SNS_L1_MODE c.val h.val) == 1) = false := by
      rcases hl1 with hl1 | hl1 | hl1 <;> simp [hl1]
    obtain ⟨now, run⟩ := periodUnheld_run (s := s) c off h.isLt
    have formed := (periodUnheld_formed (s := s) c off h.isLt).settle (s := s)
    rw [holdRenewed_eq, none, when_false]
    refine ⟨(settle_bitOf ..).trans (periodUnheld_cbc c off h.isLt), (settle_flag ..).trans (periodUnheld_tripped c off), now, run, formed.1,
      formed.2, fun h0 => ?_, fun hboot hhold => periodUnheld_unbooted c off hhold h.isLt hboot, fun hhold => ?_,
      fun hboot hon hhold hdue => ⟨periodUnheld_inserted c off hhold h.isLt hboot hon hdue, fun hblock => ?_⟩,
      (Frame.periodUnheld c off h.val).settle⟩
    · rw [h0]
      exact (settle_get ..).trans (periodMarked_count c off)
    · obtain ⟨hold, refresh⟩ := periodUnheld_held c off h.isLt hhold
      exact ⟨(settle_bitOf ..).trans hold, refresh⟩
    · obtain ⟨still, counted, event⟩ := periodUnheld_blocked c off hhold h.isLt hboot hon hdue hblock
      exact ⟨still, counted_congr counted rfl (settle_rd ..), raised_congr event rfl (settle_rd ..)⟩
  case held =>
    obtain ⟨hold, counted, event, run⟩ := periodEnd_held (s := s) c off h.isLt
    have again : ((s.gate c.val h.val).l1 && !(s.gate c.val h.val).blanked && s.get (F.GDI_SNS_L1_MODE c.val h.val) == 1) = true := by
      simp [hl1, hblank, hmode]
    rw [holdRenewed_eq, again, when_true]
    exact ⟨(settle_bitOf ..).trans hold, counted_congr counted rfl (settle_rd ..), (settle_flag ..).trans event, congrArg Prod.fst run,
      congrArg Prod.snd run⟩

end Sys2Proof.Machine
end

section
/-! SUPPORT. A reload of a half-bridge in its stages, what each leaves, and what decides on forcing and on a level (07 R228–R236). -/

namespace Sys2Proof.Machine

variable {ev : Bool} {ps : List Part} {W : Nat → Prop} {s u : State} {c h : Nat} {pk : Bool} {w : ReloadWhen}

/-! ### The stages -/

/-- The reload takes the extrapolated duty of a mismatch (07 R236). -/
def State.extrapolates (s : State) (c h : Nat) (w : ReloadWhen) : Bool :=
  (s.hb c h).extrap && !((s.hb c h).fresh && w == ReloadWhen.after) && !s.vpCarrier c && (s.feeder c h).isSome

/-- The reload takes the word before the last write (07 R229). -/
def HbSt.takesOld (x : HbSt) (w : ReloadWhen) : Bool := w != ReloadWhen.after && x.fresh

/-- A write completes in the reload clock (07 R230). -/
def HbSt.isLate (x : HbSt) (w : ReloadWhen) : Bool := w == ReloadWhen.inCycle && x.fresh

/-- The duty in force before the last reload, or the present one where there was none. -/
def State.lastDuty (s : State) (c h : Nat) : Nat :=
  if (s.hb c h).nRel < 2 then dutyOf (s.rd (A.PWM_ACTLO c h)) else dutyOf (s.hb c h).prevLo

/-- The active word that the reload gives. -/
def State.reloadLo (s : State) (c h : Nat) (w : ReloadWhen) : Word :=
  if s.extrapolates c h w then wd (extrapolate (dutyOf (s.rd (A.PWM_ACTLO c h))) (s.lastDuty c h))
  else if (s.hb c h).takesOld w then (s.hb c h).oldLo else (s.hb c h).shLo

def State.reloadHi (s : State) (c h : Nat) (w : ReloadWhen) : Word :=
  if s.extrapolates c h w then s.rd (A.PWM_ACTHI c h) else if (s.hb c h).takesOld w then (s.hb c h).oldHi else (s.hb c h).shHi

/-- The event of a late write of half-bridge `h` (07 R230). -/
def lateFld (c h : Nat) : Fld := ⟨A.PWM_STAT c, h, h⟩

/-- The active word is loaded; an extrapolated duty and a late write are counted and recorded. -/
def State.activeLoaded (c h : Nat) (w : ReloadWhen) (s : State) : State :=
  (((s.wr (A.PWM_ACTLO c h) (s.reloadLo c h w)).wr (A.PWM_ACTHI c h) (s.reloadHi c h w)).when (s.extrapolates c h w) fun x =>
    (x.inc (F.PWM_DROP_CNT_HOLD_CNT c)).raise (F.PWM_STAT_HOLD_EXT c)).when ((s.hb c h).isLate w) fun x =>
      (x.inc (F.PWM_LATE_CNT_CNT c)).raise (lateFld c h)

/-- The reload takes the first word released after a mismatch (12 R353). -/
def State.takesReleased (s : State) (c h : Nat) (w : ReloadWhen) : Bool :=
  !s.extrapolates c h w && (if (s.hb c h).takesOld w then (s.hb c h).oldRel8 else (s.hb c h).rel8)

/-- That word is compared with the extrapolated duty (12 R353). -/
def State.distNoted (c h : Nat) (w : ReloadWhen) (s : State) : State :=
  match (s.hb c h).dExt with
  | some d => (s.activeLoaded c h w).when (s.takesReleased c h w) fun x =>
      x.wr A.HEALTH_FO_ERR (fMax (x.rd A.HEALTH_FO_ERR) (dutyDist (dutyOf d) (dutyOf (s.reloadLo c h w))))
  | none => s.activeLoaded c h w

/-- What a reload leaves of the half-bridge, with the dead times and overrides of `u` (07 R227, R232). -/
def State.reloadedHb (s u : State) (c h : Nat) (w : ReloadWhen) (x : HbSt) : HbSt :=
  { x with
    prevLo := wd (dutyOf (s.rd (A.PWM_ACTLO c h))), nRel := min 2 (x.nRel + 1), extrap := false,
    dExt := if s.extrapolates c h w then some (s.reloadLo c h w) else if s.takesReleased c h w then none else (s.hb c h).dExt,
    fresh := x.fresh && w != ReloadWhen.after,
    dtLH := u.get (F.PWM_DTLH_DT_LH c h), dtHL := u.get (F.PWM_DTHL_DT_HL c h),
    swap := u.bitOf (F.PWM_OVR_SWAP c) (h / 2), inv := u.bitOf (F.PWM_OVR_INV c) (h / 2) }

/-- The words and the half-bridge are loaded. -/
def State.loaded (c h : Nat) (w : ReloadWhen) (s : State) : State :=
  (s.distNoted c h w).modHb c h (s.reloadedHb (s.distNoted c h w) c h w)

/-- A forcing that has ended is released (07 R233). -/
def State.forcingEnded (c h : Nat) (pk : Bool) (s : State) : State :=
  s.when ((s.hb c h).relWait && !s.forced c h) fun x =>
    (x.modHb c h fun y => { y with relWait := false, p := x.levelAt c h pk, e := false, vpNext := x.vpLeg c h }).modGate c h fun g =>
      { g with settle := false }

theorem reloadHb_eq (hr : s.reloads c pk = true) (hs : s.isStatic c h = false) :
    s.reloadHb c h pk w = ((s.loaded c h w).forcingEnded c h pk).gateUpdate c h := by
  unfold State.reloadHb
  rw [if_neg (by simp [hr, hs])]
  rfl

theorem reloadHb_none (hn : s.reloads c pk = false ∨ s.isStatic c h = true) : s.reloadHb c h pk w = s :=
  if_pos (by rcases hn with hn | hn <;> simp [hn])

/-! ### What decides on forcing, and on the level at a release -/

/-- Forcing is judged by these words, and by what of the channel is pending (07 R233). -/
def forceWords (c : Nat) : List Nat :=
  [A.PWM_FORCE c, A.ROLE_SEL c, A.GRID_CFG c, A.DC_CFG c, A.CHOP_CFG c, A.PWM_CAR c, A.ROLE_STAT c, A.SYS_MODE]

theorem forced_congr (hw : ∀ a ∈ forceWords c, u.rd a = s.rd a) (hg : (u.chn c).grid = (s.chn c).grid) (hd : (u.chn c).dc = (s.chn c).dc)
    (hm : (u.chn c).mach = (s.chn c).mach) : u.forced c h = s.forced c h := by
  have word : ∀ f : Fld, f.addr ∈ forceWords c → u.get f = s.get f := fun f hf => State.get_congr (hw _ hf)
  have role : u.role c = s.role c := word (F.ROLE_SEL_ROLE c) (by simp [forceWords, F.ROLE_SEL_ROLE])
  have state : u.cst c = s.cst c := word (F.ROLE_STAT_CH_STATE c) (by simp [forceWords, F.ROLE_STAT_CH_STATE])
  have mode : u.mode = s.mode := word F.SYS_MODE_MODE (by simp [forceWords, F.SYS_MODE_MODE])
  have carrier : u.vpCarrier c = s.vpCarrier c := by
    simp only [State.vpCarrier, role, word (F.DC_CFG_CAR c) (by simp [forceWords, F.DC_CFG_CAR])]
  have output : u.isStatic c h = s.isStatic c h := by
    simp only [State.isStatic, State.kmSlot, State.chopSlot, role, State.flag, word (F.GRID_CFG_KM_EN c) (by simp [forceWords, F.GRID_CFG_KM_EN]),
      word (F.DC_CFG_KM_EN c) (by simp [forceWords, F.DC_CFG_KM_EN]), word (F.CHOP_CFG_MODE c) (by simp [forceWords, F.CHOP_CFG_MODE])]
  have legs : u.legs c = s.legs c := word (F.DC_CFG_LEGS c) (by simp [forceWords, F.DC_CFG_LEGS])
  have used : u.bitOf (F.PWM_FORCE_USE c) h = s.bitOf (F.PWM_FORCE_USE c) h :=
    State.bitOf_congr (word _ (by simp [forceWords, F.PWM_FORCE_USE])) h
  have drives : u.roleDrives c h = s.roleDrives c h := by rw [State.roleDrives, State.roleDrives, role, legs, used]
  have holds : u.roleHolds c h = s.roleHolds c h := by
    rw [State.roleHolds, State.roleHolds, output, role, state, carrier, drives, used, hg, hd, hm,
      word (F.PWM_CAR_SHAPE c) (by simp [forceWords, F.PWM_CAR_SHAPE])]
  have modes : u.modeHolds c = s.modeHolds c := by simp only [State.modeHolds, mode, state, role]
  simp only [State.forced, holds, modes, State.bitOf, word (F.PWM_FORCE_OFF c) (by simp [forceWords, F.PWM_FORCE_OFF])]

theorem levelAt_congr (hw : ∀ a ∈ [A.PWM_ACTLO c h, A.ROLE_SEL c, A.DC_CFG c], u.rd a = s.rd a) (hc : (u.chn c).car = (s.chn c).car)
    (hi : (u.hb c h).inv = (s.hb c h).inv) : u.levelAt c h pk = s.levelAt c h pk := by
  simp only [List.forall_mem_cons, List.not_mem_nil, false_implies, implies_true, and_true] at hw
  obtain ⟨active, sel, cfg⟩ := hw
  have role : u.role c = s.role c := State.get_congr (f := F.ROLE_SEL_ROLE c) sel
  have kind : u.get (F.DC_CFG_CAR c) = s.get (F.DC_CFG_CAR c) := State.get_congr cfg
  have legs : u.legs c = s.legs c := State.get_congr (f := F.DC_CFG_LEGS c) cfg
  have leg : u.vpLeg c h = s.vpLeg c h := by simp only [State.vpLeg, State.vpCarrier, role, kind, legs]
  simp only [State.levelAt, leg, kind, active, hc, hi]

end Sys2Proof.Machine
end

section
/-! SUPPORT. The words and the half-bridge after a reload (07 R228–R236; 12 R353). -/

namespace Sys2Proof.Machine

variable {ps : List Part} {W : Nat → Prop} {s u : State} {pk : Bool} {w : ReloadWhen}

/-- Words that a reload of half-bridge `h` writes. -/
def reloadWords (c h : Nat) : List Nat :=
  [A.PWM_ACTLO c h, A.PWM_ACTHI c h, A.PWM_STAT c, A.PWM_DROP_CNT c, A.PWM_LATE_CNT c, A.HEALTH_FO_ERR]

section
variable (c : Chan) (h : HbIx)

theorem holdExt_event : (F.PWM_STAT_HOLD_EXT c.val).isEvent = true := by revert c; decide
theorem late_event : (lateFld c.val h.val).isEvent = true := by revert c h; decide
theorem late_beside_holdExt : (lateFld c.val h.val).beside (F.PWM_STAT_HOLD_EXT c.val) = true := by revert c h; decide
theorem actLo_full : implMask (A.PWM_ACTLO c.val h.val) = 0xFFFFFFFF#32 := by revert c h; decide
theorem actHi_full : implMask (A.PWM_ACTHI c.val h.val) = 0xFFFFFFFF#32 := by revert c h; decide

/-! ### The active word -/

/-- An extrapolated duty is counted and recorded (07 R236). -/
def State.holdCounted (c : Nat) (s : State) : State := (s.inc (F.PWM_DROP_CNT_HOLD_CNT c)).raise (F.PWM_STAT_HOLD_EXT c)

/-- A late write is counted and recorded (07 R230). -/
def State.lateCounted (c h : Nat) (s : State) : State := (s.inc (F.PWM_LATE_CNT_CNT c)).raise (lateFld c h)

/-- The active word is in its registers. -/
def State.activeWritten (c h : Nat) (w : ReloadWhen) (s : State) : State :=
  (s.wr (A.PWM_ACTLO c h) (s.reloadLo c h w)).wr (A.PWM_ACTHI c h) (s.reloadHi c h w)

theorem activeLoaded_eq (s : State) (c h : Nat) (w : ReloadWhen) : s.activeLoaded c h w =
    ((s.activeWritten c h w).when (s.extrapolates c h w) (State.holdCounted c)).when ((s.hb c h).isLate w) (State.lateCounted c h) := rfl

theorem holdCounted_rd (s : State) {o : Nat} (hs : o ≠ 0x4010) (hd : o ≠ 0x4018) :
    (s.holdCounted c.val).rd (chBase c.val + o) = s.rd (chBase c.val + o) :=
  (raise_rd (holdExt_event c) [] _ (chan_words_ne c.val hs) (chan_word_quiet ..)).trans (State.rd_put_ne s (chan_words_ne c.val hd) _)

theorem lateCounted_rd (s : State) {o : Nat} (hs : o ≠ 0x4010) (hl : o ≠ 0x4014) :
    (s.lateCounted c.val h.val).rd (chBase c.val + o) = s.rd (chBase c.val + o) :=
  (raise_rd (late_event c h) [] _ (chan_words_ne c.val hs) (chan_word_quiet ..)).trans (State.rd_put_ne s (chan_words_ne c.val hl) _)

/-- The counts and events of a reload are apart from the words of the half-bridge. -/
theorem activeLoaded_rd (s : State) (w : ReloadWhen) {o : Nat} (ho : o ∉ [0x4010, 0x4014, 0x4018]) :
    (s.activeLoaded c.val h.val w).rd (chBase c.val + o) = (s.activeWritten c.val h.val w).rd (chBase c.val + o) := by
  simp only [List.mem_cons, List.not_mem_nil, or_false, not_or] at ho
  obtain ⟨stat, late, drop⟩ := ho
  rw [activeLoaded_eq]
  exact (State.when_unseen (fun x => x.rd (chBase c.val + o)) (fun x => lateCounted_rd c h x stat late) _ _).trans
    (State.when_unseen (fun x => x.rd (chBase c.val + o)) (fun x => holdCounted_rd c x stat drop) _ _)

theorem activeLoaded_lo (s : State) (w : ReloadWhen) : (s.activeLoaded c.val h.val w).rd (A.PWM_ACTLO c.val h.val) = s.reloadLo c.val h.val w := by
  have apart : A.PWM_ACTLO c.val h.val ≠ A.PWM_ACTHI c.val h.val := by simp only [A.PWM_ACTLO, A.PWM_ACTHI]; omega
  have loaded := activeLoaded_rd c h s w (o := 0x4108 + 0x20 * h.val) (by simp; omega)
  rw [← Nat.add_assoc] at loaded
  refine loaded.trans ((State.rd_wr_ne _ apart _).trans ((State.rd_wr_same ..).trans ?_))
  rw [actLo_full]
  exact BitVec.and_allOnes

theorem activeLoaded_hi (s : State) (w : ReloadWhen) : (s.activeLoaded c.val h.val w).rd (A.PWM_ACTHI c.val h.val) = s.reloadHi c.val h.val w := by
  have loaded := activeLoaded_rd c h s w (o := 0x410C + 0x20 * h.val) (by simp; omega)
  rw [← Nat.add_assoc] at loaded
  refine loaded.trans ((State.rd_wr_same ..).trans ?_)
  rw [actHi_full]
  exact BitVec.and_allOnes

/-- The counts and the status are none of the words of the active duty. -/
theorem activeWritten_rd (s : State) (w : ReloadWhen) {o : Nat} (ho : o < 0x4100) :
    (s.activeWritten c.val h.val w).rd (chBase c.val + o) = s.rd (chBase c.val + o) :=
  (State.rd_wr_ne _ (by simp only [A.PWM_ACTHI]; omega) _).trans (State.rd_wr_ne s (by simp only [A.PWM_ACTLO]; omega) _)

theorem activeLoaded_unlate (hl : (s.hb c.val h.val).isLate w = false) :
    (s.activeLoaded c.val h.val w).rd (A.PWM_LATE_CNT c.val) = s.rd (A.PWM_LATE_CNT c.val) := by
  rw [activeLoaded_eq, hl, when_false]
  exact (State.when_unseen (fun x => x.rd (A.PWM_LATE_CNT c.val)) (fun x => holdCounted_rd c x (by decide) (by decide)) _ _).trans
    (activeWritten_rd c h s w (by decide))

theorem activeLoaded_late (hl : (s.hb c.val h.val).isLate w = true) (hx : s.extrapolates c.val h.val w = false) :
    Counted (F.PWM_LATE_CNT_CNT c.val) s (s.activeLoaded c.val h.val w) ∧ Raised (lateFld c.val h.val) s (s.activeLoaded c.val h.val w) := by
  rw [activeLoaded_eq, hl, hx, when_true, when_false]
  constructor
  · exact counted_congr (counted_inc _ (chanFld_ok c.isLt (by decide))) (activeWritten_rd c h s w (by decide)).symm
      (raise_rd (late_event c h) [] _ (chan_words_ne c.val (by decide)) (chan_word_quiet ..))
  · refine raised_congr (raise_raised _ (event_low (late_event c h)) (event_quiet (late_event c h))) (Eq.symm ?_) rfl
    exact (State.rd_put_ne _ (chan_words_ne c.val (by decide)) _).trans (activeWritten_rd c h s w (by decide))

theorem activeLoaded_held (hx : s.extrapolates c.val h.val w = true) :
    Counted (F.PWM_DROP_CNT_HOLD_CNT c.val) s (s.activeLoaded c.val h.val w) ∧
      (s.activeLoaded c.val h.val w).flag (F.PWM_STAT_HOLD_EXT c.val) = true := by
  rw [activeLoaded_eq, hx, when_true]
  constructor
  · refine counted_congr (counted_inc (s.activeWritten c.val h.val w) (chanFld_ok c.isLt (by decide)))
      (activeWritten_rd c h s w (by decide)).symm
      ((State.when_unseen (fun x => x.rd (A.PWM_DROP_CNT c.val)) (fun x => lateCounted_rd c h x (by decide) (by decide)) _ _).trans ?_)
    exact raise_rd (holdExt_event c) [] _ (chan_words_ne c.val (by decide)) (chan_word_quiet ..)
  · refine (State.when_unseen (fun x => x.flag (F.PWM_STAT_HOLD_EXT c.val)) (fun x => ?_) _ _).trans (flag_raise_own (holdExt_event c) [] _)
    exact (flag_raise_beside (late_event c h) [] _ (late_beside_holdExt c h)).trans
      (State.flag_put_ne x (f := F.PWM_LATE_CNT_CNT c.val) (chan_words_ne c.val (by decide)) _)

theorem Frame.activeLoaded (s : State) (w : ReloadWhen) :
    Frame true [.chan c.val] (· ∈ reloadWords c.val h.val) s (s.activeLoaded c.val h.val w) := by
  have written : Frame true [.chan c.val] (· ∈ reloadWords c.val h.val) s (s.activeWritten c.val h.val w) :=
    ((Frame.refl ..).wr (by simp [reloadWords]) _).wr (by simp [reloadWords]) _
  rw [activeLoaded_eq]
  refine (written.when _ fun x => ?_).when _ fun x => ?_
  · exact ((Frame.refl ..).inc (f := F.PWM_DROP_CNT_HOLD_CNT c.val) (by simp [reloadWords, F.PWM_DROP_CNT_HOLD_CNT]) 1).raise
      (by simp [reloadWords, F.PWM_STAT_HOLD_EXT]) (event_low (holdExt_event c)) []
  · exact ((Frame.refl ..).inc (f := F.PWM_LATE_CNT_CNT c.val) (by simp [reloadWords, F.PWM_LATE_CNT_CNT]) 1).raise
      (by simp [reloadWords, lateFld]) (event_low (late_event c h)) []

theorem holdCounted_chn (s : State) (d : Nat) : (s.holdCounted c.val).chn d = s.chn d := raise_chn (holdExt_event c) [] _ d

theorem lateCounted_chn (s : State) (d : Nat) : (s.lateCounted c.val h.val).chn d = s.chn d := raise_chn (late_event c h) [] _ d

theorem activeLoaded_chn (s : State) (w : ReloadWhen) (d : Nat) : (s.activeLoaded c.val h.val w).chn d = s.chn d := by
  rw [activeLoaded_eq]
  exact (State.when_unseen (fun x => x.chn d) (fun x => lateCounted_chn c h x d) _ _).trans
    (State.when_unseen (fun x => x.chn d) (fun x => holdCounted_chn c x d) _ _)

/-! ### The half-bridge -/

theorem distNoted_rd (s : State) (w : ReloadWhen) {a : Nat} (ha : a ≠ A.HEALTH_FO_ERR) :
    (s.distNoted c.val h.val w).rd a = (s.activeLoaded c.val h.val w).rd a := by
  unfold State.distNoted
  split
  · exact State.when_unseen (fun x => x.rd a) (fun x => State.rd_wr_ne x ha _) _ _
  · rfl

theorem distNoted_chn (s : State) (w : ReloadWhen) (d : Nat) : (s.distNoted c.val h.val w).chn d = s.chn d := by
  unfold State.distNoted
  split
  · refine (State.when_unseen (fun x => x.chn d) ?_ _ _).trans (activeLoaded_chn c h s w d)
    exact fun _ => rfl
  · exact activeLoaded_chn c h s w d

theorem Frame.distNoted (s : State) (w : ReloadWhen) :
    Frame true [.chan c.val] (· ∈ reloadWords c.val h.val) s (s.distNoted c.val h.val w) := by
  unfold State.distNoted
  split
  · exact (Frame.activeLoaded c h s w).when _ fun x => (Frame.refl ..).wr (by simp [reloadWords]) _
  · exact Frame.activeLoaded c h s w

/-- A word of the channel that a reload does not write. -/
theorem not_reloadWords {o : Nat} (hlo : o ≠ 0x4108 + 0x20 * h.val) (hhi : o ≠ 0x410C + 0x20 * h.val) (hc : o ∉ [0x4010, 0x4014, 0x4018]) :
    chBase c.val + o ∉ reloadWords c.val h.val := by
  simp only [reloadWords, List.mem_cons, List.not_mem_nil, or_false, A.PWM_ACTLO, A.PWM_ACTHI, A.PWM_STAT, A.PWM_DROP_CNT, A.PWM_LATE_CNT,
    A.HEALTH_FO_ERR, chBase] at hc ⊢
  omega

theorem distNoted_kept (s : State) (w : ReloadWhen) {o : Nat} (hlo : o ≠ 0x4108 + 0x20 * h.val) (hhi : o ≠ 0x410C + 0x20 * h.val)
    (hc : o ∉ [0x4010, 0x4014, 0x4018]) : (s.distNoted c.val h.val w).rd (chBase c.val + o) = s.rd (chBase c.val + o) :=
  (Frame.distNoted c h s w).words _ (not_reloadWords c h hlo hhi hc) fun _ => chan_word_quiet ..

/-- Dead times and overrides are taken as they are written. -/
theorem loaded_hb (s : State) (w : ReloadWhen) : (s.loaded c.val h.val w).hb c.val h.val = s.reloadedHb s c.val h.val w (s.hb c.val h.val) := by
  have lowHigh : (s.distNoted c.val h.val w).get (F.PWM_DTLH_DT_LH c.val h.val) = s.get (F.PWM_DTLH_DT_LH c.val h.val) := by
    refine State.get_congr ?_
    rw [show (F.PWM_DTLH_DT_LH c.val h.val).addr = chBase c.val + (0x4110 + 0x20 * h.val) from Nat.add_assoc ..]
    exact distNoted_kept c h s w (by omega) (by omega) (by simp; omega)
  have highLow : (s.distNoted c.val h.val w).get (F.PWM_DTHL_DT_HL c.val h.val) = s.get (F.PWM_DTHL_DT_HL c.val h.val) := by
    refine State.get_congr ?_
    rw [show (F.PWM_DTHL_DT_HL c.val h.val).addr = chBase c.val + (0x4114 + 0x20 * h.val) from Nat.add_assoc ..]
    exact distNoted_kept c h s w (by omega) (by omega) (by simp; omega)
  have override : ∀ {f : Fld} (i : Nat), f.addr = A.PWM_OVR c.val → (s.distNoted c.val h.val w).bitOf f i = s.bitOf f i := fun i hf =>
    State.bitOf_congr (State.get_congr (hf ▸ distNoted_kept c h s w (by omega) (by omega) (by decide))) i
  have same : (s.distNoted c.val h.val w).hb c.val h.val = s.hb c.val h.val := by rw [State.hb, distNoted_chn, State.hb]
  rw [State.loaded, hb_modHb_same _ c.isLt h.isLt, same, State.reloadedHb, lowHigh, highLow, override _ rfl, override _ rfl, State.reloadedHb]

theorem loaded_rd (s : State) (w : ReloadWhen) {a : Nat} (ha : a ≠ A.HEALTH_FO_ERR) :
    (s.loaded c.val h.val w).rd a = (s.activeLoaded c.val h.val w).rd a := (State.modHb_rd ..).trans (distNoted_rd c h s w ha)

theorem Frame.loaded (s : State) (w : ReloadWhen) :
    Frame true [.chan c.val] (· ∈ reloadWords c.val h.val) s (s.loaded c.val h.val w) := (Frame.distNoted c h s w).modHb (by simp) _ _

/-- What of the channel is no half-bridge stays. -/
theorem loaded_view {α : Type} {g : Ch → α} (hg : Unbridged g) (s : State) (w : ReloadWhen) :
    g ((s.loaded c.val h.val w).chn c.val) = g (s.chn c.val) :=
  (modCh_view (fun x => hg.hb x _) _ c.val c.val).trans (congrArg g (distNoted_chn c h s w c.val))

theorem loaded_forced (s : State) (w : ReloadWhen) : (s.loaded c.val h.val w).forced c.val h.val = s.forced c.val h.val := by
  refine forced_congr (fun a ha => ?_) (loaded_view c h ⟨fun _ _ => rfl, fun _ _ => rfl⟩ s w) (loaded_view c h unbridged_dc s w)
    (loaded_view c h unbridged_mach s w)
  have outside : a ∉ reloadWords c.val h.val ∧ bookAddr a = false := by
    simp only [forceWords, List.mem_cons, List.not_mem_nil, or_false] at ha
    rcases ha with rfl | rfl | rfl | rfl | rfl | rfl | rfl | rfl
    case inr.inr.inr.inr.inr.inr.inr =>
      simp only [reloadWords, List.mem_cons, List.not_mem_nil, or_false, A.PWM_ACTLO, A.PWM_ACTHI, A.PWM_STAT, A.PWM_DROP_CNT, A.PWM_LATE_CNT,
        A.HEALTH_FO_ERR, A.SYS_MODE, chBase]
      exact ⟨by omega, by decide⟩
    all_goals exact ⟨not_reloadWords c h (by omega) (by omega) (by decide), chan_word_quiet ..⟩
  exact (Frame.loaded c h s w).words a outside.1 fun _ => outside.2

/-! ### The end of forcing -/

theorem forcingEnded_regs (s : State) (c h : Nat) (pk : Bool) : (s.forcingEnded c h pk).regs = s.regs := by
  refine State.when_unseen State.regs ?_ s _
  exact fun _ => rfl

theorem forcingEnded_waits (hw : (s.hb c.val h.val).relWait = false) : s.forcingEnded c.val h.val pk = s := by
  rw [State.forcingEnded, hw, Bool.false_and, when_false]

/-- A release leaves the levels and the waiting for release alone touched. -/
theorem forcingEnded_hb (s : State) (pk : Bool) : ∃ r p e n, (s.forcingEnded c.val h.val pk).hb c.val h.val =
    { s.hb c.val h.val with relWait := r, p := p, e := e, vpNext := n } := by
  unfold State.forcingEnded
  cases (s.hb c.val h.val).relWait && !s.forced c.val h.val
  · exact ⟨_, _, _, _, rfl⟩
  · rw [when_true, modGate_hb, hb_modHb_same s c.isLt h.isLt]
    exact ⟨_, _, _, _, rfl⟩

theorem forcingEnded_released (hw : (s.hb c.val h.val).relWait = true) (hf : s.forced c.val h.val = false) :
    (s.forcingEnded c.val h.val pk).hb c.val h.val =
      { s.hb c.val h.val with relWait := false, p := s.levelAt c.val h.val pk, e := false, vpNext := s.vpLeg c.val h.val } := by
  rw [State.forcingEnded, hw, hf, Bool.not_false, Bool.and_true, when_true, modGate_hb, hb_modHb_same s c.isLt h.isLt]

theorem forcingEnded_view {α : Type} {g : Ch → α} (hg : Unbridged g) (s : State) (pk : Bool) :
    g ((s.forcingEnded c.val h.val pk).chn c.val) = g (s.chn c.val) :=
  State.when_unseen (fun x => g (x.chn c.val)) (fun x => (modGate_view hg.gate ..).trans (modCh_view (fun y => hg.hb y _) x c.val c.val)) s _

end

end Sys2Proof.Machine
end

section
/-! SUPPORT. The single-shunt windows of a period, and a reload as a whole (06 R206, R207; 07 R228–R236). -/

namespace Sys2Proof.Machine

variable {s u : State} {pk : Bool} {w : ReloadWhen}

/-! ### The single-shunt windows -/

theorem shuntWindows_congr {c : Nat} (hlo : ∀ h < 3, u.rd (A.PWM_ACTLO c h) = s.rd (A.PWM_ACTLO c h)) (htick : u.rd A.SYS_TICK = s.rd A.SYS_TICK)
    (hmin : u.rd (A.MACH_SAMPLE_MIN c) = s.rd (A.MACH_SAMPLE_MIN c)) (hcar : (u.chn c).car = (s.chn c).car) :
    u.shuntWindows c = s.shuntWindows c := by
  have period : u.prdSteps c = s.prdSteps c := by
    simp only [State.prdSteps, State.prd, hcar, State.get_congr (f := F.SYS_TICK_TICK_DIV) htick]
  simp only [State.shuntWindows, hlo 0 (by decide), hlo 1 (by decide), hlo 2 (by decide), period, hmin]

theorem shiftFail_event (c : Chan) : (F.MACH_EVT_SHIFT_FAIL c.val).isEvent = true := by revert c; decide

/-- A shifted period is counted (06 R206). -/
def State.shiftCounted (c : Nat) (b : Bool) (s : State) : State := s.when b fun x => x.inc (F.MACH_SHIFT_CNT_SHIFTED c)

/-- Windows without a sample are counted and recorded (06 R207). -/
def State.lossCounted (c n : Nat) (s : State) : State :=
  s.when (n != 0) fun x => (x.inc (F.MACH_SHIFT_CNT_FAIL c) n).raise (F.MACH_EVT_SHIFT_FAIL c)

theorem shuntReload_none {c : Nat} (hrole : s.role c ≠ rMACH) : s.shuntReload c = s := if_neg fun hm => hrole hm.1

section
variable (c : Chan)

theorem shuntReload_runs (hrole : s.role c.val = rMACH) (hen : s.flag (F.MACH_CFG_SHUNT c.val) = true) (hst : s.cst c.val = sACTIVE)
    (hhold : ∀ k : Fin 3, s.bitOf (F.BOOT_STAT_HOLD c.val) k.val = false) : s.shuntReload c.val =
      (s.shiftCounted c.val (s.shuntWindows c.val).2).lossCounted c.val (s.shuntWindows c.val).1 := by
  have free : ([0, 1, 2].any fun k => s.bitOf (F.BOOT_STAT_HOLD c.val) k) = false := by
    have h0 := hhold 0
    have h1 := hhold 1
    have h2 := hhold 2
    simp only [Fin.val_zero, Fin.val_one, Fin.val_two] at h0 h1 h2
    simp [h0, h1, h2]
  unfold State.shuntReload
  dsimp only
  rw [if_pos ⟨hrole, hen, by simp [hst], by simp [free]⟩]
  rfl

/-- The count of a field of the word goes up by what is counted. -/
theorem get_inc_when {f : Fld} (hf : f.ok = true) (hw : 2 ^ (f.hi + 1 - f.lo) = 65536) (s : State) (b : Bool) :
    (s.when b fun x => x.inc f).get f = (s.get f + b2n b) % 65536 := by
  have below : s.get f < 65536 := hw ▸ Nat.mod_lt _ (Nat.two_pow_pos _)
  cases b
  · exact (Nat.mod_eq_of_lt below).symm
  · refine (State.get_put_same s hf _).trans ?_
    rw [hw, Nat.mod_mod]
    rfl

theorem shiftCounted_get (s : State) (b : Bool) : (s.shiftCounted c.val b).get (F.MACH_SHIFT_CNT_SHIFTED c.val) =
    (s.get (F.MACH_SHIFT_CNT_SHIFTED c.val) + b2n b) % 65536 :=
  get_inc_when (chanFld_ok c.isLt (by decide)) rfl s b

theorem shiftCounted_fail (s : State) (b : Bool) : (s.shiftCounted c.val b).get (F.MACH_SHIFT_CNT_FAIL c.val) =
    s.get (F.MACH_SHIFT_CNT_FAIL c.val) :=
  State.when_unseen (f := fun x => x.inc (F.MACH_SHIFT_CNT_SHIFTED c.val)) (fun x => x.get (F.MACH_SHIFT_CNT_FAIL c.val))
    (fun x => State.get_put_field x (f := F.MACH_SHIFT_CNT_SHIFTED c.val) (g := F.MACH_SHIFT_CNT_FAIL c.val)
      (chanFld_ok c.isLt (by decide)) (by decide : 15 < 32) rfl (.inl (by decide : 15 < 16)) _) s b

theorem lossCounted_shifted (s : State) (n : Nat) : (s.lossCounted c.val n).get (F.MACH_SHIFT_CNT_SHIFTED c.val) =
    s.get (F.MACH_SHIFT_CNT_SHIFTED c.val) := by
  refine State.when_unseen (f := fun x => (x.inc (F.MACH_SHIFT_CNT_FAIL c.val) n).raise (F.MACH_EVT_SHIFT_FAIL c.val))
    (fun x => x.get (F.MACH_SHIFT_CNT_SHIFTED c.val)) (fun x => ?_) s _
  exact (State.get_congr (raise_rd (shiftFail_event c) [] _ (chan_words_ne c.val (by decide)) (chan_word_quiet ..))).trans
    (State.get_put_field x (f := F.MACH_SHIFT_CNT_FAIL c.val) (g := F.MACH_SHIFT_CNT_SHIFTED c.val)
      (chanFld_ok c.isLt (by decide)) (by decide : 31 < 32) rfl (.inr (by decide : 15 < 16)) _)

theorem lossCounted_get (s : State) (n : Nat) : (s.lossCounted c.val n).get (F.MACH_SHIFT_CNT_FAIL c.val) =
    (s.get (F.MACH_SHIFT_CNT_FAIL c.val) + n) % 65536 := by
  have below : s.get (F.MACH_SHIFT_CNT_FAIL c.val) < 65536 := Nat.mod_lt _ (Nat.two_pow_pos _)
  unfold State.lossCounted
  by_cases hn : n = 0
  · subst hn
    exact (Nat.mod_eq_of_lt below).symm
  · rw [bne_iff_ne.mpr hn, when_true,
      State.get_congr (raise_rd (shiftFail_event c) [] _ (chan_words_ne c.val (by decide)) (chan_word_quiet ..))]
    exact (State.get_put_same s (chanFld_ok c.isLt (by decide)) _).trans (Nat.mod_mod _ _)

/-- A reload counts into the word of the shifts, and its failures into the status of the machine. -/
theorem Frame.shuntReload (s : State) : Frame true [] (· ∈ [A.MACH_SHIFT_CNT c.val, A.MACH_EVT c.val]) s (s.shuntReload c.val) := by
  unfold State.shuntReload
  dsimp only
  split
  · refine ((Frame.refl ..).when _ fun x => ?_).when _ fun x => ?_
    · exact (Frame.refl ..).inc (f := F.MACH_SHIFT_CNT_SHIFTED c.val) (by simp [F.MACH_SHIFT_CNT_SHIFTED]) 1
    · exact ((Frame.refl ..).inc (f := F.MACH_SHIFT_CNT_FAIL c.val) (by simp [F.MACH_SHIFT_CNT_FAIL]) _).raise (by simp [F.MACH_EVT_SHIFT_FAIL])
        (event_low (shiftFail_event c)) []
  · exact Frame.refl ..

theorem shuntReload_rd (s : State) {a : Nat} (ha : a ∉ [A.MACH_SHIFT_CNT c.val, A.MACH_EVT c.val]) (hq : bookAddr a = false) :
    (s.shuntReload c.val).rd a = s.rd a := (Frame.shuntReload c s).words a ha fun _ => hq

theorem shuntReload_chn (s : State) : (s.shuntReload c.val).chn c.val = s.chn c.val := (Frame.shuntReload c s).parts (.chan c.val) (by simp)

end

/-! ### A reload as a whole -/

section
variable (c : Chan) (h : HbIx)

theorem Frame.reloadHb (s : State) (pk : Bool) (w : ReloadWhen) :
    Frame true [.chan c.val] (· ∈ reloadWords c.val h.val) s (s.reloadHb c.val h.val pk w) := by
  by_cases hn : s.reloads c.val pk = false ∨ s.isStatic c.val h.val = true
  · rw [reloadHb_none hn]
    exact Frame.refl ..
  · simp only [not_or, Bool.not_eq_false, Bool.not_eq_true] at hn
    rw [reloadHb_eq hn.1 hn.2]
    exact ((Frame.loaded c h s w).when _ fun x => ((Frame.refl ..).modHb (by simp) ..).modGate (by simp) ..).gateUpdate (by simp) _

theorem reloadHb_car (s : State) (pk : Bool) (w : ReloadWhen) : ((s.reloadHb c.val h.val pk w).chn c.val).car = (s.chn c.val).car := by
  have unseen : Unbridged Ch.car := ⟨fun _ _ => rfl, fun _ _ => rfl⟩
  by_cases hn : s.reloads c.val pk = false ∨ s.isStatic c.val h.val = true
  · rw [reloadHb_none hn]
  · simp only [not_or, Bool.not_eq_false, Bool.not_eq_true] at hn
    rw [reloadHb_eq hn.1 hn.2, gateUpdate_view unseen.gate, forcingEnded_view c h unseen, loaded_view c h unseen]

/-- The reload begins a period of the carrier. -/
def State.begins (s : State) (c : Nat) (pk : Bool) : Bool := if bits (s.chn c).car 5 4 = 1 then pk else !pk

theorem reloadRow_eq (s : State) (c h : Nat) (pk : Bool) (w : ReloadWhen) : s.reloadRow c h pk w =
    (s.reloadHb c h pk w).when (h == 2 && (s.reloadHb c h pk w).begins c pk) (State.shuntReload c) := rfl

theorem reloadRow_rd (s : State) (w : ReloadWhen) {a : Nat} (ha : a ∉ [A.MACH_SHIFT_CNT c.val, A.MACH_EVT c.val]) (hq : bookAddr a = false) :
    (s.reloadRow c.val h.val pk w).rd a = (s.reloadHb c.val h.val pk w).rd a := by
  rw [reloadRow_eq]
  exact State.when_unseen (fun x => x.rd a) (fun x => shuntReload_rd c x ha hq) _ _

theorem reloadRow_chn (s : State) (w : ReloadWhen) : (s.reloadRow c.val h.val pk w).chn c.val = (s.reloadHb c.val h.val pk w).chn c.val := by
  rw [reloadRow_eq]
  exact State.when_unseen (fun x => x.chn c.val) (fun x => shuntReload_chn c x) _ _

theorem Frame.reloadRow (s : State) (w : ReloadWhen) : Frame true [.chan c.val] (fun a => a ∈ reloadWords c.val h.val ∨
    (h.val = 2 ∧ s.role c.val = rMACH ∧ a ∈ [A.MACH_SHIFT_CNT c.val, A.MACH_EVT c.val])) s (s.reloadRow c.val h.val pk w) := by
  have half := (Frame.reloadHb c h s pk w).mono (W' := fun a => a ∈ reloadWords c.val h.val ∨
    (h.val = 2 ∧ s.role c.val = rMACH ∧ a ∈ [A.MACH_SHIFT_CNT c.val, A.MACH_EVT c.val])) (fun _ hp => hp) fun _ ha => .inl ha
  have role : (s.reloadHb c.val h.val pk w).role c.val = s.role c.val :=
    State.get_congr ((Frame.reloadHb c h s pk w).words _ (not_reloadWords c h (by omega) (by omega) (by decide)) fun _ => chan_word_quiet ..)
  rw [reloadRow_eq]
  by_cases hm : h.val = 2 ∧ s.role c.val = rMACH
  · exact half.when _ fun x => (Frame.shuntReload c x).mono (fun p hp => absurd hp List.not_mem_nil) fun a ha => .inr ⟨hm.1, hm.2, ha⟩
  · have same : (s.reloadHb c.val h.val pk w).when (h.val == 2 && (s.reloadHb c.val h.val pk w).begins c.val pk) (State.shuntReload c.val) =
        s.reloadHb c.val h.val pk w := by
      by_cases h2 : h.val = 2
      · have none := shuntReload_none (s := s.reloadHb c.val h.val pk w) (role ▸ fun hr => hm ⟨h2, hr⟩)
        cases (h.val == 2 && (s.reloadHb c.val h.val pk w).begins c.val pk)
        · rfl
        · exact none
      · rw [beq_false_of_ne h2, Bool.false_and, when_false]
    rw [same]
    exact half

end

end Sys2Proof.Machine
end

section
/-! SUPPORT. What a reload instant leaves: the active word and its counts, the half-bridge, and the counts of a machine's windows
(06 R206, R207; 07 R228–R236). -/

namespace Sys2Proof.Machine

variable {s : State} {pk : Bool} {w : ReloadWhen}

section
variable (c : Chan) (h : HbIx)

/-! ### Which word is taken -/

theorem not_extrapolates (hx : (s.hb c.val h.val).extrap = false ∨ s.feeder c.val h.val = none ∨ s.vpCarrier c.val = true) :
    s.extrapolates c.val h.val w = false := by
  rcases hx with hx | hx | hx <;> simp [State.extrapolates, hx]

theorem extrapolates_fed (hx : (s.hb c.val h.val).extrap = true) (hf : s.feeder c.val h.val ≠ none) (hv : s.vpCarrier c.val = false)
    (hold : (s.hb c.val h.val).fresh = false ∨ w ≠ ReloadWhen.after) : s.extrapolates c.val h.val w = true := by
  have fed : (s.feeder c.val h.val).isSome = true := Option.isSome_iff_ne_none.mpr hf
  rcases hold with hold | hold <;> simp [State.extrapolates, hx, hv, fed, hold]

theorem reload_shadow (hx : s.extrapolates c.val h.val w = false) (hn : (s.hb c.val h.val).takesOld w = false) :
    s.reloadLo c.val h.val w = (s.hb c.val h.val).shLo ∧ s.reloadHi c.val h.val w = (s.hb c.val h.val).shHi := by
  simp [State.reloadLo, State.reloadHi, hx, hn]

theorem reload_before (hx : s.extrapolates c.val h.val w = false) (hn : (s.hb c.val h.val).takesOld w = true) :
    s.reloadLo c.val h.val w = (s.hb c.val h.val).oldLo ∧ s.reloadHi c.val h.val w = (s.hb c.val h.val).oldHi := by
  simp [State.reloadLo, State.reloadHi, hx, hn]

/-- An extrapolated duty is a duty. -/
theorem dutyOf_extrapolate (a b : Nat) : dutyOf (wd (extrapolate a b)) = extrapolate a b := by
  have low : extrapolate a b ≤ dutyOne := by
    unfold extrapolate
    split
    · exact Nat.zero_le _
    · exact Nat.min_le_left ..
  simp only [dutyOf, bits, wd, BitVec.toNat_ofNat, dutyOne] at low ⊢
  omega

/-! ### A reload instant of a half-bridge that is no static output -/

section
variable (hr : s.reloads c.val pk = true) (hs : s.isStatic c.val h.val = false)
include hr hs

/-- The words of the PWM unit are as the active word's load leaves them. -/
theorem reloadRow_loaded {o : Nat} (ho : o < 0xC000) :
    (s.reloadRow c.val h.val pk w).rd (chBase c.val + o) = (s.activeLoaded c.val h.val w).rd (chBase c.val + o) := by
  have apart : chBase c.val + o ≠ A.HEALTH_FO_ERR := by simp only [A.HEALTH_FO_ERR, chBase]; omega
  rw [reloadRow_rd c h s w (by simp only [List.mem_cons, List.not_mem_nil, or_false, A.MACH_SHIFT_CNT, A.MACH_EVT]; omega) (chan_word_quiet ..),
    reloadHb_eq hr hs, State.rd_congr (gateUpdate_regs ..), State.rd_congr (forcingEnded_regs ..), loaded_rd c h s w apart]

theorem reloadRow_lo : (s.reloadRow c.val h.val pk w).rd (A.PWM_ACTLO c.val h.val) = s.reloadLo c.val h.val w := by
  have loaded := reloadRow_loaded c h hr hs (w := w) (o := 0x4108 + 0x20 * h.val) (by omega)
  rw [← Nat.add_assoc] at loaded
  exact loaded.trans (activeLoaded_lo c h s w)

theorem reloadRow_hi : (s.reloadRow c.val h.val pk w).rd (A.PWM_ACTHI c.val h.val) = s.reloadHi c.val h.val w := by
  have loaded := reloadRow_loaded c h hr hs (w := w) (o := 0x410C + 0x20 * h.val) (by omega)
  rw [← Nat.add_assoc] at loaded
  exact loaded.trans (activeLoaded_hi c h s w)

theorem reloadRow_hb_eq : (s.reloadRow c.val h.val pk w).hb c.val h.val = ((s.loaded c.val h.val w).forcingEnded c.val h.val pk).hb c.val h.val := by
  rw [State.hb, reloadRow_chn, reloadHb_eq hr hs]
  exact gateUpdate_hb ..

/-- The shadow word stays; dead times and overrides are taken. -/
theorem reloadRow_hb {y : HbSt} (hy : (s.reloadRow c.val h.val pk w).hb c.val h.val = y) :
    (y.fresh = ((s.hb c.val h.val).fresh && w != ReloadWhen.after) ∧ y.shLo = (s.hb c.val h.val).shLo ∧ y.shHi = (s.hb c.val h.val).shHi ∧
      y.extrap = false) ∧
    y.dtLH = s.get (F.PWM_DTLH_DT_LH c.val h.val) ∧ y.dtHL = s.get (F.PWM_DTHL_DT_HL c.val h.val) ∧
      y.swap = s.bitOf (F.PWM_OVR_SWAP c.val) (h.val / 2) ∧ y.inv = s.bitOf (F.PWM_OVR_INV c.val) (h.val / 2) := by
  obtain ⟨r, p, e, n, released⟩ := forcingEnded_hb c h (s := s.loaded c.val h.val w) pk
  rw [← hy, reloadRow_hb_eq c h hr hs, released, loaded_hb]
  exact ⟨⟨rfl, rfl, rfl, rfl⟩, rfl, rfl, rfl, rfl⟩

/-- A half-bridge that waits for no release keeps its levels. -/
theorem reloadRow_hb_kept (hw : (s.hb c.val h.val).relWait = false) :
    ((s.reloadRow c.val h.val pk w).hb c.val h.val).p = (s.hb c.val h.val).p ∧
      ((s.reloadRow c.val h.val pk w).hb c.val h.val).e = (s.hb c.val h.val).e := by
  have waits : ((s.loaded c.val h.val w).hb c.val h.val).relWait = false := by rw [loaded_hb]; exact hw
  rw [reloadRow_hb_eq c h hr hs, forcingEnded_waits c h waits, loaded_hb]
  exact ⟨rfl, rfl⟩

/-- A forcing that has ended is released at the level of the active word. -/
theorem reloadRow_released (hw : (s.hb c.val h.val).relWait = true) (hf : s.forced c.val h.val = false) :
    ((s.reloadRow c.val h.val pk w).hb c.val h.val).relWait = false ∧ ((s.reloadRow c.val h.val pk w).hb c.val h.val).e = false ∧
      ((s.reloadRow c.val h.val pk w).hb c.val h.val).p = (s.reloadRow c.val h.val pk w).levelAt c.val h.val pk := by
  have unseen : Unbridged Ch.car := ⟨fun _ _ => rfl, fun _ _ => rfl⟩
  have waits : ((s.loaded c.val h.val w).hb c.val h.val).relWait = true := by rw [loaded_hb]; exact hw
  have released := (reloadRow_hb_eq c h hr hs (w := w)).trans (forcingEnded_released c h waits ((loaded_forced c h s w).trans hf))
  have level : (s.reloadRow c.val h.val pk w).levelAt c.val h.val pk = (s.loaded c.val h.val w).levelAt c.val h.val pk := by
    refine levelAt_congr (fun a ha => ?_) ?_ (by rw [released])
    · simp only [List.mem_cons, List.not_mem_nil, or_false] at ha
      have apart : a ≠ A.HEALTH_FO_ERR ∧ a ∉ [A.MACH_SHIFT_CNT c.val, A.MACH_EVT c.val] ∧ bookAddr a = false := by
        refine ⟨?_, ?_, bookAddr_chan ?_⟩ <;> rcases ha with rfl | rfl | rfl <;>
          simp only [List.mem_cons, List.not_mem_nil, or_false, A.HEALTH_FO_ERR, A.MACH_SHIFT_CNT, A.MACH_EVT, A.PWM_ACTLO, A.ROLE_SEL, A.DC_CFG,
            chBase] <;> omega
      rw [reloadRow_rd c h s w apart.2.1 apart.2.2, reloadHb_eq hr hs, State.rd_congr (gateUpdate_regs ..),
        State.rd_congr (forcingEnded_regs ..)]
    · rw [reloadRow_chn, reloadHb_eq hr hs, gateUpdate_view unseen.gate, forcingEnded_view c h unseen]
  rw [level, released]
  exact ⟨rfl, rfl, rfl⟩

end

/-! ### The windows of a machine -/

theorem reloadHb_kept (s : State) (pk : Bool) (w : ReloadWhen) {o : Nat} (ho : 0xC000 ≤ o) :
    (s.reloadHb c.val h.val pk w).rd (chBase c.val + o) = s.rd (chBase c.val + o) :=
  (Frame.reloadHb c h s pk w).words _ (not_reloadWords c h (by omega) (by omega) (by simp; omega)) fun _ => chan_word_quiet ..

/-- The reload that begins a period of a running SHUNT machine counts its shift and its lost windows. -/
theorem reloadRow_windows (h2 : h.val = 2) (hpk : pk = (bits (s.chn c.val).car 5 4 == 1)) (hrole : s.role c.val = rMACH)
    (hen : s.flag (F.MACH_CFG_SHUNT c.val) = true) (hst : s.cst c.val = sACTIVE)
    (hhold : ∀ k : Fin 3, s.bitOf (F.BOOT_STAT_HOLD c.val) k.val = false) :
    (s.reloadRow c.val h.val pk w).get (F.MACH_SHIFT_CNT_SHIFTED c.val) =
        (s.get (F.MACH_SHIFT_CNT_SHIFTED c.val) + b2n ((s.reloadRow c.val h.val pk w).shuntWindows c.val).2) % 65536 ∧
      (s.reloadRow c.val h.val pk w).get (F.MACH_SHIFT_CNT_FAIL c.val) =
        (s.get (F.MACH_SHIFT_CNT_FAIL c.val) + ((s.reloadRow c.val h.val pk w).shuntWindows c.val).1) % 65536 := by
  have kept : ∀ {f : Fld} {o : Nat}, f.addr = chBase c.val + o → 0xC000 ≤ o → (s.reloadHb c.val h.val pk w).get f = s.get f := fun hf ho =>
    State.get_congr (hf ▸ reloadHb_kept c h s pk w ho)
  have begins : (s.reloadHb c.val h.val pk w).begins c.val pk = true := by
    rw [State.begins, reloadHb_car, hpk]
    split
    · rename_i half
      exact beq_iff_eq.mpr half
    · rename_i half
      rw [beq_false_of_ne half]
      rfl
  have counts : s.reloadRow c.val h.val pk w =
      ((s.reloadHb c.val h.val pk w).shiftCounted c.val ((s.reloadHb c.val h.val pk w).shuntWindows c.val).2).lossCounted c.val
        ((s.reloadHb c.val h.val pk w).shuntWindows c.val).1 := by
    have instant : (h.val == 2 && (s.reloadHb c.val h.val pk w).begins c.val pk) = true := by rw [begins, h2]; rfl
    rw [reloadRow_eq, instant, when_true]
    exact shuntReload_runs c ((kept rfl (by decide)).trans hrole) ((State.flag_congr (kept rfl (by decide))).trans hen)
      ((kept rfl (by decide)).trans hst) fun k => (State.bitOf_congr (kept rfl (by decide)) _).trans (hhold k)
  have windows : (s.reloadRow c.val h.val pk w).shuntWindows c.val = (s.reloadHb c.val h.val pk w).shuntWindows c.val := by
    refine shuntWindows_congr (fun k hk => reloadRow_rd c h s w ?_ (bookAddr_chan ?_)) (reloadRow_rd c h s w ?_ (by decide))
      (reloadRow_rd c h s w ?_ (chan_word_quiet ..)) (congrArg Ch.car (reloadRow_chn c h s w))
    all_goals
      simp only [List.mem_cons, List.not_mem_nil, or_false, A.PWM_ACTLO, A.SYS_TICK, A.MACH_SAMPLE_MIN, A.MACH_SHIFT_CNT, A.MACH_EVT, chBase]
      omega
  rw [windows, counts]
  exact ⟨(lossCounted_shifted ..).trans ((shiftCounted_get ..).trans (by rw [kept rfl (by decide)])),
    (lossCounted_get ..).trans (by rw [shiftCounted_fail, kept rfl (by decide)])⟩

end

/-- A reload completes with what its row leaves. -/
theorem completes_reload {c : Chan} {h : HbIx} {P : State → Prop} (hr : s.runs = true) (hp : P (settle s (s.reloadRow c.val h.val pk w))) :
    completes (.reload c h pk w) s P := completes_clocked rfl hr hp

/-- Settles O21: at a reload instant by which word is taken, then what takes effect; away from one; and the windows of a machine. -/
theorem reloadsTakeTheShadowWord : Obligations.ReloadsTakeTheShadowWord := by
  intro s c h pk w hruns x hx
  subst hx
  have full : ∀ v : Word, v &&& 0xFFFFFFFF#32 = v := fun _ => BitVec.and_allOnes
  refine ⟨fun hr hs => ⟨fun hplain => ?shadow, fun hext hfed hvar hold => completes_reload hruns ?extrapolated, completes_reload hruns ?effect⟩,
    fun h2 hno => completes_reload hruns ?away, fun h2 hpk hrole hen hst hhold => completes_reload hruns ?windows⟩
  case shadow =>
    have plain := not_extrapolates c h (w := w) hplain
    have lo := (settle_rd s (s.reloadRow c.val h.val pk w) _).trans (reloadRow_lo c h hr hs (w := w))
    have hi := (settle_rd s (s.reloadRow c.val h.val pk w) _).trans (reloadRow_hi c h hr hs (w := w))
    have late := (settle_rd s (s.reloadRow c.val h.val pk w) _).trans (reloadRow_loaded c h hr hs (w := w) (o := 0x4014) (by decide))
    have stat := (settle_rd s (s.reloadRow c.val h.val pk w) _).trans (reloadRow_loaded c h hr hs (w := w) (o := 0x4010) (by decide))
    obtain ⟨⟨fresh, shLo, shHi, -⟩, -⟩ := reloadRow_hb c h hr hs (w := w) rfl
    rw [actLo_full, actHi_full]
    refine ⟨fun hnew => completes_reload hruns ?_, fun hfresh hw => completes_reload hruns ?_, fun hfresh hw => completes_reload hruns ?_⟩
    · have new : (s.hb c.val h.val).takesOld w = false ∧ (s.hb c.val h.val).isLate w = false ∧
          ((s.hb c.val h.val).fresh && w != ReloadWhen.after) = false := by
        rcases hnew with hnew | rfl
        · simp [HbSt.takesOld, HbSt.isLate, hnew]
        · simp [HbSt.takesOld, HbSt.isLate]
      obtain ⟨takes, punctual, stale⟩ := new
      obtain ⟨word, phase⟩ := reload_shadow c h plain takes
      rw [full, full]
      exact ⟨lo.trans word, hi.trans phase, late.trans (activeLoaded_unlate c h punctual), fresh.trans stale⟩
    · subst hw
      obtain ⟨word, phase⟩ := reload_before c h (w := .inCycle) plain (by simp [HbSt.takesOld, hfresh])
      obtain ⟨counted, event⟩ := activeLoaded_late c h (w := .inCycle) (by simp [HbSt.isLate, hfresh]) plain
      rw [full, full]
      exact ⟨lo.trans word, hi.trans phase, counted_congr counted rfl late, raised_congr event rfl stat,
        fresh.trans (by simp [hfresh]), shLo, shHi⟩
    · subst hw
      obtain ⟨word, phase⟩ := reload_before c h (w := .before) plain (by simp [HbSt.takesOld, hfresh])
      rw [full, full]
      exact ⟨lo.trans word, hi.trans phase, late.trans (activeLoaded_unlate c h (by simp [HbSt.isLate])), fresh.trans (by simp [hfresh])⟩
  case extrapolated =>
    have taken := extrapolates_fed c h hext hfed hvar hold
    obtain ⟨counted, event⟩ := activeLoaded_held c h taken
    obtain ⟨⟨-, -, -, once⟩, -⟩ := reloadRow_hb c h hr hs (w := w) rfl
    refine ⟨?_, (settle_rd ..).trans ((reloadRow_hi c h hr hs).trans (if_pos taken)),
      counted_congr counted rfl ((settle_rd ..).trans (reloadRow_loaded c h hr hs (by decide))), (settle_flag ..).trans ?_, once⟩
    · have word : s.reloadLo c.val h.val w = wd _ := if_pos taken
      rw [settle_rd, reloadRow_lo c h hr hs, word]
      exact dutyOf_extrapolate ..
    · exact (State.flag_congr (State.get_congr (reloadRow_loaded c h hr hs (by decide)))).trans event
  case effect =>
    obtain ⟨-, lowHigh, highLow, swap, inv⟩ := reloadRow_hb c h hr hs (w := w) rfl
    refine ⟨lowHigh, highLow, swap, inv, fun hwait hfree => ?_, fun hwait => ?_, (Frame.reloadRow c h s w).settle⟩
    · obtain ⟨ended, low, level⟩ := reloadRow_released c h hr hs (w := w) hwait hfree
      refine ⟨ended, low, level.trans ?_⟩
      exact (levelAt_congr (fun _ _ => settle_rd ..) rfl rfl).symm
    · exact reloadRow_hb_kept c h hr hs hwait
  case away =>
    rw [reloadRow_eq, beq_false_of_ne h2, Bool.false_and, when_false, reloadHb_none hno]
    exact (Frame.refl ..).settle
  case windows =>
    obtain ⟨shifted, lost⟩ := reloadRow_windows c h (w := w) h2 hpk hrole hen hst hhold
    have windows : (settle s (s.reloadRow c.val h.val pk w)).shuntWindows c.val = (s.reloadRow c.val h.val pk w).shuntWindows c.val :=
      shuntWindows_congr (fun _ _ => settle_rd ..) (settle_rd ..) (settle_rd ..) rfl
    rw [windows]
    exact ⟨(settle_get ..).trans shifted, (settle_get ..).trans lost⟩

end Sys2Proof.Machine
end

section
/-! SUPPORT. Comparator self-checks, and the cause of the replacement request that they raise and end (08 R263–R266; 12 R359). -/

namespace Sys2Proof.Machine

variable {ev : Bool} {ps : List Part} {W : Nat → Prop} {s u : State}

theorem completes_live {i : Instr} {f : State → State} {s : State} {P : State → Prop} (h : exec i s = State.live f s)
    (hr : s.t.held = false) (hp : P (settle s (f s))) : completes i s P :=
  completes_of (h.trans (live_acts hr f)) hp

theorem settle_gate (s u : State) (c k : Nat) : (settle s u).gate c k = u.gate c k := rfl

/-! ### The causes of a replacement -/

theorem Frame.srqUpdate (h : Frame ev ps W s u) (hw : W A.HEALTH_SRQ) : Frame ev ps W s u.srqUpdate :=
  (h.put (f := F.HEALTH_SRQ_LEVEL) hw _).putb (f := F.HEALTH_SRQ_PIN) hw _

theorem Frame.cause (h : Frame true ps W s u) (hw : W A.HEALTH_SRQ) (he : W A.HEALTH_EVT) (b : Nat) : Frame true ps W s (u.cause b) := by
  unfold State.cause
  split
  · exact h
  · exact ((h.putBit (f := F.HEALTH_SRQ_CAUSE) hw b true).srqUpdate hw).raise (f := F.HEALTH_EVT_SRQ_RAISE) he (by decide) []

theorem Frame.uncause (h : Frame true ps W s u) (hw : W A.HEALTH_SRQ) (b : Nat) : Frame true ps W s (u.uncause b) := by
  unfold State.uncause
  split
  · exact ((h.putBit (f := F.HEALTH_SRQ_CAUSE) hw b false).srqUpdate hw).bare (by decide) []
  · exact h

/-- LEVEL and the pin follow the causes and leave them. -/
theorem srqUpdate_cause (s : State) (b : Nat) : s.srqUpdate.bitOf F.HEALTH_SRQ_CAUSE b = s.bitOf F.HEALTH_SRQ_CAUSE b := by
  have level : F.HEALTH_SRQ_LEVEL.beside F.HEALTH_SRQ_CAUSE = true := by decide
  have pin : F.HEALTH_SRQ_PIN.beside F.HEALTH_SRQ_CAUSE = true := by decide
  exact State.bitOf_congr ((get_put_beside _ (by decide) pin _).trans (get_put_beside s (by decide) level _)) b

theorem cause_present (s : State) {b : Nat} (hb : b < 8) : (s.cause b).bitOf F.HEALTH_SRQ_CAUSE b = true := by
  have raised : F.HEALTH_EVT_SRQ_RAISE.isEvent = true := by decide
  unfold State.cause
  split
  · assumption
  · refine (State.bitOf_congr (State.get_congr (raise_rd raised [] _ (by decide) (by decide))) b).trans ((srqUpdate_cause _ b).trans ?_)
    rw [State.bitOf_putBit_true s (by decide) hb, beq_self_eq_true, Bool.or_true]

theorem uncause_absent (s : State) {b : Nat} (hb : b < 8) : (s.uncause b).bitOf F.HEALTH_SRQ_CAUSE b = false := by
  unfold State.uncause
  split
  · refine (State.bitOf_congr (State.get_congr ((kept_bare _ (by decide) []).rd _ (by decide))) b).trans ((srqUpdate_cause _ b).trans ?_)
    rw [State.bitOf_putBit_false s (by decide) hb, bne_self_eq_false, Bool.and_false]
  · exact Bool.eq_false_iff.mpr ‹_›

/-! ### The end of a check -/

/-- The check of SNS `h` is over, with `n` passes in a row (08 R263, R266). -/
def State.checked (c h n : Nat) (s : State) : State := s.modGate c h fun g => { g with checking := false, passes := n }

theorem chkFail_event (c : Chan) : (F.GDI_EVT_CHK_FAIL c.val).isEvent = true := by revert c; decide

theorem chkHold_ok (c : Chan) : (F.GDI_STAT_CHK_HOLD c.val).ok = true := by revert c; decide

/-- HEALTH_SRQ and HEALTH_EVT lie outside the channels. -/
theorem chan_not_srqWords (c : Chan) (o : Nat) : chBase c.val + o ∉ [A.HEALTH_SRQ, A.HEALTH_EVT] := by
  simp only [List.mem_cons, List.not_mem_nil, or_false, A.HEALTH_SRQ, A.HEALTH_EVT, chBase]
  omega

theorem cause_rd_chan (s : State) (c : Chan) (o b : Nat) : (s.cause b).rd (chBase c.val + o) = s.rd (chBase c.val + o) :=
  (Frame.cause (Frame.refl true [] (· ∈ [A.HEALTH_SRQ, A.HEALTH_EVT]) s) (by simp) (by simp) b).words _ (chan_not_srqWords c o)
    fun _ => chan_word_quiet ..

theorem uncause_rd_chan (s : State) (c : Chan) (o b : Nat) : (s.uncause b).rd (chBase c.val + o) = s.rd (chBase c.val + o) :=
  (Frame.uncause (Frame.refl true [] (· ∈ [A.HEALTH_SRQ, A.HEALTH_EVT]) s) (by simp) b).words _ (chan_not_srqWords c o)
    fun _ => chan_word_quiet ..

theorem cause_gate (s : State) (b c k : Nat) : (s.cause b).gate c k = s.gate c k := by
  have same : (s.cause b).chn c = s.chn c := (Frame.cause (Frame.refl true [] (fun _ => True) s) trivial trivial b).parts (.chan c) (by simp)
  rw [State.gate, same, State.gate]

section
variable {c : Chan} {h : HbIx} (hchk : (s.gate c.val h.val).checking = true)
include hchk

theorem chkEnd_failed : s.chkEnd c.val h.val false =
    (((s.checked c.val h.val 0).putBit (F.GDI_STAT_CHK_HOLD c.val) h.val true).raise (F.GDI_EVT_CHK_FAIL c.val)).cause cCOMP := by
  simp only [State.chkEnd, hchk, Bool.not_true, Bool.not_false, Bool.false_eq_true, if_true, if_false]
  rfl

theorem chkEnd_counted (hn : (s.bitOf (F.GDI_STAT_CHK_HOLD c.val) h.val && decide (3 ≤ (s.gate c.val h.val).passes + 1)) = false) :
    s.chkEnd c.val h.val true = s.checked c.val h.val ((s.gate c.val h.val).passes + 1) := by
  simp only [State.chkEnd, hchk, hn, Bool.not_true, Bool.false_eq_true, if_true, if_false]
  rfl

theorem chkEnd_released (hheld : s.bitOf (F.GDI_STAT_CHK_HOLD c.val) h.val = true) (hp : 2 ≤ (s.gate c.val h.val).passes) :
    s.chkEnd c.val h.val true =
      ((s.checked c.val h.val ((s.gate c.val h.val).passes + 1)).putBit (F.GDI_STAT_CHK_HOLD c.val) h.val false |>.when
        (chans.all fun k => ((s.checked c.val h.val ((s.gate c.val h.val).passes + 1)).putBit (F.GDI_STAT_CHK_HOLD c.val) h.val false).get
          (F.GDI_STAT_CHK_HOLD k) == 0) fun x => x.uncause cCOMP) := by
  have third : decide (3 ≤ (s.gate c.val h.val).passes + 1) = true := decide_eq_true (by omega)
  simp only [State.chkEnd, hchk, hheld, third, Bool.not_true, Bool.and_true, Bool.false_eq_true, if_true, if_false]
  rfl

/-! ### SELF_CHECK_END -/

variable (hr : s.t.held = false)
include hr

theorem completes_selfCheckEnd_failed : completes (.selfCheckEnd c h false) s fun t =>
    t.bitOf (F.GDI_STAT_CHK_HOLD c.val) h.val = true ∧ Raised (F.GDI_EVT_CHK_FAIL c.val) s t ∧
      t.bitOf F.HEALTH_SRQ_CAUSE cCOMP = true ∧ (t.gate c.val h.val).passes = 0 ∧ (t.gate c.val h.val).checking = false ∧
      Frame true [.chan c.val, .nv, .t] (· ∈ [A.GDI_STAT c.val, A.GDI_EVT c.val, A.HEALTH_SRQ, A.HEALTH_EVT]) s t := by
  refine completes_live rfl hr ?_
  rw [chkEnd_failed hchk]
  generalize hx : (s.checked c.val h.val 0).putBit (F.GDI_STAT_CHK_HOLD c.val) h.val true = x
  have event := chkFail_event c
  have recorded : ∀ {o : Nat}, o ≠ 0x600C →
      ((x.raise (F.GDI_EVT_CHK_FAIL c.val)).cause cCOMP).rd (chBase c.val + o) = x.rd (chBase c.val + o) := fun ho =>
    (cause_rd_chan ..).trans (raise_rd event [] _ (chan_words_ne c.val ho) (chan_word_quiet ..))
  have held : x.bitOf (F.GDI_STAT_CHK_HOLD c.val) h.val = true := by
    rw [← hx, State.bitOf_putBit_true _ (chkHold_ok c) h.isLt, beq_self_eq_true, Bool.or_true]
  have before : s.rd (A.GDI_EVT c.val) = x.rd (A.GDI_EVT c.val) := by
    rw [← hx]
    exact (State.rd_put_ne _ (chan_words_ne c.val (by decide)) _).symm
  have gate : ((x.raise (F.GDI_EVT_CHK_FAIL c.val)).cause cCOMP).gate c.val h.val =
      { s.gate c.val h.val with checking := false, passes := 0 } := by
    rw [cause_gate, raise_gate event, ← hx, putBit_gate, State.checked, gate_modGate s c.isLt h.isLt]
  have frame : Frame true [.chan c.val, .nv, .t] (· ∈ [A.GDI_STAT c.val, A.GDI_EVT c.val, A.HEALTH_SRQ, A.HEALTH_EVT]) s x := by
    rw [← hx]
    exact ((Frame.refl ..).modGate (by simp) _ _).putBit (f := F.GDI_STAT_CHK_HOLD c.val) (by simp [F.GDI_STAT_CHK_HOLD]) _ _
  refine ⟨(settle_bitOf ..).trans ((State.bitOf_congr (State.get_congr (recorded (by decide))) h.val).trans held),
    raised_congr (raise_raised x (event_low event) (event_quiet event)) before ((settle_rd ..).trans (cause_rd_chan ..)),
    (settle_bitOf ..).trans (cause_present _ (by decide)), congrArg GateSt.passes gate, congrArg GateSt.checking gate,
    ((frame.raise (by simp [F.GDI_EVT_CHK_FAIL]) (event_low event) []).cause (by simp) (by simp) _).settle⟩

theorem completes_selfCheckEnd_released (hheld : s.bitOf (F.GDI_STAT_CHK_HOLD c.val) h.val = true) (hp : 2 ≤ (s.gate c.val h.val).passes) :
    completes (.selfCheckEnd c h true) s fun t => t.bitOf (F.GDI_STAT_CHK_HOLD c.val) h.val = false ∧
      ((∀ k : Chan, t.get (F.GDI_STAT_CHK_HOLD k.val) = 0) → t.bitOf F.HEALTH_SRQ_CAUSE cCOMP = false) ∧
      Frame true [.chan c.val, .nv, .t] (· ∈ [A.GDI_STAT c.val, A.HEALTH_SRQ, A.HEALTH_EVT]) s t := by
  refine completes_live rfl hr ?_
  rw [chkEnd_released hchk hheld hp]
  generalize hx : (s.checked c.val h.val ((s.gate c.val h.val).passes + 1)).putBit (F.GDI_STAT_CHK_HOLD c.val) h.val false = x
  have stays : ∀ (b : Bool) (k : Chan), (x.when b fun y => y.uncause cCOMP).get (F.GDI_STAT_CHK_HOLD k.val) = x.get (F.GDI_STAT_CHK_HOLD k.val) :=
    fun b k => State.when_unseen (fun y => y.get (F.GDI_STAT_CHK_HOLD k.val)) (fun y => State.get_congr (uncause_rd_chan y k ..)) x b
  have ended : x.bitOf (F.GDI_STAT_CHK_HOLD c.val) h.val = false := by
    rw [← hx, State.bitOf_putBit_false _ (chkHold_ok c) h.isLt, bne_self_eq_false, Bool.and_false]
  have frame : Frame true [.chan c.val, .nv, .t] (· ∈ [A.GDI_STAT c.val, A.HEALTH_SRQ, A.HEALTH_EVT]) s x := by
    rw [← hx]
    exact ((Frame.refl ..).modGate (by simp) _ _).putBit (f := F.GDI_STAT_CHK_HOLD c.val) (by simp [F.GDI_STAT_CHK_HOLD]) _ _
  refine ⟨(settle_bitOf ..).trans ((State.bitOf_congr (stays _ c) _).trans ended), fun hlast => ?_,
    (frame.when _ fun _ => (Frame.refl ..).uncause (by simp) _).settle⟩
  have last : (chans.all fun k => x.get (F.GDI_STAT_CHK_HOLD k) == 0) = true := by
    refine List.all_eq_true.mpr fun k hk => beq_iff_eq.mpr ?_
    exact (stays _ ⟨k, lt_of_mem_chans hk⟩).symm.trans ((settle_get ..).symm.trans (hlast ⟨k, lt_of_mem_chans hk⟩))
  rw [settle_bitOf, last, when_true]
  exact uncause_absent x (by decide)

theorem completes_selfCheckEnd_counted (hn : s.bitOf (F.GDI_STAT_CHK_HOLD c.val) h.val = false ∨ (s.gate c.val h.val).passes < 2) :
    completes (.selfCheckEnd c h true) s fun t => (t.gate c.val h.val).passes = (s.gate c.val h.val).passes + 1 ∧
      (t.gate c.val h.val).checking = false ∧ Frame false [.chan c.val] (fun _ => False) s t := by
  have counts : (s.bitOf (F.GDI_STAT_CHK_HOLD c.val) h.val && decide (3 ≤ (s.gate c.val h.val).passes + 1)) = false := by
    rcases hn with free | few
    · rw [free, Bool.false_and]
    · rw [decide_eq_false (by omega), Bool.and_false]
  refine completes_live rfl hr ?_
  rw [chkEnd_counted hchk counts, State.checked, settle_gate, gate_modGate s c.isLt h.isLt]
  exact ⟨rfl, rfl, ((Frame.refl ..).modGate (by simp) _ _).settle⟩

end

/-- Settles O26: the check that may begin or not, and the three ways one ends. -/
theorem selfChecksHoldAndReleaseOutputs : Obligations.SelfChecksHoldAndReleaseOutputs := by
  intro s c h hr
  refine ⟨fun he => completes_live rfl hr ?begins, fun he => completes_live rfl hr ?stays, fun hchk =>
    ⟨completes_selfCheckEnd_failed hchk hr, completes_selfCheckEnd_released hchk hr, completes_selfCheckEnd_counted hchk hr⟩⟩
  case begins =>
    rw [State.chkStart, he, when_true, settle_gate, gate_modGate s c.isLt h.isLt]
    exact ⟨rfl, ((Frame.refl ..).modGate (by simp) _ _).settle⟩
  case stays =>
    rw [State.chkStart, he, when_false]
    exact (Frame.refl ..).settle

end Sys2Proof.Machine
end

section
/-! SUPPORT. What a trip records: a source that enters the latch, and one that sets it (08 R255–R258). -/

namespace Sys2Proof.Machine

variable {ev : Bool} {ps : List Part} {W : Nat → Prop} {s u : State} {c : Chan}

/-! ### An entry -/

/-- The bit of a source in GDI_SRC (08 R258). -/
def State.sourceSeen (c code : Nat) (s : State) : State :=
  s.wr (A.GDI_SRC c) (setBits (s.rd (A.GDI_SRC c)) (srcBit code) (srcBit code) 1)

/-- The first word of an entry (08 R258). -/
def entryWord (code inp off : Nat) : Word := setBits (setBits (setBits 0#32 7 0 code) 11 8 inp) 28 12 off

/-- Entry `n` is filled (08 R258). -/
def State.slotFilled (c n code inp off : Nat) (s : State) : State :=
  ((s.wr (A.GDI_TRQ_A c n) (entryWord code inp off)).wr (A.GDI_TRQ_B c n) (s.rd A.SYS_TICK_CNT_LO)).put (F.GDI_TRQ_N_N c) (n + 1)

theorem trqN_ok (c : Chan) : (F.GDI_TRQ_N_N c.val).ok = true ∧ (F.GDI_TRQ_N_OVF c.val).ok = true := by revert c; decide

theorem trqMask (c : Chan) {n : Nat} (hn : n < 8) : implMask (A.GDI_TRQ_A c.val n) = implMask (A.GDI_TRQ_A c.val 0) ∧
    implMask (A.GDI_TRQ_B c.val n) = implMask (A.GDI_TRQ_B c.val 0) := by
  have all : ∀ (d : Chan) (j : Fin 8), implMask (A.GDI_TRQ_A d.val j.val) = implMask (A.GDI_TRQ_A d.val 0) ∧
      implMask (A.GDI_TRQ_B d.val j.val) = implMask (A.GDI_TRQ_B d.val 0) := by decide
  exact all c ⟨n, hn⟩

/-- The words of an entry are apart from each other, from the source word, from the count and from the tick. -/
theorem trqA_ne (c n : Nat) : A.GDI_TRQ_A c n ≠ A.GDI_SRC c ∧ A.GDI_TRQ_A c n ≠ A.GDI_TRQ_N c ∧ A.GDI_TRQ_A c n ≠ A.GDI_TRQ_B c n ∧
    A.GDI_TRQ_A c n ≠ A.SYS_TICK_CNT_LO := by
  simp only [A.GDI_TRQ_A, A.GDI_TRQ_B, A.GDI_SRC, A.GDI_TRQ_N, A.SYS_TICK_CNT_LO, chBase]; omega

theorem trqB_ne (c n : Nat) : A.GDI_TRQ_B c n ≠ A.GDI_SRC c ∧ A.GDI_TRQ_B c n ≠ A.GDI_TRQ_N c := by
  simp only [A.GDI_TRQ_B, A.GDI_SRC, A.GDI_TRQ_N]; omega

theorem trqN_ne_src (c : Nat) : A.GDI_TRQ_N c ≠ A.GDI_SRC c := chan_words_ne c (by decide)

section
variable (code inp off : Nat)

theorem sourceSeen_rd {a : Nat} (ha : a ≠ A.GDI_SRC c.val) : (s.sourceSeen c.val code).rd a = s.rd a := State.rd_wr_ne s ha _

theorem sourceSeen_get {f : Fld} (ha : f.addr ≠ A.GDI_SRC c.val) : (s.sourceSeen c.val code).get f = s.get f :=
  State.get_congr (sourceSeen_rd code ha)

theorem trqEntry_eq (s : State) (c code inp off : Nat) : s.trqEntry c code inp off =
    if (s.sourceSeen c code).get (F.GDI_TRQ_N_N c) < 8 then
      (s.sourceSeen c code).slotFilled c ((s.sourceSeen c code).get (F.GDI_TRQ_N_N c)) code inp off
    else (s.sourceSeen c code).incSat (F.GDI_TRQ_N_OVF c) := rfl

theorem sourceSeen_count : (s.sourceSeen c.val code).get (F.GDI_TRQ_N_N c.val) = s.get (F.GDI_TRQ_N_N c.val) :=
  sourceSeen_get code (trqN_ne_src _)

theorem trqEntry_room (hn : s.get (F.GDI_TRQ_N_N c.val) < 8) :
    s.trqEntry c.val code inp off = (s.sourceSeen c.val code).slotFilled c.val (s.get (F.GDI_TRQ_N_N c.val)) code inp off := by
  rw [trqEntry_eq, sourceSeen_count, if_pos hn]

theorem trqEntry_full (hn : 8 ≤ s.get (F.GDI_TRQ_N_N c.val)) :
    s.trqEntry c.val code inp off = (s.sourceSeen c.val code).incSat (F.GDI_TRQ_N_OVF c.val) := by
  rw [trqEntry_eq, sourceSeen_count, if_neg (Nat.not_lt.mpr hn)]

/-- An entry that finds room fills the next slot, and the overflows stay. -/
theorem slotFilled_shows {n : Nat} (hn : n < 8) : (s.slotFilled c.val n code inp off).get (F.GDI_TRQ_N_N c.val) = n + 1 ∧
    (s.slotFilled c.val n code inp off).rd (A.GDI_TRQ_A c.val n) = entryWord code inp off &&& implMask (A.GDI_TRQ_A c.val 0) ∧
    (s.slotFilled c.val n code inp off).rd (A.GDI_TRQ_B c.val n) = s.rd A.SYS_TICK_CNT_LO &&& implMask (A.GDI_TRQ_B c.val 0) ∧
    (s.slotFilled c.val n code inp off).get (F.GDI_TRQ_N_OVF c.val) = s.get (F.GDI_TRQ_N_OVF c.val) := by
  obtain ⟨-, awayN, awayB, -⟩ := trqA_ne c.val n
  obtain ⟨maskA, maskB⟩ := trqMask c hn
  refine ⟨?_, ?_, ?_, ?_⟩
  · exact (State.get_put_same _ (trqN_ok c).1 _).trans (Nat.mod_eq_of_lt (show n + 1 < 16 by omega))
  · rw [State.slotFilled, State.rd_put_ne _ awayN, State.rd_wr_ne _ awayB, State.rd_wr_same, maskA]
  · rw [State.slotFilled, State.rd_put_ne _ (trqB_ne c.val n).2, State.rd_wr_same, maskB]
  · rw [State.slotFilled, State.get_put_field _ (f := F.GDI_TRQ_N_N c.val) (trqN_ok c).2 (show 3 < 32 by decide) rfl
      (.inl (show 3 < 16 by decide)), State.get_wr_ne _ (trqB_ne c.val n).2.symm, State.get_wr_ne _ awayN.symm]

theorem slotFilled_src (n : Nat) : (s.slotFilled c.val n code inp off).rd (A.GDI_SRC c.val) = s.rd (A.GDI_SRC c.val) := by
  rw [State.slotFilled, State.rd_put_ne _ (trqN_ne_src c.val).symm, State.rd_wr_ne _ (trqB_ne c.val n).1.symm,
    State.rd_wr_ne _ (trqA_ne c.val n).1.symm]

/-- An entry leaves every word but those of the queue and of the sources. -/
theorem trqEntry_rd {a : Nat} (ha : ¬ trqWords c.val a) : (s.trqEntry c.val code inp off).rd a = s.rd a :=
  ((Frame.refl false [] (trqWords c.val) s).trqEntry (fun _ h => h) code inp off).words a ha (by simp)

theorem trqWords_low {o : Nat} (h : o < 0x6010 ∨ 0x6080 ≤ o ∨ o = 0x6014 ∨ o = 0x601C) : ¬ trqWords c.val (chBase c.val + o) := by
  rintro (hw | hw | ⟨k, hk, hw | hw⟩) <;> simp only [A.GDI_SRC, A.GDI_TRQ_N, A.GDI_TRQ_A, A.GDI_TRQ_B] at hw <;> omega

theorem trqEntry_get {f : Fld} {o : Nat} (ha : f.addr = chBase c.val + o) (h : o < 0x6010 ∨ 0x6080 ≤ o ∨ o = 0x6014 ∨ o = 0x601C) :
    (s.trqEntry c.val code inp off).get f = s.get f := State.get_congr (trqEntry_rd code inp off (ha ▸ trqWords_low h))

/-- A source that enters a set latch is recorded. -/
theorem trqEntry_entered (ht : s.flag (F.GDI_STAT_TRIPPED c.val) = true) : Entered c.val code inp off s (s.trqEntry c.val code inp off) := by
  have seen : (s.sourceSeen c.val code).rd (A.GDI_SRC c.val) =
      setBits (s.rd (A.GDI_SRC c.val)) (srcBit code) (srcBit code) 1 &&& implMask (A.GDI_SRC c.val) := State.rd_wr_same ..
  refine ⟨?source, fun hn => ?room, fun hn => ?full, (State.flag_congr (trqEntry_get code inp off rfl (.inl (by decide)))).trans ht,
    trqEntry_get code inp off rfl (.inr (.inl (by decide)))⟩
  case source =>
    rw [Edited, ← show _ = [(_, 1)].foldl _ _ from rfl]
    rcases Nat.lt_or_ge (s.get (F.GDI_TRQ_N_N c.val)) 8 with hn | hn
    · rw [trqEntry_room code inp off hn, slotFilled_src]
      exact seen
    · rw [trqEntry_full code inp off hn]
      exact (State.rd_put_ne _ (trqN_ne_src c.val).symm _).trans seen
  case room =>
    obtain ⟨count, first, second, -⟩ := slotFilled_shows (s := s.sourceSeen c.val code) (c := c) code inp off hn
    rw [trqEntry_room code inp off hn]
    refine ⟨count, first, second.trans ?_⟩
    rw [sourceSeen_rd code (device_ne_chan (by decide) c.val 0x6010)]
  case full =>
    have width : min ((s.sourceSeen c.val code).get (F.GDI_TRQ_N_OVF c.val) + 1) 65535 % 65536 =
        min ((s.sourceSeen c.val code).get (F.GDI_TRQ_N_OVF c.val) + 1) 65535 := Nat.mod_eq_of_lt (by omega)
    rw [trqEntry_full code inp off hn, ← sourceSeen_get (s := s) (c := c) code (f := F.GDI_TRQ_N_OVF c.val) (trqN_ne_src _)]
    exact (State.get_put_same _ (trqN_ok c).2 _).trans width

/-! ### The latch is set -/

/-- The trip queue and the sources are empty (08 R258). -/
def State.trqCleared (c : Nat) (s : State) : State :=
  ((s.wr (A.GDI_SRC c) 0#32).wr (A.GDI_TRQ_N c) 0#32).each [0, 1, 2, 3, 4, 5, 6, 7] fun k s =>
    (s.wr (A.GDI_TRQ_A c k) 0#32).wr (A.GDI_TRQ_B c k) 0#32

/-- The latch is set and its record empty; the off-drive begins (08 R256, R258). -/
def State.latchOpened (c : Nat) (s : State) : State :=
  ((s.putb (F.GDI_STAT_TRIPPED c) true).modCh c fun x => { x with offDrive := true }).trqCleared c

/-- In IDLE the use of the half-bridges ends (08 R256). -/
def State.useEnded (c : Nat) (s : State) : State := if s.role c = rIDLE then s.put (F.PWM_FORCE_USE c) 0 else s

theorem tripEntered_eq (s : State) (c : Nat) : s.tripEntered c code inp off =
    (((s.latchOpened c).trqEntry c code inp off).inc (F.GDI_CNT_TRIP_CNT c)).useEnded c := rfl

theorem Frame.trqCleared (h : Frame ev ps W s u) (hw : ∀ a, trqWords c.val a → W a) : Frame ev ps W s (u.trqCleared c.val) := by
  refine Frame.each _ (fun k hk x => ?_) ((h.wr (hw _ (.inl rfl)) _).wr (hw _ (.inr (.inl rfl))) _)
  have hk8 : k < 8 := by simp only [List.mem_cons, List.not_mem_nil, or_false] at hk; omega
  exact ((Frame.refl ..).wr (hw _ (.inr (.inr ⟨k, hk8, .inl rfl⟩))) _).wr (hw _ (.inr (.inr ⟨k, hk8, .inr rfl⟩))) _

theorem trqCleared_rd (s : State) {a : Nat} (hw : ¬ trqWords c.val a) : (s.trqCleared c.val).rd a = s.rd a :=
  ((Frame.refl false [] (trqWords c.val) s).trqCleared fun _ h => h).words a hw (by simp)

theorem trqCleared_empty (s : State) : (s.trqCleared c.val).rd (A.GDI_SRC c.val) = 0#32 ∧ (s.trqCleared c.val).rd (A.GDI_TRQ_N c.val) = 0#32 := by
  have queue : ∀ {a : Nat}, (∀ k, A.GDI_TRQ_A c.val k ≠ a ∧ A.GDI_TRQ_B c.val k ≠ a) → (s.trqCleared c.val).rd a =
      ((s.wr (A.GDI_SRC c.val) 0#32).wr (A.GDI_TRQ_N c.val) 0#32).rd a := fun {a} ha =>
    State.each_unseen (fun y => y.rd a) (fun k _ y => (State.rd_wr_ne _ (ha k).2.symm _).trans (State.rd_wr_ne _ (ha k).1.symm _)) _
  constructor
  · rw [queue fun k => ⟨(trqA_ne c.val k).1, (trqB_ne c.val k).1⟩, State.rd_wr_ne _ (trqN_ne_src c.val).symm, State.rd_wr_same, BitVec.zero_and]
  · rw [queue fun k => ⟨(trqA_ne c.val k).2.1, (trqB_ne c.val k).2⟩, State.rd_wr_same, BitVec.zero_and]

theorem trqCleared_chn (s : State) (d : Nat) : (s.trqCleared c.val).chn d = s.chn d :=
  State.each_unseen (fun y => y.chn d) (fun k _ y => (wr_chn _ (A.GDI_TRQ_B c.val k) 0#32 d).trans (wr_chn y (A.GDI_TRQ_A c.val k) 0#32 d)) _

theorem latchOpened_rd (s : State) {a : Nat} (h : a ≠ A.GDI_STAT c.val) (hw : ¬ trqWords c.val a) : (s.latchOpened c.val).rd a = s.rd a :=
  (trqCleared_rd _ hw).trans (State.rd_put_ne s h _)

theorem latchOpened_chn (s : State) : (s.latchOpened c.val).chn c.val = { s.chn c.val with offDrive := true } :=
  (trqCleared_chn _ _).trans (State.chn_modCh_same (s.putb (F.GDI_STAT_TRIPPED c.val) true) c.isLt _)

theorem useEnded_rd {a : Nat} (ha : a ≠ A.PWM_FORCE c.val) : (s.useEnded c.val).rd a = s.rd a := by
  unfold State.useEnded
  split
  · exact State.rd_put_ne s ha _
  · rfl

theorem useEnded_chn (d : Nat) : (s.useEnded c.val).chn d = s.chn d := by
  unfold State.useEnded
  split <;> rfl

end

end Sys2Proof.Machine
end

section
/-! SUPPORT. What a move into OFF and a trip leave of a channel's state, and the latch as a trip sets it (04 R126; 06 R182; 08 R255–R258). -/

namespace Sys2Proof.Machine

variable {α : Type} {ev : Bool} {ps : List Part} {W : Nat → Prop} {s u : State} {c : Chan}

/-! ### Views that a move leaves -/

/-- A view of a channel's state that no forming of HI and LO, no forcing and no move into OFF changes. -/
structure MoveUnseen (g : Ch → α) : Prop where
  hb : ∀ x v, g { x with hb := v } = g x
  formed : ∀ x k hi lo b, g { x with gate := x.gate.setIfInBounds k { x.gate[k]?.getD {} with hi := hi, lo := lo, blanked := b } } = g x
  released : ∀ x k b e d, g { x with gate := x.gate.setIfInBounds k { x.gate[k]?.getD {} with settle := b, checking := e, refreshDue := d } } = g x
  roles : ∀ x n gr dc m, g { x with startNext := n, grid := gr, dc := dc, mach := m } = g x

theorem moveUnseen_offDrive : MoveUnseen Ch.offDrive := ⟨fun _ _ => rfl, fun _ _ _ _ _ => rfl, fun _ _ _ _ _ => rfl, fun _ _ _ _ _ => rfl⟩

theorem moveUnseen_enaLowAt : MoveUnseen Ch.enaLowAt := ⟨fun _ _ => rfl, fun _ _ _ _ _ => rfl, fun _ _ _ _ _ => rfl, fun _ _ _ _ _ => rfl⟩

/-- An update of one half-bridge's gate that a view of the gate leaves, a view of the half-bridges leaves. -/
theorem gate_set_view {v : GateSt → α} {f : GateSt → GateSt} (hf : ∀ x, v (f x) = v x) (k j : Nat) (l : Vector GateSt 10) :
    v ((l.setIfInBounds j (f (l[j]?.getD {})))[k]?.getD {}) = v (l[k]?.getD {}) := by
  by_cases same : j = k
  · subst same
    by_cases hj : j < 10 <;> simp [hj, hf]
  · simp [same]

/-- The comparator outputs of a half-bridge are such a view. -/
theorem moveUnseen_l2 (k : Nat) : MoveUnseen fun x : Ch => (x.gate[k]?.getD {}).l2 where
  hb _ _ := rfl
  formed x j hi lo b := gate_set_view (v := GateSt.l2) (f := fun g => { g with hi := hi, lo := lo, blanked := b }) (fun _ => rfl) k j x.gate
  released x j b e d := gate_set_view (v := GateSt.l2) (f := fun g => { g with settle := b, checking := e, refreshDue := d }) (fun _ => rfl) k j x.gate
  roles _ _ _ _ _ := rfl

theorem refuse_chn (s : State) (c : Chan) (k d : Nat) : (s.refuse c.val k).chn d = s.chn d := by
  have grid : (F.GRID_EVT_REFUSED c.val).isEvent = true := by revert c; decide
  have dc : (F.DC_EVT_REFUSED c.val).isEvent = true := by revert c; decide
  have mach : (F.MACH_EVT_REFUSED c.val).isEvent = true := by revert c; decide
  unfold State.refuse
  dsimp only
  split
  · exact raise_chn grid ..
  · split
    · exact raise_chn dc ..
    · split
      · exact raise_chn mach ..
      · rfl

section
variable {g : Ch → α} (hg : MoveUnseen g)
include hg

theorem gateUpdate_unseen (s : State) (c k d : Nat) : g ((s.gateUpdate c k).chn d) = g (s.chn d) := by
  unfold State.gateUpdate
  split
  exact modCh_view (fun x => hg.formed x k _ _ _) s c d

theorem applyForce_unseen (s : State) (c d : Nat) : g ((s.applyForce c).chn d) = g (s.chn d) := by
  rw [applyForce_eq, forceSlots_eq]
  refine (State.each_unseen (fun x => g (x.chn d)) (fun k _ x => gateUpdate_unseen hg x c k d) _).trans
    (State.each_unseen (fun x => g (x.chn d)) (fun k _ x => ?_) _)
  unfold State.forceSlot
  split
  · exact modCh_view (fun y => hg.hb y _) x c d
  · split
    · exact (modCh_view (fun y => hg.released y k _ _ _) _ c d).trans (modCh_view (fun y => hg.hb y _) x c d)
    · rfl

theorem setKm_unseen (s : State) (c d : Nat) (b : Bool) : g ((s.setKm c b).chn d) = g (s.chn d) := by
  refine (gateUpdate_unseen hg _ c 6 d).trans ?_
  split
  · rfl
  · split <;> rfl

theorem begunCleared_unseen (s : State) (c d : Nat) : g ((s.begunCleared c).chn d) = g (s.chn d) :=
  modCh_view (fun x => hg.roles x _ _ _ _) s c d

theorem exitToOff_unseen (s : State) (c : Chan) (k d : Nat) : g ((s.exitToOff c.val k).chn d) = g (s.chn d) := by
  unfold State.exitToOff
  split
  · rw [toOff_eq, applyForce_unseen hg, refuse_chn, begunCleared_unseen hg, setKm_unseen hg]
    rfl
  · rfl

end

/-! ### The words of a trip -/

/-- A move into OFF leaves the words below those of the roles' states but PWM_FSTAT and ROLE_STAT. -/
theorem exitToOff_rd_low (s : State) (c : Chan) (k : Nat) {o : Nat} (ho : o < 0xC108) (hf : o ≠ 0x4008) (hs : o ≠ 0xC004) :
    (s.exitToOff c.val k).rd (chBase c.val + o) = s.rd (chBase c.val + o) := by
  unfold State.exitToOff
  split
  · exact toOff_rd_low s c k ho hf hs
  · rfl

/-- A running channel is in OFF after the exit. -/
theorem exitToOff_off (h : s.cst c.val = sPRECHARGE ∨ s.cst c.val = sSYNC ∨ s.cst c.val = sACTIVE) (k : Nat) :
    (s.exitToOff c.val k).cst c.val = sOFF := by
  rw [State.exitToOff, if_pos h, toOff_cst]

section
variable {code inp off : Nat}

/-- The record of a trip is as it was entered. -/
theorem trip_rd_entered (hn : s.flag (F.GDI_STAT_TRIPPED c.val) = false) {o : Nat} (ho : o < 0xC004) (hf : o ≠ 0x4008) (he : o ≠ 0x600C) :
    (s.trip c.val code inp off).rd (chBase c.val + o) = (s.tripEntered c.val code inp off).rd (chBase c.val + o) := by
  rw [trip_eq hn, raise_rd (trip_event c) [] _ (chan_words_ne c.val he) (chan_word_quiet ..), applyForce_rd _ _ (chan_words_ne c.val hf),
    exitToOff_rd_low _ c _ (by omega) hf (by omega)]

/-- An entry into the queue, its count and its use of the half-bridges apart, leaves the channel's words. -/
theorem tripEntered_rd {o : Nat} (ho : 0x6080 ≤ o) : (s.tripEntered c.val code inp off).rd (chBase c.val + o) = s.rd (chBase c.val + o) := by
  rw [tripEntered_eq, useEnded_rd (chan_words_ne c.val (by omega))]
  refine (State.rd_put_ne _ (chan_words_ne c.val (by omega)) _).trans ?_
  rw [trqEntry_rd _ _ _ (trqWords_low (.inr (.inl ho))), latchOpened_rd s (chan_words_ne c.val (by omega)) (trqWords_low (.inr (.inl ho)))]

theorem tripEntered_role : (s.tripEntered c.val code inp off).role c.val = s.role c.val := State.get_congr (tripEntered_rd (by decide))

theorem tripEntered_cst : (s.tripEntered c.val code inp off).cst c.val = s.cst c.val := State.get_congr (tripEntered_rd (by decide))

/-- The queue and the sources are as the entry left them. -/
theorem tripEntered_queue {a : Nat} (ha : trqWords c.val a) :
    (s.tripEntered c.val code inp off).rd a = ((s.latchOpened c.val).trqEntry c.val code inp off).rd a := by
  have apart : a ≠ A.PWM_FORCE c.val ∧ a ≠ A.GDI_CNT c.val := by
    rcases ha with rfl | rfl | ⟨k, hk, rfl | rfl⟩ <;>
      simp only [A.GDI_SRC, A.GDI_TRQ_N, A.GDI_TRQ_A, A.GDI_TRQ_B, A.PWM_FORCE, A.GDI_CNT] <;> omega
  rw [tripEntered_eq, useEnded_rd apart.1]
  exact State.rd_put_ne _ apart.2 _

theorem tripEntered_counted : Counted (F.GDI_CNT_TRIP_CNT c.val) s (s.tripEntered c.val code inp off) := by
  rw [tripEntered_eq]
  refine counted_congr (counted_inc ((s.latchOpened c.val).trqEntry c.val code inp off) (chanFld_ok c.isLt (by decide))) ?_
    (useEnded_rd (chan_words_ne c.val (by decide)))
  exact ((trqEntry_rd _ _ _ (trqWords_low (.inr (.inr (.inr rfl))))).trans
    (latchOpened_rd s (chan_words_ne c.val (by decide)) (trqWords_low (.inr (.inr (.inr rfl)))))).symm

/-- In IDLE no half-bridge of the channel is in use any more. -/
theorem tripEntered_use (hrole : s.role c.val = rIDLE) : (s.tripEntered c.val code inp off).get (F.PWM_FORCE_USE c.val) = 0 := by
  have role := (tripEntered_role (s := s) (c := c) (code := code) (inp := inp) (off := off)).trans hrole
  rw [tripEntered_eq] at role ⊢
  generalize ((s.latchOpened c.val).trqEntry c.val code inp off).inc (F.GDI_CNT_TRIP_CNT c.val) = x at role ⊢
  have idle : x.role c.val = rIDLE := (State.get_congr (useEnded_rd (chan_words_ne c.val (by decide)))).symm.trans role
  rw [State.useEnded, if_pos idle]
  exact State.get_put_same x (chanFld_ok c.isLt (by decide)) 0

theorem tripEntered_chn : (s.tripEntered c.val code inp off).chn c.val = { s.chn c.val with offDrive := true } := by
  have entry : ∀ x : State, (x.trqEntry c.val code inp off).chn c.val = x.chn c.val := fun x =>
    ((Frame.refl false [] (fun _ => True) x).trqEntry (fun _ _ => trivial) code inp off).parts (.chan c.val) (by simp)
  rw [tripEntered_eq, useEnded_chn]
  exact (put_chn ..).trans ((entry _).trans (latchOpened_chn s))

/-- The first entry of a latch just set. -/
theorem tripEntered_record : (s.tripEntered c.val code inp off).rd (A.GDI_SRC c.val) =
      setBits 0#32 (srcBit code) (srcBit code) 1 &&& implMask (A.GDI_SRC c.val) ∧
    (s.tripEntered c.val code inp off).get (F.GDI_TRQ_N_N c.val) = 1 ∧ (s.tripEntered c.val code inp off).get (F.GDI_TRQ_N_OVF c.val) = 0 ∧
    (s.tripEntered c.val code inp off).rd (A.GDI_TRQ_A c.val 0) = entryWord code inp off &&& implMask (A.GDI_TRQ_A c.val 0) ∧
    (s.tripEntered c.val code inp off).rd (A.GDI_TRQ_B c.val 0) = s.rd A.SYS_TICK_CNT_LO &&& implMask (A.GDI_TRQ_B c.val 0) := by
  obtain ⟨noSource, noEntry⟩ := trqCleared_empty (c := c) ((s.putb (F.GDI_STAT_TRIPPED c.val) true).modCh c.val fun x => { x with offDrive := true })
  have slot : (s.latchOpened c.val).get (F.GDI_TRQ_N_N c.val) = 0 := (congrArg (bits · 3 0) noEntry).trans (by decide)
  have overflow : (s.latchOpened c.val).get (F.GDI_TRQ_N_OVF c.val) = 0 := (congrArg (bits · 31 16) noEntry).trans (by decide)
  have tick : (s.latchOpened c.val).rd A.SYS_TICK_CNT_LO = s.rd A.SYS_TICK_CNT_LO := latchOpened_rd s (device_ne_chan (by decide) c.val 0x6008) (by
    rintro (hw | hw | ⟨k, hk, hw | hw⟩) <;>
      simp only [A.SYS_TICK_CNT_LO, A.GDI_SRC, A.GDI_TRQ_N, A.GDI_TRQ_A, A.GDI_TRQ_B, chBase] at hw <;> omega)
  have entry : (s.latchOpened c.val).trqEntry c.val code inp off =
      ((s.latchOpened c.val).sourceSeen c.val code).slotFilled c.val 0 code inp off := by
    rw [trqEntry_room code inp off (by omega), slot]
  obtain ⟨count, first, second, missed⟩ := slotFilled_shows (s := (s.latchOpened c.val).sourceSeen c.val code) (c := c) code inp off (n := 0) (by decide)
  have queue : ∀ {a : Nat}, trqWords c.val a → (s.tripEntered c.val code inp off).rd a =
      (((s.latchOpened c.val).sourceSeen c.val code).slotFilled c.val 0 code inp off).rd a := fun ha => (tripEntered_queue ha).trans (by rw [entry])
  refine ⟨?_, ?_, ?_, ?_, ?_⟩
  · rw [queue (.inl rfl), slotFilled_src]
    exact (State.rd_wr_same ..).trans (by rw [show (s.latchOpened c.val).rd (A.GDI_SRC c.val) = 0#32 from noSource])
  · exact (State.get_congr (queue (.inr (.inl rfl)))).trans count
  · exact (State.get_congr (queue (.inr (.inl rfl)))).trans (missed.trans ((sourceSeen_get code (trqN_ne_src _)).trans overflow))
  · exact (queue (.inr (.inr ⟨0, by decide, .inl rfl⟩))).trans first
  · rw [queue (.inr (.inr ⟨0, by decide, .inr rfl⟩)), second, sourceSeen_rd code (device_ne_chan (by decide) c.val 0x6010), tick]

/-- A source that trips a channel sets its latch with this source alone recorded. -/
theorem trip_latched (hn : s.flag (F.GDI_STAT_TRIPPED c.val) = false) : Latched c.val code inp off s (s.trip c.val code inp off) := by
  obtain ⟨source, count, missed, first, second⟩ := tripEntered_record (s := s) (c := c) (code := code) (inp := inp) (off := off)
  have entered : ∀ {o : Nat}, o < 0xC004 → o ≠ 0x4008 → o ≠ 0x600C →
      (s.trip c.val code inp off).rd (chBase c.val + o) = (s.tripEntered c.val code inp off).rd (chBase c.val + o) := trip_rd_entered hn
  refine ⟨trip_latches c.isLt .., ?_, ?_, ?_, ?_, ?_, ?_, ?_, ?_, fun hrun => ?_, fun hidle => ?_⟩
  · exact (entered (by decide) (by decide) (by decide)).trans source
  · exact (State.get_congr (entered (by decide) (by decide) (by decide))).trans count
  · exact (State.get_congr (entered (by decide) (by decide) (by decide))).trans missed
  · exact (entered (o := 0x6040) (by decide) (by decide) (by decide)).trans first
  · exact (entered (o := 0x6044) (by decide) (by decide) (by decide)).trans second
  · exact counted_congr tripEntered_counted rfl (entered (o := 0x601C) (by decide) (by decide) (by decide))
  · rw [trip_eq hn]
    exact flag_raise_own (trip_event c) [] _
  · rw [trip_eq hn, raise_chn (trip_event c), applyForce_unseen moveUnseen_offDrive, exitToOff_unseen moveUnseen_offDrive, tripEntered_chn]
  · rw [trip_eq hn]
    refine (State.get_congr (f := F.ROLE_STAT_CH_STATE c.val) ((raise_rd (trip_event c) [] _ (chan_words_ne c.val (by decide)) (chan_word_quiet ..)).trans
      (applyForce_rd _ _ (chan_words_ne c.val (by decide))))).trans (exitToOff_off ?_ kTRIP)
    rwa [tripEntered_cst]
  · exact (State.get_congr (entered (by decide) (by decide) (by decide))).trans (tripEntered_use hidle)

/-- What a move leaves, a trip leaves, the off-drive apart. -/
theorem trip_unseen {g : Ch → α} (hg : MoveUnseen g) (hd : ∀ x b, g { x with offDrive := b } = g x) (s : State) :
    g ((s.trip c.val code inp off).chn c.val) = g (s.chn c.val) := by
  cases hn : s.flag (F.GDI_STAT_TRIPPED c.val)
  · rw [trip_eq hn, raise_chn (trip_event c), applyForce_unseen hg, exitToOff_unseen hg, tripEntered_chn, hd]
  · rw [trip_again hn]
    exact congrArg g (((Frame.refl false [] (fun _ => True) s).trqEntry (fun _ _ => trivial) code inp off).parts (.chan c.val) (by simp))

/-- A trip leaves the fields beside its event. -/
theorem trip_event_beside {f : Fld} (hf : (F.GDI_EVT_TRIP c.val).beside f = true) (s : State) :
    (s.trip c.val code inp off).flag f = s.flag f := by
  have addr : f.addr = A.GDI_EVT c.val := by
    simp only [Fld.beside, Bool.and_eq_true, beq_iff_eq] at hf
    exact hf.1.1.2
  cases hn : s.flag (F.GDI_STAT_TRIPPED c.val)
  · rw [trip_eq hn, flag_raise_beside (trip_event c) [] _ hf]
    exact State.flag_congr (State.get_congr (addr ▸ trip_before_event c s code inp off))
  · rw [trip_again hn]
    exact State.flag_congr (trqEntry_get code inp off addr (.inl (by decide)))

/-! ### A trip after what led to it -/

/-- Words that the record of a trip starts from. -/
def recordWords (c : Nat) : List Nat := [A.GDI_SRC c, A.GDI_TRQ_N c, A.GDI_CNT c, A.ROLE_SEL c, A.ROLE_STAT c, A.SYS_TICK_CNT_LO]

section
variable {x : State} (hw : ∀ a ∈ recordWords c.val, x.rd a = s.rd a)
include hw

theorem Latched.of_before (h : Latched c.val code inp off x u) : Latched c.val code inp off s u := by
  simp only [recordWords, List.forall_mem_cons, List.not_mem_nil, false_implies, implies_true, and_true] at hw
  obtain ⟨-, -, count, sel, stat, tick⟩ := hw
  obtain ⟨tripped, source, n, missed, first, second, counted, event, drive, off, use⟩ := h
  have state : x.cst c.val = s.cst c.val := State.get_congr stat
  have role : x.role c.val = s.role c.val := State.get_congr sel
  exact ⟨tripped, source, n, missed, first, tick ▸ second, counted_congr counted count.symm rfl, event, drive, state ▸ off, role ▸ use⟩

theorem Entered.of_before (h : Entered c.val code inp off x u) : Entered c.val code inp off s u := by
  simp only [recordWords, List.forall_mem_cons, List.not_mem_nil, false_implies, implies_true, and_true] at hw
  obtain ⟨source, queue, -, -, stat, tick⟩ := hw
  obtain ⟨seen, room, full, tripped, state⟩ := h
  have n : x.get (F.GDI_TRQ_N_N c.val) = s.get (F.GDI_TRQ_N_N c.val) := State.get_congr queue
  have missed : x.get (F.GDI_TRQ_N_OVF c.val) = s.get (F.GDI_TRQ_N_OVF c.val) := State.get_congr queue
  rw [n] at room full
  rw [missed] at full
  rw [tick] at room
  exact ⟨by rw [Edited, ← source]; exact seen, room, full, tripped, state.trans (State.get_congr stat)⟩

end

theorem Latched.settle {x : State} (h : Latched c.val code inp off s u) : Latched c.val code inp off s (settle x u) := by
  simpa only [Latched, Counted, State.cst, settle_rd, settle_get, settle_flag, settle_chn] using h

theorem Entered.settle {x : State} (h : Entered c.val code inp off s u) : Entered c.val code inp off s (settle x u) := by
  simpa only [Entered, Edited, State.cst, settle_rd, settle_get, settle_flag] using h

/-- The two ways a source acts on the latch, seen from before what led to it. -/
theorem trip_recorded {x : State} (hw : ∀ a ∈ recordWords c.val, x.rd a = s.rd a)
    (ht : x.flag (F.GDI_STAT_TRIPPED c.val) = s.flag (F.GDI_STAT_TRIPPED c.val)) :
    (s.flag (F.GDI_STAT_TRIPPED c.val) = false → Latched c.val code inp off s (settle s (x.trip c.val code inp off))) ∧
      (s.flag (F.GDI_STAT_TRIPPED c.val) = true → Entered c.val code inp off s (settle s (x.trip c.val code inp off))) := by
  refine ⟨fun hn => ((trip_latched (ht.trans hn)).of_before hw).settle, fun hn => ?_⟩
  rw [trip_again (ht.trans hn)]
  exact ((trqEntry_entered code inp off (ht.trans hn)).of_before hw).settle

end

end Sys2Proof.Machine
end

section
/-! SUPPORT. Link faults, simultaneous commands and phase groups: what holds HI and LO low, and the trip input of the link (08 R245–R248, R255). -/

namespace Sys2Proof.Machine

variable {α : Type} {ev : Bool} {ps : List Part} {W : Nat → Prop} {s u : State} {c : Chan} {k : Nat}

/-! ### What holds HI and LO low -/

/-- A link fault keeps both commands off (08 R245). -/
theorem gateCmd_linkErr {c : Nat} (h : (s.gate c k).linkErr = true) : s.gateCmd c k = (false, false) := by
  simp [State.gateCmd, h]

/-- HB0 to HB5 are no static outputs (07 R234). -/
theorem isStatic_low {c : Nat} (hk : k < 6) : s.isStatic c k = false := by
  have not6 : k ≠ 6 := by omega
  have not9 : k ≠ 9 := by omega
  simp [State.isStatic, not6, not9]

/-- The last two stages of a switched half-bridge: holds and phase-group actions, then the block of simultaneous commands (08 R244). -/
theorem gateCmd_switched {c : Nat} (hs : s.isStatic c k = false) (hl : (s.gate c k).linkErr = false) : ∃ high low : Bool, s.gateCmd c k =
    (fun hi lo : Bool => if (hi && lo) || (s.gate c k).shoot then (false, false) else (hi, lo))
      (high && !s.bitOf (F.GDI_STAT_CBC_HOLD c) k && !(s.gate c k).pgHi) (low && !s.bitOf (F.GDI_STAT_CBC_HOLD c) k && !(s.gate c k).pgLo) := by
  unfold State.gateCmd
  dsimp only
  rw [hl, hs, if_neg Bool.false_ne_true, if_neg Bool.false_ne_true]
  exact ⟨_, _, rfl⟩

/-- A command that is on has no hold and no phase-group action against it (08 R248, R253). -/
theorem gateCmd_on {c : Nat} (hs : s.isStatic c k = false) :
    ((s.gateCmd c k).1 = true → s.bitOf (F.GDI_STAT_CBC_HOLD c) k = false ∧ (s.gate c k).pgHi = false) ∧
      ((s.gateCmd c k).2 = true → s.bitOf (F.GDI_STAT_CBC_HOLD c) k = false ∧ (s.gate c k).pgLo = false) := by
  cases hl : (s.gate c k).linkErr
  · obtain ⟨high, low, formed⟩ := gateCmd_switched hs hl
    rw [formed]
    dsimp only
    split
    · simp
    · simp only [Bool.and_eq_true, Bool.not_eq_true', and_imp]
      exact ⟨fun _ hold pg => ⟨hold, pg⟩, fun _ hold pg => ⟨hold, pg⟩⟩
  · simp [gateCmd_linkErr hl]

theorem gateCmd_pgHi {c : Nat} (hs : s.isStatic c k = false) (h : (s.gate c k).pgHi = true) : (s.gateCmd c k).1 = false :=
  Bool.eq_false_iff.mpr fun on => Bool.noConfusion (h.symm.trans ((gateCmd_on hs).1 on).2)

theorem gateCmd_pgLo {c : Nat} (hs : s.isStatic c k = false) (h : (s.gate c k).pgLo = true) : (s.gateCmd c k).2 = false :=
  Bool.eq_false_iff.mpr fun on => Bool.noConfusion (h.symm.trans ((gateCmd_on hs).2 on).2)

/-- A cycle-by-cycle hold keeps both commands off (08 R253). -/
theorem gateCmd_cbcHold {c : Nat} (hs : s.isStatic c k = false) (h : s.bitOf (F.GDI_STAT_CBC_HOLD c) k = true) :
    (s.gateCmd c k).1 = false ∧ (s.gateCmd c k).2 = false :=
  ⟨Bool.eq_false_iff.mpr fun on => Bool.noConfusion (h.symm.trans ((gateCmd_on hs).1 on).1),
    Bool.eq_false_iff.mpr fun on => Bool.noConfusion (h.symm.trans ((gateCmd_on hs).2 on).1)⟩

theorem gateUpdate_lo (s : State) {c : Nat} (hc : c < 8) (hk : k < 10) : ((s.gateUpdate c k).gate c k).lo = (s.gateCmd c k).2 := by
  rw [State.gateUpdate, gate_modGate s hc hk]

theorem gateUpdate_gate_ne (s : State) {c j : Nat} (h : j ≠ k) : (s.gateUpdate c j).gate c k = s.gate c k := by
  unfold State.gateUpdate
  split
  exact modGate_gate_ne s h _

theorem gateUpdate_rd (s : State) (c k a : Nat) : (s.gateUpdate c k).rd a = s.rd a := State.rd_congr (gateUpdate_regs ..) a

/-! ### An occurrence that is counted and recorded -/

/-- A count with its event: each in its word, and the channels as they were. -/
theorem inc_raise {f e : Fld} (hf : f.ok = true) (hq : bookAddr f.addr = false) (he : e.isEvent = true) (ha : f.addr ≠ e.addr) (s : State) :
    Counted f s ((s.inc f).raise e) ∧ Raised e s ((s.inc f).raise e) ∧ ∀ d j, ((s.inc f).raise e).gate d j = s.gate d j :=
  ⟨counted_congr (counted_inc s hf) rfl (raise_rd he [] _ ha hq),
    raised_congr (raise_raised _ (event_low he) (event_quiet he)) (State.rd_put_ne s ha.symm _).symm rfl,
    fun d j => raise_gate he [] _ d j⟩

theorem gdi_events (c : Chan) : (F.GDI_EVT_LINK_ERR c.val).isEvent = true ∧ (F.GDI_EVT_SHOOT c.val).isEvent = true ∧
    (F.GDI_EVT_PG_VIOL c.val).isEvent = true := by
  revert c; decide

/-! ### The trip inputs -/

/-- A word as a set of bits. -/
theorem bitOf_word (s : State) (a : Nat) {i : Nat} (hi : i < 32) : s.bitOf ⟨a, 31, 0⟩ i = bit (s.rd a) i := by
  rw [State.bitOf, State.get, bits_testBit, decide_eq_true (by omega), Bool.true_and]
  rfl

/-- A trip input that has ended. -/
theorem tripIn_ended (s : State) (c : Nat) {code : Nat} (hi : srcBit code < 32) (off : Nat) :
    (s.tripIn c code false off).bitOf ⟨A.GDI_IN c, 31, 0⟩ (srcBit code) = false := by
  rw [bitOf_word _ _ hi, tripIn_rd, State.putb, State.rd_put_ne _ (chan_words_ne c (by decide)), State.rd_wr_same, bit, BitVec.toNat_and,
    Nat.testBit_and]
  exact (congrArg (· && _) (bit_setBits _ hi false)).trans (Bool.false_and _)

theorem tripIn_active (s : State) (c : Nat) {code : Nat} (hb : bit (implMask (A.GDI_IN c)) (srcBit code) = true) (hi : srcBit code < 32)
    (off : Nat) : (s.tripIn c code true off).bitOf ⟨A.GDI_IN c, 31, 0⟩ (srcBit code) = true :=
  (bitOf_word _ _ hi).trans (tripIn_bit s c hb hi true off)

theorem tripIn_rd_other (s : State) (c code : Nat) (act : Bool) (off : Nat) {a : Nat} (h : a ≠ A.GDI_IN c) (h' : a ≠ A.GDI_STAT c) :
    (s.tripIn c code act off).rd a = s.rd a :=
  (tripIn_rd ..).trans ((State.rd_put_ne _ h' _).trans (State.rd_wr_ne s h _))

/-- A trip input reaches the rest of a channel's state by the time of its end alone. -/
theorem tripIn_unseen {g : Ch → α} (hg : ∀ x n, g { x with inClearAt := n } = g x) (s : State) (c code : Nat) (act : Bool) (off d : Nat) :
    g ((s.tripIn c code act off).chn d) = g (s.chn d) := by
  unfold State.tripIn
  dsimp only
  split
  · exact modCh_view (fun x => hg x _) _ c d
  · rfl

theorem tripIn_gate (s : State) (c code : Nat) (act : Bool) (off d j : Nat) : (s.tripIn c code act off).gate d j = s.gate d j :=
  tripIn_unseen (g := fun x => x.gate[j]?.getD {}) (fun _ _ => rfl) ..

theorem tripIn_hb (s : State) (c code : Nat) (act : Bool) (off d j : Nat) : (s.tripIn c code act off).hb d j = s.hb d j :=
  tripIn_unseen (g := fun x => x.hb[j]?.getD {}) (fun _ _ => rfl) ..

/-- The fields of GDI_STAT beside IN_ACTIVE are no part of a trip input. -/
theorem tripIn_stat {f : Fld} (hf : (F.GDI_STAT_IN_ACTIVE c.val).beside f = true) (s : State) (code : Nat) (act : Bool) (off : Nat) :
    (s.tripIn c.val code act off).get f = s.get f := by
  have addr : f.addr = A.GDI_STAT c.val := by
    simp only [Fld.beside, Bool.and_eq_true, beq_iff_eq] at hf
    exact hf.1.1.2
  refine (State.get_congr (tripIn_rd ..)).trans ((get_put_beside _ (f := F.GDI_STAT_IN_ACTIVE c.val) (by decide : 3 < 32) hf _).trans ?_)
  exact State.get_wr_ne s (addr ▸ chan_words_ne c.val (by decide)) _

/-! ### What the commands of HI and LO are formed from -/

/-- The words that tell whether a half-bridge is a static output (07 R234). -/
def staticWords (c : Nat) : List Nat := [A.ROLE_SEL c, A.GRID_CFG c, A.DC_CFG c, A.CHOP_CFG c]

theorem isStatic_congr {c : Nat} (hw : ∀ a ∈ staticWords c, u.rd a = s.rd a) (k : Nat) : u.isStatic c k = s.isStatic c k := by
  simp only [staticWords, List.forall_mem_cons, List.not_mem_nil, false_implies, implies_true, and_true] at hw
  obtain ⟨sel, grid, dc, chop⟩ := hw
  have role : u.role c = s.role c := State.get_congr sel
  simp only [State.isStatic, State.kmSlot, State.chopSlot, role, State.flag, State.get_congr (f := F.GRID_CFG_KM_EN c) grid,
    State.get_congr (f := F.DC_CFG_KM_EN c) dc, State.get_congr (f := F.CHOP_CFG_MODE c) chop]

theorem inActive_beside_hold (c : Chan) : (F.GDI_STAT_IN_ACTIVE c.val).beside (F.GDI_STAT_CBC_HOLD c.val) = true := by revert c; decide

/-- A trip input leaves the commands of HI and LO. -/
theorem tripIn_gateCmd (s : State) (code : Nat) (act : Bool) (off k : Nat) :
    (s.tripIn c.val code act off).gateCmd c.val k = s.gateCmd c.val k := by
  have word : ∀ {o : Nat}, o ≠ 0x6014 → o ≠ 0x6008 → (s.tripIn c.val code act off).rd (chBase c.val + o) = s.rd (chBase c.val + o) :=
    fun h h' => tripIn_rd_other s _ code act off (chan_words_ne c.val h) (chan_words_ne c.val h')
  have output : (s.tripIn c.val code act off).isStatic c.val k = s.isStatic c.val k := by
    refine isStatic_congr (fun a ha => ?_) k
    simp only [staticWords, List.mem_cons, List.not_mem_nil, or_false] at ha
    rcases ha with rfl | rfl | rfl | rfl <;> exact word (by decide) (by decide)
  have contactor : (s.tripIn c.val code act off).kmCmd c.val = s.kmCmd c.val := by
    have role : (s.tripIn c.val code act off).role c.val = s.role c.val := State.get_congr (word (by decide) (by decide))
    simp only [State.kmCmd, role, State.flag, State.get_congr (f := F.GRID_STAT_KM_CMD c.val) (word (by decide) (by decide)),
      State.get_congr (f := F.DC_STAT_KM_CMD c.val) (word (by decide) (by decide))]
  have chopper : (s.tripIn c.val code act off).flag (F.CHOP_STAT_ON c.val) = s.flag (F.CHOP_STAT_ON c.val) :=
    State.flag_congr (State.get_congr (word (by decide) (by decide)))
  have boot : (s.tripIn c.val code act off).bitOf (F.BOOT_STAT_HOLD c.val) k = s.bitOf (F.BOOT_STAT_HOLD c.val) k :=
    State.bitOf_congr (State.get_congr (word (by decide) (by decide))) k
  have hold : (s.tripIn c.val code act off).bitOf (F.GDI_STAT_CBC_HOLD c.val) k = s.bitOf (F.GDI_STAT_CBC_HOLD c.val) k :=
    State.bitOf_congr (tripIn_stat (inActive_beside_hold c) ..) k
  simp only [State.gateCmd, output, contactor, chopper, boot, hold, tripIn_hb, tripIn_gate]

end Sys2Proof.Machine
end

section
/-! SUPPORT. The rows of the link, of simultaneous commands and of phase groups (08 R245, R246, R248, R255). -/

namespace Sys2Proof.Machine

variable {s : State} {c : Chan} {h : HbIx} {off : Nat}

/-! ### The link -/

/-- The link of a half-bridge has a fault or none (08 R245). -/
def State.linkMarked (c h : Nat) (b : Bool) (s : State) : State := s.modGate c h fun g => { g with linkErr := b }

theorem linkMarked_gate (s : State) (b : Bool) : (s.linkMarked c.val h.val b).gate c.val h.val = { s.gate c.val h.val with linkErr := b } :=
  gate_modGate s c.isLt h.isLt _

/-- LINK is a trip input that GDI_IN implements (08 R255). -/
theorem link_implemented (c : Chan) : bit (implMask (A.GDI_IN c.val)) (srcBit 0x23) = true := by revert c; decide

theorem completes_linkCheckFault (hr : s.t.held = false) : completes (.linkCheckFault c h) s fun t => (t.gate c.val h.val).linkErr = true ∧
    (t.gate c.val h.val).hi = false ∧ (t.gate c.val h.val).lo = false ∧ Counted (F.GDI_CNT2_LINK_CNT c.val) s t ∧
    Raised (F.GDI_EVT_LINK_ERR c.val) s t ∧ Frame true [.chan c.val] (· ∈ [A.GDI_CNT2 c.val, A.GDI_EVT c.val]) s t := by
  obtain ⟨event, -, -⟩ := gdi_events c
  obtain ⟨counted, raised, gate⟩ := inc_raise (f := F.GDI_CNT2_LINK_CNT c.val) (chanFld_ok c.isLt (by decide)) (chan_word_quiet ..) event
    (chan_words_ne c.val (by decide)) (s.linkMarked c.val h.val true)
  have frame : Frame true [.chan c.val] (· ∈ [A.GDI_CNT2 c.val, A.GDI_EVT c.val]) s
      (((s.linkMarked c.val h.val true).inc (F.GDI_CNT2_LINK_CNT c.val)).raise (F.GDI_EVT_LINK_ERR c.val)) :=
    (((Frame.refl ..).modGate (by simp) _ _).inc (by simp [F.GDI_CNT2_LINK_CNT]) 1).raise (by simp [F.GDI_EVT_LINK_ERR]) (event_low event) []
  have acts : s.linkFault c.val h.val =
      (((s.linkMarked c.val h.val true).inc (F.GDI_CNT2_LINK_CNT c.val)).raise (F.GDI_EVT_LINK_ERR c.val)).gateUpdate c.val h.val := rfl
  refine completes_live rfl hr ?_
  rw [acts]
  generalize ((s.linkMarked c.val h.val true).inc (F.GDI_CNT2_LINK_CNT c.val)).raise (F.GDI_EVT_LINK_ERR c.val) = x at counted raised gate frame
  have fault : (x.gate c.val h.val).linkErr = true := by rw [gate, linkMarked_gate]
  have shown : ∀ a, (settle s (x.gateUpdate c.val h.val)).rd a = x.rd a := fun a => (settle_rd ..).trans (gateUpdate_rd ..)
  exact ⟨(gateUpdate_gate_view GateSt.linkErr (fun _ _ _ _ => rfl) x c.isLt h.isLt).trans fault,
    (gateUpdate_hi x c.isLt h.isLt).trans (congrArg Prod.fst (gateCmd_linkErr fault)),
    (gateUpdate_lo x c.isLt h.isLt).trans (congrArg Prod.snd (gateCmd_linkErr fault)),
    counted_congr counted rfl (shown _), raised_congr raised rfl (shown _), (frame.gateUpdate (by simp) _).settle⟩

theorem completes_linkFaultEnd (hr : s.t.held = false) : completes (.linkFaultEnd c h) s fun t => (t.gate c.val h.val).linkErr = false ∧
    (t.gate c.val h.val).hi = (t.gateCmd c.val h.val).1 ∧ (t.gate c.val h.val).lo = (t.gateCmd c.val h.val).2 ∧
    ((∀ k : HbIx, k ≠ h → (s.gate c.val k.val).linkErr = false) → t.bitOf ⟨A.GDI_IN c.val, 31, 0⟩ (srcBit 0x23) = false) ∧
    Frame false [.chan c.val] (· ∈ [A.GDI_IN c.val, A.GDI_STAT c.val]) s t := by
  have acts : s.linkEnd c.val h.val = ((s.linkMarked c.val h.val false).gateUpdate c.val h.val).when
      (hbs.all fun k => !(((s.linkMarked c.val h.val false).gateUpdate c.val h.val).gate c.val k).linkErr) fun x =>
        x.tripIn c.val 0x23 false 0 := rfl
  have formed := formed_gateUpdate (s.linkMarked c.val h.val false) c.isLt h.isLt
  have frame : Frame false [.chan c.val] (· ∈ [A.GDI_IN c.val, A.GDI_STAT c.val]) s
      ((s.linkMarked c.val h.val false).gateUpdate c.val h.val) := ((Frame.refl ..).modGate (by simp) _ _).gateUpdate (by simp) _
  have ended : (((s.linkMarked c.val h.val false).gateUpdate c.val h.val).gate c.val h.val).linkErr = false :=
    (gateUpdate_gate_view GateSt.linkErr (fun _ _ _ _ => rfl) _ c.isLt h.isLt).trans (by rw [linkMarked_gate])
  have others : ∀ k : HbIx, k ≠ h → ((s.linkMarked c.val h.val false).gateUpdate c.val h.val).gate c.val k.val = s.gate c.val k.val :=
    fun k hk => (gateUpdate_gate_ne _ (Fin.val_ne_of_ne hk.symm)).trans (modGate_gate_ne s (Fin.val_ne_of_ne hk.symm) _)
  refine completes_live rfl hr ?_
  rw [acts]
  generalize (s.linkMarked c.val h.val false).gateUpdate c.val h.val = x at formed frame ended others ⊢
  generalize hall : (hbs.all fun k => !(x.gate c.val k).linkErr) = b
  have gate : (x.when b fun y => y.tripIn c.val 0x23 false 0).gate c.val h.val = x.gate c.val h.val :=
    State.when_unseen (fun y => y.gate c.val h.val) (fun y => tripIn_gate y ..) x b
  have cmd : (x.when b fun y => y.tripIn c.val 0x23 false 0).gateCmd c.val h.val = x.gateCmd c.val h.val :=
    State.when_unseen (fun y => y.gateCmd c.val h.val) (fun y => tripIn_gateCmd y ..) x b
  have follows : Formed c.val h.val (x.when b fun y => y.tripIn c.val 0x23 false 0) := by
    rw [Formed, gate, cmd]
    exact formed
  refine ⟨(congrArg GateSt.linkErr gate).trans ended, follows.settle.1, follows.settle.2, fun hlast => ?_,
    (frame.when _ fun _ => (Frame.refl ..).tripIn (by simp) (by simp) (by simp) 0x23 false 0).settle⟩
  have last : b = true := by
    refine hall.symm.trans (List.all_eq_true.mpr fun k hk => ?_)
    have hk10 : k < 10 := by simp only [hbs, List.mem_cons, List.not_mem_nil, or_false] at hk; omega
    by_cases same : (⟨k, hk10⟩ : HbIx) = h
    · have at_h : k = h.val := congrArg Fin.val same
      rw [at_h, ended, Bool.not_false]
    · rw [others ⟨k, hk10⟩ same, hlast ⟨k, hk10⟩ same, Bool.not_false]
  rw [settle_bitOf, last]
  exact tripIn_ended x c.val (by decide) 0

/-- The words that the record of a trip starts from are none of the trip inputs. -/
theorem tripIn_recordWords (s : State) (code : Nat) (act : Bool) (off : Nat) :
    ∀ a ∈ recordWords c.val, (s.tripIn c.val code act off).rd a = s.rd a := by
  intro a ha
  refine tripIn_rd_other s c.val code act off ?_ ?_ <;>
    simp only [recordWords, List.mem_cons, List.not_mem_nil, or_false, A.GDI_SRC, A.GDI_TRQ_N, A.GDI_CNT, A.ROLE_SEL, A.ROLE_STAT,
      A.SYS_TICK_CNT_LO, chBase] at ha <;> simp only [A.GDI_IN, A.GDI_STAT, chBase] <;> omega

theorem completes_linkTrip (hr : s.t.held = false) (hl : (s.gate c.val h.val).linkErr = true) : completes (.linkTrip c h off) s fun t =>
    t.bitOf ⟨A.GDI_IN c.val, 31, 0⟩ (srcBit 0x23) = true ∧
    (s.flag (F.GDI_STAT_TRIPPED c.val) = false → Latched c.val 0x23 0 off s t) ∧
    (s.flag (F.GDI_STAT_TRIPPED c.val) = true → Entered c.val 0x23 0 off s t) ∧
    Frame true [.chan c.val] (fun a => tripWords c.val a ∨ a = A.GDI_IN c.val) s t := by
  have acts : s.linkTrip c.val h.val off = (s.tripIn c.val 0x23 true off).trip c.val 0x23 0 off := by rw [State.linkTrip, hl, when_true]
  obtain ⟨latched, entered⟩ := trip_recorded (code := 0x23) (inp := 0) (off := off) (tripIn_recordWords s 0x23 true off)
    (tripIn_tripped c.isLt s 0x23 true off)
  refine completes_live rfl hr ?_
  rw [acts]
  refine ⟨(settle_bitOf ..).trans ?active, latched, entered, Frame.settle ?frame⟩
  case active =>
    exact (State.bitOf_congr (State.get_congr (f := ⟨A.GDI_IN c.val, 31, 0⟩) (trip_rd c.isLt _ (.inl rfl) 0x23 0 off)) _).trans
      (tripIn_active s c.val (link_implemented c) (by decide) off)
  case frame =>
    exact ((Frame.refl ..).tripIn (by simp) (.inr rfl) (.inl (.inl (by simp))) 0x23 true off).trip c.isLt (by simp) (fun _ => .inl) 0x23 0 off

/-! ### Simultaneous commands -/

theorem completes_shootThroughBlock (hr : s.t.held = false) : completes (.shootThroughBlock c h) s fun t =>
    (t.gate c.val h.val).shoot = true ∧ (t.gate c.val h.val).hi = false ∧ (t.gate c.val h.val).lo = false ∧
    Counted (F.GDI_ICNT_SHOOT_CNT c.val) s t ∧ Raised (F.GDI_EVT_SHOOT c.val) s t ∧
    Frame true [.chan c.val] (· ∈ [A.GDI_ICNT c.val, A.GDI_EVT c.val]) s t := by
  obtain ⟨-, event, -⟩ := gdi_events c
  obtain ⟨counted, raised, gate⟩ := inc_raise (f := F.GDI_ICNT_SHOOT_CNT c.val) (chanFld_ok c.isLt (by decide)) (chan_word_quiet ..) event
    (chan_words_ne c.val (by decide)) (s.modGate c.val h.val fun g => { g with shoot := true, hi := false, lo := false })
  have blocked : (s.shootBlock c.val h.val).gate c.val h.val = { s.gate c.val h.val with shoot := true, hi := false, lo := false } :=
    (gate _ _).trans (gate_modGate s c.isLt h.isLt _)
  refine completes_live rfl hr ?_
  rw [settle_gate, blocked]
  refine ⟨rfl, rfl, rfl, counted_congr counted rfl (settle_rd ..), raised_congr raised rfl (settle_rd ..), Frame.settle ?_⟩
  exact (((Frame.refl ..).modGate (by simp) _ _).inc (by simp [F.GDI_ICNT_SHOOT_CNT]) 1).raise (by simp [F.GDI_EVT_SHOOT]) (event_low event) []

/-! ### Phase groups -/

/-- T1 of group `g` is held low (08 R248). -/
def State.t1Held (c g : Nat) (s : State) : State := (s.modGate c (2 * g) fun x => { x with pgHi := true }).gateUpdate c (2 * g)

/-- T4 of group `g` is held low (08 R248). -/
def State.t4Held (c g : Nat) (s : State) : State := (s.modGate c (2 * g + 1) fun x => { x with pgLo := true }).gateUpdate c (2 * g + 1)

/-- The switches that a violation names are held low (08 R248). -/
def State.groupHeld (c g : Nat) (v : PgViol) (s : State) : State :=
  match v with
  | .t1 | .t2Off | .t1t4 false => s.t1Held c g
  | .t4 | .t3Off | .t1t4 true => s.t4Held c g
  | .both => (s.t1Held c g).t4Held c g

section
variable {g : Nat} (hg : g < 3)

theorem Frame.groupHeld (v : PgViol) : Frame true [.chan c.val] (fun _ => False) s (s.groupHeld c.val g v) := by
  have t1 : ∀ x : State, Frame true [.chan c.val] (fun _ => False) x (x.t1Held c.val g) := fun x =>
    ((Frame.refl ..).modGate (by simp) _ _).gateUpdate (by simp) _
  have t4 : ∀ x : State, Frame true [.chan c.val] (fun _ => False) x (x.t4Held c.val g) := fun x =>
    ((Frame.refl ..).modGate (by simp) _ _).gateUpdate (by simp) _
  match v with
  | .t1 | .t2Off | .t1t4 false => exact t1 s
  | .t4 | .t3Off | .t1t4 true => exact t4 s
  | .both => exact (t1 s).trans (t4 _)

theorem groupHeld_rd (v : PgViol) (a : Nat) : (s.groupHeld c.val g v).rd a = s.rd a := by
  have t1 : ∀ x : State, (x.t1Held c.val g).rd a = x.rd a := fun x => (gateUpdate_rd ..).trans (State.modGate_rd ..)
  have t4 : ∀ x : State, (x.t4Held c.val g).rd a = x.rd a := fun x => (gateUpdate_rd ..).trans (State.modGate_rd ..)
  match v with
  | .t1 | .t2Off | .t1t4 false => exact t1 s
  | .t4 | .t3Off | .t1t4 true => exact t4 s
  | .both => exact (t4 _).trans (t1 s)

include hg

theorem t1Held_low (s : State) : ((s.t1Held c.val g).gate c.val (2 * g)).pgHi = true ∧ ((s.t1Held c.val g).gate c.val (2 * g)).hi = false := by
  have hk : 2 * g < 10 := by omega
  have marked : ((s.modGate c.val (2 * g) fun x => { x with pgHi := true }).gate c.val (2 * g)).pgHi = true := by rw [gate_modGate s c.isLt hk]
  exact ⟨(gateUpdate_gate_view GateSt.pgHi (fun _ _ _ _ => rfl) _ c.isLt hk).trans marked,
    (gateUpdate_hi _ c.isLt hk).trans (gateCmd_pgHi (isStatic_low (by omega)) marked)⟩

theorem t4Held_low (s : State) : ((s.t4Held c.val g).gate c.val (2 * g + 1)).pgLo = true ∧ ((s.t4Held c.val g).gate c.val (2 * g + 1)).lo = false := by
  have hk : 2 * g + 1 < 10 := by omega
  have marked : ((s.modGate c.val (2 * g + 1) fun x => { x with pgLo := true }).gate c.val (2 * g + 1)).pgLo = true := by
    rw [gate_modGate s c.isLt hk]
  exact ⟨(gateUpdate_gate_view GateSt.pgLo (fun _ _ _ _ => rfl) _ c.isLt hk).trans marked,
    (gateUpdate_lo _ c.isLt hk).trans (gateCmd_pgLo (isStatic_low (by omega)) marked)⟩

omit hg in
theorem t4Held_t1 (s : State) : (s.t4Held c.val g).gate c.val (2 * g) = s.gate c.val (2 * g) :=
  (gateUpdate_gate_ne _ (by omega)).trans (modGate_gate_ne s (by omega) _)

/-- The switch that a violation names is held low. -/
theorem groupHeld_t1 {v : PgViol} (hv : v = .t1 ∨ v = .t2Off ∨ v = .both ∨ v = .t1t4 false) :
    ((s.groupHeld c.val g v).gate c.val (2 * g)).pgHi = true ∧ ((s.groupHeld c.val g v).gate c.val (2 * g)).hi = false := by
  rcases hv with rfl | rfl | rfl | rfl
  · exact t1Held_low hg s
  · exact t1Held_low hg s
  · rw [State.groupHeld, t4Held_t1]
    exact t1Held_low hg s
  · exact t1Held_low hg s

theorem groupHeld_t4 {v : PgViol} (hv : v = .t4 ∨ v = .t3Off ∨ v = .both ∨ v = .t1t4 true) :
    ((s.groupHeld c.val g v).gate c.val (2 * g + 1)).pgLo = true ∧ ((s.groupHeld c.val g v).gate c.val (2 * g + 1)).lo = false := by
  rcases hv with rfl | rfl | rfl | rfl
  · exact t4Held_low hg s
  · exact t4Held_low hg s
  · exact t4Held_low hg _
  · exact t4Held_low hg s

end

/-- The type of group for which a violation is one: 1 NPC, 2 T-type (08 R247, R248). -/
def violatedType : PgViol → Nat
  | .t1 | .t4 | .t2Off | .t3Off => 1
  | .t1t4 _ | .both => 2

theorem phaseGroup_acts (g : Fin 3) {v : PgViol} (ht : s.pgType c.val g.val = violatedType v) : s.phaseGroup c.val g.val v =
    ((s.groupHeld c.val g.val v).inc (F.GDI_ICNT_PG_CNT c.val)).raise (F.GDI_EVT_PG_VIOL c.val) := by
  match v with
  | .t1 | .t2Off | .t4 | .t3Off | .t1t4 false | .t1t4 true | .both =>
    unfold State.phaseGroup
    rw [ht]
    exact if_neg (by decide)

theorem phaseGroup_none (g : Fin 3) (v : PgViol) (ht : s.pgType c.val g.val = 0) : s.phaseGroup c.val g.val v = s := by
  cases v <;> simp [State.phaseGroup, ht]

theorem completes_phaseGroupInterlock (hr : s.t.held = false) (g : Fin 3) {v : PgViol} (ht : s.pgType c.val g.val = violatedType v) :
    completes (.phaseGroupInterlock c g v) s fun t =>
      ((v = .t1 ∨ v = .t2Off ∨ v = .both ∨ v = .t1t4 false) →
        (t.gate c.val (2 * g.val)).pgHi = true ∧ (t.gate c.val (2 * g.val)).hi = false) ∧
      ((v = .t4 ∨ v = .t3Off ∨ v = .both ∨ v = .t1t4 true) →
        (t.gate c.val (2 * g.val + 1)).pgLo = true ∧ (t.gate c.val (2 * g.val + 1)).lo = false) ∧
      Counted (F.GDI_ICNT_PG_CNT c.val) s t ∧ Raised (F.GDI_EVT_PG_VIOL c.val) s t ∧
      Frame true [.chan c.val] (· ∈ [A.GDI_ICNT c.val, A.GDI_EVT c.val]) s t := by
  obtain ⟨-, -, event⟩ := gdi_events c
  obtain ⟨counted, raised, gate⟩ := inc_raise (f := F.GDI_ICNT_PG_CNT c.val) (chanFld_ok c.isLt (by decide)) (chan_word_quiet ..) event
    (chan_words_ne c.val (by decide)) (s.groupHeld c.val g.val v)
  refine completes_live rfl hr ?_
  rw [phaseGroup_acts g ht, settle_gate, settle_gate, gate, gate]
  refine ⟨groupHeld_t1 g.isLt, groupHeld_t4 g.isLt, counted_congr counted (groupHeld_rd v _).symm (settle_rd ..),
    raised_congr raised (groupHeld_rd v _).symm (settle_rd ..), Frame.settle ?_⟩
  exact (((Frame.groupHeld v).mono (fun _ => id) (fun _ => False.elim)).inc (by simp [F.GDI_ICNT_PG_CNT]) 1).raise
    (by simp [F.GDI_EVT_PG_VIOL]) (event_low event) []

/-- Settles O25: row by row, each from what holds the commands of HI and LO off. -/
theorem linkFaultsAndInterlocksHoldOutputsLow : Obligations.LinkFaultsAndInterlocksHoldOutputsLow := by
  intro s c h off hr
  refine ⟨completes_linkCheckFault hr, completes_linkFaultEnd hr, completes_linkTrip hr, completes_shootThroughBlock hr, fun g v =>
    ⟨fun ht => ?applies, fun ht => completes_live rfl hr ?none⟩⟩
  case applies =>
    obtain ⟨t, he, t1, t4, rest⟩ := completes_phaseGroupInterlock hr g (v := v) (ht.trans (by cases v <;> rfl))
    exact ⟨t, he, fun hv => ⟨(t1 hv).1, fun _ => (t1 hv).2⟩, fun hv => ⟨(t4 hv).1, fun _ => (t4 hv).2⟩, rest⟩
  case none =>
    rw [phaseGroup_none g v ht]
    exact (Frame.refl ..).settle

end Sys2Proof.Machine
end

section
/-! SUPPORT. The enable of a channel: its fall, its rise with and without a clearing of the latch, and the end of the off-drive (08 R256, R259, R260). -/

namespace Sys2Proof.Machine

variable {ev : Bool} {ps : List Part} {W : Nat → Prop} {s u : State} {c : Chan} {off : Nat}

/-! ### The fields of GDI_STAT -/

/-- Two one-bit fields of GDI_STAT lie beside each other. -/
theorem stat_beside (c : Chan) : ∀ i ∈ [0, 1, 2, 3], ∀ j ∈ [0, 1, 2, 3], i ≠ j →
    (Fld.mk (A.GDI_STAT c.val) i i).beside ⟨A.GDI_STAT c.val, j, j⟩ = true := by revert c; decide

theorem stat_ok (c : Chan) : ∀ i ∈ [0, 1, 2, 3], (Fld.mk (A.GDI_STAT c.val) i i).ok = true := by revert c; decide

/-- A write of one bit of GDI_STAT is read there and leaves the other bits. -/
theorem stat_putb (s : State) {i j : Nat} (hi : i ∈ [0, 1, 2, 3]) (hj : j ∈ [0, 1, 2, 3]) (b : Bool) :
    (s.putb ⟨A.GDI_STAT c.val, i, i⟩ b).flag ⟨A.GDI_STAT c.val, j, j⟩ = if i = j then b else s.flag ⟨A.GDI_STAT c.val, j, j⟩ := by
  by_cases same : i = j
  · subst same
    rw [if_pos rfl]
    exact State.flag_putb_same s (stat_ok c i hi) (Nat.le_refl i) b
  · rw [if_neg same]
    have h32 : i < 32 := by simp only [List.mem_cons, List.not_mem_nil, or_false] at hi; omega
    exact flag_putb_beside s h32 (stat_beside c i hi j hj same) b

/-- Setting a field within the implemented bits, before or after the mask. -/
theorem setBits_mask (w m : Word) {hi lo : Nat} (h : hi < 32) (v : Nat) : setBits (w &&& m) hi lo v &&& m = setBits w hi lo v &&& m := by
  apply BitVec.eq_of_getLsbD_eq
  intro j _
  simp only [BitVec.getLsbD, BitVec.toNat_and, Nat.testBit_and, setBits_testBit h]
  split
  · rfl
  · rw [Bool.and_assoc, Bool.and_self]

/-- Two fields of one word written in turn. -/
theorem edited_put_put {f g : Fld} (ha : g.addr = f.addr) (hg : g.hi < 32) (s : State) (v n : Nat) :
    Edited f.addr [(f, v), (g, n)] s ((s.put f v).put g n) := by
  rw [Edited, State.put, ha, State.rd_wr_same, State.put, State.rd_wr_same, setBits_mask _ _ hg]
  rfl

theorem edited_put (s : State) (f : Fld) (v : Nat) : Edited f.addr [(f, v)] s (s.put f v) := State.rd_wr_same ..

/-! ### The fall -/

/-- The effective enable falls, and the off-drive begins (08 R256, R259). -/
def State.enableLowered (c off : Nat) (s : State) : State :=
  (s.putb (F.GDI_STAT_EFF_EN c) false).modCh c fun x => { x with offDrive := true, enaLowAt := s.clk off }

theorem enaFall_eq (he : s.effEn c.val = true) : s.enaFall c.val off =
    ((s.enableLowered c.val off).exitToOff c.val kTRIP).putb (F.GDI_STAT_ENA_PIN c.val) false := by
  rw [State.enaFall, State.enableFall, if_pos he]
  rfl

theorem enableLowered_rd {a : Nat} (ha : a ≠ A.GDI_STAT c.val) : (s.enableLowered c.val off).rd a = s.rd a := State.rd_put_ne s ha _

theorem enableLowered_chn : (s.enableLowered c.val off).chn c.val = { s.chn c.val with offDrive := true, enaLowAt := s.clk off } :=
  State.chn_modCh_same _ c.isLt _

/-- The exit of a running channel is to OFF with its code, where its role keeps one (04 R126; 06 R182). -/
theorem exitToOff_code (hrun : s.cst c.val = sPRECHARGE ∨ s.cst c.val = sSYNC ∨ s.cst c.val = sACTIVE)
    (hrole : s.role c.val = rGRID ∨ s.isDc c.val = true) {k : Nat} (hk : k < 16) : (s.exitToOff c.val k).refuseCode c.val = k := by
  rw [State.exitToOff, if_pos hrun]
  rcases hrole with grid | dc
  · exact (toOff_grid c grid hk).2.1
  · exact (toOff_dc dc hk).2.1

/-- The code that a role keeps is read from the words of the roles alone. -/
theorem refuseCode_congr (hw : ∀ o, 0xC000 ≤ o → u.rd (chBase c.val + o) = s.rd (chBase c.val + o)) :
    u.refuseCode c.val = s.refuseCode c.val := by
  have role : u.role c.val = s.role c.val := State.get_congr (hw _ (by decide))
  simp only [State.refuseCode, role, State.get_congr (f := F.GRID_STAT_REFUSE c.val) (hw 0xC108 (by decide)),
    State.get_congr (f := F.DC_STAT_REFUSE c.val) (hw 0xC508 (by decide)), State.get_congr (f := F.MACH_STAT_REFUSE c.val) (hw _ (by decide))]

theorem completes_chnEnaFall (hr : s.t.held = false) (he : s.effEn c.val = true) : completes (.chnEnaFall c off) s fun t =>
    t.effEn c.val = false ∧ t.flag (F.GDI_STAT_ENA_PIN c.val) = false ∧ (t.chn c.val).offDrive = true ∧ (t.chn c.val).enaLowAt = s.clk off ∧
    (s.cst c.val = sPRECHARGE ∨ s.cst c.val = sSYNC ∨ s.cst c.val = sACTIVE →
      t.cst c.val = sOFF ∧ (s.role c.val = rGRID ∨ s.isDc c.val = true → t.refuseCode c.val = kTRIP)) ∧
    t.flag (F.GDI_STAT_TRIPPED c.val) = s.flag (F.GDI_STAT_TRIPPED c.val) ∧
    Frame true [.chan c.val] (fun a => a = A.GDI_STAT c.val ∨ a ∈ offWords c.val) s t := by
  refine completes_live rfl hr ?_
  rw [enaFall_eq he]
  generalize hx : (s.enableLowered c.val off).exitToOff c.val kTRIP = x
  have stat : x.rd (A.GDI_STAT c.val) = (s.putb (F.GDI_STAT_EFF_EN c.val) false).rd (A.GDI_STAT c.val) := by
    rw [← hx]
    exact exitToOff_rd_low _ c kTRIP (by decide) (by decide) (by decide)
  have bit : ∀ j ∈ [0, 1, 2, 3], (settle s (x.putb (F.GDI_STAT_ENA_PIN c.val) false)).flag ⟨A.GDI_STAT c.val, j, j⟩ =
      if 2 = j then false else if 1 = j then false else s.flag ⟨A.GDI_STAT c.val, j, j⟩ := fun j hj => by
    rw [settle_flag, show F.GDI_STAT_ENA_PIN c.val = ⟨A.GDI_STAT c.val, 2, 2⟩ from rfl, stat_putb x (by decide) hj,
      State.flag_congr (State.get_congr (f := ⟨A.GDI_STAT c.val, j, j⟩) stat),
      show F.GDI_STAT_EFF_EN c.val = ⟨A.GDI_STAT c.val, 1, 1⟩ from rfl, stat_putb s (by decide) hj]
  have state : (s.enableLowered c.val off).cst c.val = s.cst c.val := State.get_congr (enableLowered_rd (chan_words_ne c.val (by decide)))
  have role : (s.enableLowered c.val off).role c.val = s.role c.val := State.get_congr (enableLowered_rd (chan_words_ne c.val (by decide)))
  have pin : ∀ {o : Nat}, o ≠ 0x6008 → (settle s (x.putb (F.GDI_STAT_ENA_PIN c.val) false)).rd (chBase c.val + o) = x.rd (chBase c.val + o) :=
    fun ho => (settle_rd ..).trans (State.rd_put_ne x (chan_words_ne c.val ho) _)
  refine ⟨bit 1 (by decide), bit 2 (by decide), ?drive, ?low, fun hrun => ?off, bit 0 (by decide), Frame.settle ?frame⟩
  case drive =>
    rw [settle_chn, State.putb, put_chn, ← hx, exitToOff_unseen moveUnseen_offDrive, enableLowered_chn]
  case low =>
    rw [settle_chn, State.putb, put_chn, ← hx, exitToOff_unseen moveUnseen_enaLowAt, enableLowered_chn]
  case off =>
    have running : (s.enableLowered c.val off).cst c.val = sPRECHARGE ∨ (s.enableLowered c.val off).cst c.val = sSYNC ∨
        (s.enableLowered c.val off).cst c.val = sACTIVE := by rwa [state]
    refine ⟨(State.get_congr (pin (by decide))).trans (hx ▸ exitToOff_off running kTRIP), fun hrole => ?_⟩
    refine (refuseCode_congr fun o ho => pin (by omega)).trans (hx ▸ exitToOff_code running ?_ (by decide))
    rwa [role, isDc_congr role]
  case frame =>
    have lowered : Frame true [.chan c.val] (fun a => a = A.GDI_STAT c.val ∨ a ∈ offWords c.val) s (s.enableLowered c.val off) :=
      ((Frame.refl ..).putb (f := F.GDI_STAT_EFF_EN c.val) (.inl rfl) false).modCh (by simp) _
    exact (hx ▸ lowered.exitToOff c.isLt (by simp) (fun _ => .inr) kTRIP).putb (f := F.GDI_STAT_ENA_PIN c.val) (.inl rfl) false

/-! ### The rise -/

/-- The pin is high and the effective enable rises (08 R259). -/
def State.enableRaised (c : Nat) (s : State) : State := (s.putb (F.GDI_STAT_ENA_PIN c) true).putb (F.GDI_STAT_EFF_EN c) true

/-- The enable was low for less than 10 µs (08 R260). -/
def State.clrShort (s : State) (c off : Nat) : Bool := decide (s.clk off < (s.chn c).enaLowAt + usClk 10)

/-- A trip input is active, or the last one has not been inactive for CLRQ (08 R260). -/
def State.clrEarly (s : State) (c off : Nat) : Bool :=
  s.flag (F.GDI_STAT_IN_ACTIVE c) || decide (s.clk off < (s.chn c).inClearAt + usClk (s.get (F.GDI_CLRQ_CLRQ c)))

/-- The events of a clearing that failed (08 R260). -/
def State.clearFailed (c : Nat) (short refused : Bool) (s : State) : State :=
  if short && refused then (s.mark (F.GDI_EVT_CLR_SHORT c)).raise (F.GDI_EVT_CLR_REFUSED c)
  else if short then s.raise (F.GDI_EVT_CLR_SHORT c) else s.raise (F.GDI_EVT_CLR_REFUSED c)

theorem enableRise_eq (s : State) (c off : Nat) : s.enableRise c off =
    if (s.putb (F.GDI_STAT_EFF_EN c) true).flag (F.GDI_STAT_TRIPPED c) then
      if (s.putb (F.GDI_STAT_EFF_EN c) true).clrShort c off || (s.putb (F.GDI_STAT_EFF_EN c) true).clrEarly c off then
        ((s.putb (F.GDI_STAT_EFF_EN c) true).clearFailed c ((s.putb (F.GDI_STAT_EFF_EN c) true).clrShort c off)
          ((s.putb (F.GDI_STAT_EFF_EN c) true).clrEarly c off)).inc (F.GDI_CNT_CLR_REF_CNT c)
      else ((s.putb (F.GDI_STAT_EFF_EN c) true).putb (F.GDI_STAT_TRIPPED c) false).raise (F.GDI_EVT_CLR_OK c)
    else s.putb (F.GDI_STAT_EFF_EN c) true := by
  generalize hy : s.putb (F.GDI_STAT_EFF_EN c) true = y
  simp only [State.enableRise, State.clrShort, State.clrEarly, State.clearFailed, hy, decide_eq_true_eq]

theorem Frame.enableRaised (h : Frame ev ps W s u) (hw : W (A.GDI_STAT c.val)) : Frame ev ps W s (u.enableRaised c.val) :=
  (h.putb (f := F.GDI_STAT_ENA_PIN c.val) hw true).putb (f := F.GDI_STAT_EFF_EN c.val) hw true

theorem enableRaised_stat (s : State) : ∀ j ∈ [0, 1, 2, 3], (s.enableRaised c.val).flag ⟨A.GDI_STAT c.val, j, j⟩ =
    if 1 = j then true else if 2 = j then true else s.flag ⟨A.GDI_STAT c.val, j, j⟩ := fun j hj => by
  rw [State.enableRaised, show F.GDI_STAT_EFF_EN c.val = ⟨A.GDI_STAT c.val, 1, 1⟩ from rfl, stat_putb _ (by decide) hj,
    show F.GDI_STAT_ENA_PIN c.val = ⟨A.GDI_STAT c.val, 2, 2⟩ from rfl, stat_putb s (by decide) hj]

theorem enableRaised_rd {a : Nat} (ha : a ≠ A.GDI_STAT c.val) : (s.enableRaised c.val).rd a = s.rd a :=
  (State.rd_put_ne _ ha _).trans (State.rd_put_ne s ha _)

theorem enableRaised_short : (s.enableRaised c.val).clrShort c.val off = s.clrShort c.val off := rfl

theorem enableRaised_early : (s.enableRaised c.val).clrEarly c.val off = s.clrEarly c.val off := by
  have active : (s.enableRaised c.val).flag (F.GDI_STAT_IN_ACTIVE c.val) = s.flag (F.GDI_STAT_IN_ACTIVE c.val) := enableRaised_stat s 3 (by decide)
  have time : (s.enableRaised c.val).get (F.GDI_CLRQ_CLRQ c.val) = s.get (F.GDI_CLRQ_CLRQ c.val) :=
    State.get_congr (enableRaised_rd (chan_words_ne c.val (by decide)))
  rw [State.clrEarly, State.clrEarly, active, time]
  rfl

section
variable (hpin : s.flag (F.GDI_STAT_ENA_PIN c.val) = false)
include hpin

/-- A rise of the pin alone (08 R259). -/
theorem enaRise_pin (hsw : s.flag (F.GDI_CTRL_SW_EN c.val) = false) : s.enaRise c.val off = s.putb (F.GDI_STAT_ENA_PIN c.val) true := by
  have sw : (s.putb (F.GDI_STAT_ENA_PIN c.val) true).flag (F.GDI_CTRL_SW_EN c.val) = false :=
    (State.flag_put_ne s (chan_words_ne c.val (by decide)) _).trans hsw
  rw [State.enaRise, if_neg (by simp [hpin])]
  dsimp only
  rw [sw, when_false]

/-- The rise of the effective enable, by the latch and the two times. -/
theorem enaRise_enabled (hsw : s.flag (F.GDI_CTRL_SW_EN c.val) = true) : s.enaRise c.val off =
    if s.flag (F.GDI_STAT_TRIPPED c.val) then
      if s.clrShort c.val off || s.clrEarly c.val off then
        ((s.enableRaised c.val).clearFailed c.val (s.clrShort c.val off) (s.clrEarly c.val off)).inc (F.GDI_CNT_CLR_REF_CNT c.val)
      else ((s.enableRaised c.val).putb (F.GDI_STAT_TRIPPED c.val) false).raise (F.GDI_EVT_CLR_OK c.val)
    else s.enableRaised c.val := by
  have sw : (s.putb (F.GDI_STAT_ENA_PIN c.val) true).flag (F.GDI_CTRL_SW_EN c.val) = true :=
    (State.flag_put_ne s (chan_words_ne c.val (by decide)) _).trans hsw
  have latch : (s.enableRaised c.val).flag (F.GDI_STAT_TRIPPED c.val) = s.flag (F.GDI_STAT_TRIPPED c.val) := enableRaised_stat s 0 (by decide)
  rw [State.enaRise, if_neg (by simp [hpin])]
  dsimp only
  rw [sw, when_true, enableRise_eq, ← latch, ← enableRaised_early (s := s), ← enableRaised_short (s := s)]
  rfl

end

/-! ### The events of a clearing -/

theorem clear_events (c : Chan) : (F.GDI_EVT_CLR_OK c.val).isEvent = true ∧ (F.GDI_EVT_CLR_SHORT c.val).isEvent = true ∧
    (F.GDI_EVT_CLR_REFUSED c.val).isEvent = true ∧ (F.GDI_EVT_CLR_REFUSED c.val).beside (F.GDI_EVT_CLR_SHORT c.val) = true := by
  revert c; decide

/-- A marked bit stands in its word as a raised one does. -/
theorem mark_rd (s : State) {e : Fld} (he : e.isEvent = true) : (s.mark e).rd e.addr = (s.raise e).rd e.addr :=
  (State.rd_wr_same ..).trans (rd_raiseAt_same s e.lo (event_low he) (event_quiet he) []).symm

/-- SEQ counts an event of a channel's gate drive (15 R439). -/
theorem gdiSeq_raise (s : State) {e : Fld} (he : e.isEvent = true) (ha : e.addr = A.GDI_EVT c.val) :
    bits ((s.raise e).rd (A.GDI_EVT c.val)) 31 24 = (bits (s.rd (A.GDI_EVT c.val)) 31 24 + 1) % 256 := by
  have seq : (Fld.mk (A.GDI_EVT c.val) 31 24).ok = true := chanFld_ok c.isLt (by decide)
  simp only [Fld.ok, Bool.and_eq_true, decide_eq_true_eq, beq_iff_eq] at seq
  have word : (s.raise e).rd (A.GDI_EVT c.val) = raised (s.rd (A.GDI_EVT c.val)) e.lo &&& implMask (A.GDI_EVT c.val) := by
    rw [← ha]
    exact raise_raised s (event_low he) (event_quiet he)
  rw [word, bits_and seq.1 seq.2, raised, bits_setBits_same (by decide), show 2 ^ (31 + 1 - 24) = 256 from rfl]

/-- A clearing that failed records what failed, SEQ counting for each (08 R260; 15 R439). -/
theorem clearFailed_shows (s : State) {short refused : Bool} (hf : short = true ∨ refused = true) :
    (short = true → (s.clearFailed c.val short refused).flag (F.GDI_EVT_CLR_SHORT c.val) = true) ∧
    (refused = true → (s.clearFailed c.val short refused).flag (F.GDI_EVT_CLR_REFUSED c.val) = true) ∧
    bits ((s.clearFailed c.val short refused).rd (A.GDI_EVT c.val)) 31 24 =
      (bits (s.rd (A.GDI_EVT c.val)) 31 24 + b2n short + b2n refused) % 256 := by
  obtain ⟨-, eShort, eRefused, beside⟩ := clear_events c
  have both : s.clearFailed c.val true true = (s.mark (F.GDI_EVT_CLR_SHORT c.val)).raise (F.GDI_EVT_CLR_REFUSED c.val) := by
    simp only [State.clearFailed, Bool.and_self, if_true]
  have one : s.clearFailed c.val true false = s.raise (F.GDI_EVT_CLR_SHORT c.val) := by
    simp only [State.clearFailed, Bool.and_false, Bool.false_eq_true, if_true, if_false]
  have other : s.clearFailed c.val false true = s.raise (F.GDI_EVT_CLR_REFUSED c.val) := by
    simp only [State.clearFailed, Bool.false_and, Bool.false_eq_true, if_false]
  match short, refused with
  | true, true =>
    have marked : (s.mark (F.GDI_EVT_CLR_SHORT c.val)).rd (A.GDI_EVT c.val) = (s.raise (F.GDI_EVT_CLR_SHORT c.val)).rd (A.GDI_EVT c.val) :=
      mark_rd s eShort
    rw [both, flag_raise_beside eRefused [] _ beside, State.flag_congr (State.get_congr (f := F.GDI_EVT_CLR_SHORT c.val) marked),
      gdiSeq_raise _ eRefused rfl, marked, gdiSeq_raise s eShort rfl]
    refine ⟨fun _ => flag_raise_own eShort [] s, fun _ => flag_raise_own eRefused [] _, ?_⟩
    simp only [b2n, if_true]
    omega
  | true, false =>
    rw [one, gdiSeq_raise s eShort rfl]
    exact ⟨fun _ => flag_raise_own eShort [] s, fun h => Bool.noConfusion h, rfl⟩
  | false, true =>
    rw [other, gdiSeq_raise s eRefused rfl]
    exact ⟨fun h => Bool.noConfusion h, fun _ => flag_raise_own eRefused [] s, rfl⟩
  | false, false => simp at hf

theorem Frame.clearFailed (h : Frame true ps W s u) (hw : W (A.GDI_EVT c.val)) (short refused : Bool) :
    Frame true ps W s (u.clearFailed c.val short refused) := by
  obtain ⟨-, eShort, eRefused, -⟩ := clear_events c
  unfold State.clearFailed
  split
  · exact (h.mark (f := F.GDI_EVT_CLR_SHORT c.val) hw).raise hw (event_low eRefused) []
  · split
    · exact h.raise hw (event_low eShort) []
    · exact h.raise hw (event_low eRefused) []

/-! ### ENABLE_RISING_EDGE and OFF_DRIVE_END -/

section
variable (hr : s.t.held = false) (hpin : s.flag (F.GDI_STAT_ENA_PIN c.val) = false)
include hr hpin

theorem completes_rise_pin (hsw : s.flag (F.GDI_CTRL_SW_EN c.val) = false) : completes (.enableRisingEdge c off) s fun t =>
    Edited (A.GDI_STAT c.val) [(F.GDI_STAT_ENA_PIN c.val, 1)] s t ∧ Frame false [] (· = A.GDI_STAT c.val) s t := by
  refine completes_live rfl hr ?_
  rw [enaRise_pin hpin hsw]
  exact ⟨(settle_rd ..).trans (edited_put s (F.GDI_STAT_ENA_PIN c.val) 1), ((Frame.refl false [] (· = A.GDI_STAT c.val) s).putb (f := F.GDI_STAT_ENA_PIN c.val) rfl true).settle⟩

variable (hsw : s.flag (F.GDI_CTRL_SW_EN c.val) = true)
include hsw

theorem completes_rise_enabled (ht : s.flag (F.GDI_STAT_TRIPPED c.val) = false) : completes (.enableRisingEdge c off) s fun t =>
    Edited (A.GDI_STAT c.val) [(F.GDI_STAT_ENA_PIN c.val, 1), (F.GDI_STAT_EFF_EN c.val, 1)] s t ∧ Frame false [] (· = A.GDI_STAT c.val) s t := by
  refine completes_live rfl hr ?_
  rw [enaRise_enabled hpin hsw, ht, if_neg Bool.false_ne_true]
  exact ⟨(settle_rd ..).trans (edited_put_put (f := F.GDI_STAT_ENA_PIN c.val) (g := F.GDI_STAT_EFF_EN c.val) rfl (by decide : 1 < 32) s 1 1),
    ((Frame.refl false [] (· = A.GDI_STAT c.val) s).enableRaised rfl).settle⟩

variable (ht : s.flag (F.GDI_STAT_TRIPPED c.val) = true)
include ht

theorem completes_rise_cleared (hs : s.clrShort c.val off = false) (he : s.clrEarly c.val off = false) :
    completes (.enableRisingEdge c off) s fun t =>
      t.flag (F.GDI_STAT_TRIPPED c.val) = false ∧ t.effEn c.val = true ∧ Raised (F.GDI_EVT_CLR_OK c.val) s t ∧
      t.rd (A.GDI_SRC c.val) = s.rd (A.GDI_SRC c.val) ∧ t.rd (A.GDI_CNT c.val) = s.rd (A.GDI_CNT c.val) ∧
      Frame true [] (· ∈ [A.GDI_STAT c.val, A.GDI_EVT c.val]) s t := by
  obtain ⟨event, -, -, -⟩ := clear_events c
  have frame : Frame true [] (· ∈ [A.GDI_STAT c.val, A.GDI_EVT c.val]) s
      (((s.enableRaised c.val).putb (F.GDI_STAT_TRIPPED c.val) false).raise (F.GDI_EVT_CLR_OK c.val)) :=
    (((Frame.refl ..).enableRaised (by simp)).putb (f := F.GDI_STAT_TRIPPED c.val) (by simp [F.GDI_STAT_TRIPPED]) false).raise
      (by simp [F.GDI_EVT_CLR_OK]) (event_low event) []
  have stat : (((s.enableRaised c.val).putb (F.GDI_STAT_TRIPPED c.val) false).raise (F.GDI_EVT_CLR_OK c.val)).rd (A.GDI_STAT c.val) =
      ((s.enableRaised c.val).putb (F.GDI_STAT_TRIPPED c.val) false).rd (A.GDI_STAT c.val) :=
    raise_rd event [] _ (chan_words_ne c.val (by decide)) (chan_word_quiet ..)
  have apart : ∀ {o : Nat}, o ≠ 0x6008 → o ≠ 0x600C → chBase c.val + o ∉ [A.GDI_STAT c.val, A.GDI_EVT c.val] := fun h h' => by
    simp only [List.mem_cons, List.not_mem_nil, or_false, A.GDI_STAT, A.GDI_EVT]; omega
  refine completes_live rfl hr ?_
  rw [enaRise_enabled hpin hsw, ht, hs, he, Bool.or_self, if_pos rfl, if_neg Bool.false_ne_true]
  refine ⟨(settle_flag ..).trans ((State.flag_congr (State.get_congr (f := F.GDI_STAT_TRIPPED c.val) stat)).trans
      (stat_putb _ (i := 0) (j := 0) (by decide) (by decide) false)),
    (settle_flag ..).trans ((State.flag_congr (State.get_congr (f := F.GDI_STAT_EFF_EN c.val) stat)).trans
      ((stat_putb _ (i := 0) (j := 1) (by decide) (by decide) false).trans (enableRaised_stat s 1 (by decide)))),
    raised_congr (raise_raised _ (event_low event) (event_quiet event)) ?before (settle_rd ..),
    frame.settle.words _ (apart (by decide) (by decide)) fun _ => chan_word_quiet ..,
    frame.settle.words _ (apart (by decide) (by decide)) fun _ => chan_word_quiet .., frame.settle⟩
  case before =>
    exact ((State.rd_put_ne _ (chan_words_ne c.val (by decide)) _).trans (enableRaised_rd (chan_words_ne c.val (by decide)))).symm

theorem completes_rise_refused (hf : s.clrShort c.val off = true ∨ s.clrEarly c.val off = true) :
    completes (.enableRisingEdge c off) s fun t =>
      t.flag (F.GDI_STAT_TRIPPED c.val) = true ∧ t.effEn c.val = true ∧ Counted (F.GDI_CNT_CLR_REF_CNT c.val) s t ∧
      (s.clrShort c.val off = true → t.flag (F.GDI_EVT_CLR_SHORT c.val) = true) ∧
      (s.clrEarly c.val off = true → t.flag (F.GDI_EVT_CLR_REFUSED c.val) = true) ∧
      bits (t.rd (A.GDI_EVT c.val)) 31 24 =
        (bits (s.rd (A.GDI_EVT c.val)) 31 24 + b2n (s.clrShort c.val off) + b2n (s.clrEarly c.val off)) % 256 ∧
      Frame true [] (· ∈ [A.GDI_STAT c.val, A.GDI_EVT c.val, A.GDI_CNT c.val]) s t := by
  have fails : (s.clrShort c.val off || s.clrEarly c.val off) = true := Bool.or_eq_true_iff.mpr hf
  refine completes_live rfl hr ?_
  rw [enaRise_enabled hpin hsw, ht, fails, if_pos rfl, if_pos rfl]
  generalize s.clrShort c.val off = short at hf ⊢
  generalize s.clrEarly c.val off = refused at hf ⊢
  obtain ⟨isShort, isEarly, seq⟩ := clearFailed_shows (c := c) (s.enableRaised c.val) hf
  have recorded : ∀ {o : Nat}, o ≠ 0x600C →
      ((s.enableRaised c.val).clearFailed c.val short refused).rd (chBase c.val + o) = (s.enableRaised c.val).rd (chBase c.val + o) := fun ho =>
    ((Frame.refl true [] (· = A.GDI_EVT c.val) (s.enableRaised c.val)).clearFailed rfl short refused).words _ (chan_words_ne c.val ho)
      fun _ => chan_word_quiet ..
  have frame : Frame true [] (· ∈ [A.GDI_STAT c.val, A.GDI_EVT c.val, A.GDI_CNT c.val]) s
      ((s.enableRaised c.val).clearFailed c.val short refused) :=
    ((Frame.refl ..).enableRaised (by simp)).clearFailed (by simp) short refused
  generalize hx : (s.enableRaised c.val).clearFailed c.val short refused = x at isShort isEarly seq recorded frame ⊢
  have counted : ∀ {o : Nat}, o ≠ 0x601C → (settle s (x.inc (F.GDI_CNT_CLR_REF_CNT c.val))).rd (chBase c.val + o) = x.rd (chBase c.val + o) :=
    fun ho => (settle_rd ..).trans (State.rd_put_ne x (chan_words_ne c.val ho) _)
  have stat : (settle s (x.inc (F.GDI_CNT_CLR_REF_CNT c.val))).rd (A.GDI_STAT c.val) = (s.enableRaised c.val).rd (A.GDI_STAT c.val) :=
    (counted (by decide)).trans (recorded (by decide))
  have events : (settle s (x.inc (F.GDI_CNT_CLR_REF_CNT c.val))).rd (A.GDI_EVT c.val) = x.rd (A.GDI_EVT c.val) := counted (by decide)
  refine ⟨(State.flag_congr (State.get_congr (f := F.GDI_STAT_TRIPPED c.val) stat)).trans ((enableRaised_stat s 0 (by decide)).trans ht),
    (State.flag_congr (State.get_congr (f := F.GDI_STAT_EFF_EN c.val) stat)).trans (enableRaised_stat s 1 (by decide)),
    counted_congr (counted_inc x (chanFld_ok c.isLt (by decide))) ?before (settle_rd ..),
    fun h => (State.flag_congr (State.get_congr (f := F.GDI_EVT_CLR_SHORT c.val) events)).trans (isShort h),
    fun h => (State.flag_congr (State.get_congr (f := F.GDI_EVT_CLR_REFUSED c.val) events)).trans (isEarly h), ?seq,
    (frame.inc (by simp [F.GDI_CNT_CLR_REF_CNT]) 1).settle⟩
  case before => exact ((recorded (o := 0x601C) (by decide)).trans (enableRaised_rd (chan_words_ne c.val (by decide)))).symm
  case seq => rw [events, seq, enableRaised_rd (s := s) (a := A.GDI_EVT c.val) (chan_words_ne c.val (by decide))]

end

/-- High impedance where the latch is set or the enable is low, once the off-drive is over (08 R240, R256). -/
theorem gateBalls_off {c : Nat} (k : Nat) (hd : (s.chn c).offDrive = false) (h : s.flag (F.GDI_STAT_TRIPPED c) = true ∨ s.effEn c = false) :
    s.gateBalls c k = (.z, .z) := by
  unfold State.gateBalls
  dsimp only
  rw [hd]
  split
  · rfl
  · rcases h with tripped | low
    · rw [tripped, if_pos (by decide)]
    · rw [low]
      split
      · rfl
      · rw [if_pos (by decide)]

theorem completes_offDriveEnd (hr : s.t.held = false) : completes (.offDriveEnd c) s fun t => (t.chn c.val).offDrive = false ∧
    (s.flag (F.GDI_STAT_TRIPPED c.val) = true ∨ s.effEn c.val = false → ∀ h : HbIx, t.gateBalls c.val h.val = (.z, .z)) ∧
    Frame false [.chan c.val] (fun _ => False) s t := by
  have ended : ((settle s (s.offDriveEnd c.val)).chn c.val).offDrive = false := by
    rw [settle_chn, State.offDriveEnd, State.chn_modCh_same s c.isLt]
  have words : ∀ f, (settle s (s.offDriveEnd c.val)).flag f = s.flag f := fun f => (settle_flag ..).trans (State.modCh_flag ..)
  refine completes_live rfl hr ⟨ended, fun h k => gateBalls_off k.val ended ?_, ((Frame.refl ..).modCh (by simp) _).settle⟩
  rwa [State.effEn, words, words]

/-- Settles O24: the fall; the rise by the enable bit, the latch and the two times; the end of the off-drive. -/
theorem tripsClearOnlyByAGoodToggle : Obligations.TripsClearOnlyByAGoodToggle := by
  intro s c off hr
  refine ⟨completes_chnEnaFall hr, fun hpin => ⟨completes_rise_pin hr hpin, fun hsw => ⟨completes_rise_enabled hr hpin hsw, fun ht => ?_⟩⟩,
    completes_offDriveEnd hr⟩
  rintro short refused rfl rfl
  exact ⟨completes_rise_cleared hr hpin hsw ht, completes_rise_refused hr hpin hsw ht⟩

end Sys2Proof.Machine
end

section
/-! SUPPORT. Capture units, and what a comparator's crossing changes before its protection acts (08 R249–R252, R267). -/

namespace Sys2Proof.Machine

variable {α : Type} {ev : Bool} {ps : List Part} {W : Nat → Prop} {s u x : State} {c : Chan} {h : Nat} {off : Nat}

/-! ### A capture unit -/

/-- Unit `u` selects this crossing (08 R267). -/
def State.captureHits (s : State) (c h : Nat) (l2 fall : Bool) (u : Nat) : Bool :=
  s.flag (F.GDI_CAPCFG_EN c u) && s.get (F.GDI_CAPCFG_HB c u) == h && s.flag (F.GDI_CAPCFG_LVL c u) == l2 &&
    s.flag (F.GDI_CAPCFG_EDGE c u) == fall

/-- Unit `u` captures the delay `d`, counts and records it (08 R267). -/
def State.captured (c u d : Nat) (s : State) : State := ((s.put (F.GDI_CAP_DELAY c u) d).inc (F.GDI_CAP_COUNT c u)).raise (F.GDI_EVT_CAP c)

/-- Unit `u` captures where it selects the crossing. -/
def State.captureUnit (c h : Nat) (l2 fall : Bool) (u d : Nat) (s : State) : State :=
  s.when (s.captureHits c h l2 fall u) (State.captured c u d)

/-- A crossing reaches both units, each with its own delay. -/
theorem capture_units (s : State) (c h : Nat) (l2 fall : Bool) (off : Nat) : ∃ d e, s.capture c h l2 fall off =
    (s.captureUnit c h l2 fall 0 d).captureUnit c h l2 fall 1 e := by
  simp only [State.capture, State.each, List.foldl_cons, List.foldl_nil, State.captureUnit, State.captured, State.captureHits, State.when]
  exact ⟨_, _, rfl⟩

theorem cap_event (c : Chan) : (F.GDI_EVT_CAP c.val).isEvent = true := by revert c; decide

theorem capCount_ok (c : Chan) (u : Fin 2) : (F.GDI_CAP_COUNT c.val u.val).ok = true := by revert c u; decide

theorem captured_rd (s : State) {u a : Nat} (d : Nat) (ha : a ≠ A.GDI_CAP c.val u) (he : a ≠ A.GDI_EVT c.val) (hq : bookAddr a = false) :
    (s.captured c.val u d).rd a = s.rd a :=
  (raise_rd (cap_event c) [] _ he hq).trans ((State.rd_put_ne _ ha _).trans (State.rd_put_ne s ha _))

theorem captured_chn (s : State) (u d k : Nat) : (s.captured c.val u d).chn k = s.chn k := raise_chn (cap_event c) [] _ k

/-- The words of the units are apart from the status word. -/
theorem cap_ne_evt (c u : Nat) : A.GDI_CAP c u ≠ A.GDI_EVT c := by simp only [A.GDI_CAP, A.GDI_EVT]; omega

theorem cap_quiet (c u : Nat) : bookAddr (A.GDI_CAP c u) = false := bookAddr_chan (by simp only [A.GDI_CAP, chBase]; omega)

theorem captured_counted (s : State) (u : Fin 2) (d : Nat) : Counted (F.GDI_CAP_COUNT c.val u.val) s (s.captured c.val u.val d) := by
  have counted := counted_inc (s.put (F.GDI_CAP_DELAY c.val u.val) d) (capCount_ok c u)
  have beside : (s.put (F.GDI_CAP_DELAY c.val u.val) d).get (F.GDI_CAP_COUNT c.val u.val) = s.get (F.GDI_CAP_COUNT c.val u.val) :=
    State.get_put_field s (f := F.GDI_CAP_DELAY c.val u.val) (capCount_ok c u) (show 19 < 32 by decide) rfl (.inl (show 19 < 20 by decide)) d
  rw [Counted, ← beside]
  exact (State.get_congr (raise_rd (cap_event c) [] _ (cap_ne_evt _ _) (cap_quiet ..))).trans counted

theorem captureUnit_rd (s : State) {l2 fall : Bool} {u a : Nat} (d : Nat) (ha : a ≠ A.GDI_CAP c.val u) (he : a ≠ A.GDI_EVT c.val)
    (hq : bookAddr a = false) : (s.captureUnit c.val h l2 fall u d).rd a = s.rd a :=
  State.when_unseen (fun y => y.rd a) (fun y => captured_rd y d ha he hq) s _

/-- An event of the units, once recorded, stays. -/
theorem captureUnit_event (s : State) {l2 fall : Bool} (u d : Nat) (he : s.flag (F.GDI_EVT_CAP c.val) = true) :
    (s.captureUnit c.val h l2 fall u d).flag (F.GDI_EVT_CAP c.val) = true := by
  unfold State.captureUnit State.when
  split
  · exact flag_raise_own (cap_event c) [] _
  · exact he

theorem captureUnit_counts (s : State) {l2 fall : Bool} (u : Fin 2) (d : Nat) (hit : s.captureHits c.val h l2 fall u.val = true) :
    Counted (F.GDI_CAP_COUNT c.val u.val) s (s.captureUnit c.val h l2 fall u.val d) ∧
      (s.captureUnit c.val h l2 fall u.val d).flag (F.GDI_EVT_CAP c.val) = true := by
  rw [State.captureUnit, hit, when_true]
  exact ⟨captured_counted s u d, flag_raise_own (cap_event c) [] _⟩

/-- What a unit selects stays while the other one captures. -/
theorem captureUnit_hits (s : State) {l2 fall : Bool} (d : Nat) :
    (s.captureUnit c.val h l2 fall 0 d).captureHits c.val h l2 fall 1 = s.captureHits c.val h l2 fall 1 := by
  have word : (s.captureUnit c.val h l2 fall 0 d).rd (A.GDI_CAPCFG c.val 1) = s.rd (A.GDI_CAPCFG c.val 1) :=
    captureUnit_rd s d (by simp only [A.GDI_CAPCFG, A.GDI_CAP]; omega) (by simp only [A.GDI_CAPCFG, A.GDI_EVT]; omega)
      (bookAddr_chan (by simp only [A.GDI_CAPCFG, chBase]; omega))
  simp only [State.captureHits, State.flag, State.get_congr (f := F.GDI_CAPCFG_EN c.val 1) word, State.get_congr (f := F.GDI_CAPCFG_HB c.val 1) word,
    State.get_congr (f := F.GDI_CAPCFG_LVL c.val 1) word, State.get_congr (f := F.GDI_CAPCFG_EDGE c.val 1) word]

/-- The crossing is counted by every unit that selects it, and recorded (08 R267). -/
theorem capture_counts (s : State) {l2 fall : Bool} (off : Nat) (u : Fin 2) (hit : s.captureHits c.val h l2 fall u.val = true) :
    Counted (F.GDI_CAP_COUNT c.val u.val) s (s.capture c.val h l2 fall off) ∧
      (s.capture c.val h l2 fall off).flag (F.GDI_EVT_CAP c.val) = true := by
  obtain ⟨d, e, units⟩ := capture_units s c.val h l2 fall off
  have apart : A.GDI_CAP c.val 0 ≠ A.GDI_CAP c.val 1 := by simp only [A.GDI_CAP]; omega
  rw [units]
  match u with
  | 0 =>
    obtain ⟨counted, event⟩ := captureUnit_counts s 0 d hit
    exact ⟨counted_congr counted rfl (captureUnit_rd _ e apart (cap_ne_evt _ _) (cap_quiet ..)), captureUnit_event _ 1 e event⟩
  | 1 =>
    obtain ⟨counted, event⟩ := captureUnit_counts (s.captureUnit c.val h l2 fall 0 d) 1 e ((captureUnit_hits s d).trans hit)
    exact ⟨counted_congr counted (captureUnit_rd s d apart.symm (cap_ne_evt _ _) (cap_quiet ..)).symm rfl, event⟩

theorem capture_chn (s : State) (l2 fall : Bool) (off k : Nat) : (s.capture c.val h l2 fall off).chn k = s.chn k := by
  obtain ⟨d, e, units⟩ := capture_units s c.val h l2 fall off
  have unit : ∀ (y : State) (u d : Nat), (y.captureUnit c.val h l2 fall u d).chn k = y.chn k := fun y u d =>
    State.when_unseen (fun z => z.chn k) (fun z => captured_chn z u d k) y _
  rw [units, unit, unit]

theorem capture_gate (s : State) (l2 fall : Bool) (off k : Nat) : (s.capture c.val h l2 fall off).gate c.val k = s.gate c.val k := by
  rw [State.gate, capture_chn, State.gate]

theorem capture_rd (s : State) (l2 fall : Bool) (off : Nat) {o : Nat} (ho : o < 0x6200 ∨ 0x6220 ≤ o) (he : o ≠ 0x600C) :
    (s.capture c.val h l2 fall off).rd (chBase c.val + o) = s.rd (chBase c.val + o) := by
  obtain ⟨d, e, units⟩ := capture_units s c.val h l2 fall off
  have apart : ∀ u < 2, chBase c.val + o ≠ A.GDI_CAP c.val u := fun u hu => by simp only [A.GDI_CAP]; omega
  rw [units, captureUnit_rd _ e (apart 1 (by decide)) (chan_words_ne c.val he) (chan_word_quiet ..),
    captureUnit_rd _ d (apart 0 (by decide)) (chan_words_ne c.val he) (chan_word_quiet ..)]

/-! ### A crossing before its protection acts -/

/-- Words that a crossing changes before its protection acts: the trip inputs and what shows them, and the captures. -/
abbrev sensedWords (c : Nat) : List Nat := [A.GDI_IN c, A.GDI_STAT c, A.GDI_EVT c, A.GDI_CAP c 0, A.GDI_CAP c 1]

/-- A crossing at half-bridge `h` of channel `c` has been seen, and its protection has not acted yet. -/
structure Sensed (c : Chan) (h : Nat) (s x : State) : Prop where
  frame : Frame true [.chan c.val] (· ∈ sensedWords c.val) s x
  tripped : x.flag (F.GDI_STAT_TRIPPED c.val) = s.flag (F.GDI_STAT_TRIPPED c.val)
  run : x.holdRun c.val h = s.holdRun c.val h

namespace Sensed

theorem refl (c : Chan) (h : Nat) (s : State) : Sensed c h s s := ⟨Frame.refl .., rfl, rfl⟩

theorem marked (hs : Sensed c h s x) {f : GateSt → GateSt} (hf : ∀ g, (f g).holdRun = g.holdRun) : Sensed c h s (x.modGate c.val h f) where
  frame := hs.frame.modGate (by simp) h f
  tripped := hs.tripped
  run := (holdRun_modGate hf ..).trans hs.run

theorem capture (hs : Sensed c h s x) (l2 fall : Bool) (off : Nat) : Sensed c h s (x.capture c.val h l2 fall off) where
  frame := hs.frame.capture c.isLt (fun j hj => by
    have two : j = 0 ∨ j = 1 := by omega
    rcases two with rfl | rfl <;> simp) (by simp) h l2 fall off
  tripped := (State.flag_congr (State.get_congr (capture_rd x l2 fall off (o := 0x6008) (.inl (by decide)) (by decide)))).trans hs.tripped
  run := (congrArg GateSt.holdRun (capture_gate x l2 fall off h)).trans hs.run

theorem tripIn (hs : Sensed c h s x) (code : Nat) (act : Bool) (off : Nat) : Sensed c h s (x.tripIn c.val code act off) where
  frame := hs.frame.tripIn (by simp) (by simp) (by simp) code act off
  tripped := (tripIn_tripped c.isLt x code act off).trans hs.tripped
  run := (congrArg GateSt.holdRun (tripIn_gate x ..)).trans hs.run

variable (hs : Sensed c h s x)
include hs

theorem rd {o : Nat} (ho : 0x6014 < o) (hc : o < 0x6200 ∨ 0x6220 ≤ o) : x.rd (chBase c.val + o) = s.rd (chBase c.val + o) := by
  refine hs.frame.words _ ?_ fun _ => chan_word_quiet ..
  simp only [sensedWords, List.mem_cons, List.not_mem_nil, or_false, A.GDI_IN, A.GDI_STAT, A.GDI_EVT, A.GDI_CAP]
  omega

theorem sns (hh : h < 10) : x.rd (A.GDI_SNS c.val h) = s.rd (A.GDI_SNS c.val h) := by
  rw [A.GDI_SNS, Nat.add_assoc]
  exact hs.rd (by omega) (by omega)

theorem record : ∀ a ∈ recordWords c.val, x.rd a = s.rd a := by
  intro a ha
  refine hs.frame.words a ?_ fun _ => ?_
  · simp only [recordWords, List.mem_cons, List.not_mem_nil, or_false, A.GDI_SRC, A.GDI_TRQ_N, A.GDI_CNT, A.ROLE_SEL, A.ROLE_STAT,
      A.SYS_TICK_CNT_LO, chBase] at ha
    simp only [sensedWords, List.mem_cons, List.not_mem_nil, or_false, A.GDI_IN, A.GDI_STAT, A.GDI_EVT, A.GDI_CAP, chBase]
    omega
  · simp only [recordWords, List.mem_cons, List.not_mem_nil, or_false] at ha
    rcases ha with rfl | rfl | rfl | rfl | rfl | rfl
    case inr.inr.inr.inr.inr => decide
    all_goals exact chan_word_quiet ..

theorem isStatic (k : Nat) : x.isStatic c.val k = s.isStatic c.val k := by
  refine isStatic_congr (fun a ha => ?_) k
  simp only [staticWords, List.mem_cons, List.not_mem_nil, or_false] at ha
  rcases ha with rfl | rfl | rfl | rfl <;> exact hs.rd (by decide) (by decide)

end Sensed

/-! ### What a trip leaves of the captures and of the roles' settings -/

theorem trip_rd_settings (s : State) {o : Nat} (h : 0x6080 ≤ o ∧ o < 0xC000 ∨ o ∈ [0xC000, 0xC100, 0xC400, 0xC500]) (code inp off : Nat) :
    (s.trip c.val code inp off).rd (chBase c.val + o) = s.rd (chBase c.val + o) := by
  refine (Frame.trip c.isLt (Frame.refl true [.chan c.val] (tripWords c.val) s) (by simp) (fun _ ha => ha) code inp off).words _ ?_
    fun _ => chan_word_quiet ..
  simp only [List.mem_cons, List.not_mem_nil, or_false] at h
  rintro (hw | ⟨k, hk, hw | hw⟩)
  · simp only [List.mem_cons, List.not_mem_nil, or_false, A.GDI_STAT, A.GDI_SRC, A.GDI_TRQ_N, A.GDI_CNT, A.GDI_EVT, A.PWM_FORCE,
      A.PWM_FSTAT, A.ROLE_STAT, A.GRID_STAT, A.GRID_EVT, A.DC_STAT, A.DC_EVT, A.MACH_STAT, A.MACH_EVT, A.RIDE_CH_STAT] at hw
    omega
  all_goals simp only [A.GDI_TRQ_A, A.GDI_TRQ_B] at hw; omega

theorem trip_capture (s : State) (u : Fin 2) (code inp off : Nat) :
    (s.trip c.val code inp off).rd (A.GDI_CAP c.val u.val) = s.rd (A.GDI_CAP c.val u.val) := by
  rw [A.GDI_CAP, Nat.add_assoc]
  exact trip_rd_settings s (.inl (by omega)) code inp off

theorem trip_isStatic (s : State) (code inp off k : Nat) : (s.trip c.val code inp off).isStatic c.val k = s.isStatic c.val k := by
  refine isStatic_congr (fun a ha => ?_) k
  simp only [staticWords, List.mem_cons, List.not_mem_nil, or_false] at ha
  rcases ha with rfl | rfl | rfl | rfl <;> exact trip_rd_settings s (.inr (by decide)) code inp off

theorem trip_capEvent (s : State) (code inp off : Nat) :
    (s.trip c.val code inp off).flag (F.GDI_EVT_CAP c.val) = s.flag (F.GDI_EVT_CAP c.val) := by
  have beside : (F.GDI_EVT_TRIP c.val).beside (F.GDI_EVT_CAP c.val) = true := by revert c; decide
  exact trip_event_beside beside s

end Sys2Proof.Machine
end

section
/-! SUPPORT. A cycle-by-cycle hold keeps the outputs low, also where it trips the channel (08 R244, R253, R256). -/

namespace Sys2Proof.Machine

variable {s x : State} {c : Chan} {h k : Nat} {off : Nat}

/-- After forcing, HI and LO of every half-bridge stand as their commands form them (07 R233; 08 R244). -/
theorem formed_applyForce (s : State) (hk : k < 10) : Formed c.val k (s.applyForce c.val) := by
  have mem : k ∈ hbs := by simp only [hbs, List.mem_cons]; omega
  have keeps : ∀ j ∈ hbs, ∀ y, Formed c.val k y → Formed c.val k (y.gateUpdate c.val j) := fun j _ y hy => by
    by_cases same : j = k
    · exact same ▸ formed_gateUpdate y c.isLt (same ▸ hk)
    · exact hy.of_same (fun a _ => gateUpdate_rd y c.val j a) (gateUpdate_hb ..) (gateUpdate_gate_ne y same)
  rw [applyForce_eq, forceSlots_eq]
  exact State.each_establishes (P := Formed c.val k) (Q := fun _ => True) mem (fun _ _ _ _ => trivial) keeps
    (fun y _ => formed_gateUpdate y c.isLt hk) trivial

/-- An event of the gate drive leaves HI and LO as formed. -/
theorem Formed.raise {e : Fld} (hf : Formed c.val k s) (he : e.isEvent = true) (ha : e.addr = A.GDI_EVT c.val) : Formed c.val k (s.raise e) := by
  refine hf.of_same (fun a hm => ?_) (raise_hb he [] s ..) (raise_gate he [] s ..)
  simp only [gateWords, List.mem_cons, List.not_mem_nil, or_false] at hm
  rcases hm with rfl | rfl | rfl | rfl | rfl | rfl | rfl | rfl | rfl <;>
    exact raise_rd he [] s (ha ▸ chan_words_ne c.val (by decide)) (chan_word_quiet ..)

/-- Both outputs of half-bridge `k` are low. -/
def LowOutputs (c k : Nat) (s : State) : Prop := (s.gate c k).hi = false ∧ (s.gate c k).lo = false

/-- Outputs formed under a hold are low. -/
theorem Formed.low (hf : Formed c.val k s) (hs : s.isStatic c.val k = false) (hh : s.bitOf (F.GDI_STAT_CBC_HOLD c.val) k = true) :
    LowOutputs c.val k s := by
  obtain ⟨hi, lo⟩ := gateCmd_cbcHold hs hh
  exact ⟨hf.1.trans hi, hf.2.trans lo⟩

/-- A trip leaves outputs low that a hold keeps low. -/
theorem trip_low (hk : k < 10) (hs : s.isStatic c.val k = false) (hh : s.bitOf (F.GDI_STAT_CBC_HOLD c.val) k = true)
    (hl : LowOutputs c.val k s) (code inp off : Nat) : LowOutputs c.val k (s.trip c.val code inp off) := by
  cases hn : s.flag (F.GDI_STAT_TRIPPED c.val)
  · have formed : Formed c.val k (s.trip c.val code inp off) := by
      rw [trip_eq hn]
      exact (formed_applyForce _ hk).raise (trip_event c) rfl
    exact formed.low ((trip_isStatic ..).trans hs) ((trip_cbcHold ..).trans hh)
  · have same : (s.trip c.val code inp off).chn c.val = s.chn c.val := by
      rw [trip_again hn]
      exact ((Frame.refl false [] (fun _ => True) s).trqEntry (fun _ _ => trivial) code inp off).parts (.chan c.val) (by simp)
    rw [LowOutputs, State.gate, same]
    exact hl

/-- A hold as it is shown. -/
theorem cbcShown_hold (hh : h < 10) : (s.cbcShown c.val h).bitOf (F.GDI_STAT_CBC_HOLD c.val) h = true := by
  have word : (s.cbcShown c.val h).rd (A.GDI_STAT c.val) = (s.putBit (F.GDI_STAT_CBC_HOLD c.val) h true).rd (A.GDI_STAT c.val) :=
    (gateUpdate_rd ..).trans ((raise_rd (cbc_event c) [] _ (chan_words_ne c.val (by decide)) (chan_word_quiet ..)).trans
      (State.rd_put_ne _ (chan_words_ne c.val (by decide)) _))
  refine (State.bitOf_congr (State.get_congr (f := F.GDI_STAT_CBC_HOLD c.val) word) h).trans ?_
  refine (State.bitOf_putBit_true s (f := F.GDI_STAT_CBC_HOLD c.val) (j := h) (chanFld_ok c.isLt (by decide)) ?_ h).trans ?_
  · simp only [F.GDI_STAT_CBC_HOLD]; omega
  · rw [beq_self_eq_true, Bool.or_true]

theorem cbcShown_isStatic (s : State) (h k : Nat) : (s.cbcShown c.val h).isStatic c.val k = s.isStatic c.val k := by
  refine isStatic_congr (fun a ha => ?_) k
  simp only [staticWords, List.mem_cons, List.not_mem_nil, or_false] at ha
  rcases ha with rfl | rfl | rfl | rfl <;> exact cbcShown_rd s c h (.inr (by decide))

theorem cbcShown_low (hh : h < 10) (hs : s.isStatic c.val h = false) : LowOutputs c.val h (s.cbcShown c.val h) :=
  (formed_gateUpdate _ c.isLt hh).low ((cbcShown_isStatic ..).trans hs) (cbcShown_hold hh)

theorem cbcMarked_low (hh : h < 10) (hl : LowOutputs c.val h s) (n : Nat) : LowOutputs c.val h (s.cbcMarked c.val h n) := by
  rw [LowOutputs, State.cbcMarked, gate_modGate s c.isLt hh]
  exact hl

theorem cbcMarked_bitOf (s : State) (n : Nat) :
    (s.cbcMarked c.val h n).bitOf (F.GDI_STAT_CBC_HOLD c.val) h = s.bitOf (F.GDI_STAT_CBC_HOLD c.val) h :=
  State.bitOf_congr (State.modGate_get ..) h

theorem cbcMarked_isStatic (s : State) (n : Nat) : (s.cbcMarked c.val h n).isStatic c.val k = s.isStatic c.val k :=
  isStatic_congr (fun _ _ => State.modGate_rd ..) k

/-- The count of periods in a row with a hold, this one with it (08 R253). -/
def State.cbcNext (s : State) (c h : Nat) : Nat := (s.gate c h).cbcRun + b2n (!(s.gate c h).cbcNow)

theorem cbcNext_eq (s : State) (c h : Nat) :
    (if (s.gate c h).cbcNow then (s.gate c h).cbcRun else (s.gate c h).cbcRun + 1) = s.cbcNext c h := by
  rw [State.cbcNext]
  cases (s.gate c h).cbcNow <;> rfl

/-- A hold trips where its count reaches a limit that is set. -/
theorem cbcHold_trips (s : State) (hh : h < 10) (off : Nat) : s.cbcHold c.val h off =
    ((s.cbcShown c.val h).cbcMarked c.val h (s.cbcNext c.val h)).when
      (s.get (F.GDI_SNS_CBC_N c.val h) != 0 && decide (s.get (F.GDI_SNS_CBC_N c.val h) ≤ s.cbcNext c.val h))
      fun y => y.trip c.val (0x10 + h) 0 off := by
  obtain ⟨now, run⟩ := cbcShown_count s c hh
  have limit : ((s.cbcShown c.val h).cbcMarked c.val h (s.cbcNext c.val h)).get (F.GDI_SNS_CBC_N c.val h) = s.get (F.GDI_SNS_CBC_N c.val h) :=
    (State.modGate_get ..).trans (cbcShown_limit s c h)
  rw [cbcHold_eq s c.val h off (n := s.cbcNext c.val h) (by rw [now, run, cbcNext_eq]), limit]

theorem cbcHold_low (hh : h < 10) (hs : s.isStatic c.val h = false) (off : Nat) : LowOutputs c.val h (s.cbcHold c.val h off) := by
  have low := cbcMarked_low hh (cbcShown_low hh hs) (s.cbcNext c.val h)
  have hold := (cbcMarked_bitOf (s.cbcShown c.val h) (s.cbcNext c.val h)).trans (cbcShown_hold (s := s) hh)
  have switches := ((cbcMarked_isStatic (h := h) (s.cbcShown c.val h) (s.cbcNext c.val h)).trans (cbcShown_isStatic s h h)).trans hs
  rw [cbcHold_trips s hh]
  unfold State.when
  split
  · exact trip_low hh switches hold low _ _ _
  · exact low

/-- What a hold is shown with leaves the record of a trip. -/
theorem cbcMarked_record (s : State) (h n : Nat) :
    ∀ a ∈ recordWords c.val, ((s.cbcShown c.val h).cbcMarked c.val h n).rd a = s.rd a := by
  intro a ha
  refine (State.modGate_rd ..).trans ((Frame.cbcShown s c h).words a ?_ fun _ => ?_)
  · simp only [recordWords, List.mem_cons, List.not_mem_nil, or_false, A.GDI_SRC, A.GDI_TRQ_N, A.GDI_CNT, A.ROLE_SEL, A.ROLE_STAT,
      A.SYS_TICK_CNT_LO, chBase] at ha
    simp only [List.mem_cons, List.not_mem_nil, or_false, A.GDI_STAT, A.GDI_CNT2, A.GDI_EVT, chBase]
    omega
  · simp only [recordWords, List.mem_cons, List.not_mem_nil, or_false] at ha
    rcases ha with rfl | rfl | rfl | rfl | rfl | rfl
    case inr.inr.inr.inr.inr => decide
    all_goals exact chan_word_quiet ..

end Sys2Proof.Machine
end

section
/-! SUPPORT. L1 by its mode, L2, and the fall of a comparator's output (08 R249–R253, R260, R267). -/

namespace Sys2Proof.Machine

variable {s x : State} {c : Chan} {h : Nat} {off : Nat}

/-! ### L1 acts by its mode -/

theorem Sensed.when (hs : Sensed c h s x) {f : State → State} (hf : ∀ y, Sensed c h s y → Sensed c h s (f y)) (b : Bool) :
    Sensed c h s (x.when b f) := by
  cases b
  · exact hs
  · exact hf x hs

/-- The count of holds in a row is read from what a hold keeps for its half-bridge. -/
theorem Sensed.cbcNext (hs : Sensed c h s x) : x.cbcNext c.val h = s.cbcNext c.val h :=
  congrArg (fun run : Bool × Nat => run.2 + b2n (!run.1)) hs.run

/-- Words that an L1 or L2 that trips may change. -/
abbrev crossedWords (c a : Nat) : Prop := tripWords c a ∨ a ∈ [A.GDI_IN c, A.GDI_CAP c 0, A.GDI_CAP c 1]

theorem sensed_crossed (a : Nat) (ha : a ∈ sensedWords c.val) : crossedWords c.val a := by
  simp only [sensedWords, List.mem_cons, List.not_mem_nil, or_false] at ha
  rcases ha with rfl | rfl | rfl | rfl | rfl <;> simp [crossedWords, tripWords]

/-- A source trips the channel after its crossing has been seen (08 R250, R251, R256). -/
theorem Sensed.trip (hs : Sensed c h s x) (code off : Nat) :
    (s.flag (F.GDI_STAT_TRIPPED c.val) = false → Latched c.val code 0 off s (settle s (x.trip c.val code 0 off))) ∧
      (s.flag (F.GDI_STAT_TRIPPED c.val) = true → Entered c.val code 0 off s (settle s (x.trip c.val code 0 off))) ∧
      Frame true [.chan c.val] (crossedWords c.val) s (settle s (x.trip c.val code 0 off)) := by
  obtain ⟨latched, entered⟩ := trip_recorded (code := code) (inp := 0) (off := off) hs.record hs.tripped
  exact ⟨latched, entered, ((hs.frame.mono (fun _ hp => hp) sensed_crossed).trip c.isLt (by simp) (fun _ => .inl) code 0 off).settle⟩

/-- A hold, and the trip that it causes where it is the last of CBC_N in a row (08 R253). -/
theorem Sensed.cbcHold_latches (hs : Sensed c h s x) (hh : h < 10) (hn : s.flag (F.GDI_STAT_TRIPPED c.val) = false) (off : Nat) :
    (s.get (F.GDI_SNS_CBC_N c.val h) ≠ 0 ∧ s.get (F.GDI_SNS_CBC_N c.val h) ≤ s.cbcNext c.val h →
      Latched c.val (0x10 + h) 0 off s (settle s (x.cbcHold c.val h off))) ∧
    (s.get (F.GDI_SNS_CBC_N c.val h) = 0 → (settle s (x.cbcHold c.val h off)).flag (F.GDI_STAT_TRIPPED c.val) = false ∧
      (settle s (x.cbcHold c.val h off)).cst c.val = s.cst c.val) := by
  have limit : x.get (F.GDI_SNS_CBC_N c.val h) = s.get (F.GDI_SNS_CBC_N c.val h) := State.get_congr (hs.sns hh)
  have record : ∀ a ∈ recordWords c.val, ((x.cbcShown c.val h).cbcMarked c.val h (s.cbcNext c.val h)).rd a = s.rd a :=
    fun a ha => (cbcMarked_record x h _ a ha).trans (hs.record a ha)
  have tripped : ((x.cbcShown c.val h).cbcMarked c.val h (s.cbcNext c.val h)).flag (F.GDI_STAT_TRIPPED c.val) =
      s.flag (F.GDI_STAT_TRIPPED c.val) := (State.modGate_flag ..).trans ((cbcShown_tripped x c h).trans hs.tripped)
  rw [cbcHold_trips x hh, limit, hs.cbcNext]
  refine ⟨fun ⟨set, last⟩ => ?_, fun none => ?_⟩
  · rw [bne_iff_ne.mpr set, decide_eq_true last, Bool.and_self, when_true]
    exact (trip_recorded record tripped).1 hn
  · rw [none, bne_self_eq_false, Bool.false_and, when_false, settle_flag]
    refine ⟨tripped.trans hn, State.get_congr (f := F.ROLE_STAT_CH_STATE c.val) ((settle_rd ..).trans (record _ ?_))⟩
    exact show A.ROLE_STAT c.val ∈ recordWords c.val by simp [recordWords]

/-- L1 as the mode of its half-bridge says (08 R251). -/
theorem Sensed.l1Act (hs : Sensed c h s x) (hh : h < 10) (off : Nat) : x.l1Act c.val h off =
    if s.get (F.GDI_SNS_L1_MODE c.val h) = 2 then x.trip c.val (0x10 + h) 0 off
    else if s.get (F.GDI_SNS_L1_MODE c.val h) = 1 then x.cbcHold c.val h off else x := by
  rw [State.l1Act, State.get_congr (f := F.GDI_SNS_L1_MODE c.val h) (hs.sns hh)]

/-- A hold is shown, counted and recorded, keeps both outputs low and counts for this period (08 R253). -/
theorem Sensed.cbcHold_shown (hs : Sensed c h s x) (hh : h < 10) (off : Nat) :
    (x.cbcHold c.val h off).bitOf (F.GDI_STAT_CBC_HOLD c.val) h = true ∧ Counted (F.GDI_CNT2_CBC_CNT c.val) s (x.cbcHold c.val h off) ∧
      (x.cbcHold c.val h off).flag (F.GDI_EVT_CBC c.val) = true ∧
      (s.isStatic c.val h = false → LowOutputs c.val h (x.cbcHold c.val h off)) ∧
      (x.cbcHold c.val h off).holdRun c.val h = (true, s.cbcNext c.val h) := by
  obtain ⟨hold, counted, event, run⟩ := Machine.cbcHold_shown c x hh off
  have count : s.rd (F.GDI_CNT2_CBC_CNT c.val).addr = x.rd (F.GDI_CNT2_CBC_CNT c.val).addr := (hs.rd (o := 0x6024) (by decide) (by decide)).symm
  rw [cbcNext_eq, hs.cbcNext] at run
  exact ⟨hold, counted_congr counted count rfl, event, fun static => cbcHold_low hh ((hs.isStatic h).trans static) off, run⟩

/-! ### A crossing, and the fall -/

theorem snsFld (c : Nat) (h : Nat) : A.GDI_SNS c h = chBase c + (0x6100 + 0x10 * h) := Nat.add_assoc ..

/-- L2 stands at 1 and the capture units have seen its rise (08 R250, R267). -/
def State.l2Risen (c h off : Nat) (s : State) : State := (s.modGate c h fun g => { g with l2 := true }).capture c h true false off

/-- L1 stands at 1, and the capture units and an armed trip input have seen its rise (08 R251, R260, R267). -/
def State.l1Risen (c h off : Nat) (s : State) : State :=
  ((s.modGate c h fun g => { g with l1 := true }).capture c h false false off).when (s.l1Arms c h) fun x => x.tripIn c (0x10 + h) true off

/-- A comparator's output stands at 0 and its trip input has ended (08 R249). -/
def State.fallen (c h : Nat) (l2 : Bool) (off : Nat) (s : State) : State :=
  (s.modGate c h fun g => if l2 then { g with l2 := false } else { g with l1 := false }).tripIn c (if l2 then h else 0x10 + h) false off

theorem capture_sns (s : State) (hh : h < 10) (l2 fall : Bool) (off : Nat) :
    (s.capture c.val h l2 fall off).rd (A.GDI_SNS c.val h) = s.rd (A.GDI_SNS c.val h) := by
  rw [snsFld]
  exact capture_rd s l2 fall off (.inl (by omega)) (by omega)

theorem l2Crossing_eq (s : State) (hh : h < 10) (off : Nat) : s.l2Crossing c.val h off =
    (s.l2Risen c.val h off).when (s.flag (F.GDI_SNS_L2_EN c.val h)) fun x => (x.tripIn c.val h true off).trip c.val h 0 off := by
  have enabled : (s.l2Risen c.val h off).flag (F.GDI_SNS_L2_EN c.val h) = s.flag (F.GDI_SNS_L2_EN c.val h) :=
    State.flag_congr ((State.get_congr (capture_sns _ hh ..)).trans (State.modGate_get ..))
  rw [← enabled]
  rfl

theorem l1Risen_gate (s : State) (hh : h < 10) (off : Nat) :
    (s.l1Risen c.val h off).gate c.val h = { s.gate c.val h with l1 := true } := by
  refine (State.when_unseen (fun x => x.gate c.val h) (fun x => tripIn_gate x ..) _ _).trans ?_
  rw [capture_gate, gate_modGate s c.isLt hh]

theorem l1Crossing_eq (s : State) (hh : h < 10) (off : Nat) : s.l1Crossing c.val h off =
    (s.l1Risen c.val h off).when (!(s.gate c.val h).blanked) (State.l1Act c.val h off) := by
  have arms : ((s.modGate c.val h fun g => { g with l1 := true }).capture c.val h false false off).l1Arms c.val h = s.l1Arms c.val h := by
    rw [State.l1Arms, State.get_congr (f := F.GDI_SNS_L1_MODE c.val h) (capture_sns _ hh ..), State.modGate_get, State.l1Arms]
  have blanked : ((s.l1Risen c.val h off).gate c.val h).blanked = (s.gate c.val h).blanked := by rw [l1Risen_gate s hh]
  rw [← blanked, State.l1Risen, ← arms]
  rfl

theorem Sensed.l2Risen (s : State) (off : Nat) : Sensed c h s (s.l2Risen c.val h off) := by
  have risen : Sensed c h s (s.modGate c.val h fun g => { g with l2 := true }) := (Sensed.refl c h s).marked fun _ => rfl
  exact risen.capture true false off

theorem Sensed.l1Risen (s : State) (off : Nat) : Sensed c h s (s.l1Risen c.val h off) := by
  have risen : Sensed c h s (s.modGate c.val h fun g => { g with l1 := true }) := (Sensed.refl c h s).marked fun _ => rfl
  exact (risen.capture false false off).when (fun _ hy => hy.tripIn (0x10 + h) true off) _

theorem Sensed.fallen (s : State) (l2 : Bool) (off : Nat) : Sensed c h s (s.fallen c.val h l2 off) :=
  ((Sensed.refl c h s).marked fun _ => by cases l2 <;> rfl).tripIn _ false off

theorem fallen_gate (s : State) (hh : h < 10) (l2 : Bool) (off : Nat) : (s.fallen c.val h l2 off).gate c.val h =
    if l2 then { s.gate c.val h with l2 := false } else { s.gate c.val h with l1 := false } := by
  rw [State.fallen, tripIn_gate, gate_modGate s c.isLt hh]

/-! ### What a capture unit has counted stays -/

/-- Unit `u` has counted a crossing and recorded it (08 R267). -/
abbrev CaptureSeen (c : Chan) (u : Fin 2) (s x : State) : Prop :=
  Counted (F.GDI_CAP_COUNT c.val u.val) s x ∧ x.flag (F.GDI_EVT_CAP c.val) = true

/-- `x` shows the captures as `s` does. -/
abbrev SameCapture (c : Chan) (u : Fin 2) (s x : State) : Prop :=
  x.rd (A.GDI_CAP c.val u.val) = s.rd (A.GDI_CAP c.val u.val) ∧ x.flag (F.GDI_EVT_CAP c.val) = s.flag (F.GDI_EVT_CAP c.val)

section
variable {u : Fin 2} {y : State}

theorem CaptureSeen.of_same (hx : CaptureSeen c u s x) (same : SameCapture c u x y) : CaptureSeen c u s y :=
  ⟨counted_congr hx.1 rfl same.1, same.2.trans hx.2⟩

theorem SameCapture.trans {z : State} (hx : SameCapture c u x y) (hy : SameCapture c u y z) : SameCapture c u x z :=
  ⟨hy.1.trans hx.1, hy.2.trans hx.2⟩

theorem SameCapture.when {f : State → State} (hf : ∀ y, SameCapture c u y (f y)) (x : State) (b : Bool) : SameCapture c u x (x.when b f) := by
  cases b
  · exact ⟨rfl, rfl⟩
  · exact hf x

theorem sameCapture_tripIn (x : State) (code : Nat) (act : Bool) (off : Nat) : SameCapture c u x (x.tripIn c.val code act off) := by
  refine ⟨tripIn_rd_other x _ code act off ?_ ?_, State.flag_congr (State.get_congr (tripIn_rd_other x _ code act off ?_ ?_))⟩
  · simp only [A.GDI_CAP, A.GDI_IN]; omega
  · simp only [A.GDI_CAP, A.GDI_STAT]; omega
  · exact chan_words_ne c.val (by decide)
  · exact chan_words_ne c.val (by decide)

theorem sameCapture_trip (x : State) (code off : Nat) : SameCapture c u x (x.trip c.val code 0 off) :=
  ⟨trip_capture x u code 0 off, trip_capEvent x code 0 off⟩

theorem sameCapture_cbcHold (x : State) (hh : h < 10) (off : Nat) : SameCapture c u x (x.cbcHold c.val h off) := by
  refine ⟨?_, ?_⟩
  · refine (cbcHold_unseen c (fun y => y.rd (A.GDI_CAP c.val u.val)) x hh off fun y _ => trip_capture y u ..).trans ((State.modGate_rd ..).trans ?_)
    rw [A.GDI_CAP, Nat.add_assoc]
    exact cbcShown_rd x c h (.inr (by omega))
  · have beside : (F.GDI_EVT_CBC c.val).beside (F.GDI_EVT_CAP c.val) = true := by revert c; decide
    refine (cbcHold_unseen c (fun y => y.flag (F.GDI_EVT_CAP c.val)) x hh off fun y _ => trip_capEvent y ..).trans ((State.modGate_flag ..).trans ?_)
    rw [State.cbcShown, gateUpdate_flag, flag_raise_beside (cbc_event c) [] _ beside]
    exact State.flag_congr (State.get_congr (f := F.GDI_EVT_CAP c.val)
      ((State.rd_put_ne _ (chan_words_ne c.val (by decide)) _).trans (State.rd_put_ne x (chan_words_ne c.val (by decide)) _)))

theorem sameCapture_l1Act (x : State) (hh : h < 10) (off : Nat) : SameCapture c u x (x.l1Act c.val h off) := by
  rw [(Sensed.refl c h x).l1Act hh]
  split
  · exact sameCapture_trip ..
  · split
    · exact sameCapture_cbcHold x hh off
    · exact ⟨rfl, rfl⟩

end

end Sys2Proof.Machine
end

section
/-! SUPPORT. The comparator rows (O23; 08 R249–R260, R267). -/

namespace Sys2Proof.Machine

variable {s x : State} {c : Chan} {h : HbIx} {off : Nat}

/-! ### The bits of the trip inputs -/

/-- The sources of the comparators are trip inputs of every channel (08 R255). -/
theorem comparator_inputs (c : Chan) (h : HbIx) : ∀ code ∈ [h.val, 0x10 + h.val],
    bit (implMask (A.GDI_IN c.val)) (srcBit code) = true ∧ srcBit code < 32 := by revert c h; decide

theorem l2_srcBit (h : HbIx) : srcBit h.val = h.val := if_pos (by omega)

theorem comparator_code (h : HbIx) (l2 : Bool) : (if l2 then h.val else 0x10 + h.val) ∈ [h.val, 0x10 + h.val] := by cases l2 <;> simp

/-- A trip input that ends begins its qualification time (08 R249, R260). -/
theorem tripIn_clearAt (s : State) {code : Nat} (hi : srcBit code < 32) (on : s.bitOf ⟨A.GDI_IN c.val, 31, 0⟩ (srcBit code) = true) (off : Nat) :
    ((s.tripIn c.val code false off).chn c.val).inClearAt = s.clk off := by
  rw [bitOf_word _ _ hi] at on
  unfold State.tripIn
  dsimp only
  rw [on, Bool.not_false, Bool.and_true, if_pos rfl, State.chn_modCh_same _ c.isLt]
  rfl

/-! ### L2 -/

theorem completes_l2Crossing (hr : s.t.held = false) (he : s.flag (F.GDI_SNS_L2_EN c.val h.val) = true) :
    completes (.l2Crossing c h off) s fun t =>
      t.bitOf ⟨A.GDI_IN c.val, 31, 0⟩ h.val = true ∧ (t.gate c.val h.val).l2 = true ∧
      (s.flag (F.GDI_STAT_TRIPPED c.val) = false → Latched c.val h.val 0 off s t) ∧
      (s.flag (F.GDI_STAT_TRIPPED c.val) = true → Entered c.val h.val 0 off s t) ∧
      Frame true [.chan c.val] (crossedWords c.val) s t := by
  obtain ⟨implemented, low⟩ := comparator_inputs c h h.val (by simp)
  have seen := (Sensed.l2Risen (c := c) (h := h.val) s off).tripIn h.val true off
  refine completes_live rfl hr ?_
  rw [l2Crossing_eq s h.isLt, he, when_true]
  refine ⟨(settle_bitOf ..).trans ?active, ?risen, seen.trip h.val off⟩
  case active =>
    have active := tripIn_active (s.l2Risen c.val h.val off) c.val implemented low off
    rw [l2_srcBit] at active
    exact (State.bitOf_congr (State.get_congr (f := ⟨A.GDI_IN c.val, 31, 0⟩) (trip_rd c.isLt _ (.inl rfl) h.val 0 off)) _).trans active
  case risen =>
    refine (trip_unseen (moveUnseen_l2 h.val) (fun _ _ => rfl) _).trans ?_
    refine (congrArg GateSt.l2 (tripIn_gate (s.l2Risen c.val h.val off) c.val h.val true off c.val h.val)).trans ?_
    rw [State.l2Risen, capture_gate, gate_modGate s c.isLt h.isLt]

/-! ### L1 -/

/-- An L1 that is unblanked, by its crossing or by the end of its blanking, acts (08 R251, R252). -/
theorem l1_acts {i : Instr} (hi : i ∈ [Instr.l1Crossing c h off, .l1BlankingEnd c h off])
    (unblanked : i = .l1Crossing c h off → (s.gate c.val h.val).blanked = false)
    (stands : i = .l1BlankingEnd c h off → (s.gate c.val h.val).blanked = true ∧ (s.gate c.val h.val).l1 = true) :
    ∃ f x, exec i s = State.live f s ∧ f s = x.l1Act c.val h.val off ∧ Sensed c h.val s x := by
  simp only [List.mem_cons, List.not_mem_nil, or_false] at hi
  rcases hi with rfl | rfl
  · refine ⟨_, _, rfl, ?_, Sensed.l1Risen s off⟩
    rw [l1Crossing_eq s h.isLt, unblanked rfl, Bool.not_false, when_true]
  · obtain ⟨blanked, high⟩ := stands rfl
    have seen : Sensed c h.val s (s.modGate c.val h.val fun g => { g with blanked := false }) := (Sensed.refl c h.val s).marked fun _ => rfl
    refine ⟨_, _, rfl, ?_, seen⟩
    rw [State.l1BlankingEnd, if_pos blanked]
    dsimp only
    rw [gate_modGate s c.isLt h.isLt, high, when_true]

theorem completes_l1_blanked (hr : s.t.held = false) (hb : (s.gate c.val h.val).blanked = true) :
    completes (.l1Crossing c h off) s fun t => (t.gate c.val h.val).l1 = true ∧
      Frame true [.chan c.val] (· ∈ sensedWords c.val) s t ∧
      t.flag (F.GDI_STAT_TRIPPED c.val) = s.flag (F.GDI_STAT_TRIPPED c.val) := by
  have seen := Sensed.l1Risen (c := c) (h := h.val) s off
  refine completes_live rfl hr ?_
  rw [l1Crossing_eq s h.isLt, hb, Bool.not_true, when_false, settle_gate, settle_flag, l1Risen_gate s h.isLt]
  exact ⟨rfl, seen.frame.settle, seen.tripped⟩

/-! ### The fall -/

theorem comparatorFall_eq (s : State) (c h : Nat) (l2 : Bool) (off : Nat) :
    s.comparatorFall c h l2 off = (s.fallen c h l2 off).capture c h l2 true off := rfl

theorem completes_comparatorFall (hr : s.t.held = false) (l2 : Bool) : completes (.comparatorOutputFall c h l2 off) s fun t =>
    t.bitOf ⟨A.GDI_IN c.val, 31, 0⟩ (srcBit (if l2 then h.val else 0x10 + h.val)) = false ∧
    (s.bitOf ⟨A.GDI_IN c.val, 31, 0⟩ (srcBit (if l2 then h.val else 0x10 + h.val)) = true → (t.chn c.val).inClearAt = s.clk off) ∧
    (if l2 then (t.gate c.val h.val).l2 else (t.gate c.val h.val).l1) = false ∧
    Frame true [.chan c.val] (· ∈ sensedWords c.val) s t := by
  obtain ⟨-, low⟩ := comparator_inputs c h _ (comparator_code h l2)
  refine completes_live rfl hr ?_
  rw [comparatorFall_eq]
  refine ⟨(settle_bitOf ..).trans ?ended, fun on => ?clear, ?fell, ((Sensed.fallen s l2 off).capture l2 true off).frame.settle⟩
  case ended =>
    exact (State.bitOf_congr (State.get_congr (f := ⟨A.GDI_IN c.val, 31, 0⟩)
      (capture_rd _ l2 true off (o := 0x6014) (.inl (by decide)) (by decide))) _).trans (tripIn_ended _ _ low off)
  case clear =>
    rw [settle_chn, capture_chn, State.fallen]
    exact tripIn_clearAt (s.modGate c.val h.val _) low on off
  case fell =>
    rw [settle_gate, capture_gate, fallen_gate s h.isLt]
    cases l2 <;> rfl

/-! ### The captures -/

section
variable {u : Fin 2}

/-- A unit selects a crossing by its half-bridge, its level and its edge (08 R267). -/
theorem captureHits_of {l2 fall : Bool} (en : s.flag (F.GDI_CAPCFG_EN c.val u.val) = true)
    (hb : s.get (F.GDI_CAPCFG_HB c.val u.val) = h.val) (lvl : s.flag (F.GDI_CAPCFG_LVL c.val u.val) = l2)
    (edge : s.flag (F.GDI_CAPCFG_EDGE c.val u.val) = fall) : s.captureHits c.val h.val l2 fall u.val = true := by
  simp [State.captureHits, en, hb, lvl, edge]

theorem captureSeen_risen {f : GateSt → GateSt} {l2 : Bool} (hit : s.captureHits c.val h.val l2 false u.val = true) :
    CaptureSeen c u s ((s.modGate c.val h.val f).capture c.val h.val l2 false off) :=
  capture_counts (s.modGate c.val h.val f) off u hit

theorem completes_l2Crossing_capture (hr : s.t.held = false) (hit : s.captureHits c.val h.val true false u.val = true) :
    completes (.l2Crossing c h off) s (CaptureSeen c u s) := by
  refine completes_live rfl hr ?_
  rw [l2Crossing_eq s h.isLt]
  have same := SameCapture.when (c := c) (u := u) (f := fun x => (x.tripIn c.val h.val true off).trip c.val h.val 0 off)
    (fun y => (sameCapture_tripIn y h.val true off).trans (sameCapture_trip _ h.val off)) (s.l2Risen c.val h.val off)
    (s.flag (F.GDI_SNS_L2_EN c.val h.val))
  exact ((captureSeen_risen hit).of_same same).of_same ⟨settle_rd .., settle_flag ..⟩

theorem completes_l1Crossing_capture (hr : s.t.held = false) (hit : s.captureHits c.val h.val false false u.val = true) :
    completes (.l1Crossing c h off) s (CaptureSeen c u s) := by
  refine completes_live rfl hr ?_
  rw [l1Crossing_eq s h.isLt]
  have armed := SameCapture.when (c := c) (u := u) (f := fun x => x.tripIn c.val (0x10 + h.val) true off)
    (fun y => sameCapture_tripIn y (0x10 + h.val) true off)
    ((s.modGate c.val h.val fun g => { g with l1 := true }).capture c.val h.val false false off) (s.l1Arms c.val h.val)
  have acted := SameCapture.when (c := c) (u := u) (f := State.l1Act c.val h.val off)
    (fun y => sameCapture_l1Act y h.isLt off) (s.l1Risen c.val h.val off) (!(s.gate c.val h.val).blanked)
  exact ((captureSeen_risen hit).of_same (armed.trans acted)).of_same ⟨settle_rd .., settle_flag ..⟩

theorem fallen_hits (s : State) (l2 : Bool) : (s.fallen c.val h.val l2 off).captureHits c.val h.val l2 true u.val =
    s.captureHits c.val h.val l2 true u.val := by
  have word : (s.fallen c.val h.val l2 off).rd (A.GDI_CAPCFG c.val u.val) = s.rd (A.GDI_CAPCFG c.val u.val) := by
    refine (tripIn_rd_other _ c.val _ false off ?_ ?_).trans (State.modGate_rd ..)
    · simp only [A.GDI_CAPCFG, A.GDI_IN]; omega
    · simp only [A.GDI_CAPCFG, A.GDI_STAT]; omega
  simp only [State.captureHits, State.flag, State.get_congr (f := F.GDI_CAPCFG_EN c.val u.val) word,
    State.get_congr (f := F.GDI_CAPCFG_HB c.val u.val) word, State.get_congr (f := F.GDI_CAPCFG_LVL c.val u.val) word,
    State.get_congr (f := F.GDI_CAPCFG_EDGE c.val u.val) word]

theorem completes_comparatorFall_capture (hr : s.t.held = false) {l2 : Bool} (hit : s.captureHits c.val h.val l2 true u.val = true) :
    completes (.comparatorOutputFall c h l2 off) s (CaptureSeen c u s) := by
  refine completes_live rfl hr ?_
  rw [comparatorFall_eq]
  obtain ⟨counted, event⟩ := capture_counts (s.fallen c.val h.val l2 off) off u ((fallen_hits s l2).trans hit)
  have before : (s.fallen c.val h.val l2 off).rd (A.GDI_CAP c.val u.val) = s.rd (A.GDI_CAP c.val u.val) :=
    (sameCapture_tripIn _ _ false off).1.trans (State.modGate_rd ..)
  exact ⟨counted_congr counted before.symm (settle_rd ..), (settle_flag ..).trans event⟩

end

/-- Settles O23: each crossing is seen first, and what its protection then does is read from the state before it. -/
theorem comparatorsTripHoldAndCapture : Obligations.ComparatorsTripHoldAndCapture := by
  intro s c h off hr
  refine ⟨completes_l2Crossing hr, fun i hi unblanked stands => ?l1, completes_l1_blanked hr, completes_comparatorFall hr, fun u en hb =>
    ⟨fun lvl edge => completes_l2Crossing_capture hr (captureHits_of en hb lvl edge),
      fun lvl edge => completes_l1Crossing_capture hr (captureHits_of en hb lvl edge),
      fun edge => completes_comparatorFall_capture hr (captureHits_of en hb rfl edge)⟩⟩
  case l1 =>
    obtain ⟨f, x, runs, acts, seen⟩ := l1_acts hi unblanked stands
    rw [seen.l1Act h.isLt] at acts
    refine ⟨fun mode => completes_live runs hr ?trips, fun mode => completes_live runs hr ?holds, fun mode => completes_live runs hr ?neither⟩
    all_goals rw [acts, mode]
    case trips => exact seen.trip (0x10 + h.val) off
    case holds =>
      obtain ⟨hold, counted, event, low, run⟩ := seen.cbcHold_shown h.isLt off
      obtain ⟨now, count⟩ := Prod.mk.inj run
      exact ⟨(settle_bitOf ..).trans hold, counted_congr counted rfl (settle_rd ..), (settle_flag ..).trans event, low, now, count,
        fun untripped => seen.cbcHold_latches h.isLt untripped off⟩
    case neither => exact ⟨seen.frame.settle, (settle_flag ..).trans seen.tripped⟩

end Sys2Proof.Machine
end
